-- ==== Sys2Proof/Word.lean ====
section
/-!
DEFINITION. The widths the manual names, and their plainest arithmetic.

The manual numbers bits from 0, least significant first, and lays every multi-byte field out little-endian (R4).
A quantity that software reads as a word stays a bit vector; counts, indices and addresses under computation are `Nat`.
-/

namespace Sys2Proof

/-- One byte. -/
abbrev Byte := BitVec 8

/-- A 16-bit field. -/
abbrev Half := BitVec 16

/-- A 32-bit register, result word or counter (counters wrap at 2^32, R580). -/
abbrev Word := BitVec 32

/-- A 64-bit counter or address. -/
abbrev DWord := BitVec 64

/-- A byte from a number, by its low eight bits. -/
abbrev byte (n : Nat) : Byte := BitVec.ofNat 8 n

/-- A 32-bit word from a number, by its low 32 bits. -/
abbrev word (n : Nat) : Word := BitVec.ofNat 32 n

/-- The low 32 bits of a 64-bit value. -/
def DWord.lo (d : DWord) : Word := d.truncate 32

/-- The high 32 bits of a 64-bit value. -/
def DWord.hi (d : DWord) : Word := (d >>> 32).truncate 32

end Sys2Proof
end

