-- ==== Sys2Proof/Syntax.lean ====
section
/-!
DEFINITION. The commands that the block takes from outside, and the operands they carry.

The manual's table of operations and events lists 230 steps. Each is a constructor of `Instr`. The 94 packet opcodes
carry a whole packet (R51); the others carry what the host, the board or the machine's own units supply at that step.
An operand that the manual leaves to the environment (a sensor reading, the outcome of a training, a measured value)
stands here and is never computed by the model.
-/

namespace Sys2Proof

/-- A PCIe function: the PF or one of VF 1 to 8 (`vf 0` is VF 1). -/
inductive Func where
  | pf
  | vf (n : Fin 8)
  deriving DecidableEq, Repr

/-- The kinds of ring that a function owns (R41, R74). -/
inductive RingKind where
  | submission | completion | event
  deriving DecidableEq, Repr

/-- Where a packet comes from: a submission ring of a function, or ring 0x80. -/
inductive Src where
  | ring (f : Func) (n : Fin 16)
  | smbus
  deriving DecidableEq, Repr

/-- A packet but for its opcode, which the constructor or the fetch gives: the header of R51 and the bytes behind it. -/
structure Packet where
  /-- The ring that carries the packet. -/
  src : Src
  /-- Length in 32-bit words, offset 2. -/
  length : Half
  /-- Tag, offset 4. -/
  tag : Half
  /-- Flags, offset 6. -/
  flags : Byte
  /-- Reserved byte, offset 7. -/
  resv7 : Byte
  /-- Wait-fence index, offset 8. -/
  waitFence : Byte
  /-- Signal-fence index, offset 9. -/
  signalFence : Byte
  /-- Reserved bytes, offset 10. -/
  resv10 : Half
  /-- Wait value, offset 12. -/
  waitValue : Word
  /-- The bytes from offset 16. -/
  body : List Byte
  deriving DecidableEq, Repr

/-- A network port: A is port 0 and B is port 1. -/
inductive Port where
  | a | b
  deriving DecidableEq, Repr

/-- A UDP datagram delivered to the device (R128 to R131). -/
structure Datagram where
  /-- IPv4 source address. -/
  srcIp : Nat
  /-- IPv4 destination address. -/
  dstIp : Nat
  /-- UDP destination port. -/
  dstPort : Nat
  /-- The UDP checksum is correct. -/
  checksumOk : Bool
  /-- The IPv4 packet is a fragment. -/
  fragmented : Bool
  /-- The UDP payload. -/
  payload : List Byte
  deriving DecidableEq, Repr

/-- An Ethernet frame as a port receives it. -/
structure EthFrame where
  /-- The frame from its destination address, without the FCS. -/
  bytes : List Byte
  /-- The FCS is correct. -/
  fcsOk : Bool
  /-- Interval from the ingress to the egress time-stamp on the raw cycle count, 2^-16 ns, if the frame leaves now; the cycles
  that it waits in the device are added to it (R451). -/
  raw : Nat
  deriving DecidableEq, Repr

/-- A Sync as the servo takes it; a two-step Sync carries the time of its Follow_Up (R454). -/
structure PtpSync where
  /-- The port that received it. -/
  port : Port
  /-- domainNumber. -/
  domain : Nat
  /-- Transport: 0 Ethernet, 1 UDP/IPv4 (R450). -/
  transport : Nat
  /-- Port identity of the sender. -/
  sender : Nat
  /-- Origin time, 2^-16 ns. -/
  origin : Nat
  /-- correctionField, 2^-16 ns. -/
  correction : Int
  /-- logMessageInterval. -/
  logInterval : Int
  deriving DecidableEq, Repr

/-- An Announce as the best master clock algorithm takes it (R454). -/
structure PtpAnnounce where
  /-- The port that received it. -/
  port : Port
  /-- domainNumber. -/
  domain : Nat
  /-- Transport: 0 Ethernet, 1 UDP/IPv4 (R450). -/
  transport : Nat
  /-- Port identity of the sender. -/
  sender : Nat
  /-- grandmasterPriority1. -/
  priority1 : Nat
  /-- clockClass of the grandmaster. -/
  clockClass : Nat
  /-- clockAccuracy of the grandmaster. -/
  accuracy : Nat
  /-- offsetScaledLogVariance of the grandmaster. -/
  variance : Nat
  /-- grandmasterPriority2. -/
  priority2 : Nat
  /-- Identity of the grandmaster. -/
  grandmaster : Nat
  /-- stepsRemoved. -/
  steps : Nat
  /-- currentUtcOffset, s. -/
  utcOffset : Int
  /-- currentUtcOffsetValid. -/
  utcValid : Bool
  deriving DecidableEq, Repr

/-- A Delay_Resp as the servo takes it (R454). -/
structure PtpDelayResp where
  /-- The port that received it. -/
  port : Port
  /-- domainNumber. -/
  domain : Nat
  /-- Transport: 0 Ethernet, 1 UDP/IPv4 (R450). -/
  transport : Nat
  /-- Port identity of the sender. -/
  sender : Nat
  /-- sequenceId. -/
  seq : Nat
  /-- receiveTimestamp, 2^-16 ns. -/
  received : Nat
  /-- correctionField, 2^-16 ns. -/
  correction : Int
  /-- logMessageInterval. -/
  logInterval : Int
  deriving DecidableEq, Repr

/-- What one temperature sensor gives in a sample cycle (R528 to R532). -/
inductive SensorSample where
  /-- A reading in units of 1/16 degree C. -/
  | reading (sixteenths : Int)
  /-- No device answers at the sensor's input. -/
  | absent
  deriving DecidableEq, Repr

/-- What a calibration run measures (R548 to R551). -/
structure CalMeasure where
  /-- The new trims of the item, in the chain's own units. -/
  trims : List Int := []
  /-- Every measurement lies inside the range of its chain (R551). -/
  inRange : Bool := true
  /-- How far the new trims move the readings of TS0 to TS39, 1/16 degree C. -/
  sensorMoves : List Int := []
  /-- How far they move AVDD, NAVDD, VGH and VGL, uV. -/
  railMoves : List Int := []
  /-- How far they move VCOM, uV. -/
  vcomMove : Int := 0
  /-- VREF_CAL as measured against the internal bandgap, uV (R550). -/
  vrefUv : Nat := 0
  /-- XIN offset measured against its reference, ppb (R550). -/
  xinPpb : Int := 0
  deriving DecidableEq, Repr

/-- The straps (R589). -/
structure Straps where
  /-- STRAP_BOOT1:STRAP_BOOT0. -/
  boot : BitVec 2 := 0
  /-- STRAP_NVMSCAN. -/
  nvmScan : Bool := false
  deriving DecidableEq, Repr

/-- What GDDR6 training finds on the board (R465, R467, R468). -/
structure MemTraining where
  /-- Fitted capacity is 16 GiB rather than 8 GiB. -/
  gib16 : Bool
  /-- Clamshell devices. -/
  clamshell : Bool
  /-- The rate trained, Gb/s per pin, 0 when no rate was reached. -/
  rate : Nat
  /-- Channels that failed training at 12 Gb/s, bit n for channel n. -/
  failed : BitVec 8
  deriving DecidableEq, Repr

/-- Who owns a poisoned word that a device client reads (R571). -/
inductive PoisonOwner where
  /-- ECC region 0: a journal entry or the firmware image. -/
  | region0
  /-- A record of the chain buffer. -/
  | chainRecord
  /-- Data that a started and uncommitted packet reads; its ticket. -/
  | packet (ticket : Nat)
  /-- Data of entry `entry` of the running blit list. -/
  | blitEntry (list entry : Nat)
  /-- Data read by a committed ENC_FRAME, scan-out, synthesis or decode. -/
  | stream
  deriving DecidableEq, Repr


/-- The 94 opcodes of R58, in the order of its table. -/
inductive Op where
  | devNop
  | devInfo
  | devAbort
  | devSetLevel
  | devFenceRead
  | devVfGrant
  | devStatus
  | devDusk
  | devFenceSet
  | strmOpen
  | strmSubmit
  | strmCut
  | strmClose
  | strmStatus
  | strmTimeouts
  | strmFilter
  | decPoolSize
  | decStatus
  | decAssign
  | decColour
  | rayModelLoad
  | rayModelStore
  | rayStatus
  | rayRelease
  | raySetRung
  | raySetDepthCurve
  | rayCoreMask
  | cmpLayerSet
  | cmpFlip
  | cmpLayerOff
  | cmpScalerCoef
  | dspTimingSet
  | dspLock
  | dspStill
  | dspStatus
  | dspProfileStore
  | dspProfileRead
  | dspOffset
  | dspHoldover
  | pnlPowerOn
  | pnlPowerOff
  | pnlLinkTrain
  | pnlGammaLoad
  | pnlStatus
  | pnlRailSet
  | pnlVcomSet
  | pnlGateTiming
  | witConfig
  | witStart
  | witStop
  | witExport
  | encOpen
  | encFrame
  | encClose
  | encRate
  | encSearch
  | bltSurfaceSet
  | bltRun
  | timeRead
  | timePortConfig
  | timePtpConfig
  | timeEvtConfig
  | timeSetEt
  | timeRelease
  | timeIncrement
  | timeStep
  | memStatus
  | memEccRegion
  | memRelease
  | memRegulator
  | memClass
  | memRetrain
  | nvmRecordRead
  | nvmRecordStore
  | nvmRawRead
  | nvmRawWrite
  | nvmStatus
  | nvmRelease
  | nvmRefreshPolicy
  | thmRead
  | thmCalRun
  | thmRelease
  | thmLimits
  | thmThresholds
  | thmCalPolicy
  | evtLogRead
  | evtCounters
  | evtMask
  | evtInject
  | fwVersion
  | fwUpdate
  | fwCertRead
  | fwAttest
  | fwDebugUnlock
  deriving DecidableEq, Repr

/-- The block's commands: one constructor per row of the table of operations and events, in its order. The first 94
carry a packet of that opcode as it reaches the front of the device's intake; the others are host register accesses,
bus transactions and the events of the manual's machines. -/
inductive Instr where
  /-- R84. No-operation packet that fills ring slots and completes with OK without effect. -/
  | devNop (p : Packet)
  /-- R85. Returns the capability and limit words chosen by a selector. -/
  | devInfo (p : Packet)
  /-- R71. Aborts the oldest uncompleted packet with a given ring and tag if it has not yet committed. -/
  | devAbort (p : Packet)
  /-- R60. Enables or disables the expert level for a mask of classes on one ring. -/
  | devSetLevel (p : Packet)
  /-- R86. Returns the 64-bit value of one fence counter. -/
  | devFenceRead (p : Packet)
  /-- R89. Replaces the resource grant of one virtual function. -/
  | devVfGrant (p : Packet)
  /-- R87. Returns the device status word and DFN, and optionally writes a 256-byte status snapshot. -/
  | devStatus (p : Packet)
  /-- R611. Starts Dusk entry with a wake mask: work is quiesced and the device goes to sleep. -/
  | devDusk (p : Packet)
  /-- R86. Expert packet that writes a fence counter while no packet waits on that fence. -/
  | devFenceSet (p : Packet)
  /-- R141. Opens the lowest-numbered closed stream context on PCIe, port A or port B. -/
  | strmOpen (p : Packet)
  /-- R124. Hands a buffer of Talvy units to a PCIe stream context. -/
  | strmSubmit (p : Packet)
  /-- R137. Requests that a context become on air at its next eligible clean scene picture. -/
  | strmCut (p : Packet)
  /-- R142. Closes a stream context and releases its access units, packets and slots. -/
  | strmClose (p : Packet)
  /-- R145. Returns the state word or counters of a stream context. -/
  | strmStatus (p : Packet)
  /-- R143. Expert packet that sets the fragment-gap and stall timeouts of a context. -/
  | strmTimeouts (p : Packet)
  /-- R144. Expert packet that replaces the UDP port, source filter and multicast group of a network context. -/
  | strmFilter (p : Packet)
  /-- R159. Sets the number and size of picture-pool slots while no context is open. -/
  | decPoolSize (p : Packet)
  /-- R179. Returns pool, slot and context decode words and counters. -/
  | decStatus (p : Packet)
  /-- R157. Expert packet that fixes the division mode and permitted codec cores for components of a context. -/
  | decAssign (p : Packet)
  /-- R170. Expert packet that overrides the YCbCr matrix and range of a context. -/
  | decColour (p : Packet)
  /-- R199. Copies and checks a ray-model blob from memory or NVM for activation at a synthesis window. -/
  | rayModelLoad (p : Packet)
  /-- R207. Writes the active ray-model blob to the NVM copy that was not chosen. -/
  | rayModelStore (p : Packet)
  /-- R240. Returns per-frame ray-engine status and counters. -/
  | rayStatus (p : Packet)
  /-- R231. Returns the quality manager and the depth-budget manager to the basic level. -/
  | rayRelease (p : Packet)
  /-- R231. Expert packet that fixes the rung from the next window opening. -/
  | raySetRung (p : Packet)
  /-- R234. Expert packet that fixes the 9-knot depth remap curve. -/
  | raySetDepthCurve (p : Packet)
  /-- R239. Expert packet that withholds ray cores from dispatch from the next window opening. -/
  | rayCoreMask (p : Packet)
  /-- R271. Checks layer attributes and makes them pending until the next frame-start event. -/
  | cmpLayerSet (p : Packet)
  /-- R272. Makes a new surface pending for a layer, superseding any earlier pending flip. -/
  | cmpFlip (p : Packet)
  /-- R275. Makes a pending change that disables a layer at the next frame-start event. -/
  | cmpLayerOff (p : Packet)
  /-- R286. Expert packet that loads a scaler coefficient set for a video layer, pending to the next frame start. -/
  | cmpScalerCoef (p : Packet)
  /-- R294. Sets the display timing and panel profile parameters, which apply after the refresh in progress. -/
  | dspTimingSet (p : Packet)
  /-- R303. Selects the lock source FREE, EXTERNAL or SCHEDULED and starts its acquisition. -/
  | dspLock (p : Packet)
  /-- R317. Enables or disables Still mode and sets its lowest rate. -/
  | dspStill (p : Packet)
  /-- R324. Returns the lock word, DFN, PSN, time-stamps and scan-out counters. -/
  | dspStatus (p : Packet)
  /-- R301. Stores a panel-profile blob to the NVM copy that was not chosen. -/
  | dspProfileStore (p : Packet)
  /-- R302. Copies the chosen panel-profile blob to memory. -/
  | dspProfileRead (p : Packet)
  /-- R313. Expert packet that sets the raster alignment offset in pixel clocks. -/
  | dspOffset (p : Packet)
  /-- R310. Expert packet that sets the holdover duration. -/
  | dspHoldover (p : Packet)
  /-- R335. Starts the sequenced ramp of the panel rails. -/
  | pnlPowerOn (p : Packet)
  /-- R360. Starts or joins a panel discharge. -/
  | pnlPowerOff (p : Packet)
  /-- R345. Checks the source-link parameters and starts training of the source links. -/
  | pnlLinkTrain (p : Packet)
  /-- R351. Copies a column-driver register image and sends it to the drivers in configuration windows. -/
  | pnlGammaLoad (p : Packet)
  /-- R365. Returns rail, VCOM, link and discharge status. -/
  | pnlStatus (p : Packet)
  /-- R330. Expert packet that sets the panel rail voltages and the sequence delay. -/
  | pnlRailSet (p : Packet)
  /-- R332. Expert packet that sets the VCOM codes and flicker trims for each refresh rate. -/
  | pnlVcomSet (p : Packet)
  /-- R354. Expert packet that sets the gate clock phases and pulse timing. -/
  | pnlGateTiming (p : Packet)
  /-- R368. Sets the witness viewpoint, size, rate, profile and bitrate. -/
  | witConfig (p : Packet)
  /-- R371. Starts the witness and the evidence chain, writing RESUME or START records. -/
  | witStart (p : Packet)
  /-- R375. Stops witnessing after the pictures already taken have been coded and signed. -/
  | witStop (p : Packet)
  /-- R411. Sets the export target of evidence records and the signing interval. -/
  | witExport (p : Packet)
  /-- R377. Opens an encode session fed from memory or from the witness tap. -/
  | encOpen (p : Packet)
  /-- R378. Hands one source picture to a memory encode session. -/
  | encFrame (p : Packet)
  /-- R381. Closes an encode session after its committed pictures have been coded. -/
  | encClose (p : Packet)
  /-- R393. Expert packet that sets the rate-control parameters of a session. -/
  | encRate (p : Packet)
  /-- R387. Expert packet that sets the motion-search candidates and refinement of a session. -/
  | encSearch (p : Packet)
  /-- R419. Checks and writes one to three surface descriptors. -/
  | bltSurfaceSet (p : Packet)
  /-- R420. Reads and checks a blit command list, then runs it. -/
  | bltRun (p : Packet)
  /-- R444. Returns time bases latched together, captures, servo and port counters. -/
  | timeRead (p : Packet)
  /-- R446. Sets the mode, forwarding and IPv4 settings of a network port. -/
  | timePortConfig (p : Packet)
  /-- R450. Sets the transparent-clock mode, slave port, domain and transport. -/
  | timePtpConfig (p : Packet)
  /-- R459. Configures an EVT_IN capture pin or an EVT_OUT pulse pin. -/
  | timeEvtConfig (p : Packet)
  /-- R456. Sets evidence time to a value supplied by the host. -/
  | timeSetEt (p : Packet)
  /-- R457. Returns the PTP servo and the ET slew to the basic level. -/
  | timeRelease (p : Packet)
  /-- R441. Expert packet that writes the increment of one time base. -/
  | timeIncrement (p : Packet)
  /-- R442. Expert packet that steps NT, DT or ET by a signed amount. -/
  | timeStep (p : Packet)
  /-- R493. Returns memory configuration, channel, port and ECC counters. -/
  | memStatus (p : Packet)
  /-- R491. Defines or deletes an in-line ECC region. -/
  | memEccRegion (p : Packet)
  /-- R481. Returns the memory regulator policy to the basic level. -/
  | memRelease (p : Packet)
  /-- R479. Expert packet that sets the token-bucket rate and burst of one port. -/
  | memRegulator (p : Packet)
  /-- R480. Expert packet that sets port classes and class age limits. -/
  | memClass (p : Packet)
  /-- R484. Expert packet that sets the periodic retraining period. -/
  | memRetrain (p : Packet)
  /-- R507. Reads a record body inline or to memory. -/
  | nvmRecordRead (p : Packet)
  /-- R509. Stores or deletes a record in the slot of its frame that was not chosen. -/
  | nvmRecordStore (p : Packet)
  /-- R522. Reads a half-word or a whole page of the user raw area. -/
  | nvmRawRead (p : Packet)
  /-- R523. Programs words of a user raw page. -/
  | nvmRawWrite (p : Packet)
  /-- R525. Returns the NVM status word, scan state, refresh and wear counters. -/
  | nvmStatus (p : Packet)
  /-- R520. Returns the NVM refresh policy to the basic level. -/
  | nvmRelease (p : Packet)
  /-- R520. Expert packet that sets the margin-read pass, margin step and refresh flags. -/
  | nvmRefreshPolicy (p : Packet)
  /-- R554. Returns sensor, domain, limit, island and calibration readings. -/
  | thmRead (p : Packet)
  /-- R552. Makes the named calibration items fall due at once. -/
  | thmCalRun (p : Packet)
  /-- R544. Returns the power limits and the calibration schedule to the basic level. -/
  | thmRelease (p : Packet)
  /-- R544. Expert packet that sets the power limit and the per-quadrant clock caps. -/
  | thmLimits (p : Packet)
  /-- R536. Expert packet that sets the warning and throttle thresholds. -/
  | thmThresholds (p : Packet)
  /-- R553. Expert packet that sets ΔT_cal and the calibration items in use. -/
  | thmCalPolicy (p : Packet)
  /-- R579. Copies event log entries to memory. -/
  | evtLogRead (p : Packet)
  /-- R580. Returns fault, island, core, cluster and log counters. -/
  | evtCounters (p : Packet)
  /-- R581. Masks or unmasks an event code on the issuing function's event ring. -/
  | evtMask (p : Packet)
  /-- R582. Expert packet that injects a test fault of a given class into a unit. -/
  | evtInject (p : Packet)
  /-- R600. Returns the firmware version, the stepping and the boot source. -/
  | fwVersion (p : Packet)
  /-- R601. Checks a signed image and writes it to the QSPI slot that did not boot. -/
  | fwUpdate (p : Packet)
  /-- R413. Copies the device or issuing CA certificate to memory. -/
  | fwCertRead (p : Packet)
  /-- R414. Signs a host nonce together with the chain head using the identity key. -/
  | fwAttest (p : Packet)
  /-- R603. Expert packet that opens debug with a signed credential. -/
  | fwDebugUnlock (p : Packet)
  /-- R44. Host write of a submission ring's tail index; the write is checked and fetching begins. -/
  | submissionTailDoorbell (f : Func) (n : Fin 16) (value : Word)
  /-- R48. Host write of a completion ring's head; this frees entries and releases held completions. -/
  | completionHeadDoorbell (f : Func) (n : Fin 16) (value : Word)
  /-- R48. Host write of the event ring's head, freeing entries. -/
  | eventHeadDoorbell (f : Func) (value : Word)
  /-- R649. Setting ENABLE checks the ring registers and starts the ring at index 0. -/
  | ringEnable (f : Func) (k : RingKind) (n : Fin 16) (ctrl : Word)
  /-- R671. Clearing ENABLE stops fetching, and the classes of the ring return to disabled. -/
  | ringDisable (f : Func) (k : RingKind) (n : Fin 16) (ctrl : Word)
  /-- R64. A packet at the front of its ring starts once its fence conditions hold. -/
  | packetStart (src : Src)
  /-- R637. A BAR0 write to a register that has no behaviour of its own, including W1C bits. -/
  | registerWrite (f : Func) (offset size : Nat) (value : Word)
  /-- R641. Writing 1 to TRIP_CLR clears TRIP and TRIP_SENSOR. -/
  | tripClr (value : Word)
  /-- R644. Writes a new power-fail warning level, which the comparator then judges against. -/
  | pfCtrlLevelWrite (value : Word)
  /-- R645. Writing the image length in PCIE_BOOT_WAIT starts the check of a PCIe boot image. -/
  | bootLenWrite (value : Word)
  /-- R646. Writing WAKE_REQ counts as a doorbell write and wakes the device from Dusk. -/
  | wakeReq (value : Word)
  /-- R652. Write to the watchdog control register that enables it with a period and action. -/
  | watchdogControlWrite (value : Word)
  /-- R652. Writing the kick value restarts the watchdog count, and other values count as bad kicks. -/
  | kick (value : Word)
  /-- R651. A read of offset 0x0200 latches all four time bases in one cycle. -/
  | timeLatchRead
  /-- R655. Mailbox command that returns status, MT, heartbeat and unrecovered-fault data. -/
  | snapshot
  /-- R655. Mailbox command that forces a lockstep restart of the supervisor. -/
  | supRestart (key : Half)
  /-- R655. Mailbox command that makes the panel-power die discharge as at its lockout. -/
  | panelOff (key : Half)
  /-- R655. Mailbox command that acts as a RESET_N pulse, after which Dawn follows. -/
  | deviceReset (key : Half)
  /-- R470. Host read of device memory through BAR2, with the reserve reading 0. -/
  | bar2Read (f : Func) (addr len : Nat)
  /-- R470. Host write of device memory through BAR2, discarded for the reserve and region 0. -/
  | bar2Write (f : Func) (addr : Nat) (bytes : List Byte)
  /-- R91. SMBus block write of one packet to ring 0x80, checked for PEC and byte count. -/
  | smbPacketWrite (bytes : List Byte) (pecOk : Bool)
  /-- R90. SMBus block read of the oldest unread completion entry. -/
  | smbCompletionRead
  /-- R90. SMBus block read of the oldest unread event entry. -/
  | smbEventRead
  /-- R90. SMBus read byte of the waiting and outstanding flags. -/
  | smbStatusRead
  /-- R92. The SMBus alert response releases SMB_ALERT_N until the next arrival. -/
  | smbAlertResponse
  /-- R642. The supervisor increments HEARTBEAT every 1 ms of MT. -/
  | heartbeatTick
  /-- R653. The first watchdog stage expires: WDOG_WARN is set and the second stage starts. -/
  | watchdogWarn
  /-- R653. The second stage expires: WDOG_EXPIRED is set and ACTION applies. -/
  | watchdogExpiry
  /-- R131. A Talvy datagram is filtered, placed in reassembly, and complete access units are checked and handed on. -/
  | datagramReceived (port : Port) (d : Datagram)
  /-- R125. Once room allows, a submitted buffer is read and its units enter the context. -/
  | strmSubmitBufferRead (ctx : Fin 4)
  /-- R132. An incomplete access unit's fragment-gap timer expires: it is handed on as TRUNCATED or discarded. -/
  | fragmentGapExpiry (ctx : Fin 4) (au : Word)
  /-- R121. A RUNNING context's stall timer expires and the context becomes STALLED. -/
  | stallTimerExpiry (ctx : Fin 4)
  /-- R163. A context that is not on air waits too long for a slot or for decode and drops to SEEKING. -/
  | contextFallsBehind (ctx : Fin 4)
  /-- R155. An idle codec core takes the first ready part or coding row in priority order. -/
  | codecItemStart (core : Fin 12)
  /-- R164. A decode part ends, and its scene picture may become complete. -/
  | partComplete (core : Fin 12)
  /-- R305. An active SYNC_IN edge is judged against its window and places a frame-start event under EXTERNAL lock. -/
  | syncInEdge (sub : Nat)
  /-- R305. A predicted edge instant passes with no edge: the frame start is made there and the source may be lost. -/
  | missedEdge
  /-- R304. NT reaches a scheduled instant and a frame-start event occurs under SCHEDULED lock. -/
  | scheduledInstant
  /-- R304. The nominal or holdover period elapses and a frame-start event occurs. -/
  | freeRunPeriod
  /-- R308. The holdover duration ends without reacquisition and the device runs FREE. -/
  | holdoverExpiry
  /-- R303. The new lock source is not acquired within 2 s and the previous source is restored. -/
  | dspLockTimeout
  /-- R319. A Still-mode interval without a new woven frame steps the refresh rate down. -/
  | stillStepDown
  /-- R28. A synthesis window opens, takes a scene picture, fixes rung, curve and constants, and queues tiles. -/
  | synthesisWindowOpen
  /-- R200. The checks of a copied blob end, and it awaits activation or fails. -/
  | rayModelChecksDone
  /-- R223. A ray core with room takes the tile with the earliest deadline from its cluster queue. -/
  | tileDispatch (core : Fin 96)
  /-- R224. A cluster with no startable tile steals up to 8 tiles from the tail of another cluster. -/
  | tileSteal (cluster : Fin 4)
  /-- R226. A tile passes its end-of-tile check, its writes are accepted, and its context is freed. -/
  | tileCommit (core : Fin 96) (cycles : Nat)
  /-- R229. Every 1 ms the quality manager re-predicts completion and may select a rung for the next opening. -/
  | qualityRepredict
  /-- R211. A cache fill request waits more than 20 µs and takes the next free block. -/
  | viewCacheAgePromotion (cluster : Fin 4)
  /-- R217. A context request waits more than 50 µs and takes the next freed context. -/
  | tileContextAgePromotion (cluster : Fin 4)
  /-- R394. A coding row ends, and a finished slice is emitted to its ring or to the evidence chain. -/
  | encodeRowComplete (core : Fin 12)
  /-- R395. Every 100 µs a waiting session re-reads rd and writes its entry once it fits. -/
  | encRingPoll (session : Fin 4)
  /-- R404. Island 127 completes an ECDSA signature for a SIGN record or an attestation. -/
  | signatureComplete
  /-- R274. The replaced surface is no longer scanned or read by the witness, and the flip or layer-off completes. -/
  | flipSurfaceRelease (layer : Fin 8)
  /-- R412. A collector acknowledgement datagram acknowledges records up to a seq. -/
  | exportAckReceived (port : Port) (payload : List Byte)
  /-- R412. 200 ms pass without an advancing acknowledgement, and unacknowledged records are resent. -/
  | exportResendTimeout
  /-- R433. A blit entry starts once earlier overlapping entries have completed. -/
  | bltEntryStart (list entry : Nat)
  /-- R429. A blit entry ends its writes, and fence-signal entries or the list completion follow. -/
  | bltEntryComplete (list entry : Nat)
  /-- R341. A slot begins: a line, LINE_REPEAT, CONFIG or LATCH packet is sent and gate edges run. -/
  | scanoutLineSlot (wovenNs : Nat) (layerNs : List Nat)
  /-- R336. A rail of the power-on sequence starts after its delay or becomes good. -/
  | panelRailStep (good : Bool)
  /-- R337. A rail leaves its limits for its filter time, and a discharge with reason rail fault starts. -/
  | railFault (rail : Fin 5) (cause : Fin 5)
  /-- R346. A link-training step ends: the pattern ends, LINK_LOCK holds high, configuration is sent, or DRIVING is entered. -/
  | trainingStep (lockOk : Bool)
  /-- R346. LINK_LOCK is not high 10 ms after training begins, and the state returns to RAILS_UP. -/
  | trainingTimeout
  /-- R347. LINK_LOCK is low for more than 0.5 µs while DRIVING, and a fast retrain of every lane starts. -/
  | linkLockLoss
  /-- R347. A device-side lane fault starts a fast retrain of that lane. -/
  | laneDeviceFault (lane : Nat)
  /-- R347. A fast retrain ends, or after three failures a full training runs. -/
  | fastRetrainEnd (ok : Bool)
  /-- R358. At the first slot start after t_s, DISCHARGE is sent and GALL is driven high. -/
  | dischargeStart
  /-- R358. A timed stage of the discharge stops a converter, or the discharge ends. -/
  | dischargeStep
  /-- R361. 300 µs after a warning crossing the power-loss discharge starts, unless it is cancelled. -/
  | powerLossDischargeStart
  /-- R363. VIN_PNL falls below 7.0 V and the panel-power die stops and bleeds everything. -/
  | panelLockout
  /-- R363. VIN_PNL rises above 7.5 V and the die leaves lockout into OFF. -/
  | panelLockoutRelease
  /-- R482. A channel's periodic retraining pause falls due. -/
  | retrainPauseDue (ch : Fin 8)
  /-- R483. A deferred pause starts once no urgent request and no other retrain hold it. -/
  | retrainPauseStart (ch : Fin 8)
  /-- R482. A retraining pause ends and the channel serves again. -/
  | retrainPauseEnd (ch : Fin 8)
  /-- R485. A transfer fails the EDC link CRC and is retried. -/
  | linkCrcFail (ch : Fin 8) (write : Bool)
  /-- R487. An error retrain starts once no other channel retrains. -/
  | errorRetrainStart (ch : Fin 8)
  /-- R486. An error retrain ends and unconfirmed transfers are reissued, or the channel faults. -/
  | errorRetrainEnd (ch : Fin 8) (ok : Bool)
  /-- R475. A memory request exceeds its class age limit and is promoted. -/
  | requestAgeLimit (port : Fin 10)
  /-- R477. Every 100 ms the basic policy recomputes port rates. -/
  | regulatorRecompute (means : List Nat)
  /-- R489. The background scrubber reads and corrects ECC-region words. -/
  | eccScrubStep
  /-- R571. A device client reads an uncorrectable word and the owner handles the poison. -/
  | poisonedRead (owner : PoisonOwner)
  /-- R496. A page program and verify end, and the store unit continues or completes the operation. -/
  | nvmPageProgramDone (verifyOk : Bool)
  /-- R516. The next page of the margin-read pass is read, and a weak page is refreshed. -/
  | marginReadStep (weak : Bool) (corrected bad : Byte)
  /-- R514. The power-up full scan ends, and the records and blobs take effect. -/
  | nvmScanEnd
  /-- R528. Every 1 ms all sensors are sampled and judged, and domain states are updated. -/
  | sensorSampleCycle (readings : List SensorSample)
  /-- R545. 5 ms after t0 the work still running is stopped and the seal, saves, discharge and Dusk follow. -/
  | shutdownDeadline
  /-- R538. Island 0 samples the sensors for the comparators while the sequencer is held or in Dusk. -/
  | island0SensorSample (readings : List SensorSample)
  /-- R538. A comparator reads 120–150 °C: islands 1–127 are held, the panel discharges and TRIP is latched. -/
  | hardwareTrip (sensor : Fin 40)
  /-- R540. Each 10 ms of falling or 100 ms of rising moves P_lim by 1 W. -/
  | ladderStep
  /-- R541. Every 1 ms P_est is compared with P_lim, and one step is taken or undone. -/
  | powerLimitTick (pEst : Nat)
  /-- R549. A calibration item falls due by its 24-hour timer and starts its run. -/
  | calibrationDue (item : Fin 4)
  /-- R551. A calibration run ends and is applied, rejected or held. -/
  | calibrationRunEnd (m : CalMeasure)
  /-- R588. A ray-rail regulator fails to acknowledge or asserts AVS_ALERT_N, and its rail is capped. -/
  | avsRegulatorFault (south : Bool)
  /-- R564. The supervisor cores disagree, and the pair restarts from the journal. -/
  | lockstepMismatch (restartNs : Nat)
  /-- R237. A ray core fault is detected and its uncommitted tiles are re-issued. -/
  | rayCoreFault (core : Fin 96)
  /-- R568. A faulted core's self-test ends: the core returns to dispatch or is retired. -/
  | coreSelfTestEnd (core : Fin 96) (pass : Bool)
  /-- R569. A cluster fabric fault resets the fabric and re-queues its tiles, or retires the cluster. -/
  | fabricFault (cluster : Fin 4)
  /-- R567. A codec core fault ends its part or slice, which is redone on another core. -/
  | codecCoreFault (core : Fin 12)
  /-- R570. An island with pending work completes no transfer for 10 µs and is reset and restarted. -/
  | islandStall (island : Fin 128)
  /-- R567. A management-lane frame fails its CRC and is resent. -/
  | dieLinkCrcError
  /-- R448. A frame arrives at a port and is terminated, forwarded with correction, or delivered locally. -/
  | frameReceived (port : Port) (f : EthFrame)
  /-- R454. The servo computes the offset from a Sync and steps or slews NT. -/
  | ptpSyncReceived (m : PtpSync)
  /-- R454. Announce messages feed the best master clock algorithm. -/
  | ptpAnnounceReceived (m : PtpAnnounce)
  /-- R454. A Delay_Resp completes an E2E path measurement. -/
  | delayRespReceived (m : PtpDelayResp)
  /-- R454. The servo sends a Delay_Req at the interval the master states. -/
  | delayReqInterval
  /-- R450. In P2P mode each port sends Pdelay_Req every 2^log_pdelay s. -/
  | pdelayReqInterval (port : Port)
  /-- R454. No Sync for 3 s, an announce timeout, or a link down puts the servo in HOLDOVER. -/
  | ptpSyncTimeout (reason : Fin 3)
  /-- R464. A port PCS link goes up or down. -/
  | portLink (port : Port) (up : Bool)
  /-- R446. The PCS runs in the new mode and TIME_PORT_CONFIG reports OK. -/
  | portModeReady (port : Port)
  /-- R460. An EVT_IN edge captures a base or counts an overrun, and EVT_IN0 may wake the device. -/
  | evtInEdge (pin : Fin 4) (rising : Bool)
  /-- R461. The chosen base reaches a pulse instant and the pulse begins. -/
  | evtOutPulse (pin : Fin 4)
  /-- R461. The pulse width elapses and the pin returns to its inactive level. -/
  | evtOutPulseEnd (pin : Fin 4)
  /-- R663. REF10M appears or is absent for 10 µs, and the timing clock switches at the next frame start. -/
  | ref10mPresenceChange (present : Bool)
  /-- R439. VDD_AON rises: the time bases start at zero and the comparators arm. -/
  | vddAonRise
  /-- R590. RESET_N low holds islands 1–127 and discharges the panel at once. -/
  | resetNAssert
  /-- R593. Reset is released: straps are sampled and Dawn begins. -/
  | resetNRelease (straps : Straps)
  /-- R591. VSENSE below 0.900 V for 2 µs acts as a RESET_N assertion. -/
  | vsenseReset
  /-- R591. VSENSE rises above 0.920 V and Dawn begins 1 ms later. -/
  | vsenseResetRelease (straps : Straps)
  /-- R468. GDDR6 training ends at a rate, falls back, or stops Dawn. -/
  | memoryTrainingDone (m : MemTraining)
  /-- R597. A firmware image body is read and verified, and it starts or the other slot is tried. -/
  | imageCheckDone
  /-- R593. Dawn reaches command-ready and packet fetching begins. -/
  | commandReady
  /-- R605. VSENSE crosses the warning level and the power-loss sequence starts. -/
  | warningCrossing (vsenseMv : Nat)
  /-- R406. After committed stores end, the cut slice, the SIGN and the chain head are written and records saved. -/
  | powerLossSeal
  /-- R608. VSENSE stays above warning plus hysteresis for 100 µs after the sequence, and the device resumes. -/
  | brownout
  /-- R592. PERST_N resets the PCIe functions and disables all rings without completions. -/
  | perstNAssert
  /-- R592. PERST_N is released and configuration requests are answered within 20 ms. -/
  | perstNRelease
  /-- R614. WAKE_N held low for 1 µs wakes the device from Dusk. -/
  | wakeNAssert
  /-- R614. A PCIe write of the PF's PMCSR to D0 wakes the device from Dusk. -/
  | pmcsrD0Write
  /-- R611. Drained work ends, seals and saves are written, and the device enters Dusk. -/
  | duskEntryComplete
  /-- R615. Dusk exit restores memory, supervisor and settings and reaches command-ready. -/
  | duskExitReady
  /-- R601. A written image is read back and FW_UPDATE completes. -/
  | fwUpdateReadbackDone
  /-- R604. VSENSE rises above the warning level plus 20 mV and the power-fail warning ends: PF_WARN clears, a deferred warning level takes effect and is judged at once, and held wakes are released. -/
  | powerFailWarningEnd
  /-- R82. A function-level reset of a VF disables its rings without completions, zeroes its fences, returns its resources to the PF and withdraws its layers. -/
  | functionLevelReset (vf : Fin 8)
  /-- R89. The host enables or disables VFs in SR-IOV configuration, which changes which VFs DEV_VF_GRANT accepts and what DEV_INFO reports. -/
  | srIovVfEnable (count : Fin 9)
  /-- R640. VDD_AON falls: the time bases stop, TRIP and TRIP_SENSOR clear, and the device becomes unpowered. -/
  | vddAonFall
  /-- R17. An island's droop detector sees its local supply dip and stretches that island's clock, and the island agent counts the stretched cycles. -/
  | clockStretch (island : Fin 128) (cycles : Nat)
  deriving DecidableEq, Repr

end Sys2Proof
end

