-- ==== Sys2Proof/Decode.lean ====
section
/-!
DEFINITION. Commands have no binary encoding: no row of the table of operations and events carries bits. The encoding that the
manual does give, that of packets in ring slots (R51), is read where rings are fetched.
-/

namespace Sys2Proof

/-- The command that a word spells: none, since the table gives no row any bits. -/
def decodeTableWord (_nbits _w : Nat) : Option Instr := none

end Sys2Proof
end

