-- ==== Sys2Proof/Machine/Bits.lean ====
section
/-!
DEFINITION. Byte order, sign extension, fixed-point helpers, CRC-32C and SHA-256.

Everything here is arithmetic that the manual fixes by itself: little-endian fields (R4), fixed-point formats (R6),
component widening (R9), the CRC-32C of R109 and the SHA-256 digests that the evidence chain and the images use.
-/

namespace Sys2Proof.Machine

/-- The value of a little-endian byte string (R4). -/
def leNat : List Byte → Nat
  | [] => 0
  | b :: bs => b.toNat + 256 * leNat bs

/-- The `n` low bytes of `v`, least significant first (R4). -/
def leBytes : Nat → Nat → List Byte
  | 0, _ => []
  | n + 1, v => byte (v % 256) :: leBytes n (v / 256)

/-- The value of a big-endian byte string (signatures, network headers). -/
def beNat (bs : List Byte) : Nat := leNat bs.reverse

/-- The `n` low bytes of `v`, most significant first. -/
def beBytes (n v : Nat) : List Byte := (leBytes n v).reverse

/-- `n` bytes of `bs` from offset `off`; bytes past the end of `bs` read 0. -/
def sliceZ (bs : List Byte) (off n : Nat) : List Byte :=
  let got := (bs.drop off).take n
  got ++ List.replicate (n - got.length) 0

/-- The little-endian number of `n` bytes at offset `off`. -/
def fieldAt (bs : List Byte) (off n : Nat) : Nat := leNat (sliceZ bs off n)

/-- Overwrite `bs` from offset `off` with `v`, keeping the length of `bs`. -/
def spliceAt (bs : List Byte) (off : Nat) (v : List Byte) : List Byte :=
  (bs.take off ++ v ++ bs.drop (off + v.length)).take bs.length

/-- Bits `lo` to `lo + w - 1` of `v`. -/
def bitsOf (v lo w : Nat) : Nat := (v >>> lo) % 2 ^ w

/-- Bit `n` of `v`. -/
def bitOf (v n : Nat) : Bool := v.testBit n

/-- Two's complement reading of the low `w` bits of `v` (R6). -/
def signedOf (w v : Nat) : Int :=
  let u := v % 2 ^ w
  if 2 ^ (w - 1) ≤ u then (u : Int) - (2 ^ w : Nat) else (u : Int)

/-- The `w`-bit two's complement encoding of `v` (R6). -/
def unsignedOf (w : Nat) (v : Int) : Nat := (v % (2 ^ w : Nat)).toNat

/-- `clamp(x, lo, hi)` of the notation section of chapter 00. -/
def clampInt (x lo hi : Int) : Int := if x < lo then lo else if hi < x then hi else x

/-- `x >> n` on a signed value: floor division by `2^n` (chapter 00, notation). -/
def asr (x : Int) (n : Nat) : Int := x / (2 ^ n : Nat)

/-- R9: an 8-bit component widened to 10 bits. -/
def widen8 (v : Nat) : Nat := (v <<< 2) ||| (v >>> 6)

/-- The number 1 or 0 of a truth value, for status words. -/
def b2n (b : Bool) : Nat := if b then 1 else 0

/-- A saturating 16-bit or wider increment. -/
def satInc (limit n : Nat) : Nat := if n < limit then n + 1 else limit

/-- `ceil(a / b)`. -/
def ceilDiv (a b : Nat) : Nat := (a + b - 1) / b

/-- `a` rounded up to a multiple of `b`. -/
def roundUp (a b : Nat) : Nat := ceilDiv a b * b

/-- Set entry `i` of `l`, leaving `l` alone when `i` is out of range. -/
def setAt {α : Type} (l : List α) (i : Nat) (v : α) : List α := l.set i v

/-- Apply `f` to entry `i` of `l`. -/
def updAt {α : Type} (l : List α) (i : Nat) (f : α → α) : List α := l.modify i f

/-- The sum of a list of numbers. -/
def sumNat : List Nat → Nat
  | [] => 0
  | n :: ns => n + sumNat ns

/-- The greatest of a list of numbers, 0 for none. -/
def maxNat : List Nat → Nat
  | [] => 0
  | n :: ns => max n (maxNat ns)

/-- One bit step of the reflected CRC-32C (polynomial 0x82F63B78 of R109). -/
def crcBit (c : Nat) : Nat :=
  if c % 2 = 1 then (c >>> 1) ^^^ 0x82F63B78 else c >>> 1

/-- One byte of the CRC-32C. -/
def crcByte (c : Nat) (b : Byte) : Nat :=
  let c := c ^^^ b.toNat
  crcBit (crcBit (crcBit (crcBit (crcBit (crcBit (crcBit (crcBit c)))))))

/-- The running CRC-32C over a byte string. -/
def crcRun : Nat → List Byte → Nat
  | c, [] => c
  | c, b :: bs => crcRun (crcByte c b) bs

/-- CRC-32C of R109. -/
def crc32c (bs : List Byte) : Nat := crcRun 0xFFFFFFFF bs ^^^ 0xFFFFFFFF

/-! ## SHA-256: words of 32 bits, several packed into one number with the first in its highest bits -/

/-- Word `i` of `n` packed words. -/
def packedWord (x n i : Nat) : Nat := (x >>> (32 * (n - 1 - i))) % 0x100000000

/-- The key of round `i`, eight keys to a number. -/
def shaKey (i : Nat) : Nat :=
  packedWord
    (match i / 8 with
     | 0 => 0x428a2f9871374491b5c0fbcfe9b5dba53956c25b59f111f1923f82a4ab1c5ed5
     | 1 => 0xd807aa9812835b01243185be550c7dc372be5d7480deb1fe9bdc06a7c19bf174
     | 2 => 0xe49b69c1efbe47860fc19dc6240ca1cc2de92c6f4a7484aa5cb0a9dc76f988da
     | 3 => 0x983e5152a831c66db00327c8bf597fc7c6e00bf3d5a7914706ca635114292967
     | 4 => 0x27b70a852e1b21384d2c6dfc53380d13650a7354766a0abb81c2c92e92722c85
     | 5 => 0xa2bfe8a1a81a664bc24b8b70c76c51a3d192e819d6990624f40e3585106aa070
     | 6 => 0x19a4c1161e376c082748774c34b0bcb5391c0cb34ed8aa4a5b9cca4f682e6ff3
     | _ => 0x748f82ee78a5636f84c878148cc7020890befffaa4506cebbef9a3f7c67178f2)
    8 (i % 8)

/-- The state before the first block. -/
def shaStart : List Nat :=
  (List.range 8).map (packedWord 0x6a09e667bb67ae853c6ef372a54ff53a510e527f9b05688c1f83d9ab5be0cd19 8)

/-- A word turned to the right by `n` bits: read from two copies of itself side by side. -/
def turn32 (x n : Nat) : Nat := ((0x100000001 * x) >>> n) % 0x100000000

/-- A word turned three ways, combined bit by bit. -/
def turns (x i j k : Nat) : Nat := turn32 x i ^^^ turn32 x j ^^^ turn32 x k

/-- A word turned two ways and shifted, combined bit by bit: the mixing of the message words. -/
def blend (x i j k : Nat) : Nat := turn32 x i ^^^ turn32 x j ^^^ (x >>> k)

/-- A round with key plus message word `kw`: every word moves down one place, the first and the fifth are new. -/
def shaRound (kw : Nat) : List Nat → List Nat
  | [a, b, c, d, e, f, g, h] =>
    let t := h + turns e 6 11 25 + (g ^^^ (e &&& (f ^^^ g))) + kw
    [(t + turns a 2 13 22 + ((a &&& b) ||| (c &&& (a ||| b)))) % 0x100000000, a, b, c, (d + t) % 0x100000000, e, f, g]
  | v => v

/-- The last `n` of 64 rounds, over a window of the next sixteen message words. -/
def shaRounds : Nat → List Nat → List Nat → List Nat
  | 0, _, v => v
  | n + 1, w, v =>
    let next := (w.getD 0 0 + blend (w.getD 1 0) 7 18 3 + w.getD 9 0 + blend (w.getD 14 0) 17 19 10) % 0x100000000
    shaRounds n (w.drop 1 ++ [next]) (shaRound (shaKey (63 - n) + w.getD 0 0) v)

/-- The state behind a block, given as one number of 512 bits. -/
def shaBlock (v : List Nat) (block : Nat) : List Nat :=
  let last := shaRounds 64 ((List.range 16).map (packedWord block 16)) v
  (v.zip last).map fun x => (x.1 + x.2) % 0x100000000

/-- SHA-256 of a byte string, as its 32 bytes: behind the message stand a one bit, zeros to 64 bits before the end of a block,
and the message's length in bits. -/
def sha256 (bs : List Byte) : List Byte :=
  let blocks := (bs.length + 72) / 64
  let whole := beNat bs * 2 ^ (512 * blocks - 8 * bs.length) + 2 ^ (512 * blocks - 8 * bs.length - 1) + 8 * bs.length
  ((List.range blocks).foldl (fun v i => shaBlock v (whole / 2 ^ (512 * (blocks - 1 - i)) % 2 ^ 512)) shaStart).flatMap
    (beBytes 4)

end Sys2Proof.Machine
end

