-- ==== Sys2Proof/Config.lean ====
section
/-!
DEFINITION. What an implementation fixes, and the free values.

A constant without a body stands for a value that the manual leaves open, or that a unit outside the manual supplies
(the content of an HEVC bitstream, a signature, factory data). Nothing can be proved about such a value but that it is
the same wherever it is named with the same arguments, so a claim holds whatever it is. Each has a row in the log.
-/

namespace Sys2Proof

/-- An item of the factory region, which stands in both copies (R497). -/
structure FactoryItem where
  /-- The item's first word in copy 0. -/
  first : Nat
  /-- Words that it takes. -/
  words : Nat
  /-- Its CRC-32C is correct in copy 0. -/
  crcOk : Bool
  /-- The item. -/
  body : List Byte
  deriving DecidableEq, Repr, Inhabited

/-- The profiles of R148. -/
inductive HevcProfile where
  | main | main10 | multiviewMain | monochrome12 | other
  deriving DecidableEq, Repr, Inhabited

/-- What HEVC parsing reads in the parameter sets and slice segments of one component picture (R148 to R153, R171). What the
device makes of it is in Machine/Hevc.lean. -/
structure HevcPicture where
  /-- An SPS or PPS that it names is not among the NAL units. -/
  paramsMissing : Bool := false
  /-- Profile. -/
  profile : HevcProfile := .other
  /-- Level, 30 times its number. -/
  level : Nat := 0
  /-- chroma_format_idc: 0 for 4:0:0, 1 for 4:2:0. -/
  chroma : Nat := 0
  /-- Luma bit depth. -/
  bitsLuma : Nat := 0
  /-- Chroma bit depth. -/
  bitsChroma : Nat := 0
  /-- Width of the coded picture, samples. -/
  width : Nat := 0
  /-- Height of the coded picture, samples. -/
  height : Nat := 0
  /-- Columns that the conformance window takes away. -/
  cropX : Nat := 0
  /-- Rows that the conformance window takes away. -/
  cropY : Nat := 0
  /-- Pictures per second that its timing information states, as a numerator. -/
  rateNum : Nat := 0
  /-- The denominator. -/
  rateDen : Nat := 1
  /-- sps_max_num_reorder_pics of each sub-layer. -/
  numReorder : List Nat := []
  /-- field_seq_flag. -/
  fieldSeq : Bool := false
  /-- The picture is indicated as a field. -/
  fieldPicture : Bool := false
  /-- A range, screen-content or scalable extension is used. -/
  extension : Bool := false
  /-- It is an auxiliary picture or a depth layer. -/
  auxiliary : Bool := false
  /-- matrix_coefficients of the VUI, none without a colour description. -/
  matrix : Option Nat := none
  /-- video_full_range_flag. -/
  fullRange : Bool := false
  /-- Size of a CTU, samples. -/
  ctb : Nat := 0
  /-- Widths of the tile columns in CTUs. -/
  tileCols : List Nat := []
  /-- Heights of the tile rows in CTUs. -/
  tileRows : List Nat := []
  /-- First CTU in tile scan of each independent slice segment. -/
  segments : List Nat := []
  /-- entropy_coding_sync_enabled_flag. -/
  wpp : Bool := false
  /-- slice_pic_order_cnt_lsb. -/
  pocLsb : Nat := 0
  /-- Its width in bits. -/
  pocBits : Nat := 4
  /-- Short-term entries of its reference picture set: picture order counts less its own. -/
  keepShort : List Int := []
  /-- Long-term entries: picture order counts less its own. -/
  keepLong : List Int := []
  /-- nuh_layer_id of the pictures of the same access unit in its inter-layer reference picture set. -/
  interLayers : List Nat := []
  /-- A slice segment of it is missing, or a dependent one lacks its independent one (cause 1 in a TRUNCATED access unit). -/
  segmentMissing : Bool := false
  /-- A syntax element is out of range or CABAC does not end where a segment ends (cause 3). -/
  decodeError : Bool := false
  deriving DecidableEq, Repr, Inhabited

namespace Config

/-- FREE VALUE: what HEVC parsing finds for one component picture in the parameter sets in force and the slice segments
(R148 to R153). -/
opaque hevcPicture (nals : List (List Byte)) : HevcPicture

/-- FREE VALUE: the sample that HEVC decoding gives at raster index `i` of plane `plane` (0 luma or depth, 1 Cb, 2 Cr),
from the parameter sets in force, its slice segments and the stored bytes of the pictures it references; none where the sample cannot be
decoded (R154, R171). -/
opaque hevcSample (nals : List (List Byte)) (refs : List (List Byte)) (plane i : Nat) : Option Nat

/-- FREE VALUE: base address of the picture pool for a number and size of slots (R159). -/
opaque poolBase (slots blocks : Nat) : Nat

/-- FREE VALUE: base address of woven-frame buffer `n` for a frame size in bytes (R27, R34). -/
opaque wovenBase (n bytes : Nat) : Nat

/-- FACTORY: the device serial number (R639). -/
opaque serial : DWord

/-- FACTORY: MAC address of port A as a 48-bit number, first transmitted byte most significant (R85, R445). -/
opaque macA : Nat

/-- FACTORY: the bytes of the factory and identity regions of the store, pages 0 to 1021 (R497). -/
opaque factoryByte (addr : Nat) : Byte

/-- FACTORY: a factory record (R497, R507; PRESUMED, log 140). -/
opaque factoryItem (id : Nat) : Option FactoryItem

/-- FREE VALUE: an unstated number, one for each use. -/
opaque freeNat (n : Nat) : Nat

/-- FREE VALUE: the adjustment of ET's increment in ppb that the slew takes for an error in ns, before the limit of
200 ppm (R455 says proportional and gives no factor). -/
opaque etSlewPpb (errorNs : Int) : Int

/-- SIGNATURE: r of the ECDSA P-256 signature with the device identity key over a message (R404). -/
opaque signR (message : List Byte) : Nat

/-- SIGNATURE: s of that signature. -/
opaque signS (message : List Byte) : Nat

/-- FACTORY: the device certificate in DER form (R413). -/
opaque deviceCert : List Byte

/-- FACTORY: the Cawald issuing CA certificate in DER form (R413). -/
opaque caCert : List Byte

/-- FREE VALUE: the Ethernet address that a port sends to for an IPv4 address (the manual names no neighbour cache). -/
opaque neighbourMac (ip : Nat) : Nat

/-- FREE VALUE: the encoder's state after a CU, or before the first of a row, as a number: what the bits that follow depend on
(R382). `before` names the states it builds on, `source` the source samples, `how` the parameters and decisions. -/
opaque encState (before source how : List Nat) : Nat

/-- FREE VALUE: the luma sample that HEVC intra prediction in a mode (0 planar, 1 DC, 2 to 34 angular) gives for a CU of a size
at a position, from the reconstruction that a state of the encoder stands for (R384). -/
opaque intraSample (state mode size x y : Nat) : Nat

/-- FREE VALUE: the luma sample of a reconstructed and deblocked picture at a position, from the states of its rows (R385). -/
opaque reconSample (rows : List Nat) (x y : Nat) : Nat

/-- FREE VALUE: the HEVC merge candidates of a CU, index 0 first: reference index and vector in quarter samples (R384). -/
opaque mergeVectors (state x y size : Nat) : List (Nat × Int × Int)

/-- FREE VALUE: the first HEVC AMVP predictor of a CU (R386). -/
opaque amvpVector (state x y size : Nat) : Int × Int

/-- FREE VALUE: lambda of a QP, in units of 2^-8 (R384 gives no formula). -/
opaque lambda (qp : Nat) : Nat

/-- FREE VALUE: the estimated bits of entry `k` in the list of a CU's modes (R384 gives no formula). -/
opaque estimatedBits (state x y size k : Nat) : Nat

/-- FREE VALUE: a square of a CTU is split into four CUs (R384 gives no rule). -/
opaque cuSplit (state x y size : Nat) : Bool

/-- FREE VALUE: bits of a CTU that a state of the encoder has coded (R390, R391). -/
opaque ctuBits (state ctu : Nat) : Nat

/-- FREE VALUE: bits of a slice header (R390). -/
opaque sliceHeaderBits (state : Nat) : Nat

/-- FREE VALUE: the NAL units of a slice in byte-stream form, from the states of its rows (R394). -/
opaque sliceNals (states how : List Nat) : List Byte

/-- FREE VALUE: base address of witness buffer `n` for a size in bytes (R372). -/
opaque witnessBase (n bytes : Nat) : Nat

/-- FACTORY: the trim of the ray-rail voltage in mV, 0 to 30 (R587). -/
opaque avsTrim : Nat

/-- SIGNATURE CHECK: an ECDSA P-256 signature over a message verifies with the Cawald firmware key (R596). -/
opaque firmwareSigned (message r s : List Byte) : Bool

/-- SIGNATURE CHECK: what a debug credential names when it passes its check with a Cawald debug key: the serial number and
not_after in ET seconds (R603). -/
opaque debugCredential (credential : List Byte) : Option (DWord × Nat)

end Config

end Sys2Proof
end

