-- ==== Sys2Proof/Machine/State.lean ====
section
/-!
DEFINITION. The state of the block: every register, ring, buffer, counter, mode and pin that the manual gives it, as plain
data, and the state right after reset.

The block stands, at `State.reset`, as VDD_AON has just risen and RESET_N is held low: everything at the value the manual
gives for reset, memory with nothing listed. Each field's bracket names its width, the rule that names it, and its reset
value; `log <n>` names the assumption that supplies a value which the manual does not give.
-/

namespace Sys2Proof.Machine

/-- Why the block stops. No command of the manual stops the block; the type has one constructor so that it is not empty. -/
inductive Fault where
  /-- Never raised by any meaning. Safe: a stop that never happens hides nothing. -/
  | none_
  deriving DecidableEq, Repr

/-- Why a command has no meaning here. -/
inductive Refusal where
  /-- A row of the table that has no meaning yet. Safe: nothing is claimed of it. -/
  | notModelled (mnemonic : String)
  deriving DecidableEq, Repr

/-- Memory: address and byte pairs, addresses strictly rising, none equal to 0, which an unlisted byte reads as (log 3). -/
abbrev Mem := List Host.Cell

/-- A packet copied from its ring slots and not yet started (R46, R64). -/
structure Fetched where
  /-- Opcode word of the header. [16 bits; R51; none] -/
  opcode : Half := 0
  /-- The packet. [up to 256 bytes; R51; none] -/
  pkt : Packet
  /-- The packet would run past the last slot of its ring, or the byte count of its block write does not fit. [1 bit; R45; none] -/
  wraps : Bool := false
  deriving DecidableEq, Repr

/-- The registers and the fetched packets of one submission ring. -/
structure SubRing where
  /-- BASE_LO. [32 bits; R647; 0] -/
  baseLo : Word := 0
  /-- BASE_HI. [32 bits; R647; 0] -/
  baseHi : Word := 0
  /-- TARGET, the completion ring. [8 bits; R647; 0xFF] -/
  target : Byte := 0xFF
  /-- SIZE_LOG2. [5 bits; R647; 6] -/
  sizeLog2 : BitVec 5 := 6
  /-- LOC_DEV. [1 bit; R647; 0] -/
  locDev : Bool := false
  /-- ENABLE. [1 bit; R647; 0] -/
  enable : Bool := false
  /-- ERR_CODE. [4 bits; R647; 0] -/
  errCode : BitVec 4 := 0
  /-- ERROR. [1 bit; R647; 0] -/
  error : Bool := false
  /-- WB_LO, bits 31:2 kept in place. [32 bits; R647; 0] -/
  wbLo : Word := 0
  /-- WB_HI. [32 bits; R647; 0] -/
  wbHi : Word := 0
  /-- HEAD, the slot behind the last fetched one. [16 bits; R46; 0] -/
  head : Nat := 0
  /-- TAIL, the last tail doorbell value taken. [16 bits; R647; 0] -/
  tail : Nat := 0
  /-- Classes enabled for the expert level on this ring. [16 bits; R59; 0] -/
  classes : Half := 0
  /-- Packets fetched and not started, oldest first. [list; R46; empty] -/
  fetched : List Fetched := []
  deriving DecidableEq, Repr

/-- One completion due to a ring: what its 16-byte entry holds, but for the phase bit (R49). -/
structure Completion where
  /-- Submission ring number as the entry gives it. [8 bits; R49; none] -/
  ring : Byte
  /-- Tag. [16 bits; R49; none] -/
  tag : Half
  /-- Status code. [16 bits; R49; none] -/
  status : Half
  /-- result0. [32 bits; R49; none] -/
  result0 : Word
  /-- result1. [32 bits; R49; none] -/
  result1 : Word
  /-- Whether writing the entry raises the vector. [1 bit; R54; none] -/
  irq : Bool
  deriving DecidableEq, Repr

/-- The registers of one completion ring, and the completions held while it is full (R49). -/
structure CplRing where
  /-- BASE_LO. [32 bits; R647; 0] -/
  baseLo : Word := 0
  /-- BASE_HI. [32 bits; R647; 0] -/
  baseHi : Word := 0
  /-- TARGET, the MSI-X vector, 0xFF for the default. [8 bits; R647; 0xFF] -/
  target : Byte := 0xFF
  /-- SIZE_LOG2. [5 bits; R647; 6] -/
  sizeLog2 : BitVec 5 := 6
  /-- LOC_DEV. [1 bit; R647; 0] -/
  locDev : Bool := false
  /-- ENABLE. [1 bit; R647; 0] -/
  enable : Bool := false
  /-- ERR_CODE. [4 bits; R647; 0] -/
  errCode : BitVec 4 := 0
  /-- ERROR. [1 bit; R647; 0] -/
  error : Bool := false
  /-- HEAD, the last head doorbell value. [16 bits; R647; 0] -/
  head : Nat := 0
  /-- TAIL, the index of the next entry the device writes. [16 bits; R647; 0] -/
  next : Nat := 0
  /-- Entries written and not yet given back by a head doorbell. [17 bits; R48; 0] -/
  used : Nat := 0
  /-- PHASE of the current pass. [1 bit; R48; 0, and 1 from each enable] -/
  phase : Bool := false
  /-- Completions held while the ring is full, oldest first. [list; R49; empty] -/
  held : List Completion := []
  deriving DecidableEq, Repr

/-- The registers of one event ring of 256 entries (R74). -/
structure EvtRing where
  /-- BASE_LO. [32 bits; R647; 0] -/
  baseLo : Word := 0
  /-- BASE_HI. [32 bits; R647; 0] -/
  baseHi : Word := 0
  /-- TARGET, the MSI-X vector, 0xFF for the default. [8 bits; R647; 0xFF] -/
  target : Byte := 0xFF
  /-- LOC_DEV. [1 bit; R647; 0] -/
  locDev : Bool := false
  /-- ENABLE. [1 bit; R647; 0] -/
  enable : Bool := false
  /-- ERR_CODE. [4 bits; R647; 0] -/
  errCode : BitVec 4 := 0
  /-- ERROR. [1 bit; R647; 0] -/
  error : Bool := false
  /-- HEAD, the last head doorbell value. [16 bits; R647; 0] -/
  head : Nat := 0
  /-- TAIL, the index of the next entry the device writes. [16 bits; R647; 0] -/
  next : Nat := 0
  /-- Entries written and not yet given back. [9 bits; R48; 0] -/
  used : Nat := 0
  /-- PHASE of the current pass. [1 bit; R48; 0, and 1 from each enable] -/
  phase : Bool := false
  /-- The sequence number of the next entry. [32 bits; R74; 0] -/
  seq : Word := 0
  /-- Events discarded while the ring was full. [32 bits; R75; 0] -/
  lost : Word := 0
  /-- Event codes masked by EVT_MASK. [set of codes; R581; none masked] -/
  masked : List Half := []
  deriving DecidableEq, Repr

/-- The resources granted to a virtual function (R89). -/
structure Grant where
  /-- Layers granted, bit n for layer n. [8 bits; R89; 0] -/
  layers : Byte := 0
  /-- Stream contexts granted. [1 bit; R89; 0] -/
  streams : Nat := 0
  /-- Encode sessions granted. [2 bits; R89; 0] -/
  sessions : Nat := 0
  /-- First surface descriptor granted. [10 bits; R89; 0] -/
  descFirst : Nat := 0
  /-- Surface descriptors granted. [11 bits; R89; 0] -/
  descCount : Nat := 0
  /-- Window size in MiB. [32 bits; R89; 0] -/
  windowMib : Nat := 0
  /-- Window base in device memory, bit 63 removed. [63 bits; R89; 0] -/
  windowBase : Nat := 0
  deriving DecidableEq, Repr

/-- One PCIe function: its rings, its grant, and what its MSI-X vectors have raised. -/
structure FnState where
  /-- Submission rings. [16 for the PF, 2 for a VF; R41; as SubRing] -/
  sub : List SubRing
  /-- Completion rings. [16 for the PF, 2 for a VF; R41; as CplRing] -/
  cpl : List CplRing
  /-- The event ring. [one; R74; as EvtRing] -/
  evt : EvtRing := {}
  /-- Interrupts raised on each MSI-X vector. [64 for the PF, 4 for a VF; R78; 0] -/
  vectors : List Nat
  /-- The grant of a VF; unused for the PF. [one; R80; empty] -/
  grant : Grant := {}
  deriving DecidableEq, Repr

/-- A packet that has started and whose completion or COMMAND_OUTCOME is still due: the model's journal entry (R563). -/
structure Flight where
  /-- The model's own number of the packet. [number; R563; none] -/
  ticket : Nat
  /-- Opcode. [16 bits; R563; none] -/
  opcode : Half
  /-- Copy of the packet. [packet; R563; none] -/
  pkt : Packet
  /-- The commit point has passed. [1 bit; R70; none] -/
  committed : Bool := false
  /-- No completion entry, outcome or interrupt is written for it. [1 bit; R671; none] -/
  mute : Bool := false
  /-- Its SIGNAL_FENCE no longer signals. [1 bit; R671; none] -/
  noSignal : Bool := false
  deriving DecidableEq, Repr

/-- Everything the command protocol holds beside the rings. -/
structure CmdState where
  /-- The 256 fence counters. [256 x 64 bits; R66; 0] -/
  fences : List DWord := List.replicate 256 0
  /-- Packets committed since Dawn. [64 bits; R88; 0] -/
  committed : DWord := 0
  /-- The number given to the next started packet. [number; R563; 0, log 5] -/
  nextTicket : Nat := 0
  /-- Done-D packets that have started and not completed. [list; R563; empty] -/
  flights : List Flight := []
  /-- Done-A packets whose COMMAND_OUTCOME is still due. [list; R76; empty] -/
  outcomes : List Flight := []
  /-- The seven policies in the row order of R62, true at the expert level. [7 bits; R62; all basic] -/
  policies : List Bool := List.replicate 7 false
  /-- VFs that SR-IOV has enabled. [0 to 8; R85; 0] -/
  vfsEnabled : Nat := 0
  /-- The ring served last. [one; R65; none] -/
  served : Option Src := none
  deriving DecidableEq, Repr

/-- An event as its 32-byte entry holds it, but for phase and sequence (R74). -/
structure EventRec where
  /-- Event code. [16 bits; R74; none] -/
  code : Half
  /-- Severity. [2 bits; R74; none] -/
  severity : Byte
  /-- MT seconds, low 32 bits. [32 bits; R74; none] -/
  mtSec : Word
  /-- MT nanoseconds. [32 bits; R74; none] -/
  mtNs : Word
  /-- Island number or 0xFFFF. [16 bits; R74; none] -/
  source : Half
  /-- Tag of the related packet, or 0. [16 bits; R74; none] -/
  tag : Half
  /-- Ring of the related packet, or 0xFF. [8 bits; R74; none] -/
  ring : Byte
  /-- data0. [32 bits; R74; none] -/
  data0 : Word
  /-- data1. [32 bits; R74; none] -/
  data1 : Word
  deriving DecidableEq, Repr

/-- The SMBus sideband: ring 0x80 and what the device holds for it (R90 to R93). -/
structure SmbState where
  /-- 7-bit target address; record 0x110 may change it. [7 bits; R90; 0x5C] -/
  address : Byte := 0x5C
  /-- A packet written and not yet started. [one packet; R91; none] -/
  waiting : Option Fetched := none
  /-- A packet is outstanding. [1 bit; R91; 0] -/
  outstanding : Bool := false
  /-- Classes enabled for the expert level on ring 0x80. [16 bits; R59; 0] -/
  classes : Half := 0
  /-- Completions not yet read, oldest first, at most 16. [16 entries; R92; empty] -/
  completions : List Completion := []
  /-- Events not yet read with their sequence numbers, oldest first, at most 32. [32 entries; R92; empty] -/
  events : List (Word × EventRec) := []
  /-- Sequence number of the next event. [32 bits; R74; 0] -/
  seq : Word := 0
  /-- Events discarded while 32 were held. [32 bits; R75; 0] -/
  lost : Word := 0
  /-- Event codes masked for the sideband. [set of codes; R581; none masked] -/
  masked : List Half := []
  /-- SMB_ALERT_N is driven. [1 bit; R92; released] -/
  alert : Bool := false
  /-- Transactions discarded for a wrong PEC. [counter; R90; 0] -/
  pecErrors : Nat := 0
  /-- The last transaction was refused by a NACK. [1 bit; R91; 0] -/
  nacked : Bool := false
  /-- Bytes the last block or byte read returned. [up to 32 bytes; R90; empty] -/
  readData : List Byte := []
  deriving DecidableEq, Repr

/-- The phase codes of DAWN_PHASE (R594). -/
inductive DawnPhase where
  | reset | rom | memTrain | imageLoad | imageCheck | init | ready | pcieBootWait | memFailed | bootFailed | dusk | held
  deriving DecidableEq, Repr

/-- Where the device stands on the way into, in and out of Dusk (R611, R612, R615). -/
inductive DuskState where
  /-- Not entering and not in Dusk. -/
  | awake
  /-- DEV_DUSK has started and its work drains; the ticket of the packet. -/
  | draining (ticket : Nat)
  /-- DEV_DUSK has completed, or the shutdown leads into Dusk; entry runs on. -/
  | entering
  /-- In Dusk. -/
  | asleep
  /-- A wake source was seen and exit runs. -/
  | waking
  deriving DecidableEq, Repr

/-- The power-loss sequence from its warning crossing on (R605, R606). -/
structure LossSeq where
  /-- MT of the warning crossing, ns. [timer; R605; none] -/
  since : Nat
  /-- The sequence began before command-ready. [1 bit; R674; none] -/
  inDawn : Bool := false
  /-- The chain seal and the saves have been done. [1 bit; R406; none] -/
  sealed : Bool := false
  /-- Record 0x121 was saved by this sequence. [1 bit; R674; none] -/
  savedRun : Bool := false
  /-- The panel discharge of the sequence was cancelled or is not needed. [1 bit; R361; none] -/
  panelSettled : Bool := false
  /-- The sequence was started by an unrecovered fault. [1 bit; R572; none] -/
  byFault : Bool := false
  deriving DecidableEq, Repr

/-- A doorbell written in Dusk and kept for the exit (R613, R648). -/
structure KeptBell where
  /-- The function. [function; R613; none] -/
  func : Func
  /-- Which doorbell: submission tail, completion head or event head. [2 bits; R648; none] -/
  kind : RingKind
  /-- The ring. [4 bits; R648; none] -/
  ring : Fin 16
  /-- The word written. [32 bits; R648; none] -/
  value : Word
  deriving DecidableEq, Repr

/-- Supplies, reset, power loss and Dusk. -/
structure PowerState where
  /-- VDD_AON is present. [1 bit; R439; present] -/
  vddAon : Bool := true
  /-- RESET_N is low. [1 bit; R590; low, log 2] -/
  resetLow : Bool := true
  /-- The internal reset of the VSENSE reset level acts. [1 bit; R591; 0] -/
  vsenseReset : Bool := false
  /-- PERST_N is asserted. [1 bit; R592; asserted, log 2] -/
  perst : Bool := true
  /-- DAWN_PHASE. [4 bits; R594; 0] -/
  phase : DawnPhase := .reset
  /-- READY: command-ready reached and not left. [1 bit; R640; 0] -/
  ready : Bool := false
  /-- Straps sampled at the last release of reset. [4 bits; R589; 0, log 2] -/
  straps : Straps := {}
  /-- The power-fail warning is active. [1 bit; R604; 0] -/
  warn : Bool := false
  /-- MT at which VSENSE rose above the warning level plus 20 mV. [timer; R608; none] -/
  clearSince : Option Nat := none
  /-- VSENSE as the comparator last judged it, mV. [level; R604; 1200, log 2] -/
  vsenseMv : Nat := 1200
  /-- Warning level in force, LEVEL of R644. [5 bits; R644; 10] -/
  level : Nat := 10
  /-- LEVEL written while a warning is active. [5 bits; R644; none] -/
  pendingLevel : Option Nat := none
  /-- WARN_COUNT. [16 bits; R644; 0] -/
  warnCount : Nat := 0
  /-- The power-loss sequence, from its crossing until the device resumes. [see LossSeq; R605; none] -/
  loss : Option LossSeq := none
  /-- Dusk entry, Dusk and exit. [see DuskState; R611; awake] -/
  dusk : DuskState := .awake
  /-- MASK: wake mask in force in Dusk. [3 bits; R646; 0] -/
  wakeMask : BitVec 3 := 0
  /-- Mask named by the DEV_DUSK in progress. [3 bits; R610; 0] -/
  wakeAsked : BitVec 3 := 0
  /-- SEEN: wake sources seen at the last Dusk exit. [3 bits; R646; 0] -/
  wakeSeen : BitVec 3 := 0
  /-- Wake sources seen and not yet acted on. [3 bits; R616; 0] -/
  wakePending : BitVec 3 := 0
  /-- PME_En of the PF's PMCSR. [1 bit; R614; 0, log 2] -/
  pmeEn : Bool := false
  /-- PM_PME messages sent. [counter; R614; 0] -/
  pmeSent : Nat := 0
  /-- BAR2 writes discarded in Dusk. [counter; R613; 0] -/
  duskBar2Writes : Nat := 0
  /-- MT at which Dawn began, ns. [timer; R593; 0] -/
  dawnNs : Nat := 0
  /-- MT at which Dusk was entered, ns. [timer; R512; 0] -/
  duskNs : Nat := 0
  /-- Doorbells written in Dusk, oldest first. [list; R613; empty] -/
  keptBells : List KeptBell := []
  /-- data0 and data1 of the last DEVICE_READY since reset. [2 words; R595; none] -/
  readyData : Option (Word × Word) := none
  /-- The PCIe link is up. [1 bit; R673; down] -/
  linkUp : Bool := false
  /-- AVS_FAULT bits: VDD_RAYN, VDD_RAYS. [2 bits; R588; 0] -/
  avsFault : List Bool := [false, false]
  /-- Voltage last written to each ray rail, mV. [2 values; R587; 750] -/
  railMv : List Nat := [750, 750]
  deriving DecidableEq, Repr

/-- BAR0 registers that belong to no ring, and what the last host read returned. -/
structure RegState where
  /-- INT_STATUS. [7 bits; R643; 0] -/
  intStatus : Word := 0
  /-- INT_ENABLE. [7 bits; R643; 0x7F] -/
  intEnable : Word := 0x7F
  /-- TRIP, latched in island 0. [1 bit; R640; 0] -/
  trip : Bool := false
  /-- TRIP_SENSOR, latched in island 0. [8 bits; R640; 0xFF] -/
  tripSensor : Byte := 0xFF
  /-- A trip has acted and no Dawn has begun since. [1 bit; R539; 0] -/
  tripHeld : Bool := false
  /-- HEARTBEAT. [32 bits; R642; 0] -/
  heartbeat : Word := 0
  /-- MT of the last heartbeat, ns. [timer; R642; 0] -/
  heartbeatNs : Nat := 0
  /-- LAST_FAIL of BOOT_STATUS. [8 bits; R645; 0] -/
  bootLastFail : Nat := 0
  /-- FAIL_COUNT of BOOT_STATUS. [8 bits; R645; 0] -/
  bootFailCount : Nat := 0
  /-- SOURCE of BOOT_STATUS: 0 slot A, 1 slot B, 2 PCIe. [2 bits; R645; 0] -/
  bootSource : Nat := 0
  /-- The time latch: NT, DT, ET, MT in units of 2^-32 ns. [4 x 112 bits; R651; 0] -/
  timeLatch : List Nat := [0, 0, 0, 0]
  /-- Watchdog ACTION. [1 bit; R652; 0] -/
  wdogAction : Bool := false
  /-- Watchdog ENABLE. [1 bit; R652; 0] -/
  wdogEnable : Bool := false
  /-- Watchdog PERIOD as written, ms. [16 bits; R652; 0] -/
  wdogPeriod : Nat := 0
  /-- Period that the running stages use, ms. [16 bits; R652; 0] -/
  wdogRunPeriod : Nat := 0
  /-- The second stage runs. [1 bit; R653; 0] -/
  wdogSecond : Bool := false
  /-- MT at which the running stage ends, ns. [timer; R653; 0] -/
  wdogDeadline : Nat := 0
  /-- BAD_KICKS. [8 bits; R652; 0] -/
  wdogBadKicks : Nat := 0
  /-- EXPIRIES. [8 bits; R652; 0] -/
  wdogExpiries : Nat := 0
  /-- An expiry's action waits for the device to resume. [1 bit; R653; 0] -/
  wdogActionWaits : Bool := false
  /-- Mailbox SEQ. [8 bits; R654; 0] -/
  mboxSeq : Byte := 0
  /-- Mailbox RESULT. [8 bits; R654; 0] -/
  mboxResult : Byte := 0
  /-- Mailbox BUSY. [1 bit; R654; 0] -/
  mboxBusy : Bool := false
  /-- Mailbox DATA0 to DATA7. [8 x 32 bits; R654; 0] -/
  mboxData : List Word := List.replicate 8 0
  /-- The bytes that the last BAR0 or BAR2 read returned. [bus data; R637; empty] -/
  readData : List Byte := []
  deriving DecidableEq, Repr

/-- The settings of one EVT_IN pin and what it has captured (R459, R460). -/
structure EvtIn where
  /-- Base captured. [2 bits; R459; 0] -/
  base : Nat := 0
  /-- Edge selection: 0 off, 1 rising, 2 falling, 3 both. [2 bits; R459; 0] -/
  edge : Nat := 0
  /-- Last capture, 2^-32 ns. [96 bits; R445; 0] -/
  capture : Nat := 0
  /-- MT of the last capture, ns. [timer; R460; none] -/
  lastNs : Option Nat := none
  /-- data0 and data1 of an EVT_CAPTURED kept for Dusk exit. [2 words; R460; none] -/
  kept : Option (Word × Word) := none
  deriving DecidableEq, Repr

/-- The settings of one EVT_OUT pin and how far it has come (R459, R461). -/
structure EvtOut where
  /-- Base followed. [2 bits; R459; 0] -/
  base : Nat := 0
  /-- Enable. [1 bit; R459; 0] -/
  enable : Bool := false
  /-- Active low. [1 bit; R459; 0] -/
  activeLow : Bool := false
  /-- First instant in units of 2^-16 ns. [96 bits; R459; 0] -/
  start : Nat := 0
  /-- Period, u48.16 ns. [64 bits; R459; 0] -/
  period : Nat := 0
  /-- Pulse width, ns. [32 bits; R459; 0] -/
  width : Nat := 0
  /-- Pulses asked for, 0 for no limit. [32 bits; R459; 0] -/
  count : Nat := 0
  /-- Index of the next pulse that may be emitted. [index; R461; 0] -/
  next : Nat := 0
  /-- Pulses emitted under this setting. [counter; R461; 0] -/
  emitted : Nat := 0
  /-- MT at which the pulse in progress ends, 2^-16 ns. [timer; R461; none] -/
  pulseEnd : Option Nat := none
  /-- Level driven on the pin. [1 bit; R461; 0] -/
  level : Bool := false
  deriving DecidableEq, Repr

/-- The four time bases and the event pins, in island 0. -/
structure TimeState where
  /-- NT in units of 2^-32 ns. [48 s bits, 32 ns bits, 32 fraction bits; R437; 0] -/
  nt : Nat := 0
  /-- DT in units of 2^-32 ns. [as NT; R437; 0] -/
  dt : Nat := 0
  /-- ET in units of 2^-32 ns. [as NT; R437; 0] -/
  et : Nat := 0
  /-- MT in units of 2^-32 ns. [as NT; R437; 0] -/
  mt : Nat := 0
  /-- NT increment. [40 bits; R437; 0x2_0000_0000] -/
  ntInc : Nat := 0x200000000
  /-- DT increment. [40 bits; R437; 0x2_0000_0000] -/
  dtInc : Nat := 0x200000000
  /-- ET increment. [40 bits; R437; 0x2_0000_0000] -/
  etInc : Nat := 0x200000000
  /-- MT increment. [40 bits; R437; 0x2_0000_0000] -/
  mtInc : Nat := 0x200000000
  /-- Raw count of timing-clock cycles. [counter; R451; 0] -/
  cycles : Nat := 0
  /-- A TIME_STEP of DT that waits for a frame-start event, 2^-32 ns. [amount; R442; none] -/
  dtStep : Option Nat := none
  /-- EVT_IN0 to EVT_IN3. [4 pins; R459; off] -/
  evtIn : List EvtIn := List.replicate 4 {}
  /-- EVT_OUT0 to EVT_OUT3. [4 pins; R459; disabled] -/
  evtOut : List EvtOut := List.replicate 4 {}
  /-- EVT_IN overruns, all pins. [32 bits; R445; 0] -/
  overruns : Word := 0
  /-- EVT_OUT pulses emitted, all pins. [32 bits; R445; 0] -/
  pulses : Word := 0
  /-- REF10M is present and may feed the timing clock. [1 bit; R663; absent] -/
  refPresent : Bool := false
  /-- The timing clock comes from REF10M. [1 bit; R663; 0] -/
  refUsed : Bool := false
  deriving DecidableEq, Repr

/-- What the egress time-stamp of a frame is for (R450 to R453). -/
inductive OutStamp where
  /-- Nothing. -/
  | plain
  /-- t3 of a Delay_Req. -/
  | delayReq
  /-- t1 of a Pdelay_Req. -/
  | pdelayReq
  /-- The residence of a frame from an ingress port, 2^-16 ns so far, at a raw cycle count. -/
  | transit (ingress raw cycle : Nat)
  /-- The turnaround of a Pdelay_Resp, 2^-16 ns so far, at a raw cycle count. -/
  | answer (raw cycle : Nat)
  deriving DecidableEq, Repr

/-- A frame that waits at an egress port (R449). -/
structure OutFrame where
  /-- Its place in the egress order: 0 forwarded PTP event messages, 1 local PTP messages, 2 other forwarded frames, 3 other local
  frames. [2 bits; R449; 0] -/
  cls : Nat
  /-- The frame without its FCS. [bytes; R449; none] -/
  bytes : List Byte
  /-- It leaves with its FCS inverted. [1 bit; R449; 0] -/
  bad : Bool
  /-- What its egress time-stamp is for. [stamp; R453; plain] -/
  stamp : OutStamp
  deriving DecidableEq, Repr

/-- One network port (R446, R463). -/
structure PortState where
  /-- MODE: 0 off, 1 10GBASE-R, 2 1000BASE-X. [2 bits; R446; 0] -/
  mode : Nat := 0
  /-- FORWARD. [1 bit; R446; 0] -/
  forward : Bool := false
  /-- IPv4 address, 0 for none. [32 bits; R446; 0] -/
  ipv4 : Nat := 0
  /-- Subnet mask. [32 bits; R446; 0] -/
  mask : Nat := 0
  /-- Gateway, or 0. [32 bits; R446; 0] -/
  gateway : Nat := 0
  /-- LINK. [1 bit; R463; 0] -/
  link : Bool := false
  /-- LINK_DOWNS. [16 bits; R463; 0] -/
  linkDowns : Nat := 0
  /-- TX_DISABLE as driven. [1 bit; R463; 1] -/
  txDisable : Bool := true
  /-- LOS from the SFP. [1 bit; R463; 0] -/
  los : Bool := false
  /-- MOD_ABS from the SFP. [1 bit; R463; 0] -/
  modAbs : Bool := false
  /-- Ticket of the TIME_PORT_CONFIG that awaits its outcome. [one; R446; none] -/
  configTicket : Option Nat := none
  /-- Frames received and forwarded. [32 bits; R445; 0] -/
  forwarded : Word := 0
  /-- Frames dropped for lack of forwarding buffer. [32 bits; R445; 0] -/
  dropped : Word := 0
  /-- PTP event messages corrected on ingress. [32 bits; R445; 0] -/
  corrected : Word := 0
  /-- correctionField saturations. [32 bits; R445; 0] -/
  saturated : Word := 0
  /-- Frames terminated locally. [32 bits; R445; 0] -/
  terminated : Word := 0
  /-- Frames received with an FCS error. [32 bits; R445; 0] -/
  fcsErrors : Word := 0
  /-- Unicast frames to the port that nothing took, and messages that the mode discards. [counter; R448; 0] -/
  discarded : Word := 0
  /-- The last measurements of the link delay, newest first, 1/16 ns. [8 values; R450; none] -/
  linkDelays : List Int := []
  /-- Sequence number of the last Pdelay_Req sent. [16 bits; R450; 0] -/
  pdelaySeq : Nat := 0
  /-- NT of the last Pdelay_Req sent, 2^-16 ns. [time-stamp; R450; none] -/
  pdelayT1 : Option Nat := none
  /-- The Pdelay_Resp of a two-step peer: t2 and t4, 2^-16 ns. [2 time-stamps; R450; none] -/
  pdelayResp : Option (Nat × Nat) := none
  /-- MT of the next Pdelay_Req, ns. [timer; R450; 0] -/
  pdelayDue : Nat := 0
  /-- Frames that wait to leave, oldest first; those that came from the other port stand in the 256 KiB buffer of their
  direction. [frames; R449; none] -/
  outq : List OutFrame := []
  /-- Raw cycle count at which the frame in transmission has left. [cycle count; R449; 0] -/
  sendEnd : Nat := 0
  /-- The last frame whose transmission has begun. [frame; R449; none] -/
  lastSent : List Byte := []
  /-- That frame leaves with its FCS inverted. [1 bit; R449; 0] -/
  lastBad : Bool := false
  deriving DecidableEq, Repr

/-- The servo states of R462. -/
inductive ServoState where
  | disabled | listening | unlocked | locked | holdover | expert
  deriving DecidableEq, Repr

/-- The network ports, the transparent clock and the PTP servo. -/
structure NetState where
  /-- Ports A and B. [2 ports; R446; off] -/
  ports : List PortState := List.replicate 2 {}
  /-- Transparent-clock mode: 0 off, 1 E2E, 2 P2P. [2 bits; R450; 1] -/
  tcMode : Nat := 1
  /-- Slave port: 0 none, 1 A, 2 B. [2 bits; R450; 0] -/
  slave : Nat := 0
  /-- Servo domain. [7 bits; R450; 0] -/
  domain : Nat := 0
  /-- Servo transport: 0 Ethernet, 1 UDP. [1 bit; R450; 0] -/
  transport : Nat := 0
  /-- ET_FROM_PTP. [1 bit; R450; 1] -/
  etFromPtp : Bool := true
  /-- log_pdelay. [s7; R450; 0] -/
  logPdelay : Int := 0
  /-- Servo state. [3 bits; R462; 0] -/
  servo : ServoState := .disabled
  /-- integ, ppb. [s31; R454; 0] -/
  integ : Int := 0
  /-- Consecutive Syncs with a small offset. [counter; R454; 0] -/
  goodSyncs : Nat := 0
  /-- The last offset from the master, ns. [s63; R454; 0] -/
  offset : Int := 0
  /-- Identity and quality of the selected master. [one; R454; none] -/
  master : Option PtpAnnounce := none
  /-- MT of the last Sync from the selected master, ns. [timer; R454; 0] -/
  lastSync : Nat := 0
  /-- The last Announce of each other master heard on the slave port. [list; R454; empty] -/
  others : List PtpAnnounce := []
  /-- Steps of NT by the servo. [32 bits; R454; 0] -/
  nSteps : Word := 0
  /-- Measured path delay of the slave port in E2E mode, 1/16 ns. [signed; R454; 0] -/
  pathDelay : Int := 0
  /-- t2 - t1 of the last Sync, ns times 2^16. [signed; R454; 0] -/
  syncSpan : Int := 0
  /-- Sequence number of the last Delay_Req. [16 bits; R454; 0] -/
  delaySeq : Nat := 0
  /-- NT of the last Delay_Req, 2^-16 ns. [time-stamp; R454; none] -/
  delayT3 : Option Nat := none
  /-- Delay_Req interval that the master states, log2 s. [s7; R454; 0] -/
  delayLog : Int := 0
  /-- MT of the next Delay_Req, ns. [timer; R454; 0] -/
  delayDue : Nat := 0
  /-- ET is being slewed. [1 bit; R462; 0] -/
  etSlewing : Bool := false
  /-- ET has been set since Dawn. [1 bit; R462; 0] -/
  etSet : Bool := false
  deriving DecidableEq, Repr

/-- A log entry that waits in island 127 to be written (R575, R578). -/
structure LogEntry where
  /-- Event code or log-only code. [16 bits; R575; none] -/
  code : Half
  /-- Severity. [8 bits; R575; none] -/
  severity : Byte
  /-- INJECTED. [1 bit; R575; none] -/
  injected : Bool
  /-- Entries suppressed before this one, at most 127. [7 bits; R575; none] -/
  suppressed : Nat
  /-- MT seconds, low 32 bits. [32 bits; R575; none] -/
  mtSec : Word
  /-- MT nanoseconds. [32 bits; R575; none] -/
  mtNs : Word
  /-- Island number or 0xFFFF. [16 bits; R575; none] -/
  source : Half
  /-- data0. [32 bits; R575; none] -/
  data0 : Word
  /-- data1. [32 bits; R575; none] -/
  data1 : Word
  deriving DecidableEq, Repr

/-- When a code and source was last logged, and what has been suppressed since (R576). -/
structure LogGuard where
  /-- Code. [16 bits; R576; none] -/
  code : Half
  /-- Source. [16 bits; R576; none] -/
  source : Half
  /-- MT of the last entry written, ns. [timer; R576; none] -/
  at_ : Nat
  /-- Entries suppressed since. [counter; R576; 0] -/
  suppressed : Nat := 0
  deriving DecidableEq, Repr

/-- Supervision: faults, retirements, the event log's queue and the counters. -/
structure SupState where
  /-- SUP_STATE: 0 running, 1 restarting, 2 unrecovered, 3 not yet started. [2 bits; R654; 3] -/
  supState : Nat := 3
  /-- MT of the last lockstep mismatch, ns. [timer; R566; none] -/
  lastMismatch : Option Nat := none
  /-- FAULT: an unrecovered fault other than the supervisor's. [1 bit; R640; 0] -/
  fault : Bool := false
  /-- Class of the unrecovered fault, 0 if none. [8 bits; R655; 0] -/
  faultClass : Nat := 0
  /-- Unit of the unrecovered fault. [16 bits; R655; 0] -/
  faultUnit : Nat := 0
  /-- DEBUG_OPEN. [1 bit; R603; 0] -/
  debugOpen : Bool := false
  /-- Faults detected in classes 1 to 10 (entry 0 unused). [11 x 32 bits; R580; 0] -/
  detected : List Word := List.replicate 11 0
  /-- Faults recovered in classes 1 to 10 (entry 0 unused). [11 x 32 bits; R580; 0] -/
  recovered : List Word := List.replicate 11 0
  /-- Cycles stretched in each island, low 32 bits. [128 x 32 bits; R580; 0] -/
  stretched : List Word := List.replicate 128 0
  /-- Stretches of the last 1 ms: island, MT in ns, cycles. [list; R227; empty] -/
  recentStretch : List (Nat × Nat × Nat) := []
  /-- Resets of each island under R570. [128 x 32 bits; R580; 0] -/
  islandResets : List Word := List.replicate 128 0
  /-- Faults of each ray core. [96 x 32 bits; R580; 0] -/
  coreFaults : List Word := List.replicate 96 0
  /-- Ray-core state: 0 in service, 1 faulted, 2 retired. [96 x 2 bits; R235, R580; 0] -/
  coreState : List Nat := List.replicate 96 0
  /-- A faulted core has passed its self-test and returns at the next window opening. [96 bits; R568; 0] -/
  corePassed : List Bool := List.replicate 96 false
  /-- Fabric faults of each cluster. [4 x 32 bits; R580; 0] -/
  fabricFaults : List Word := List.replicate 4 0
  /-- Retired clusters. [4 bits; R580; 0] -/
  clusterRetired : List Bool := List.replicate 4 false
  /-- MT of the last fabric fault of each cluster, ns. [4 timers; R569; none] -/
  fabricLast : List (Option Nat) := List.replicate 4 none
  /-- Lockstep restarts. [32 bits; R580; 0] -/
  restarts : Word := 0
  /-- Longest restart, ns. [32 bits; R580; 0] -/
  longestRestart : Word := 0
  /-- Log entries written. [32 bits; R580; 0] -/
  logWritten : Word := 0
  /-- Log entries suppressed or lost. [32 bits; R580; 0] -/
  logLost : Word := 0
  /-- Queue of entries waiting to be written. [64 entries; R578; empty] -/
  logQueue : List LogEntry := []
  /-- What suppresses a repeated entry. [list; R576; empty] -/
  logGuards : List LogGuard := []
  /-- seq of the next log entry, found in the store at Dawn. [32 bits; R575; 0, log 6] -/
  logNextSeq : Word := 0
  /-- Resends of the management-lane frame in flight. [4 bits; R567; 0] -/
  dieLinkResends : Nat := 0
  /-- MT of the first CRC error of that frame, ns. [timer; R567; none] -/
  dieLinkNs : Option Nat := none
  deriving DecidableEq, Repr

/-- A parameter set: the payloads of its SCENE_PARAMS and VIEW_LAYOUT (R98, R101). -/
structure ParamSet where
  /-- SCENE_PARAMS payload. [40 bytes; R98; none] -/
  scene : List Byte
  /-- VIEW_LAYOUT payload. [4 + 32 x views bytes; R101; none] -/
  layout : List Byte
  deriving DecidableEq, Repr

/-- A NAL unit of an access unit with its bitstream index (R106). -/
structure Nal where
  /-- Bitstream index. [5 bits; R106; none] -/
  bs : Nat
  /-- The NAL unit with its 2-byte header. [bytes; R106; none] -/
  bytes : List Byte
  deriving DecidableEq, Repr

/-- The fields of an AU_START (R105). -/
structure AuStart where
  /-- pts_base. [2 bits; R105; none] -/
  ptsBase : Nat
  /-- DISCONTINUITY. [1 bit; R105; none] -/
  disc : Bool
  /-- rap_mask. [16 bits; R105; none] -/
  rapMask : Nat
  /-- Version of the parameter set named. [16 bits; R105; none] -/
  params : Nat
  /-- Presentation time as carried, ns. [48 + 30 bits; R105; none] -/
  pts : Nat
  deriving DecidableEq, Repr

/-- An access unit whose units are being parsed (R96, R106, R109). -/
structure AuBuild where
  /-- Its number. [32 bits; R94; none] -/
  number : Word
  /-- Its AU_START. [one; R105; none] -/
  start : AuStart
  /-- Units so far, AU_START included. [counter; R108; none] -/
  units : Nat
  /-- Bytes so far, from the first of AU_START. [bytes; R109; none] -/
  bytes : List Byte
  /-- NAL units so far, in order. [list; R106; none] -/
  nals : List Nal
  /-- Bitstreams marked last. [list; R106; none] -/
  lasts : List Nat
  /-- Units of type 0x80 to 0xFF among them, where they are counted at its end. [counter; R96; 0] -/
  skipped : Nat := 0
  deriving DecidableEq, Repr

/-- Where the parser of a PCIe context stands (R96, R97). -/
inductive ParseMode where
  /-- Between access units. -/
  | between
  /-- Inside the access unit being built. -/
  | inside (au : AuBuild)
  /-- Inside a rejected access unit: units are consumed without effect up to its AU_END (R96). -/
  | skipping
  /-- Searching forward for sync bytes (R97). -/
  | hunting
  deriving DecidableEq, Repr

/-- An access unit handed on to the codec complex and not yet in a slot (R126). -/
structure AccessUnit where
  /-- Its number. [32 bits; R94; none] -/
  number : Word
  /-- TRUNCATED. [1 bit; R132; none] -/
  truncated : Bool
  /-- Clean. [1 bit; R112; none] -/
  clean : Bool
  /-- It and all before it since a clean one were decoded without interruption. [1 bit; R138; none] -/
  unbroken : Bool
  /-- pts_base. [2 bits; R105; none] -/
  ptsBase : Nat
  /-- Effective presentation time, ns, on the base of pts_base. [signed; R115; none] -/
  effPts : Int
  /-- rap_mask. [16 bits; R105; none] -/
  rapMask : Nat
  /-- The parameter set in force. [one; R104; none] -/
  params : ParamSet
  /-- NAL units that can be used. [list; R106; none] -/
  nals : List Nal
  /-- VPS, SPS and PPS NAL units of access units before it that stand. [list; R114; empty] -/
  psets : List Nal := []
  /-- Buffer space held, bytes. [counter; R134; none] -/
  space : Nat
  /-- MT at which it began to wait for a slot, ns. [timer; R163; none] -/
  slotSince : Option Nat := none
  deriving DecidableEq, Repr

/-- A run of bytes received for an access unit in reassembly (R131). -/
structure Fragment where
  /-- Offset within the access unit. [32 bits; R127; none] -/
  off : Nat
  /-- The bytes. [bytes; R127; none] -/
  bytes : List Byte
  deriving DecidableEq, Repr

/-- An access unit in reassembly (R131, R132). -/
structure Reassembly where
  /-- Its number. [32 bits; R127; none] -/
  number : Word
  /-- Runs received, first copy of each byte, in order of arrival. [list; R131; none] -/
  frags : List Fragment
  /-- Offsets of datagrams with UNIT_START or NAL_START, where parsing may resume, with the bitstream that NAL_START
  names. [list; R133; none] -/
  marks : List (Nat × Option Nat) := []
  /-- Length, once a LAST datagram has been received. [32 bits; R131; none] -/
  total : Option Nat
  /-- MT at which the fragment-gap timer expires, ns. [timer; R132; none] -/
  deadline : Nat
  /-- The timer has expired on a whole AU_START: handed on as TRUNCATED in its order. [1 bit; R132; none] -/
  cut : Bool := false
  /-- MT at which its first datagram was placed, ns. [timer; R134; none] -/
  born : Nat := 0
  /-- NT at the last datagram accepted for it, ns. [64 bits; R117; none] -/
  arrived : Nat := 0
  /-- It has been rejected and reported; only its number is still to be judged in its order. [1 bit; R111, R132; none] -/
  dead : Bool := false
  deriving DecidableEq, Repr

/-- A STRM_SUBMIT that has started and whose buffer has not been read (R125). -/
structure Submit where
  /-- Ticket of the packet. [number; R124; none] -/
  ticket : Nat
  /-- Buffer length in bytes. [32 bits; R124; none] -/
  len : Nat
  /-- Buffer address as carried. [64 bits; R124; none] -/
  addr : Nat
  deriving DecidableEq, Repr

/-- The states of a stream context (R119). -/
inductive CtxState where
  | closed | seeking | running | stalled | ended
  deriving DecidableEq, Repr

/-- A stream context (R119). -/
structure StreamCtx where
  /-- State. [3 bits; R119; CLOSED] -/
  state : CtxState := .closed
  /-- Source: 0 PCIe, 1 port A, 2 port B. [2 bits; R141; 0] -/
  source : Nat := 0
  /-- The function that opened it. [function; R142; PF, log 5] -/
  owner : Func := .pf
  /-- UDP destination port. [16 bits; R141; 0, log 5] -/
  udpPort : Nat := 0
  /-- stream_id to accept, 0 for any. [32 bits; R141; 0, log 5] -/
  streamId : Nat := 0
  /-- Multicast group joined, or 0. [32 bits; R141; 0, log 5] -/
  group : Nat := 0
  /-- Source filter address. [32 bits; R144; 0, log 5] -/
  fSource : Nat := 0
  /-- Source filter mask. [32 bits; R144; 0] -/
  fMask : Nat := 0
  /-- Fragment-gap timeout, ms. [16 bits; R143; 20] -/
  gapMs : Nat := 20
  /-- Stall timeout, ms. [16 bits; R143; 200] -/
  stallMs : Nat := 200
  /-- Stall timeout of the timer that runs, ms. [16 bits; R143; 200] -/
  stallRun : Nat := 200
  /-- Current parameter set. [one; R103; none] -/
  current : Option ParamSet := none
  /-- Pending parameter set. [one; R103; none] -/
  pendingSet : Option ParamSet := none
  /-- Reference number. [32 bits; R111; none] -/
  refNum : Option Word := none
  /-- MT offset, ns. [signed; R115; 0] -/
  mtOffset : Int := 0
  /-- pts_base in use since the last clean access unit. [2 bits; R116; none] -/
  base : Option Nat := none
  /-- Effective presentation time of the last access unit handed on, ns. [signed; R117; none] -/
  lastPts : Option Int := none
  /-- Base of that time. [2 bits; R121; 0] -/
  lastBase : Nat := 0
  /-- Number of the last access unit handed on. [32 bits; R145; 0, log 5] -/
  lastHanded : Word := 0
  /-- MT of the last byte received, ns. [timer; R121; 0] -/
  lastByte : Nat := 0
  /-- Bytes taken from buffers and not yet parsed. [bytes; R125; none] -/
  buf : List Byte := []
  /-- The parser. [see ParseMode; R96; between] -/
  mode : ParseMode := .between
  /-- A SCENE_PARAMS that awaits its VIEW_LAYOUT: au_number and payload. [one; R103; none] -/
  scene : Option (Word × List Byte) := none
  /-- au_numbers of conflicting pairs whose access units are to be rejected. [list; R103; empty] -/
  conflicts : List Word := []
  /-- Numbers of late and duplicate access units counted once on a network context. [list; R111; empty] -/
  lateSeen : List Word := []
  /-- VPS, SPS and PPS NAL units handed on since the last clean access unit, that one included. [list; R114; empty] -/
  psets : List Nal := []
  /-- Access units in reassembly, at most four. [list; R134; none] -/
  reasm : List Reassembly := []
  /-- Access units that wait for the codec complex, in order. [list; R126; none] -/
  waiting : List AccessUnit := []
  /-- STRM_SUBMIT buffers to be read, in order. [list; R126; none] -/
  submits : List Submit := []
  /-- Every access unit since the last clean one was handed on and is decoded. [1 bit; R138; 0] -/
  unbroken : Bool := false
  /-- The number of the clean access unit whose decode ends the hold of R162 after a stall. [32 bits; R122; none] -/
  stallHold : Option (Option Word) := none
  /-- The context last left RUNNING by falling behind. [1 bit; R181; 0] -/
  behind : Bool := false
  /-- REJ_LAST. [16 bits; R146; 0] -/
  rejLast : Nat := 0
  /-- Access units complete. [32 bits; R145; 0] -/
  nComplete : Word := 0
  /-- Access units TRUNCATED. [32 bits; R145; 0] -/
  nTruncated : Word := 0
  /-- Access units rejected. [32 bits; R145; 0] -/
  nRejected : Word := 0
  /-- Access units discarded while SEEKING, STALLED or ENDED. [32 bits; R145; 0] -/
  nDiscarded : Word := 0
  /-- Datagrams accepted. [32 bits; R145; 0] -/
  nDatagrams : Word := 0
  /-- Datagrams discarded. [32 bits; R145; 0] -/
  nDropped : Word := 0
  /-- Access-unit numbers missing. [32 bits; R145; 0] -/
  nMissing : Word := 0
  /-- Parameter sets made current. [32 bits; R145; 0] -/
  nSets : Word := 0
  /-- Duplicates and late arrivals. [32 bits; R145; 0] -/
  nDuplicates : Word := 0
  /-- Units of type 0x80 to 0xFF skipped. [32 bits; R145; 0] -/
  nSkipped : Word := 0
  deriving DecidableEq, Repr

/-- The stream intake. -/
structure StrmState where
  /-- Contexts 0 to 3. [4 contexts; R119; CLOSED] -/
  ctxs : List StreamCtx := List.replicate 4 {}
  /-- The on-air context. [2 bits; R140; none] -/
  onAir : Option Nat := none
  /-- The STRM_CUT that waits: its ticket and its target. [one; R137; none] -/
  cut : Option (Nat × Nat) := none
  /-- Datagrams that belonged to no context. [counter; R130; 0] -/
  noContext : Word := 0
  deriving DecidableEq, Repr

/-- The reference mark of a component picture (R161). -/
inductive RefMark where
  | unused | short | long
  deriving DecidableEq, Repr

/-- The states of a picture-pool slot (R162). -/
inductive SlotState where
  | free | decoding | complete
  deriving DecidableEq, Repr

/-- A slot of the picture pool, and what the header of its scene picture says (R161, R165). -/
structure Slot where
  /-- State. [2 bits; R162; FREE] -/
  state : SlotState := .free
  /-- Owning context. [2 bits; R165; 0, log 5] -/
  ctx : Nat := 0
  /-- Access-unit number. [32 bits; R165; 0, log 5] -/
  au : Word := 0
  /-- Parameter set of the scene picture. [one; R165; none] -/
  params : Option ParamSet := none
  /-- Reference marks, colour then depth of each view in turn. [2 per view; R161; UNUSED] -/
  marks : List RefMark := []
  /-- Picture order counts, in the same order. [list; R172; empty] -/
  pocs : List Int := []
  /-- Coded video sequences, counted per component of the context, in the same order. [list; R172; empty] -/
  cvss : List Nat := []
  /-- Component pictures concealed or flagged, bit 2 x view + depth. [32 bits; R171; 0] -/
  marred : Nat := 0
  /-- OUTPUT_PENDING. [1 bit; R161; 0] -/
  outputPending : Bool := false
  /-- HELD_BY_RAY. [1 bit; R161; 0] -/
  heldByRay : Bool := false
  /-- Most recently completed scene picture of its context. [1 bit; R180; 0] -/
  latest : Bool := false
  /-- The context was closed while it was in decode: no further part starts. [1 bit; R142; 0] -/
  abandoned : Bool := false
  /-- concealed_views. [16 bits; R165; 0] -/
  concealed : Nat := 0
  /-- Header flags: TRUNCATED, FILLED, DEPTH_ALL_CONCEALED. [16 bits; R165; 0] -/
  flags : Nat := 0
  /-- Matrix in force: 1 BT.709, 2 BT.2020. [8 bits; R165; 1, log 5] -/
  matrix : Nat := 1
  /-- Range in force: 0 limited, 1 full. [8 bits; R165; 0] -/
  range : Nat := 0
  /-- pts_base. [8 bits; R165; 0] -/
  ptsBase : Nat := 0
  /-- Effective presentation time, ns. [signed; R165; 0] -/
  effPts : Int := 0
  /-- Decoded from a clean access unit without interruption. [1 bit; R138; 0] -/
  unbroken : Bool := false
  /-- hist, 64 bins. [64 x 32 bits; R165; 0] -/
  hist : List Nat := List.replicate 64 0
  /-- d_min. [16 bits; R165; 0] -/
  dMin : Nat := 0
  /-- d_max. [16 bits; R165; 0] -/
  dMax : Nat := 0
  /-- hist_count. [32 bits; R165; 0] -/
  histCount : Nat := 0
  /-- hist_views. [16 bits; R165; 0] -/
  histViews : Nat := 0
  /-- MT at which its first part started, ns. [timer; R179; 0] -/
  startedNs : Nat := 0
  /-- Order of completion among scene pictures. [counter; R162; 0] -/
  doneSeq : Nat := 0
  /-- MT of its completion, 2^-32 ns. [timer; R164; 0] -/
  doneMt : Nat := 0
  deriving DecidableEq, Repr

/-- Where one part of a picture stands (R151). -/
inductive PartState where
  | waiting | running | done
  deriving DecidableEq, Repr

/-- One part of a component picture (R151). -/
structure Part where
  /-- Its load in samples. [32 bits; R151; none] -/
  load : Nat
  /-- Where it stands. [2 bits; R151; none] -/
  state : PartState := .waiting
  /-- MT at which it started, ns. [timer; R153; 0] -/
  since : Nat := 0
  /-- The core whose fault ended it: another decodes it again. [4 bits; R177; none] -/
  banned : Option Nat := none
  deriving DecidableEq, Repr

/-- What stands for an entry of a reference picture set (R172). -/
structure RefPick where
  /-- The slot of the reference or of its substitute; none for the previous scene picture. [3 bits; R172; none] -/
  slot : Option Nat
  /-- The reference is not in the pool. [1 bit; R171; none] -/
  missing : Bool
  deriving DecidableEq, Repr

/-- A component picture in decode. -/
structure CompJob where
  /-- View index. [4 bits; R101; none] -/
  view : Nat
  /-- Depth rather than colour. [1 bit; R107; none] -/
  depth : Bool
  /-- Cores permitted. [12 bits; R157; none] -/
  mask : Nat
  /-- Division mode taken, code of R152. [3 bits; R152; none] -/
  mode : Nat
  /-- Its parts. [list; R152; none] -/
  parts : List Part
  /-- What parsing has found for it. [see HevcPicture; R148; none] -/
  info : HevcPicture := {}
  /-- A slice segment of it has arrived. [1 bit; R171; none] -/
  arrived : Bool := false
  /-- Its picture order count. [signed; R172; 0] -/
  poc : Int := 0
  /-- Its coded video sequence. [counter; R172; 0] -/
  cvs : Nat := 0
  /-- What stands for each entry of its reference picture set. [list; R153; none] -/
  refs : List RefPick
  /-- Views of the same access unit whose colour pictures it references. [list; R153; none] -/
  inter : List Nat := []
  /-- A part of it has started. [1 bit; R158; 0] -/
  started : Bool := false
  /-- Causes of R171 met when it was decoded, bit n - 1 for cause n. [4 bits; R171; 0] -/
  causes : Nat := 0
  /-- R173 filled some of it. [1 bit; R173; 0] -/
  filled : Bool := false
  deriving DecidableEq, Repr

/-- An access unit in decode (R155). -/
structure DecodeJob where
  /-- Context. [2 bits; R155; none] -/
  ctx : Nat
  /-- Slot. [3 bits; R162; none] -/
  slot : Nat
  /-- The access unit. [one; R126; none] -/
  au : AccessUnit
  /-- Its component pictures. [list; R107; none] -/
  comps : List CompJob
  /-- A part of it has started: its colour description is fixed. [1 bit; R170; 0] -/
  started : Bool := false
  deriving DecidableEq, Repr

/-- What a codec core works on (R155). -/
inductive CoreItem where
  /-- Part `part` of component `comp` of the access unit in slot `slot`. -/
  | part (slot comp part : Nat)
  /-- The next coding row of picture `order` of an encode session; session 0 is the witness. -/
  | row (session order : Nat)
  deriving DecidableEq, Repr

/-- The division mode and the cores of a component (R157). -/
structure Assign where
  /-- Division mode. [3 bits; R157; 0] -/
  mode : Nat := 0
  /-- core_mask. [12 bits; R157; 0x0FFF] -/
  mask : Nat := 0xFFF
  deriving DecidableEq, Repr

/-- The picture order count of a component's layer, in decoding order (R172). -/
structure PocState where
  /-- Count of the last picture of sub-layer 0 that others are counted from. [signed; R172; 0] -/
  prev : Int := 0
  /-- Coded video sequences begun. [counter; R172; 0] -/
  cvs : Nat := 0
  deriving DecidableEq, Repr

/-- The reference picture set of a component picture, which moves the marks of its layer in decoding order (R161). -/
structure RpsStep where
  /-- 2 x view + depth. [5 bits; R161; none] -/
  comp : Nat
  /-- Slot of the picture. [3 bits; R161; none] -/
  slot : Nat
  /-- Its access unit. [32 bits; R161; none] -/
  au : Word
  /-- Its coded video sequence. [counter; R172; none] -/
  cvs : Nat
  /-- Counts kept as short-term references. [list; R161; none] -/
  short : List Int
  /-- Counts kept as long-term references. [list; R161; none] -/
  long : List Int
  /-- The picture itself can be referenced: a slice segment of it arrived. [1 bit; R161; none] -/
  isRef : Bool
  /-- The picture is complete. [1 bit; R161; 0] -/
  done : Bool := false
  deriving DecidableEq, Repr

/-- What the codec complex keeps for one context. -/
structure DecCtx where
  /-- Picture order counts, colour then depth of views 0 to 15 in turn. [32 entries; R172; 0] -/
  pocs : List PocState := List.replicate 32 {}
  /-- Reference picture sets that have not yet moved the marks, in decoding order. [list; R161; empty] -/
  rps : List RpsStep := []
  /-- Assignments, colour then depth of views 0 to 15 in turn. [32 entries; R157; AUTO, all cores] -/
  assigns : List Assign := List.replicate 32 {}
  /-- DEC_COLOUR: matrix, 0 for the VUI. [2 bits; R170; 0] -/
  colourMatrix : Nat := 0
  /-- DEC_COLOUR: range. [1 bit; R170; 0] -/
  colourRange : Nat := 0
  /-- Views concealed at the last completed scene picture. [16 bits; R181; 0] -/
  concealedNow : Nat := 0
  /-- Scene pictures completed. [32 bits; R179; 0] -/
  completed : Word := 0
  /-- Pictures concealed, all causes. [32 bits; R179; 0] -/
  concealedAll : Word := 0
  /-- Pictures concealed by cause 1. [32 bits; R179; 0] -/
  cause1 : Word := 0
  /-- Pictures concealed by cause 2. [32 bits; R179; 0] -/
  cause2 : Word := 0
  /-- Pictures concealed by cause 3. [32 bits; R179; 0] -/
  cause3 : Word := 0
  /-- Pictures decoded as WHOLE under the fallback. [32 bits; R179; 0] -/
  fallback : Word := 0
  /-- Slot waits longer than one refresh period. [32 bits; R179; 0] -/
  slotWaits : Word := 0
  /-- Completion time of the last scene picture, us. [32 bits; R179; 0] -/
  lastUs : Word := 0
  /-- Access units discarded under R160. [32 bits; R179; 0] -/
  tooLarge : Word := 0
  deriving DecidableEq, Repr

/-- The codec complex and the picture pool. -/
structure DecState where
  /-- Slots in the pool. [4 bits; R159; 8] -/
  slotCount : Nat := 8
  /-- Slot size in 64 KiB blocks. [16 bits; R159; 4810] -/
  slotBlocks : Nat := 4810
  /-- The slots. [8 slots; R162; FREE] -/
  slots : List Slot := List.replicate 8 {}
  /-- Access units in decode. [list; R155; none] -/
  jobs : List DecodeJob := []
  /-- What each codec core works on. [12 cores; R155; idle] -/
  cores : List (Option CoreItem) := List.replicate 12 none
  /-- Per-context decode state. [4 contexts; R179; as DecCtx] -/
  ctxs : List DecCtx := List.replicate 4 {}
  /-- Scene pictures completed by all contexts: the order of completion. [counter; R162; 0] -/
  doneSeq : Nat := 0
  deriving DecidableEq, Repr

/-- What a page program of the store unit belongs to (R515). -/
inductive ProgFor where
  /-- The foreground operation in front. -/
  | foreground
  /-- The oldest event-log entry of the queue. -/
  | log
  /-- The refresh in front. -/
  | refresh
  deriving DecidableEq, Repr

/-- A page program in flight (R496): words in the order in which they are programmed. -/
structure PageProg where
  /-- Page number. [14 bits; R496; none] -/
  page : Nat
  /-- Word number and its 8 bytes, in order. [1 to 8 words; R496; none] -/
  words : List (Nat × List Byte)
  /-- What it belongs to. [2 bits; R515; none] -/
  owner : ProgFor
  /-- Verifies failed so far. [2 bits; R504; 0] -/
  fails : Nat := 0
  deriving DecidableEq, Repr

/-- The kinds of foreground operation (R515). -/
inductive NvmKind where
  /-- NVM_RECORD_STORE: record, whether it deletes, body. -/
  | record (id : Nat) (deleted : Bool) (body : List Byte)
  /-- NVM_RAW_WRITE: page of the user raw area, its words in order. -/
  | raw (page : Nat) (words : List (Nat × List Byte))
  /-- RAY_MODEL_STORE. -/
  | model
  /-- DSP_PROFILE_STORE: the panel-profile blob. -/
  | profile (blob : List Byte)
  deriving DecidableEq, Repr

/-- A foreground operation of the store unit. -/
structure NvmOp where
  /-- Its kind. [see NvmKind; R515; none] -/
  kind : NvmKind
  /-- Ticket of its packet. [number; R515; none] -/
  ticket : Nat
  /-- Its first program has begun. [1 bit; R70; 0] -/
  begun : Bool := false
  /-- Frame written. [8 bits; R503; 0] -/
  frame : Nat := 0
  /-- Slot or copy written. [1 bit; R503; 0] -/
  slot : Nat := 0
  /-- seq written. [32 bits; R503; 0] -/
  seq : Word := 0
  /-- Every page program it makes, in order, once it has begun. [list; R500; empty] -/
  pages : List (Nat × List (Nat × List Byte)) := []
  /-- Page programs verified. [counter; R515; 0] -/
  done : Nat := 0
  /-- A page failed its verify three times: word 0 of the slot is being cleared. [1 bit; R504; 0] -/
  broken : Bool := false
  deriving DecidableEq, Repr

/-- A refresh of a weak page (R517, R518). -/
structure Refresh where
  /-- The weak page. [14 bits; R516; none] -/
  page : Nat
  /-- Cause: 0 corrected at normal read, 1 margin read, 2 REFRESH_ALL. [2 bits; R527; none] -/
  cause : Nat
  /-- Its page programs, in order. [list; R517; none] -/
  pages : List (Nat × List (Nat × List Byte))
  /-- Page programs verified. [counter; R517; 0] -/
  done : Nat := 0
  deriving DecidableEq, Repr

/-- The run record 0x121 as it is held in memory (R512). -/
structure RunRecord where
  /-- run_state. [8 bits; R512; 0x52] -/
  state : Nat := 0x52
  /-- save_cause. [8 bits; R512; 0xFF] -/
  cause : Nat := 0xFF
  /-- dawns. [32 bits; R512; 0] -/
  dawns : Nat := 0
  /-- power_fail_saves. [32 bits; R512; 0] -/
  powerFails : Nat := 0
  /-- brownouts. [32 bits; R512; 0] -/
  brownouts : Nat := 0
  /-- dusk_entries. [32 bits; R512; 0] -/
  dusks : Nat := 0
  /-- thermal_shutdowns. [32 bits; R512; 0] -/
  shutdowns : Nat := 0
  /-- on_seconds before this run. [32 bits; R512; 0] -/
  onBase : Nat := 0
  deriving DecidableEq, Repr

/-- The non-volatile store and its unit in island 127. -/
structure NvmState where
  /-- Stored data bytes of pages 1022 to 16383; a byte never programmed reads 0. [1 MiB; R496; zero bytes] -/
  mem : Mem := []
  /-- Words that read uncorrectable: page x 8 + word. [set; R496; none] -/
  bad : List Nat := []
  /-- Words that need correction at a read: page x 8 + word. [set; R516; none] -/
  soft : List Nat := []
  /-- Foreground operations in the order in which they started. [list; R515; empty] -/
  ops : List NvmOp := []
  /-- Refreshes in order. [list; R516; empty] -/
  refreshes : List Refresh := []
  /-- The page program in flight. [one; R515; none] -/
  flight : Option PageProg := none
  /-- The unit stands still: supplies failing, Dusk, or reset. [1 bit; R511; 1] -/
  halted : Bool := true
  /-- SCAN: 0 immediate mode, 1 scan in progress, 2 scan done. [2 bits; R526; 0] -/
  scan : Nat := 0
  /-- MT of the start of the full scan, ns. [timer; R525; 0] -/
  scanNs : Nat := 0
  /-- DIR_READY. [1 bit; R526; 0] -/
  dirReady : Bool := false
  /-- VOLATILE_LOADED. [1 bit; R526; 0] -/
  loaded : Bool := false
  /-- Frames whose records have been resolved since Dawn. [256 bits; R514; none] -/
  resolved : List Nat := []
  /-- Record 0x120 as held in memory, none when no record exists. [112 bytes; R405; none] -/
  head : Option (List Byte) := none
  /-- Record 0x121 as held in memory. [see RunRecord; R512; as its fields] -/
  run : RunRecord := {}
  /-- MT at which the present run outside Dusk began, ns. [timer; R512; 0] -/
  runSince : Nat := 0
  /-- HEAD_STALE. [1 bit; R513; 0] -/
  headStale : Bool := false
  /-- JOURNAL_REPLAYED. [1 bit; R518; 0] -/
  replayed : Bool := false
  /-- Records that have fallen back to their other slot. [set of IDs; R519; none] -/
  fallback : List Nat := []
  /-- FALLBACK of the status word. [1 bit; R526; 0] -/
  fellBack : Bool := false
  /-- AMBIGUOUS. [1 bit; R526; 0] -/
  ambiguous : Bool := false
  /-- UNCORRECTABLE. [1 bit; R526; 0] -/
  sawBad : Bool := false
  /-- Frames to be freed at the next store of their record (R502). [list of frames; R502; none] -/
  duplicates : List Nat := []
  /-- pass_hours in force. [10 bits; R520; 24] -/
  passHours : Nat := 24
  /-- Margin step in force. [2 bits; R520; 1] -/
  margin : Nat := 1
  /-- REFRESH_ALL. [1 bit; R520; 0] -/
  refreshAll : Bool := false
  /-- NO_TEMP. [1 bit; R520; 0] -/
  noTemp : Bool := false
  /-- Next page of the margin-read pass. [14 bits; R516; 0] -/
  nextPage : Nat := 0
  /-- MT of the last margin read, ns. [timer; R516; 0] -/
  marginNs : Nat := 0
  /-- Pages margin-read. [32 bits; R525; 0] -/
  nMargin : Word := 0
  /-- Pages refreshed. [32 bits; R525; 0] -/
  nRefreshed : Word := 0
  /-- Words corrected. [32 bits; R525; 0] -/
  nCorrected : Word := 0
  /-- Words uncorrectable. [32 bits; R525; 0] -/
  nBad : Word := 0
  /-- Margin-read passes completed. [32 bits; R525; 0] -/
  nPasses : Word := 0
  /-- Page programs. [32 bits; R525; 0] -/
  nPrograms : Word := 0
  /-- Record stores completed. [32 bits; R525; 0] -/
  nStores : Word := 0
  /-- Duration of the last power-loss save, us. [32 bits; R525; 0] -/
  saveUs : Word := 0
  /-- Duration of the last full scan, us. [32 bits; R525; 0] -/
  scanUs : Word := 0
  deriving DecidableEq, Repr

/-- What the sequencer knows of one temperature sensor (R528 to R533). -/
structure Sensor where
  /-- Last reading, 1/16 degree C. [signed 16 bits; R528; 0] -/
  reading : Int := 0
  /-- Reading of the previous cycle, none before the first. [signed; R532; none] -/
  previous : Option Int := none
  /-- CAUSE: 0 while it is not broken. [2 bits; R555; 0] -/
  cause : Nat := 0
  /-- ABSENT. [1 bit; R555; 0] -/
  absent : Bool := false
  /-- TRIP_MASKED. [1 bit; R555; 0] -/
  masked : Bool := false
  /-- The comparator's last reading, 1/16 degree C. [signed; R538; 0] -/
  comparator : Int := 0
  /-- The panel-power die, which samples it, had not answered by command-ready. [1 bit; R628; 0] -/
  silent : Bool := false
  deriving DecidableEq, Repr

/-- A calibration item (R548, R558). -/
structure CalItem where
  /-- IN_USE. [1 bit; R558; 1] -/
  inUse : Bool := true
  /-- DUE. [1 bit; R558; 0] -/
  due : Bool := false
  /-- DEFERRED. [1 bit; R558; 0] -/
  deferred : Bool := false
  /-- RUNS. [16 bits; R558; 0] -/
  runs : Nat := 0
  /-- RESULT. [2 bits; R558; 0] -/
  result : Nat := 0
  /-- UNTRACED. [1 bit; R558; 0] -/
  untraced : Bool := false
  /-- FREQ_UNTRACED. [1 bit; R558; 0] -/
  freqUntraced : Bool := false
  /-- MT of the last run, ns. [timer; R554; none] -/
  lastNs : Option Nat := none
  /-- Trigger temperatures: the compute die (or the item's one domain) and, for item 0, the panel-power die,
  1/16 degree C. [2 values; R549; none] -/
  trigger : List (Option Int) := [none, none]
  /-- Trims as last applied. [list; R548; empty] -/
  trims : List Int := []
  /-- Trims of a run that take effect at their point of R548. [list; R548; none] -/
  waiting : Option (List Int) := none
  deriving DecidableEq, Repr

/-- The ladder of P_lim (R540). -/
inductive Ladder where
  | steady | falling | holding | rising
  deriving DecidableEq, Repr

/-- A step of R541 that is outstanding. -/
inductive PowerStep where
  /-- Step 1. -/
  | blit
  /-- Steps 2 and 3: quadrants whose ray cores were lowered. -/
  | ray (quadrants : List Nat)
  /-- Steps 4 and 5: quadrants whose codec cores were lowered. -/
  | codec (quadrants : List Nat)
  /-- Step 6: cores gated. -/
  | gate (cores : List Nat)
  deriving DecidableEq, Repr

/-- Temperatures, power limits and calibration. -/
structure ThmState where
  /-- TS0 to TS39. [40 sensors; R528; as Sensor] -/
  sensors : List Sensor := List.replicate 40 {}
  /-- Temperatures of domains 0 to 4, 1/16 degree C. [5 values; R530; 0] -/
  domTemp : List Int := List.replicate 5 0
  /-- States that domains 0 to 4 hold: bit 0 WARNING, 1 THROTTLE, 2 SHUTDOWN. [5 x 3 bits; R535; none] -/
  domHeld : List Nat := List.replicate 5 0
  /-- The panel temperature T16, 1/16 degree C. [signed; R530; 0] -/
  t16 : Int := 0
  /-- WARNING threshold, degrees C. [7 bits; R535; 100] -/
  warnAt : Nat := 100
  /-- WARNING hysteresis, degrees C. [4 bits; R535; 4] -/
  warnHyst : Nat := 4
  /-- THROTTLE threshold, degrees C. [7 bits; R535; 105] -/
  thrAt : Nat := 105
  /-- THROTTLE hysteresis, degrees C. [4 bits; R535; 4] -/
  thrHyst : Nat := 4
  /-- P_lim in 0.1 W. [9 bits; R540; 300] -/
  limit : Nat := 300
  /-- LADDER. [2 bits; R557; at 30.0 W] -/
  ladder : Ladder := .steady
  /-- MT from which the next ladder step is counted, ns. [timer; R540; 0] -/
  ladderNs : Nat := 0
  /-- P_est, mW. [32 bits; R541; 0] -/
  pEst : Nat := 0
  /-- Steps of R541 outstanding with their estimated costs in mW, last one first. [list; R541; empty] -/
  steps : List (PowerStep × Nat) := []
  /-- LIMIT_UNMET. [1 bit; R543; 0] -/
  unmet : Bool := false
  /-- Ray-core clock of NW, NE, SW, SE, MHz. [4 values; R541; 3000] -/
  rayMhz : List Nat := List.replicate 4 3000
  /-- Codec-core clock of NW, NE, SW, SE, MHz. [4 values; R541; 1600] -/
  codecMhz : List Nat := List.replicate 4 1600
  /-- Blit-engine clock, MHz. [1 value; R541; 1200] -/
  blitMhz : Nat := 1200
  /-- ray_cap in 0.25 GHz. [4 x 8 bits; R544; 12] -/
  rayCap : List Nat := List.replicate 4 12
  /-- codec_cap in 0.2 GHz. [4 x 8 bits; R544; 8] -/
  codecCap : List Nat := List.replicate 4 8
  /-- Ray cores chosen for gating: they receive no new tile. [96 bits; R542; none] -/
  gated : List Nat := []
  /-- Episodes of falling limit. [32 bits; R554; 0] -/
  episodes : Word := 0
  /-- Time spent at 8.0 W, ns. [counter; R554; 0] -/
  floorNs : Nat := 0
  /-- MT at which the limit last came to 8.0 W, ns. [timer; R554; none] -/
  floorSince : Option Nat := none
  /-- t0 of the orderly shutdown in progress, MT ns. [timer; R545; none] -/
  shutdown : Option Nat := none
  /-- Steps of the orderly shutdown done: 1 work stopped, 2 sealed, 3 saved, 4 panel dark. [3 bits; R545; 0] -/
  shutStep : Nat := 0
  /-- A domain entered SHUTDOWN during the power-loss sequence. [1 bit; R547; 0] -/
  shutAfterLoss : Bool := false
  /-- Dusk was entered by the orderly shutdown: its wake is held under R546. [1 bit; R546; 0] -/
  duskByShutdown : Bool := false
  /-- Calibration items 0 to 3. [4 items; R548; as CalItem] -/
  items : List CalItem := List.replicate 4 {}
  /-- Item that runs. [2 bits; R549; none] -/
  running : Option Nat := none
  /-- MT at which it started, ns. [timer; R548; 0] -/
  runSince : Nat := 0
  /-- dT_cal, degrees C. [5 bits; R549; 5] -/
  dtCal : Nat := 5
  /-- MANUAL. [1 bit; R553; 0] -/
  manual : Bool := false
  /-- THM_CAL_RUN that awaits its outcome: ticket, items named, items still to run, what data1 holds so far.
  [one; R552; none] -/
  calRun : Option (Nat × Nat × Nat × Nat) := none
  /-- VREF_CAL at the last run of item 0, uV. [32 bits; R554; 0] -/
  vrefUv : Nat := 0
  /-- XIN offset, ppb. [s31; R554; 0] -/
  xinPpb : Int := 0
  deriving DecidableEq, Repr

/-- What the window constants of R245 are made from. -/
structure SynthIn where
  /-- Pool slot of the scene picture. [3 bits; R245; none] -/
  slot : Nat
  /-- Its au_number. [32 bits; R218; none] -/
  au : Word
  /-- Its stream context. [2 bits; R400; none] -/
  ctx : Nat
  /-- Its parameter set. [one; R245; none] -/
  params : ParamSet
  /-- concealed_views of its header. [16 bits; R245; none] -/
  concealed : Nat
  /-- d_min. [12 bits; R245; none] -/
  dMin : Nat
  /-- d_max. [12 bits; R245; none] -/
  dMax : Nat
  /-- hist_count. [32 bits; R245; none] -/
  histCount : Nat
  /-- Matrix in force. [8 bits; R168; none] -/
  matrix : Nat
  /-- Range in force. [8 bits; R168; none] -/
  range : Nat
  /-- The blob. [bytes; R183; none] -/
  blob : List Byte
  /-- dT16. [s15; R183; none] -/
  dt16 : Int
  /-- The nine knots. [9 x 12 bits; R232; none] -/
  curve : List Nat
  /-- The rung. [3 bits; R213; none] -/
  rung : Nat
  /-- The channel map. [6 bits; R252; none] -/
  chanMap : Nat
  deriving DecidableEq, Repr

/-- The states of a ray tile: one of R218, or not yet in a context (R217). -/
inductive TileState where
  | unqueued | queued | fetching | running | committed
  deriving DecidableEq, Repr

/-- A ray tile with what its context holds (R218). -/
structure Tile where
  /-- kind: a witness tile. [1 bit; R218; none] -/
  witness : Bool
  /-- tile_x. [16 bits; R218; none] -/
  tx : Nat
  /-- tile_y. [16 bits; R218; none] -/
  ty : Nat
  /-- Band whose tile it is; for a witness tile the cluster its DFN names. [2 bits; R215; none] -/
  band : Nat
  /-- Position in its band's order; for a witness tile its index. [16 bits; R215; none] -/
  pos : Nat
  /-- home. [2 bits; R218; none] -/
  home : Nat
  /-- Cluster in whose queue it stands: the home, or the thief. [2 bits; R224; none] -/
  cluster : Nat
  /-- state. [3 bits; R218; none] -/
  state : TileState := .unqueued
  /-- core. [8 bits; R218; 0xFF] -/
  core : Nat := 0xFF
  /-- deadline. [32 bits; R218; none] -/
  deadline : Word
  /-- DEGRADED under R238: it writes the rung-0 result. [1 bit; R238; 0] -/
  rungZero : Bool := false
  /-- DEGRADED under R255. [1 bit; R255; 0] -/
  allConcealed : Bool := false
  /-- REISSUED. [1 bit; R218; 0] -/
  reissued : Bool := false
  /-- STOLEN. [1 bit; R218; 0] -/
  stolen : Bool := false
  /-- CONCEALED_USED. [1 bit; R218; 0] -/
  concealedUsed : Bool := false
  /-- lines. [6 bits; R218; none] -/
  lines : Nat
  /-- pixels. [7 bits; R218; none] -/
  pixels : Nat
  /-- view_mask. [16 bits; R218; 0] -/
  viewMask : Nat := 0
  /-- reissues. [16 bits; R218; 0] -/
  reissues : Nat := 0
  /-- est_cycles. [32 bits; R218; none] -/
  est : Nat
  /-- cycles. [32 bits; R218; 0] -/
  cycles : Nat := 0
  /-- t_start. [32 bits; R218; 0] -/
  tStart : Word := 0
  /-- t_end. [32 bits; R218; 0] -/
  tEnd : Word := 0
  /-- MT at which it began to wait for a context, ns. [timer; R217; none] -/
  since : Nat := 0
  /-- It takes the next context freed in its cluster, from either share. [1 bit; R217; 0] -/
  promoted : Bool := false
  deriving DecidableEq, Repr

/-- A synthesis window that has started synthesis and is not complete (R28, R219). -/
structure Window where
  /-- Window sequence number. [32 bits; R218; none] -/
  seq : Word
  /-- What its constants are made from. [see SynthIn; R245; none] -/
  inp : SynthIn
  /-- t_o, MT ns. [timer; R219; none] -/
  opened : Nat
  /-- The target, MT ns. [timer; R219; none] -/
  target : Nat
  /-- Woven-frame buffer written. [2 bits; R34; none] -/
  buffer : Nat
  /-- Its tiles in the order of their tile index. [list; R214; none] -/
  tiles : List Tile
  /-- It re-synthesises under R29. [1 bit; R29; none] -/
  resynth : Bool
  /-- A refresh has counted as a missed flip for it. [1 bit; R32; 0] -/
  missed : Bool := false
  /-- The scene picture last synthesised before it, context and au_number. [one; R37; none] -/
  before : Option (Nat × Word)
  /-- Whether a re-synthesis of R29 was due before it. [1 bit; R37; none] -/
  changedBefore : Bool
  /-- DRIFT_HELD at its opening. [1 bit; R241; 0] -/
  driftHeld : Bool := false
  /-- CURVE_FIXED at its opening. [1 bit; R241; 0] -/
  curveFixed : Bool := false
  /-- RUNG_FIXED at its opening. [1 bit; R241; 0] -/
  rungFixed : Bool := false
  deriving DecidableEq, Repr

/-- A complete woven frame (R30). -/
structure Woven where
  /-- Sequence number of its window. [32 bits; R218; 0] -/
  seq : Word := 0
  /-- MT at its completion, 2^-32 ns. [timer; R30; 0] -/
  doneMt : Nat := 0
  /-- What its window's constants were made from. [see SynthIn; R246; none] -/
  inp : SynthIn
  /-- Its buffer. [2 bits; R34; none] -/
  buffer : Nat
  /-- It has DEGRADED tiles. [1 bit; R401; none] -/
  degraded : Bool
  /-- The scene picture last synthesised before its window. [one; R37; none] -/
  before : Option (Nat × Word)
  /-- Whether a re-synthesis of R29 was due before its window. [1 bit; R37; none] -/
  changedBefore : Bool
  deriving DecidableEq, Repr

/-- The witness tiles of one DFN (R221). -/
structure WitFrame where
  /-- Sequence number of the window that synthesised the frame presented at it. [32 bits; R218; 0] -/
  seq : Word := 0
  /-- The DFN. [64 bits; R221; none] -/
  dfn : DWord
  /-- Scene picture, rung and constants of the woven frame presented at it. [see SynthIn; R221; none] -/
  inp : SynthIn
  /-- Its tiles in order. [list; R221; none] -/
  tiles : List Tile
  deriving DecidableEq, Repr

/-- What RAY_STATUS reports of the last window (R240, R241). -/
structure LastWindow where
  /-- au_number of its scene picture. [32 bits; R240; 0] -/
  au : Word := 0
  /-- concealed_views. [16 bits; R241; 0] -/
  concealed : Nat := 0
  /-- Time from t_o to completion, us. [32 bits; R240; 0] -/
  us : Nat := 0
  /-- Budget B, us. [32 bits, signed; R240; 0] -/
  budgetUs : Int := 0
  /-- RESYNTH. [1 bit; R241; 0] -/
  resynth : Bool := false
  /-- LATE. [1 bit; R241; 0] -/
  late : Bool := false
  /-- REISSUED. [1 bit; R241; 0] -/
  reissued : Bool := false
  /-- DEGRADED. [1 bit; R241; 0] -/
  degraded : Bool := false
  /-- DRIFT_CLAMPED. [1 bit; R241; 0] -/
  clamped : Bool := false
  /-- DRIFT_HELD. [1 bit; R241; 0] -/
  driftHeld : Bool := false
  /-- CURVE_FIXED. [1 bit; R241; 0] -/
  curveFixed : Bool := false
  /-- RUNG_FIXED. [1 bit; R241; 0] -/
  rungFixed : Bool := false
  /-- RUNG. [3 bits; R241; 4] -/
  rung : Nat := 4
  /-- Bytes 4 to 7 of each tile's context, and its cycles. [list; R240; empty] -/
  tiles : List (Nat × Nat) := []
  /-- Tiles run by each cluster. [4 x 32 bits; R240; 0] -/
  ran : List Nat := [0, 0, 0, 0]
  /-- Core-cycles of each cluster. [4 counters; R240; 0] -/
  cycles : List Nat := [0, 0, 0, 0]
  deriving DecidableEq, Repr

/-- A block of a view cache (R210). -/
structure CacheBlock where
  /-- Pool slot. [3 bits; R210; none] -/
  slot : Nat
  /-- View. [4 bits; R210; none] -/
  view : Nat
  /-- Block column. [8 bits; R210; none] -/
  bx : Nat
  /-- Block row. [10 bits; R210; none] -/
  by_ : Nat
  deriving DecidableEq, Repr

/-- A filled block of a view cache (R210). -/
structure CacheEntry where
  /-- Its tag. [one; R210; none] -/
  block : CacheBlock
  /-- It lies in the share of the witness tiles. [1 bit; R211; none] -/
  witness : Bool
  /-- Its 64 pixels, line by line: red, green, blue and the depth code from the lowest bit up. [64 x 6 bytes; R210; none] -/
  px : List Nat
  deriving DecidableEq, Repr

/-- A fill request that waits for a block (R211). -/
structure Fill where
  /-- The block wanted. [one; R211; none] -/
  block : CacheBlock
  /-- It comes from a witness tile. [1 bit; R211; none] -/
  witness : Bool
  /-- MT at which it began to wait, ns. [timer; R211; none] -/
  since : Nat
  /-- It goes ahead of every younger request and may take either share. [1 bit; R211; 0] -/
  promoted : Bool := false
  deriving DecidableEq, Repr

/-- The view cache of a cluster fabric (R210, R211). -/
structure ViewCache where
  /-- Blocks held, oldest first. [8 MiB; R210; empty] -/
  blocks : List CacheEntry := []
  /-- Fill requests waiting, oldest first. [list; R211; empty] -/
  fills : List Fill := []
  deriving DecidableEq, Repr

/-- A RAY_MODEL_LOAD in progress, or the load of Dawn (R200, R202). -/
structure ModelLoad where
  /-- Ticket of the packet, none for the load of Dawn. [number; R202; none] -/
  ticket : Option Nat
  /-- The blob copied. [bytes; R200; none] -/
  blob : List Byte
  /-- The checks have ended and the blob has passed. [1 bit; R200; 0] -/
  checked : Bool := false
  deriving DecidableEq, Repr

/-- The ray engine and its two managers. -/
structure RayState where
  /-- The active blob. [bytes; R200; none] -/
  active : Option (List Byte) := none
  /-- A blob has been active since Dawn. [1 bit; R295; 0] -/
  everActive : Bool := false
  /-- The load in progress. [one; R200; none] -/
  load : Option ModelLoad := none
  /-- dT16 in force. [s15; R192; 0] -/
  dt16 : Int := 0
  /-- dT16 from the next window opening on. [s15; R183; 0] -/
  dt16Next : Int := 0
  /-- DRIFT_HELD. [1 bit; R193; 0] -/
  driftHeld : Bool := false
  /-- The rung in force. [3 bits; R213; 4] -/
  rung : Nat := 4
  /-- Rung that takes effect at the next opening, with the reason of R242. [one; R213; none] -/
  nextRung : Option (Nat × Nat) := none
  /-- RAY_RELEASE has ended a fixed rung and no window has started synthesis since. [1 bit; R231; 0] -/
  released : Bool := false
  /-- Windows counted towards a step up. [counter; R230; 0] -/
  goodWindows : Nat := 0
  /-- The rung of the last window that ran. [3 bits; R227; none] -/
  lastRung : Option Nat := none
  /-- For each rung, the sums of cycles / rays and the number of tiles of its last 8 windows, newest first, each sum as
  numerator and denominator. [5 lists; R227; empty] -/
  measured : List (List (Nat × Nat × Nat)) := List.replicate 5 []
  /-- The depth remap curve in force. [9 x 12 bits; R232; identity] -/
  curve : List Nat := [0, 512, 1024, 1536, 2048, 2560, 3072, 3584, 4095]
  /-- A host's curve that takes effect at the next opening. [9 x 12 bits; R234; none] -/
  nextCurve : Option (List Nat) := none
  /-- gn of the last computation. [16 bits; R240; 32768, log 5] -/
  gn : Nat := 32768
  /-- gf of the last computation. [16 bits; R240; 32768, log 5] -/
  gf : Nat := 32768
  /-- The last curve that DEPTH_BUDGET_CHANGED reported. [9 x 12 bits; R242; identity, log 5] -/
  reported : List Nat := [0, 512, 1024, 1536, 2048, 2560, 3072, 3584, 4095]
  /-- MT at which it was last raised, ns. [timer; R242; none] -/
  reportedNs : Option Nat := none
  /-- Cores withheld by RAY_CORE_MASK, in force. [96 bits; R239; 0] -/
  mask : Nat := 0
  /-- The mask that takes effect at the next opening. [96 bits; R239; none] -/
  nextMask : Option Nat := none
  /-- A frame-start event has come since the last opening. [1 bit; R28; 0] -/
  armed : Bool := false
  /-- The window in progress. [one; R28; none] -/
  window : Option Window := none
  /-- Sequence number of the next window. [32 bits; R218; 0, log 5] -/
  nextSeq : Word := 0
  /-- The scene picture last synthesised, context and au_number. [one; R29; none] -/
  lastSynth : Option (Nat × Word) := none
  /-- The ray model, the rung or a depth-budget parameter has changed since. [1 bit; R29; 0] -/
  changed : Bool := false
  /-- The complete woven frame that awaits its flip. [one; R34; none] -/
  complete : Option Woven := none
  /-- The woven frame presented last under the current timing. [one; R31; none] -/
  presented : Option Woven := none
  /-- Pool slot of the picture of the woven frame presented last, under whatever timing. [3 bits; R37; none] -/
  shownSlot : Option Nat := none
  /-- Woven-frame buffer that a window took last. [2 bits; R34; 2, log 5] -/
  lastBuffer : Nat := 2
  /-- Witness tiles of the DFNs in rendering, oldest first. [list; R221; empty] -/
  witFrames : List WitFrame := []
  /-- View caches of clusters 0 to 3. [4 x 8 MiB; R210; empty] -/
  caches : List ViewCache := List.replicate 4 {}
  /-- What the last window reports. [see LastWindow; R240; as its fields] -/
  last : LastWindow := {}
  /-- MT of the last re-prediction, ns. [timer; R229; 0] -/
  predictNs : Nat := 0
  /-- Predicted T of the next window at the rung in force, us. [32 bits; R240; 0] -/
  predictedUs : Nat := 0
  /-- Refreshes counted as missed flips. [32 bits; R240; 0] -/
  nMissed : Word := 0
  /-- Refreshes repeated without a miss. [32 bits; R240; 0] -/
  nRepeats : Word := 0
  /-- Rung steps down. [32 bits; R240; 0] -/
  nDown : Word := 0
  /-- Rung steps up. [32 bits; R240; 0] -/
  nUp : Word := 0
  /-- Tiles re-issued. [32 bits; R240; 0] -/
  nReissued : Word := 0
  /-- Tiles marked DEGRADED. [32 bits; R240; 0] -/
  nDegraded : Word := 0
  /-- Tiles stolen. [32 bits; R240; 0] -/
  nStolen : Word := 0
  /-- View mask of the tile that each core ran last. [96 x 16 bits; R225; 0] -/
  lastViews : List Nat := List.replicate 96 0
  deriving DecidableEq, Repr

/-- A display timing with its panel parameters: bytes 16 to 39 of DSP_TIMING_SET (R293). -/
structure Timing where
  /-- hactive. [14 bits; R293; none] -/
  hactive : Nat
  /-- vactive. [14 bits; R293; none] -/
  vactive : Nat
  /-- hblank. [13 bits; R293; none] -/
  hblank : Nat
  /-- vblank. [13 bits; R293; none] -/
  vblank : Nat
  /-- Base refresh rate, mHz. [18 bits; R293; none] -/
  refresh : Nat
  /-- parallax. [1 bit; R293; none] -/
  parallax : Nat
  /-- chan_map. [6 bits; R293; none] -/
  chanMap : Nat
  /-- blank_level. [10 bits; R293; none] -/
  blank : Nat
  /-- nb. [12 bits; R293; none] -/
  nb : Nat
  /-- fb. [12 bits; R293; none] -/
  fb : Nat
  deriving DecidableEq, Repr

/-- A lock source with its flags (R303). -/
structure LockSet where
  /-- Source: 0 FREE, 1 EXTERNAL, 2 SCHEDULED. [2 bits; R303; 0] -/
  source : Nat := 0
  /-- SYNC_FALLING. [1 bit; R303; 0] -/
  falling : Bool := false
  /-- SYNC_OUT_EN. [1 bit; R303; 0] -/
  syncOut : Bool := false
  /-- T0 on NT, 2^-32 ns. [80 bits; R303; 0] -/
  t0 : Nat := 0
  deriving DecidableEq, Repr

/-- STATE of the lock word (R325). -/
inductive LockState where
  | noTiming | acquiring | locked | holdover | free
  deriving DecidableEq, Repr

/-- What a slot of the raster carries (R341). -/
inductive SlotBlock where
  | lineStart | lineRepeat | config | latch | discharge
  deriving DecidableEq, Repr

/-- A line buffer of scan-out and its watermarks (R314). -/
structure LineBuf where
  /-- Urgent. [1 bit; R314; 0] -/
  urgent : Bool := false
  /-- Critical. [1 bit; R314; 0] -/
  critical : Bool := false
  deriving DecidableEq, Repr

/-- Island 121: display timing, lock, Still mode and scan-out. -/
structure DspState where
  /-- The timing in force. [one; R293; none] -/
  timing : Option Timing := none
  /-- A DSP_TIMING_SET that has committed and waits for its first frame-start event, with its ticket. [one; R294; none] -/
  timingNext : Option (Timing × Option Nat) := none
  /-- Ticket of a DSP_TIMING_SET in force whose outcome is due at the next frame-start event. [one; R294; none] -/
  timingDue : Option Nat := none
  /-- A DSP_TIMING_SET has committed since Dawn. [1 bit; R300; 0] -/
  timingByHost : Bool := false
  /-- The selected lock source. [see LockSet; R303; FREE] -/
  lock : LockSet := {}
  /-- STATE. [3 bits; R325; NO_TIMING] -/
  lockState : LockState := .noTiming
  /-- A DSP_LOCK that awaits its outcome: ticket, the source before it, MT of its timeout, ns. [one; R303; none] -/
  lockWait : Option (Nat × LockSet × Nat) := none
  /-- The source is acquired and waits for the first event that it places. [1 bit; R306; 0] -/
  acquired : Bool := false
  /-- Edges in a row within 500 ppm of the nominal period. [counter; R306; 0] -/
  goodEdges : Nat := 0
  /-- MT of the last SYNC_IN edge or scheduled instant, 2^-32 ns. [timer; R305, R308; none] -/
  lastEdge : Option Nat := none
  /-- Predicted MT of the next edge or instant of the base grid, 2^-32 ns. [timer; R305; none] -/
  nextGrid : Option Nat := none
  /-- The measured period, 2^-32 ns. [timer; R305; 0] -/
  period : Nat := 0
  /-- The last measured periods, newest first, at most 16, 2^-32 ns. [16 values; R308; empty] -/
  periods : List Nat := []
  /-- The period of holdover: the mean of the measured periods when the source was lost, 2^-32 ns. [timer; R308; 0] -/
  holdPeriod : Nat := 0
  /-- Missed edges in a row. [2 bits; R305; 0] -/
  missedRow : Nat := 0
  /-- Index k of the next scheduled instant. [64 bits; R304; 0] -/
  instant : Nat := 0
  /-- Holdover duration, s. [10 bits; R310; 10] -/
  holdSecs : Nat := 10
  /-- MT at which holdover ends, ns. [timer; R308; none] -/
  holdUntil : Option Nat := none
  /-- The alignment offset in force, pixel clocks. [32 bits; R313; 0] -/
  offset : Nat := 0
  /-- An offset that takes effect at the next frame-start event. [32 bits; R312; none] -/
  offsetNext : Option Nat := none
  /-- Still mode enabled. [1 bit; R317; 0] -/
  still : Bool := false
  /-- Lowest rate: 0 for 30 Hz, 1 for 10 Hz, 2 for 1 Hz. [2 bits; R317; 2] -/
  lowest : Nat := 2
  /-- STILL_RATE: 0 base, 1 30 Hz, 2 10 Hz, 3 1 Hz. [2 bits; R325; 0] -/
  rate : Nat := 0
  /-- A rate that takes effect at the next frame-start event. [2 bits; R319; none] -/
  rateNext : Option Nat := none
  /-- MT since which refreshes at this rate have carried no new woven frame, ns. [timer; R319; 0] -/
  stillSince : Nat := 0
  /-- Base-grid instants passed since the last frame-start event. [counter; R318; 0] -/
  gridCount : Nat := 0
  /-- Something of R320 asks for the base rate. [1 bit; R320; 0] -/
  wantBase : Bool := false
  /-- DFN. [64 bits; R322; 0] -/
  dfn : DWord := 0
  /-- PSN. [64 bits; R322; 0] -/
  psn : DWord := 0
  /-- The time-stamp of the last frame-start event: NT, DT, ET, MT in 2^-32 ns. [4 x 112 bits; R323; 0] -/
  stamp : List Nat := [0, 0, 0, 0]
  /-- MT of the last frame-start event, 2^-32 ns. [timer; R291; none] -/
  frameMt : Option Nat := none
  /-- The refresh in progress repeats the frame of the one before. [1 bit; R401; 0] -/
  repeated : Bool := false
  /-- The refresh in progress counted as a missed flip. [1 bit; R401; 0] -/
  missedNow : Bool := false
  /-- A woven frame has been presented under the current timing. [1 bit; R295; 0] -/
  shown : Bool := false
  /-- The next slot of the refresh in progress; negative before active line 0. [14 bits; R341; 0] -/
  slot : Int := 0
  /-- What the last slot carried. [3 bits; R341; LATCH, log 5] -/
  block : SlotBlock := .latch
  /-- The last line of subpixels sent. [3 x 15360 x 10 bits; R342; empty] -/
  line : List Nat := []
  /-- Frames started under SYNC_OUT: pulses given. [counter; R307; 0] -/
  syncPulses : Nat := 0
  /-- Phase error at the last accepted edge, ps. [s31; R324; 0] -/
  phasePs : Int := 0
  /-- Missed edges. [32 bits; R324; 0] -/
  nMissedEdges : Word := 0
  /-- Spurious edges. [32 bits; R324; 0] -/
  nSpurious : Word := 0
  /-- Woven underflow lines. [32 bits; R324; 0] -/
  nWoven : Word := 0
  /-- Layer underflow lines. [32 bits; R324; 0] -/
  nLayer : Word := 0
  /-- Lowest woven reserve since the last read, ns. [32 bits; R324; 0xFFFFFFFF, log 17] -/
  minWoven : Nat := 0xFFFFFFFF
  /-- Lowest layer reserve since the last read, ns. [32 bits; R324; 0xFFFFFFFF, log 17] -/
  minLayer : Nat := 0xFFFFFFFF
  /-- Urgent escalations. [32 bits; R324; 0] -/
  nUrgent : Word := 0
  /-- Critical escalations. [32 bits; R324; 0] -/
  nCritical : Word := 0
  /-- The woven-frame line buffer. [16 lines; R314; as LineBuf] -/
  wovenBuf : LineBuf := {}
  /-- The layer line buffers. [8 buffers; R314; as LineBuf] -/
  layerBufs : List LineBuf := List.replicate 8 {}
  deriving DecidableEq, Repr

/-- The panel states of R326. -/
inductive PanelMode where
  | off | rampingUp | railsUp | training | driving | discharging | fault
  deriving DecidableEq, Repr

/-- Rail settings (R330). -/
structure RailSet where
  /-- avdd_mv. [16 bits; R330; none] -/
  avdd : Nat
  /-- navdd_mv. [16 bits; R330; none] -/
  navdd : Nat
  /-- vgh_mv. [16 bits; R330; none] -/
  vgh : Nat
  /-- vgl_mv. [16 bits; R330; none] -/
  vgl : Nat
  /-- seq_delay, 0.1 ms. [7 bits; R330; none] -/
  delay : Nat
  deriving DecidableEq, Repr

/-- VCOM codes and flicker trims for the base rate, 30, 10 and 1 Hz (R332). -/
structure VcomSet where
  /-- Codes. [4 x 10 bits; R332; none] -/
  codes : List Nat
  /-- Flicker trims. [4 x s7; R332; none] -/
  flicker : List Int
  deriving DecidableEq, Repr

/-- Gate timing (R354). -/
structure GateSet where
  /-- phases. [4 bits; R354; none] -/
  phases : Nat
  /-- stv_lead. [4 bits; R354; none] -/
  lead : Nat
  /-- stv_width. [4 bits; R354; none] -/
  width : Nat
  /-- stv2_delay. [4 bits; R354; none] -/
  stv2 : Nat
  /-- gck_rise. [s15; R354; none] -/
  rise : Int
  /-- gck_width. [16 bits; R354; none] -/
  gck : Nat
  /-- grst_width. [16 bits; R354; none] -/
  grst : Nat
  /-- grst_line. [4 bits; R354; none] -/
  grstLine : Nat
  deriving DecidableEq, Repr

/-- Link parameters (R344). -/
structure LinkSet where
  /-- nl. [6 bits; R344; none] -/
  lanes : Nat
  /-- tx without PROFILE. [5 bits; R344; none] -/
  tx : Nat
  /-- Lane rate, Mb/s. [13 bits; R344; none] -/
  rate : Nat
  /-- polarity. [48 bits; R344; none] -/
  polarity : Nat
  deriving DecidableEq, Repr

/-- A register image for the column drivers (R351, R297). -/
structure DriverImage where
  /-- First register. [13 bits; R351; none] -/
  first : Nat
  /-- The image. [bytes; R351; none] -/
  bytes : List Byte
  /-- Drivers that receive it. [48 bits; R351; none] -/
  lanes : Nat
  deriving DecidableEq, Repr

/-- A CONFIG packet (R342, R350). -/
structure ConfigPacket where
  /-- First register. [13 bits; R340; none] -/
  first : Nat
  /-- Register values. [bytes; R342; none] -/
  bytes : List Byte
  /-- Drivers that it goes to. [48 bits; R351; none] -/
  lanes : Nat
  /-- COMMIT. [1 bit; R340; none] -/
  commit : Bool
  deriving DecidableEq, Repr

/-- A PNL_GAMMA_LOAD in progress (R352). -/
structure GammaLoad where
  /-- Ticket. [number; R351; none] -/
  ticket : Nat
  /-- The image copied. [one; R352; none] -/
  image : DriverImage
  /-- Data blocks sent. [counter; R350; 0] -/
  sent : Nat := 0
  deriving DecidableEq, Repr

/-- A training of R346 in progress. -/
structure Train where
  /-- Ticket, none for a training that the device runs by itself. [number; R346; none] -/
  ticket : Option Nat
  /-- Step of R346. [3 bits; R346; 1] -/
  step : Nat := 1
  /-- MT at which step 1 began, ns. [timer; R346; none] -/
  since : Nat
  /-- Data blocks of configuration sent in step 3. [counter; R346; 0] -/
  sent : Nat := 0
  /-- Class, unit and INJECTED of the fault that it recovers when fast retrains have failed. [one; R348, R567; none] -/
  heals : Option (Nat × Nat × Bool) := none
  deriving DecidableEq, Repr

/-- A fast retrain in progress (R347). -/
structure Retrain where
  /-- Lanes. [48 bits; R347; none] -/
  lanes : Nat
  /-- Cause: 0 lane fault, 1 LINK_LOCK. [2 bits; R367; none] -/
  cause : Nat
  /-- Slots repeated so far. [counter; R367; 0] -/
  slots : Nat := 0
  /-- MT at which its first part began, ns. [timer; R347; 0] -/
  since : Nat := 0
  /-- Fast retrains in succession that have failed. [2 bits; R348; 0] -/
  fails : Nat := 0
  /-- Fault class that it recovers: 7, or 9 for a stall of island 122. [4 bits; R567; 7] -/
  cls : Nat := 7
  /-- The lane that failed, or island 122. [8 bits; R583; none] -/
  unit : Nat := 0
  /-- It follows from EVT_INJECT. [1 bit; R582; 0] -/
  injected : Bool := false
  deriving DecidableEq, Repr

/-- A discharge in progress (R358). -/
structure Discharge where
  /-- Reason of R359. [3 bits; R359; none] -/
  reason : Nat
  /-- MT of t_s, ns. [timer; R358; none] -/
  since : Nat
  /-- STATE at t_s: what the lanes and the gates show until the first slot start. [3 bits; R358; OFF] -/
  from_ : PanelMode := .off
  /-- MT of its first slot start, ns, once it has come. [timer; R358; none] -/
  start : Option Nat := none
  /-- Timed stages of R358 done. [3 bits; R358; 0] -/
  stage : Nat := 0
  /-- It ends in FAULT. [1 bit; R337; 0] -/
  toFault : Bool := false
  /-- PNL_POWER_OFF packets that await its end. [list of tickets; R360; empty] -/
  tickets : List Nat := []
  deriving DecidableEq, Repr

/-- Panel links, gate timing and rails. -/
structure PnlState where
  /-- STATE. [3 bits; R326; OFF] -/
  mode : PanelMode := .off
  /-- Rail settings in force. [one; R330; none] -/
  rails : Option RailSet := none
  /-- Rail settings that apply in the next blanking slot. [one; R331; none] -/
  railsNext : Option RailSet := none
  /-- VCOM settings in force. [one; R332; none] -/
  vcom : Option VcomSet := none
  /-- VCOM code in force. [10 bits; R329; 0] -/
  vcomCode : Nat := 0
  /-- A VCOM code waits for the next blanking slot. [1 bit; R332; 0] -/
  vcomDue : Bool := false
  /-- The refresh rate whose VCOM code is in force. [2 bits; R333; 0] -/
  vcomRate : Nat := 0
  /-- Gate timing in force. [one; R354; none] -/
  gate : Option GateSet := none
  /-- Gate timing that takes effect at the next frame-start event. [one; R355; none] -/
  gateNext : Option GateSet := none
  /-- Rail of the power-on that comes next: 0 AVDD, 1 NAVDD, 2 VGL, 3 VGH. [2 bits; R336; 0] -/
  rampRail : Nat := 0
  /-- MT of the commit of the power-on, ns. [timer; R336; 0] -/
  rampSince : Nat := 0
  /-- The rail that comes next has started. [1 bit; R336; 0] -/
  rampOn : Bool := false
  /-- MT at which it started, or the rail before it became good, ns. [timer; R336; 0] -/
  rampMark : Nat := 0
  /-- Ticket of the PNL_POWER_ON that awaits its outcome. [one; R336; none] -/
  rampTicket : Option Nat := none
  /-- RAIL_GOOD: AVDD, NAVDD, VGH, VGL. [4 bits; R366; 0] -/
  good : List Bool := List.replicate 4 false
  /-- Bleed switches closed, in the same order; VCOM is bled with AVDD. [4 bits; R326, R358; 1] -/
  bleeds : List Bool := List.replicate 4 true
  /-- RAIL_FAULTED, in the same order. [4 bits; R366; 0] -/
  faulted : List Bool := List.replicate 4 false
  /-- VCOM_ON. [1 bit; R366; 0] -/
  vcomOn : Bool := false
  /-- GALL_ON. [1 bit; R366; 0] -/
  gallOn : Bool := false
  /-- LOCKOUT. [1 bit; R366; 0] -/
  lockout : Bool := false
  /-- LINK_INVALID. [1 bit; R366; 0] -/
  linkInvalid : Bool := false
  /-- GATE_INVALID. [1 bit; R366; 0] -/
  gateInvalid : Bool := false
  /-- UNTRACED. [1 bit; R366; 0] -/
  untraced : Bool := false
  /-- GAMMA_LOADED. [1 bit; R366; 0] -/
  gammaLoaded : Bool := false
  /-- LINK_LOCK level. [1 bit; R366; 0] -/
  linkLock : Bool := false
  /-- PNL_POWER_OFF packets accepted in lockout, which await OFF. [list of tickets; R360, R363; empty] -/
  offTickets : List Nat := []
  /-- MT at which VGH became good in a power-on, ns: the start of a GRST pulse. [timer; R336; none] -/
  grstSince : Option Nat := none
  /-- The timing that waits does not fit the link parameters of its commit. [1 bit; R356; 0] -/
  linkMisfit : Bool := false
  /-- VIN_PNL is at least 9.0 V. [comparator; R335; 1, log 2] -/
  vinOk : Bool := true
  /-- The panel-power die had not answered by command-ready. [1 bit; R628; 0] -/
  silent : Bool := false
  /-- Link parameters in force. [one; R345; none] -/
  link : Option LinkSet := none
  /-- Profile link parameters. [one; R300; none] -/
  profileLink : Option LinkSet := none
  /-- The training in progress. [one; R346; none] -/
  train : Option Train := none
  /-- The fast retrain in progress. [one; R347; none] -/
  retrain : Option Retrain := none
  /-- The discharge in progress. [one; R358; none] -/
  discharge : Option Discharge := none
  /-- Reason of the last discharge. [3 bits; R365; 0] -/
  lastReason : Nat := 0
  /-- State at the warning crossing that R362 restores. [3 bits; R362; none] -/
  restore : Option PanelMode := none
  /-- Images loaded since Dawn, in order. [list; R352; empty] -/
  images : List DriverImage := []
  /-- The gamma load in progress. [one; R351; none] -/
  gamma : Option GammaLoad := none
  /-- Flicker trims wait for a configuration window. [1 bit; R332; 0] -/
  flickerDue : Bool := false
  /-- The last CONFIG packet. [one; R342; none] -/
  config : Option ConfigPacket := none
  /-- Fast retrains. [32 bits; R365; 0] -/
  nRetrains : Word := 0
  /-- Trainings. [32 bits; R365; 0] -/
  nTrainings : Word := 0
  /-- LINK_LOCK low events. [32 bits; R365; 0] -/
  nLockLow : Word := 0
  /-- Slots sent as LINE_REPEAT by a retrain. [32 bits; R365; 0] -/
  nRepeats : Word := 0
  /-- Discharges by the device. [32 bits; R365; 0] -/
  nDischarges : Word := 0
  /-- Discharges completed by the panel-power die. [32 bits; R365; 0] -/
  nByDie : Word := 0
  /-- Device-side faults of each lane. [48 x 32 bits; R365; 0] -/
  laneFaults : List Word := List.replicate 48 0
  /-- Fast retrains of each lane. [48 x 32 bits; R365; 0] -/
  laneRetrains : List Word := List.replicate 48 0
  deriving DecidableEq, Repr

/-- Attributes of a layer: the parameters of CMP_LAYER_SET (R269). -/
structure LayerAttr where
  /-- USER_COEF. [1 bit; R269; none] -/
  userCoef : Bool
  /-- Format code. [8 bits; R266; none] -/
  format : Nat
  /-- alpha_mode. [2 bits; R269; none] -/
  alphaMode : Nat
  /-- dst_x. [s15; R269; none] -/
  dstX : Int
  /-- dst_y. [s15; R269; none] -/
  dstY : Int
  /-- dst_w. [15 bits; R269; none] -/
  dstW : Nat
  /-- dst_h. [15 bits; R269; none] -/
  dstH : Nat
  /-- src_x. [16 bits; R269; none] -/
  srcX : Nat
  /-- src_y. [16 bits; R269; none] -/
  srcY : Nat
  /-- src_w. [16 bits; R269; none] -/
  srcW : Nat
  /-- src_h. [16 bits; R269; none] -/
  srcH : Nat
  /-- const_alpha. [10 bits; R269; none] -/
  constAlpha : Nat
  /-- depth_offset. [s15; R269; none] -/
  depth : Int
  /-- const_colour. [30 bits; R269; none] -/
  constColour : Nat
  /-- matrix. [2 bits; R269; none] -/
  matrix : Nat
  /-- range. [1 bit; R269; none] -/
  range : Nat
  /-- Bytes 16 to 47 of the CMP_LAYER_SET. [32 bytes; R400; none] -/
  bytes : List Byte
  deriving DecidableEq, Repr

/-- The planes of a surface: addresses in device memory and pitches (R272, R416). -/
structure Planes where
  /-- addr0 to addr2. [3 x 63 bits; R416; none] -/
  addrs : List Nat
  /-- pitch0 to pitch2. [3 x 32 bits; R416; none] -/
  pitches : List Nat
  deriving DecidableEq, Repr

/-- A pending CMP_FLIP, or CMP_LAYER_OFF when it names no surface (R272, R276). -/
structure PendFlip where
  /-- Ticket of its packet. [number; R272; none] -/
  ticket : Nat
  /-- The surface. [one; R272; none for CMP_LAYER_OFF] -/
  surface : Option Planes
  /-- Bytes 16 to 55 of the CMP_FLIP. [40 bytes; R400; none] -/
  bytes : List Byte := []
  /-- A CMP_LAYER_SET has committed since a CMP_LAYER_OFF. [1 bit; R278; 0] -/
  setAfter : Bool := false
  deriving DecidableEq, Repr

/-- What a layer shows: attributes, surface and scaler sets as latched (R268, R290). -/
structure LayerView where
  /-- Attributes. [one; R268; none] -/
  attr : LayerAttr
  /-- Surface. [one; R268; none] -/
  surface : Planes
  /-- Bytes 16 to 55 of its CMP_FLIP. [40 bytes; R400; none] -/
  flipBytes : List Byte
  /-- Horizontal set loaded by the host. [64 x 8 coefficients; R286; none] -/
  userH : Option (List Int)
  /-- Vertical set loaded by the host. [64 x 4 coefficients; R286; none] -/
  userV : Option (List Int)
  deriving DecidableEq, Repr

/-- A latched flip or CMP_LAYER_OFF whose completion waits for the replaced surface (R274, R275). -/
structure Release where
  /-- Ticket. [number; R274; none] -/
  ticket : Nat
  /-- The surface replaced. [one; R274; none] -/
  old : Option Planes
  /-- Low 32 bits of the DFN at the latch. [32 bits; R274; none] -/
  dfn : Word
  /-- Low 32 bits of the PSN at the latch. [32 bits; R274; none] -/
  psn : Word
  deriving DecidableEq, Repr

/-- An overlay layer (R268). -/
structure Layer where
  /-- Attributes in force; none while the layer is DISABLED. [one; R268; none] -/
  attr : Option LayerAttr := none
  /-- Surface latched; none while the layer is READY. [one; R268; none] -/
  surface : Option Planes := none
  /-- Bytes 16 to 55 of the latched CMP_FLIP. [40 bytes; R400; empty] -/
  flipBytes : List Byte := []
  /-- Pending attributes. [one; R271; none] -/
  attrNext : Option LayerAttr := none
  /-- Pending flip or CMP_LAYER_OFF. [one; R272; none] -/
  flip : Option PendFlip := none
  /-- A function-level reset disables it at the next frame-start event. [1 bit; R82; 0] -/
  withdraw : Bool := false
  /-- Horizontal set loaded. [64 x 8 coefficients; R286; none] -/
  userH : Option (List Int) := none
  /-- Vertical set loaded. [64 x 4 coefficients; R286; none] -/
  userV : Option (List Int) := none
  /-- Horizontal set pending. [64 x 8 coefficients; R286; none] -/
  nextH : Option (List Int) := none
  /-- Vertical set pending. [64 x 4 coefficients; R286; none] -/
  nextV : Option (List Int) := none
  /-- Latched flips whose completions wait. [list; R274; empty] -/
  releases : List Release := []
  deriving DecidableEq, Repr

/-- Composition. -/
structure CmpState where
  /-- Layers 0 to 7. [8 layers; R265; DISABLED] -/
  layers : List Layer := List.replicate 8 {}
  deriving DecidableEq, Repr

/-- A surface descriptor that is not empty (R416). -/
structure SurfaceDesc where
  /-- Format code. [8 bits; R416; none] -/
  format : Nat
  /-- width. [15 bits; R416; none] -/
  width : Nat
  /-- height. [15 bits; R416; none] -/
  height : Nat
  /-- Its planes. [3 planes; R416; none] -/
  planes : Planes
  deriving DecidableEq, Repr

/-- An entry of a blit command list (R421). -/
structure BltEntry where
  /-- op. [8 bits; R421; none] -/
  op : Nat
  /-- flags. [8 bits; R421; none] -/
  flags : Nat
  /-- dst. [16 bits; R421; none] -/
  dst : Nat
  /-- src. [16 bits; R421; none] -/
  src : Nat
  /-- fence. [16 bits; R421; none] -/
  fence : Nat
  /-- dst_x. [16 bits; R421; none] -/
  dstX : Nat
  /-- dst_y. [16 bits; R421; none] -/
  dstY : Nat
  /-- w. [16 bits; R421; none] -/
  w : Nat
  /-- h. [16 bits; R421; none] -/
  h : Nat
  /-- src_x. [16 bits; R421; none] -/
  srcX : Nat
  /-- src_y. [16 bits; R421; none] -/
  srcY : Nat
  /-- const_alpha. [16 bits; R421; none] -/
  alpha : Nat
  /-- value0. [32 bits; R421; none] -/
  value0 : Nat
  /-- value1. [32 bits; R421; none] -/
  value1 : Nat
  /-- Copy of the destination descriptor, taken at the commit. [one; R424; none] -/
  dstD : Option SurfaceDesc := none
  /-- Copy of the source descriptor, taken at the commit. [one; R424; none] -/
  srcD : Option SurfaceDesc := none
  /-- 0 waiting, 1 running, 2 complete. [2 bits; R433; 0] -/
  state : Nat := 0
  deriving DecidableEq, Repr

/-- A BLT_RUN that has started and not completed (R420). -/
structure BltList where
  /-- Ticket. [number; R420; none] -/
  ticket : Nat
  /-- The function that issued it. [function; R423; none] -/
  owner : Func
  /-- Its entries. [1 to 4096; R420; none] -/
  entries : List BltEntry
  /-- Its place in the order of commits, none before its commit. [number; R433; none] -/
  order : Option Nat := none
  deriving DecidableEq, Repr

/-- The blit engine. -/
structure BltState where
  /-- Surface descriptors. [1024 descriptors; R416; empty] -/
  descs : List (Option SurfaceDesc) := List.replicate 1024 none
  /-- Lists that have started and not completed, in the order of their starts. [list; R420; empty] -/
  lists : List BltList := []
  /-- Lists committed so far. [counter; R433; 0] -/
  nextOrder : Nat := 0
  deriving DecidableEq, Repr


/-- The parameters of WIT_CONFIG (R368). -/
structure WitConfig where
  /-- ww. [12 bits; R368; 1920] -/
  width : Nat := 1920
  /-- wh. [12 bits; R368; 1080] -/
  height : Nat := 1080
  /-- fw. [6 bits; R368; 30] -/
  rate : Nat := 30
  /-- profile: 0 Main, 1 Main 10. [1 bit; R368; 1] -/
  profile : Nat := 1
  /-- slice_rows. [5 bits; R368; 4] -/
  sliceRows : Nat := 4
  /-- WPP. [1 bit; R368; 0] -/
  wpp : Bool := false
  /-- eye_x, s15.16 mm. [32 bits; R368; 0] -/
  eyeX : Int := 0
  /-- eye_y, s15.16 mm. [32 bits; R368; 0] -/
  eyeY : Int := 0
  /-- eye_z, u16.16 mm, 0 for view_dist. [32 bits; R368; 0] -/
  eyeZ : Nat := 0
  /-- bitrate, kb/s. [18 bits; R368; 8000] -/
  bitrate : Nat := 8000
  deriving DecidableEq, Repr

/-- What is fixed at a witnessed frame-start event (R36, R290, R370, R400, R401). -/
structure WitPicture where
  /-- The WIT_CONFIG in force. [one; R370; none] -/
  config : WitConfig
  /-- DFN. [64 bits; R399; none] -/
  dfn : DWord
  /-- PSN. [64 bits; R399; none] -/
  psn : DWord
  /-- NT, DT, ET, MT latched, 2^-32 ns. [4 x 112 bits; R323; none] -/
  stamp : List Nat
  /-- What the presented woven frame was made from; none while it is BLANK. [see SynthIn; R246; none] -/
  inp : Option SynthIn
  /-- A blob's eye constants for layers while it is BLANK. [bytes; R280; none] -/
  blob : Option (List Byte)
  /-- The timing at the event. [one; R369; none] -/
  timing : Timing
  /-- The layers as latched. [8 layers; R290; none] -/
  layers : List (Option LayerView)
  /-- Header flags that FRAME and SLICE records share. [16 bits; R401; none] -/
  flags : Nat
  /-- DFNs left unwitnessed since the FRAME record before. [16 bits; R400; none] -/
  skipped : Nat
  /-- Missed flips since the FRAME record before. [32 bits; R400; none] -/
  missed : Nat
  /-- Lock word at the event. [32 bits; R400; none] -/
  lockWord : Nat
  /-- Panel word at the event. [32 bits; R400; none] -/
  panelWord : Nat
  /-- It must be coded as an IDR picture. [1 bit; R374; none] -/
  forceIdr : Bool
  deriving DecidableEq, Repr

/-- The marks of a witness buffer (R372). -/
inductive WitMark where
  | free | rendering | ready | coding
  deriving DecidableEq, Repr

/-- A witness buffer (R372). -/
structure WitBuf where
  /-- Its mark. [2 bits; R372; FREE] -/
  mark : WitMark := .free
  /-- The picture it holds. [see WitPicture; R372; none] -/
  pic : Option WitPicture := none
  /-- Sessions that have not yet read its last row. [list; R372; empty] -/
  readers : List Nat := []
  deriving DecidableEq, Repr

/-- The witness (R371 to R376). -/
structure WitState where
  /-- The configuration in force. [see WitConfig; R368; as its fields] -/
  config : WitConfig := {}
  /-- A configuration for the next witnessed event. [one; R374; none] -/
  next : Option WitConfig := none
  /-- The witness runs. [1 bit; R371; 0] -/
  running : Bool := false
  /-- The WIT_STOP that waits for its last record; its ticket. [one; R375; none] -/
  stop : Option Nat := none
  /-- The next refresh is witnessed. [1 bit; R371; 0] -/
  due : Bool := false
  /-- Refreshes since the last witnessed one. [counter; R371; 0] -/
  since : Nat := 0
  /-- The skip counter. [16 bits; R372; 0] -/
  skipped : Nat := 0
  /-- Missed flips up to the last FRAME record. [32 bits; R400; 0] -/
  missedAt : Word := 0
  /-- The next picture is an IDR picture. [1 bit; R376; 0] -/
  idrNext : Bool := false
  /-- Witness buffers. [3 buffers; R372; FREE] -/
  bufs : List WitBuf := List.replicate 3 {}
  deriving DecidableEq, Repr

/-- What a session codes with (R368, R377). -/
structure EncGeom where
  /-- Coded width. [12 bits; R377; none] -/
  width : Nat
  /-- Coded height. [12 bits; R377; none] -/
  height : Nat
  /-- 0 Main, 1 Main 10. [1 bit; R377; none] -/
  profile : Nat
  /-- slice_rows. [5 bits; R377; none] -/
  sliceRows : Nat
  /-- WPP. [1 bit; R377; none] -/
  wpp : Bool
  /-- Rotation: quarter turns clockwise of a tap. [2 bits; R377; none] -/
  rotation : Nat
  /-- Nominal rate, mHz. [17 bits; R377; none] -/
  rate : Nat
  /-- bitrate, kb/s. [18 bits; R377; none] -/
  bitrate : Nat
  /-- gop. [16 bits; R377; none] -/
  gop : Nat
  /-- refs. [3 bits; R377; none] -/
  refs : Nat
  /-- ring_size, or 32 MiB for the witness. [27 bits; R388; none] -/
  ring : Nat
  deriving DecidableEq, Repr

/-- Rate-control parameters (R393). -/
structure RateSet where
  /-- qpmin. [6 bits; R393; 10] -/
  qpMin : Nat := 10
  /-- qpmax. [6 bits; R393; 51] -/
  qpMax : Nat := 51
  /-- ki. [5 bits; R393; 4] -/
  ki : Nat := 4
  /-- capf. [8 bits; R393; 48] -/
  capf : Nat := 48
  /-- qp_init. [6 bits; R393; 30] -/
  qpInit : Nat := 30
  deriving DecidableEq, Repr

/-- Motion search (R387). -/
structure SearchSet where
  /-- range. [5 bits; R387; 4] -/
  range : Nat := 4
  /-- cand_mask. [16 bits; R387; 0x00FF] -/
  cand : Nat := 0xFF
  /-- subpel. [2 bits; R387; 2] -/
  subpel : Nat := 2
  deriving DecidableEq, Repr

/-- A source picture in memory (R378). -/
structure EncSource where
  /-- format. [8 bits; R378; none] -/
  format : Nat
  /-- Rotation, quarter turns clockwise. [2 bits; R378; none] -/
  rotation : Nat
  /-- src_x. [16 bits; R378; none] -/
  x : Nat
  /-- src_y. [16 bits; R378; none] -/
  y : Nat
  /-- src_w. [16 bits; R378; none] -/
  w : Nat
  /-- src_h. [16 bits; R378; none] -/
  h : Nat
  /-- Pitches. [3 x 32 bits; R378; none] -/
  pitches : List Nat
  /-- Planes: whether in device memory, and address. [3 places; R378; none] -/
  places : List (Bool × Nat)
  deriving DecidableEq, Repr

/-- The motion of a CU (R386). -/
structure CuMotion where
  /-- Reference index. [2 bits; R385; none] -/
  ref : Nat
  /-- Horizontal component, quarter samples. [signed; R386; none] -/
  dx : Int
  /-- Vertical component, quarter samples. [signed; R386; none] -/
  dy : Int
  deriving DecidableEq, Repr

/-- A coded CU: what later CUs and pictures search from (R384, R386). -/
structure EncCu where
  /-- Left. [12 bits; R384; none] -/
  x : Nat
  /-- Top. [12 bits; R384; none] -/
  y : Nat
  /-- Size: 32, 16 or 8. [6 bits; R384; none] -/
  size : Nat
  /-- Mode: 0 planar, 1 DC, 2 to 34 angular, 35 skip, 36 merge, 37 inter. [6 bits; R384; none] -/
  mode : Nat
  /-- Motion. [one; R386; none] -/
  motion : Option CuMotion
  deriving DecidableEq, Repr

/-- A picture that a session codes or will code. -/
structure EncPic where
  /-- Its place in the session's coding order. [number; R379; none] -/
  order : Nat
  /-- Ticket of its ENC_FRAME. [number; R378; none] -/
  ticket : Option Nat
  /-- Frame index, or the low 32 bits of the DFN. [32 bits; R394; none] -/
  index : Word
  /-- The source in memory. [one; R378; none] -/
  source : Option EncSource
  /-- The witness buffer read. [2 bits; R377; none] -/
  buf : Option Nat
  /-- FORCE_IDR, or an IDR picture under R374 or R376. [1 bit; R378; none] -/
  forceIdr : Bool
  /-- Geometry of its session. [see EncGeom; R377; none] -/
  geom : EncGeom
  /-- It has committed: coding of its first row has started. [1 bit; R379; 0] -/
  begun : Bool := false
  /-- Pictures of the session that began before it. [counter; R383; 0] -/
  seq : Nat := 0
  /-- Its picture order count: pictures since the last IDR picture. [counter; R384; 0] -/
  poc : Nat := 0
  /-- IDR picture. [1 bit; R384; 0] -/
  idr : Bool := false
  /-- Rate control in force at its commit. [see RateSet; R382; none] -/
  rate : RateSet := {}
  /-- Search in force at its commit. [see SearchSet; R382; none] -/
  search : SearchSet := {}
  /-- References, newest first, as orders. [list; R385; empty] -/
  refs : List Nat := []
  /-- T. [number; R388; 0] -/
  target : Nat := 0
  /-- C. [number; R388; 0] -/
  cap : Nat := 0
  /-- Picture QP. [6 bits; R389; 0] -/
  qp : Int := 0
  /-- w[r]. [list; R390; empty] -/
  weights : List Nat := []
  /-- B. [number; R390; 0] -/
  bits : Nat := 0
  /-- Bits of the rows coded. [list; R390; empty] -/
  rowBits : List Nat := []
  /-- QP of the rows coded. [list; R390; empty] -/
  rowQps : List Nat := []
  /-- What the coding of each row depended on: the model's name for the encoder's state (R382). [list; R382; empty] -/
  tokens : List Nat := []
  /-- Its CUs so far. [list; R386; empty] -/
  cus : List EncCu := []
  /-- Row and column from which CTUs are coded under R391. [2 numbers; R391; none] -/
  skipAt : Option (Nat × Nat) := none
  /-- RC_ROWS_SKIPPED has been raised. [1 bit; R392; 0] -/
  skipTold : Bool := false
  /-- First row at qpmax. [number; R392; none] -/
  floorAt : Option Nat := none
  /-- NAL bytes emitted. [counter; R379; 0] -/
  bytes : Nat := 0
  /-- First row of the slice in progress. [number; R394; 0] -/
  sliceRow : Nat := 0
  /-- The core that codes its slice in progress. [4 bits; R382; none] -/
  core : Option Nat := none
  /-- The core whose fault ended its slice in progress: another codes it again. [4 bits; R382; none] -/
  banned : Option Nat := none
  /-- It ends at the slice in progress. [1 bit; R376; 0] -/
  cut : Bool := false
  deriving DecidableEq, Repr

/-- A picture that has ended, as rate control still needs it (R383, R389, R390). -/
structure EncDone where
  /-- Its order. [number; R383; none] -/
  order : Nat
  /-- Pictures of the session that began before it. [counter; R383; none] -/
  seq : Nat
  /-- IDR picture. [1 bit; R389; none] -/
  idr : Bool
  /-- Change of the picture QP. [number; R389; none] -/
  change : Int
  /-- Bits of its rows. [list; R390; none] -/
  rowBits : List Nat
  /-- Its rows' tokens. [list; R382; none] -/
  tokens : List Nat
  /-- Its CUs. [list; R386; none] -/
  cus : List EncCu
  /-- Its QP and weights count already. [1 bit; R383; 0] -/
  applied : Bool := false
  deriving DecidableEq, Repr

/-- An entry that waits for room in an output ring (R395). -/
structure EncOut where
  /-- The entry, header and padding included. [bytes; R394; none] -/
  entry : List Byte
  /-- Completion that follows it: ticket, frame index, coded bytes. [one; R379; none] -/
  done : Option (Nat × Nat × Nat)
  deriving DecidableEq, Repr

/-- The marks of a reconstruction buffer (R385). -/
inductive ReconMark where
  | free | coding | short
  deriving DecidableEq, Repr

/-- An encode session (R377); session 0 is the witness. -/
structure EncSession where
  /-- It is open. [1 bit; R377; 0] -/
  isOpen : Bool := false
  /-- The function that opened it. [function; R378; PF, log 5] -/
  owner : Func := .pf
  /-- Source: witness tap. [1 bit; R377; 0] -/
  tap : Bool := false
  /-- Its geometry. [see EncGeom; R377; none] -/
  geom : Option EncGeom := none
  /-- The output ring: whether in device memory, and address. [64 bits; R377; 0, log 5] -/
  ring : Bool × Nat := (false, 0)
  /-- wr. [27 bits; R394; 0] -/
  wr : Nat := 0
  /-- Rate control. [see RateSet; R393; as its fields] -/
  rate : RateSet := {}
  /-- Search. [see SearchSet; R387; as its fields] -/
  search : SearchSet := {}
  /-- Picture QP of IDR pictures. [6 bits; R389; 30] -/
  qpI : Int := 30
  /-- Picture QP of P pictures. [6 bits; R389; 32] -/
  qpP : Int := 32
  /-- Coded size of the picture that began last. [26 bits; R390; 0 by 0] -/
  size : Nat × Nat := (0, 0)
  /-- w[r] of IDR pictures, empty for all 1. [list; R390; empty] -/
  wI : List Nat := []
  /-- w[r] of P pictures, empty for all 1. [list; R390; empty] -/
  wP : List Nat := []
  /-- Pictures not yet ended, in order. [list; R379; empty] -/
  pics : List EncPic := []
  /-- Order of the next picture. [counter; R379; 0] -/
  nextOrder : Nat := 0
  /-- Frame index of the next committed picture. [32 bits; R379; 0] -/
  nextIndex : Word := 0
  /-- Pictures since the last IDR picture, none before the first. [counter; R384; none] -/
  sinceIdr : Option Nat := none
  /-- Reconstruction buffers: mark and order of the picture. [up to 6; R385; empty] -/
  recon : List (ReconMark × Nat) := []
  /-- Pictures begun. [counter; R383; 0] -/
  begun : Nat := 0
  /-- Pictures that ended last, newest first, at most six. [list; R383; empty] -/
  ended : List EncDone := []
  /-- Entries that wait for room, oldest first. [list; R395; empty] -/
  out : List EncOut := []
  /-- Ticket of the ENC_CLOSE that waits. [one; R381; none] -/
  closing : Option Nat := none
  deriving DecidableEq, Repr

/-- A record that waits to enter the chain (R399, R410). -/
inductive ChainItem where
  /-- FRAME of a witnessed DFN. -/
  | frame (pic : WitPicture)
  /-- SLICE: DFN, PSN, ET latched, header flags, body from offset 96, and whether it is the last of its DFN. -/
  | slice (dfn psn : DWord) (et flags : Nat) (body : List Byte) (last : Bool)
  /-- SIGN with a reason. -/
  | sign (reason : Nat)
  /-- START with a reason. -/
  | start (reason : Nat)
  /-- RESUME with a cause. -/
  | resume (cause : Nat)
  deriving DecidableEq, Repr

/-- A record in the chain buffer (R410). -/
structure ChainRec where
  /-- seq. [64 bits; R397; none] -/
  seq : Nat
  /-- The record. [bytes; R397; none] -/
  bytes : List Byte
  deriving DecidableEq, Repr

/-- A signature in progress in island 127 (R404). -/
inductive SignJob where
  /-- Bytes 0 to 127 of a SIGN record, with its seq and reason. -/
  | sign (seq reason : Nat) (bytes : List Byte)
  /-- Bytes 0 to 95 of an attestation, its ticket, and where the output goes. -/
  | attest (ticket : Nat) (bytes : List Byte) (dev : Bool) (addr : Nat)
  deriving DecidableEq, Repr

/-- The evidence chain and its export; record 0x120 holds the head. -/
structure ChainState where
  /-- Records not yet acknowledged, oldest first. [32 MiB; R410; empty] -/
  records : List ChainRec := []
  /-- Records that wait, oldest first. [list; R399; empty] -/
  items : List ChainItem := []
  /-- DFN whose records are being written. [64 bits; R399; none] -/
  openDfn : Option DWord := none
  /-- The signatures in progress or waiting, oldest first. [list; R404; empty] -/
  signing : List SignJob := []
  /-- Cause of the RESUME record that comes first. [2 bits; R408; none] -/
  resume : Option Nat := none
  /-- seq of the first record after the previous SIGN. [64 bits; R403; 0] -/
  fromSeq : Nat := 0
  /-- MT of the previous SIGN, ns. [timer; R403; 0] -/
  signNs : Nat := 0
  /-- sign_ms. [16 bits; R411; 1000] -/
  signMs : Nat := 1000
  /-- target: 0 none, 1 PCIe, 2 port A, 3 port B. [2 bits; R411; 0] -/
  target : Nat := 0
  /-- ACK_REQUIRED. [1 bit; R411; 0] -/
  ack : Bool := false
  /-- ring_size. [27 bits; R411; 0] -/
  ringSize : Nat := 0
  /-- The ring: whether in device memory, and address. [64 bits; R411; 0] -/
  ring : Bool × Nat := (false, 0)
  /-- dst_ip. [32 bits; R411; 0] -/
  dstIp : Nat := 0
  /-- dst_port. [16 bits; R411; 47812] -/
  dstPort : Nat := 47812
  /-- Records of `records` that have been sent to the target. [counter; R412; 0] -/
  sent : Nat := 0
  /-- wr of the export ring. [27 bits; R412; 0] -/
  wr : Nat := 0
  /-- Ends in the export ring of the records sent, oldest first. [list; R412; empty] -/
  marks : List Nat := []
  /-- MT of the last acknowledgement that advanced, or of the first sending after it, ns. [timer; R412; 0] -/
  ackNs : Nat := 0
  deriving DecidableEq, Repr


/-- Firmware: what runs, the QSPI flash, and the update in progress. -/
structure FwState where
  /-- fw_major of the running image. [8 bits; R600; 0] -/
  major : Nat := 0
  /-- fw_minor of the running image. [8 bits; R600; 0] -/
  minor : Nat := 0
  /-- security_version of the running image. [32 bits; R600; 0] -/
  security : Nat := 0
  /-- Minimum security version in the identity region. [32 bits; R599; 0, log 5] -/
  minSecurity : Nat := 0
  /-- QSPI flash: slot A from 0, slot B from 0x800000. [16 MiB; R596; nothing listed, log 3] -/
  flash : Mem := []
  /-- The slot whose body Dawn checks: 0 A, 1 B, 2 the PCIe image. [2 bits; R597; none] -/
  checking : Option Nat := none
  /-- Slots that have proved invalid since the last release of reset. [list; R597; empty] -/
  invalid : List Nat := []
  /-- Length of the PCIe image written to the boot register. [32 bits; R598; 0] -/
  bootLen : Nat := 0
  /-- The FW_UPDATE in progress: ticket, slot and image. [one; R601; none] -/
  update : Option (Nat × Nat × List Byte) := none
  deriving DecidableEq, Repr


/-- STATE of the channel word (R495). -/
inductive ChanState where
  | off | training | ready | pause | errorRetrain | selfRefresh | faulted
  deriving DecidableEq, Repr

/-- A request that waits for a channel (R469, R473, R475). -/
structure MemReq where
  /-- Port, 10 for the background clients. [4 bits; R472; none] -/
  port : Nat
  /-- Device address. [34 bits; R469; none] -/
  addr : Nat
  /-- Bytes. [9 bits; R473; none] -/
  bytes : Nat
  /-- A write. [1 bit; R471; none] -/
  write : Bool
  /-- MT at which it reached the controller, ns. [timer; R475; none] -/
  at_ : Nat
  /-- It has been promoted. [1 bit; R475; 0] -/
  aged : Bool := false
  deriving DecidableEq, Repr

/-- One memory channel and its retraining (R482 to R488). -/
structure MemChan where
  /-- STATE. [3 bits; R495; OFF] -/
  state : ChanState := .off
  /-- DEFERRED: a pause is due and has not started. [1 bit; R495; 0] -/
  due : Bool := false
  /-- The retraining period in which its pause last fell due. [counter; R482; none] -/
  round : Option Nat := none
  /-- MT at which the pause or error retrain in progress began, ns. [timer; R486; 0] -/
  since : Nat := 0
  /-- An error retrain is due and waits. [1 bit; R487; 0] -/
  errorDue : Bool := false
  /-- Error retrains that failed in succession. [2 bits; R486; 0] -/
  errorFails : Nat := 0
  /-- The error retrain follows from EVT_INJECT. [1 bit; R582; 0] -/
  injected : Bool := false
  /-- MT of the transfers that failed within the last 1 us, ns. [list; R486; empty] -/
  recent : List Nat := []
  /-- MT of the last MEM_RETRIED, ns. [timer; R488; none] -/
  toldNs : Option Nat := none
  /-- Retries since MEM_RETRIED was last raised. [32 bits; R488; 0] -/
  untold : Nat := 0
  /-- Requests that wait, oldest first. [list; R473; empty] -/
  queue : List MemReq := []
  /-- Periodic pauses completed. [32 bits; R493; 0] -/
  nPauses : Word := 0
  /-- Transfers retried. [32 bits; R493; 0] -/
  nRetried : Word := 0
  /-- Error retrains. [32 bits; R493; 0] -/
  nErrors : Word := 0
  /-- Pauses deferred. [32 bits; R493; 0] -/
  nDeferred : Word := 0
  /-- Pauses skipped. [32 bits; R493; 0] -/
  nSkipped : Word := 0
  deriving DecidableEq, Repr

/-- One port of the memory controllers (R472, R474). -/
structure MemPort where
  /-- Class. [2 bits; R472; of its default] -/
  cls : Nat
  /-- Rate, 0.25 GB/s. [11 bits; R474; 0 until Dawn, log 5] -/
  rate : Nat := 0
  /-- Burst, 64 bytes. [16 bits; R474; as R477] -/
  burst : Nat := 4096
  /-- Bytes in the bucket at `fillNs`. [22 bits; R474; 0, log 5] -/
  fill : Nat := 0
  /-- MT at which `fill` was taken, ns. [timer; R474; 0] -/
  fillNs : Nat := 0
  /-- Bytes moved in the last 100 ms. [counter; R477; 0] -/
  moved : Nat := 0
  /-- Requests promoted by age. [32 bits; R493; 0] -/
  nAged : Word := 0
  /-- Longest wait of a request served since it was last read, ns. [32 bits; R493; 0] -/
  longest : Nat := 0
  deriving DecidableEq, Repr

/-- The memory controllers, islands 123 and 124. -/
structure MemcState where
  /-- Fitted capacity, MiB. [8192 or 16384; R465; 8192, log 2] -/
  capacityMib : Nat := 8192
  /-- RATE, Gb/s per pin. [8 bits; R494; 0] -/
  rate : Nat := 0
  /-- RECORD_REJECTED. [1 bit; R494; 0] -/
  rejected : Bool := false
  /-- DENSITY: 16 Gb. [1 bit; R494; 0] -/
  dense : Bool := false
  /-- VDDQ_125. [1 bit; R494; 0] -/
  vddq125 : Bool := false
  /-- CLAMSHELL. [1 bit; R494; 0] -/
  clamshell : Bool := false
  /-- FROM_RECORD. [1 bit; R494; 0] -/
  fromRecord : Bool := false
  /-- RATE_FALLBACK. [1 bit; R494; 0] -/
  fallback : Bool := false
  /-- TRAINED, bit n for channel n. [8 bits; R494; 0] -/
  trained : Nat := 0
  /-- Output driver code. [2 bits; R467; 0, log 5] -/
  drive : Nat := 0
  /-- On-die termination code. [2 bits; R467; 0, log 5] -/
  odt : Nat := 0
  /-- MEM_CH_FAILED, bit n for channel n. [8 bits; R640; 0] -/
  failed : Nat := 0
  /-- Channels 0 to 7. [8 channels; R465; as MemChan] -/
  chans : List MemChan := List.replicate 8 {}
  /-- Ports 0 to 9. [10 ports; R472; default classes] -/
  ports : List MemPort :=
    [{ cls := 0, burst := 16384 }, { cls := 0 }, { cls := 1 }, { cls := 1 }, { cls := 1 }, { cls := 1 }, { cls := 2 },
      { cls := 2 }, { cls := 2 }, { cls := 1 }]
  /-- The background clients: one bucket of 1.0 GB/s and 64 units. [as MemPort; R474; class 3] -/
  background : MemPort := { cls := 3, rate := 4, burst := 64 }
  /-- Age limits of classes 1 to 3, us. [3 x 10 bits; R475; 2, 8, 32] -/
  ages : List Nat := [2, 8, 32]
  /-- MT of the last recomputation of means, ns. [timer; R477; 0] -/
  regNs : Nat := 0
  /-- Retraining period, ms. [10 bits; R484; 50] -/
  retrainMs : Nat := 50
  /-- A period that begins at the next start of a period, ms. [10 bits; R484; none] -/
  retrainNext : Option Nat := none
  /-- MT at which the period in progress began, ns. [timer; R482; 0] -/
  periodNs : Nat := 0
  /-- Number of the period in progress. [counter; R482; 0] -/
  period : Nat := 0
  /-- ECC regions 0 to 7: base and data size, MiB. [8 regions; R489; none] -/
  regions : List (Option (Nat × Nat)) := List.replicate 8 none
  /-- The next word the background scrubber reads, counted through the regions. [index; R489; 0] -/
  scrub : Nat := 0
  /-- ECC words corrected. [32 bits; R493; 0] -/
  nCorrected : Word := 0
  /-- ECC words uncorrectable. [32 bits; R493; 0] -/
  nBad : Word := 0
  /-- Islands 123 and 124 under recovery of a stall: island, MT of detection in ns, injected. [list; R570; empty] -/
  stalls : List (Nat × Nat × Bool) := []
  /-- BAR2 writes to the reserve or to region 0 discarded. [counter; R470; 0] -/
  nDiscarded : Word := 0
  deriving DecidableEq, Repr

/-- The whole state of the block. -/
structure State where
  /-- Commands that wait, first in, first out: the model's own queue. [list; model; empty] -/
  pending : List Instr := []
  /-- How many free values have been drawn: the model's own counter. [number; model; 0, log 4] -/
  free : Nat := 0
  /-- Host memory, as the device reaches it over PCIe. [63-bit addresses; R41; nothing listed, log 3] -/
  hmem : Mem := []
  /-- Device memory. [8 or 16 GiB; R470; nothing listed, log 3] -/
  dmem : Mem := []
  /-- Supplies, reset, power loss and Dusk. [see PowerState; R584; as its fields] -/
  pwr : PowerState := {}
  /-- BAR0 registers outside the rings. [see RegState; R636; as its fields] -/
  regs : RegState := {}
  /-- The PF and VFs 1 to 8: their rings and grants. [9 functions; R41; as FnState] -/
  fns : List FnState :=
    { sub := List.replicate 16 {}, cpl := List.replicate 16 {}, vectors := List.replicate 64 0 } ::
      List.replicate 8 { sub := List.replicate 2 {}, cpl := List.replicate 2 {}, vectors := List.replicate 4 0 }
  /-- Fences, packets in progress and policies. [see CmdState; R63; as its fields] -/
  cmd : CmdState := {}
  /-- The SMBus sideband. [see SmbState; R90; as its fields] -/
  smb : SmbState := {}
  /-- Time bases and event pins. [see TimeState; R436; as its fields] -/
  time : TimeState := {}
  /-- Network ports and the PTP servo. [see NetState; R446; as its fields] -/
  net : NetState := {}
  /-- Supervision and the event log's queue. [see SupState; R560; as its fields] -/
  sup : SupState := {}
  /-- The stream intake. [see StrmState; R119; as its fields] -/
  strm : StrmState := {}
  /-- The codec complex. [see DecState; R151; as its fields] -/
  dec : DecState := {}
  /-- The ray engine. [see RayState; R209; as its fields] -/
  ray : RayState := {}
  /-- Layers. [see CmpState; R265; as its fields] -/
  cmp : CmpState := {}
  /-- The blit engine. [see BltState; R416; as its fields] -/
  blt : BltState := {}
  /-- The witness. [see WitState; R371; as its fields] -/
  wit : WitState := {}
  /-- Encode sessions; session 0 is the witness. [4 sessions; R377; as EncSession] -/
  enc : List EncSession := List.replicate 4 {}
  /-- The evidence chain and its export. [see ChainState; R397; as its fields] -/
  chain : ChainState := {}
  /-- Display timing, lock and scan-out. [see DspState; R291; as its fields] -/
  dsp : DspState := {}
  /-- Panel links, gate timing and rails. [see PnlState; R326; as its fields] -/
  pnl : PnlState := {}
  /-- The non-volatile store. [see NvmState; R496; as its fields] -/
  nvm : NvmState := {}
  /-- Firmware and its flash. [see FwState; R596; as its fields] -/
  fw : FwState := {}
  /-- Temperatures, power limits and calibration. [see ThmState; R528; as its fields] -/
  thm : ThmState := {}
  /-- The memory controllers. [see MemcState; R465; as its fields] -/
  memc : MemcState := {}
  deriving DecidableEq, Repr

/-- The state right after reset: VDD_AON risen and RESET_N low. -/
def State.reset : State := {}

end Sys2Proof.Machine
end

