-- ==== Sys2Proof/Machine/Ops.lean ====
section
/-!
DEFINITION. The named operations over memory, rings, fences and events that the meanings of the commands share.

Memory is read and written here only (R41, R124); completions are written, held and released here (R47 to R55); events
are raised, masked, discarded and logged here (R74 to R78, R575, R576).
-/

namespace Sys2Proof

/-- Position of a function in `State.fns`: the PF first, then VF 1 to 8. -/
def fnIdx : Func → Nat
  | .pf => 0
  | .vf n => n.val + 1

/-- The function that a packet speaks for: ring 0x80 counts as the PF (R93). -/
def Src.func : Src → Func
  | .ring f _ => f
  | .smbus => .pf

/-- Ring number as completions and events give it (R49). -/
def Src.ringNo : Src → Byte
  | .ring _ n => byte n.val
  | .smbus => 0x80

/-- The packet comes from a virtual function. -/
def Src.isVf : Src → Bool
  | .ring (.vf _) _ => true
  | _ => false

/-- Number of a VF, 1 to 8, or 0 for the PF. -/
def Src.vfNo (x : Src) : Nat := fnIdx x.func

/-- FENCE_BEFORE (R51). -/
def Packet.fenceBefore (p : Packet) : Bool := p.flags.getLsbD 0

/-- IRQ (R51). -/
def Packet.irq (p : Packet) : Bool := p.flags.getLsbD 1

/-- WAIT_FENCE (R51). -/
def Packet.waits (p : Packet) : Bool := p.flags.getLsbD 2

/-- SIGNAL_FENCE (R51). -/
def Packet.signals (p : Packet) : Bool := p.flags.getLsbD 3

/-- QUIET (R51). -/
def Packet.quiet (p : Packet) : Bool := p.flags.getLsbD 4

end Sys2Proof

namespace Sys2Proof.Machine

/-! ## Memory -/

/-- The byte at an address; an address not listed reads 0 (log 3). -/
def Mem.read : Mem → Nat → Byte
  | [], _ => 0
  | (a, b) :: m, x => if x = a then b else if x < a then 0 else Mem.read m x

/-- Store one byte, keeping the canonical form: writing 0 removes the entry. -/
def Mem.write : Mem → Nat → Byte → Mem
  | [], x, v => if v = 0 then [] else [(x, v)]
  | (a, b) :: m, x, v =>
    if x < a then (if v = 0 then (a, b) :: m else (x, v) :: (a, b) :: m)
    else if x = a then (if v = 0 then m else (a, v) :: m)
    else (a, b) :: Mem.write m x v

/-- `n` bytes from an address up. -/
def Mem.readN (m : Mem) (a : Nat) : Nat → List Byte
  | 0 => []
  | n + 1 => m.read a :: Mem.readN m (a + 1) n

/-- Store bytes from an address up. -/
def Mem.writeN : Mem → Nat → List Byte → Mem
  | m, _, [] => m
  | m, a, b :: bs => Mem.writeN (m.write a b) (a + 1) bs

/-- The addresses of a memory rise strictly from above `lo`, and no entry holds 0. -/
def Mem.wfFrom : Nat → Mem → Bool
  | _, [] => true
  | lo, (a, b) :: m => decide (lo ≤ a) && decide (b ≠ 0) && Mem.wfFrom (a + 1) m

/-- The canonical form of a memory. -/
def Mem.wf (m : Mem) : Bool := Mem.wfFrom 0 m

/-- A place in host memory or in device memory. -/
structure Loc where
  /-- Device memory rather than host memory. -/
  dev : Bool
  /-- The byte address there. -/
  addr : Nat
  deriving DecidableEq, Repr

/-- Bytes of device memory fitted (R465). -/
def State.capacity (s : State) : Nat := s.memc.capacityMib * 0x100000

/-- Read bytes at a place. Device memory beyond what is fitted reads 0. -/
def State.readAt (s : State) (l : Loc) (n : Nat) : List Byte :=
  if l.dev then s.dmem.readN l.addr n else s.hmem.readN l.addr n

/-- Store bytes at a place. Stores beyond the fitted device memory are dropped. -/
def State.writeAt (s : State) (l : Loc) (bs : List Byte) : State :=
  if l.dev then { s with dmem := s.dmem.writeN l.addr (bs.take (s.capacity - l.addr)) }
  else { s with hmem := s.hmem.writeN l.addr bs }

/-! ## Time -/

/-- Units of 2^-32 ns in a second. -/
def secUnits : Nat := 1000000000 * 0x100000000

/-- Nanoseconds field of a time base (R436). -/
def nsField (t : Nat) : Nat := t / 0x100000000 % 1000000000

/-- Seconds field of a time base, 48 bits (R436). -/
def secField (t : Nat) : Nat := t / secUnits % 0x1000000000000

/-- Shown fraction of a nanosecond, 16 bits (R436). -/
def fracField (t : Nat) : Nat := t / 0x10000 % 0x10000

/-- A time base in the 12-byte form of R436. -/
def timeBytes (t : Nat) : List Byte := leBytes 4 (nsField t) ++ leBytes 6 (secField t) ++ leBytes 2 (fracField t)

/-- A time base in the 16-byte form of R436. -/
def timeBytes16 (t : Nat) : List Byte := timeBytes t ++ leBytes 4 0

/-- A value of the 12-byte form of R436, in units of 2^-32 ns. -/
def timeOf (bs : List Byte) : Nat :=
  fieldAt bs 4 6 * secUnits + fieldAt bs 0 4 * 0x100000000 + fieldAt bs 10 2 * 0x10000

/-- MT in whole nanoseconds. -/
def State.mtNs (s : State) : Nat := s.time.mt / 0x100000000

/-- The time base with number `n`: NT, DT, ET, MT (R441). -/
def State.baseOf (s : State) : Nat → Nat
  | 0 => s.time.nt
  | 1 => s.time.dt
  | 2 => s.time.et
  | _ => s.time.mt

/-- The increment of the base with number `n` (R441). -/
def State.incOf (s : State) : Nat → Nat
  | 0 => s.time.ntInc
  | 1 => s.time.dtInc
  | 2 => s.time.etInc
  | _ => s.time.mtInc

/-- A base wraps at 2^48 s (R436). -/
def wrapTime (t : Nat) : Nat := t % (0x1000000000000 * secUnits)

/-- A base moved by a signed amount (R442). -/
def stepTime (t : Nat) (d : Int) : Nat := ((t : Int) + d) % ((0x1000000000000 * secUnits : Nat) : Int) |>.toNat

/-! ## Functions and rings -/

/-- The function with a position. -/
def fnOf (i : Nat) : Func := if h : 0 < i ∧ i ≤ 8 then .vf ⟨i - 1, by omega⟩ else .pf

/-- The state of a function. -/
def State.fn (s : State) (f : Func) : FnState := s.fns.getD (fnIdx f) { sub := [], cpl := [], vectors := [] }

/-- Change the state of a function. -/
def State.updFn (s : State) (f : Func) (g : FnState → FnState) : State :=
  { s with fns := updAt s.fns (fnIdx f) g }

/-- A submission ring. -/
def State.subRing (s : State) (f : Func) (n : Nat) : Option SubRing := (s.fn f).sub[n]?

/-- A completion ring. -/
def State.cplRing (s : State) (f : Func) (n : Nat) : Option CplRing := (s.fn f).cpl[n]?

/-- Change a submission ring. -/
def State.updSub (s : State) (f : Func) (n : Nat) (g : SubRing → SubRing) : State :=
  s.updFn f fun x => { x with sub := updAt x.sub n g }

/-- Change a completion ring. -/
def State.updCpl (s : State) (f : Func) (n : Nat) (g : CplRing → CplRing) : State :=
  s.updFn f fun x => { x with cpl := updAt x.cpl n g }

/-- Change the event ring of a function. -/
def State.updEvt (s : State) (f : Func) (g : EvtRing → EvtRing) : State :=
  s.updFn f fun x => { x with evt := g x.evt }

/-- The grant of the function that a packet speaks for. -/
def State.grantOf (s : State) (x : Src) : Grant := (s.fn x.func).grant

/-- Base address in two words. -/
def ringBase (lo hi : Word) : Nat := hi.toNat * 0x100000000 + lo.toNat

/-- The place of byte `off` of a ring. Device addresses drop bit 63; those of a VF are offsets in its window (R41, R80). -/
def State.ringLoc (s : State) (f : Func) (dev : Bool) (base off : Nat) : Loc :=
  if dev then
    let a := base % 0x8000000000000000 + off
    match f with
    | .pf => ⟨true, a⟩
    | .vf _ => ⟨true, (s.fn f).grant.windowBase + a⟩
  else ⟨false, base % 0x8000000000000000 + off⟩

/-- The place of a packet's memory address: bit 63 selects device memory (R124); a VF's device address is an offset in its
window and must lie inside it with all `len` bytes (R80). None where it lies outside. -/
def State.resolve (s : State) (x : Src) (addr len : Nat) : Option Loc :=
  if addr < 0x8000000000000000 then some ⟨false, addr⟩
  else
    let a := addr - 0x8000000000000000
    if x.isVf then
      let g := s.grantOf x
      if a + len ≤ g.windowMib * 0x100000 then some ⟨true, g.windowBase + a⟩ else none
    else if a + len ≤ s.capacity then some ⟨true, a⟩ else none

/-! ## Interrupts -/

/-- Raise MSI-X vector `v` of a function (R78). -/
def State.raiseVector (s : State) (f : Func) (v : Nat) : State :=
  s.updFn f fun x => { x with vectors := updAt x.vectors v (· + 1) }

/-- Set a cause of INT_STATUS; vector 63 is raised when it changes from 0 to 1 while enabled (R643). -/
def State.raiseCause (s : State) (bit : Nat) : State :=
  if s.regs.intStatus.getLsbD bit then s
  else
    let on : Word := (1 : Word) <<< bit
    let s := { s with regs.intStatus := s.regs.intStatus ||| on }
    if s.regs.intEnable.getLsbD bit then s.raiseVector .pf 63 else s

/-- INT_STATUS bits (R643). -/
def causeMboxDone : Nat := 0
/-- The watchdog reached its first stage (R643). -/
def causeWdogWarn : Nat := 1
/-- The watchdog expired (R643). -/
def causeWdogExpired : Nat := 2
/-- FAULT or SUP_FAULT became set (R643). -/
def causeFault : Nat := 3
/-- The ERROR bit of some ring became set (R643). -/
def causeRingError : Nat := 4
/-- A warning crossing occurred (R643). -/
def causePfWarn : Nat := 5
/-- An AVS_FAULT bit became set (R643). -/
def causeAvs : Nat := 6

/-! ## Status codes -/

/-- The status codes of R56. -/
inductive Status where
  | ok | accepted | notRunning | aborted | superseded
  | badOpcode | badLength | badParam | expertLocked | wrongState | noResource | busy | nvmBusy | alignment
  | overlapConvert | timeout | hwFault | thermalLimited | powerFail | authFailed
  deriving DecidableEq, Repr

/-- The code of a status (R56). -/
def Status.code : Status → Half
  | .ok => 0x0000
  | .accepted => 0x0001
  | .notRunning => 0x0002
  | .aborted => 0x0003
  | .superseded => 0x0004
  | .badOpcode => 0x0100
  | .badLength => 0x0101
  | .badParam => 0x0102
  | .expertLocked => 0x0103
  | .wrongState => 0x0104
  | .noResource => 0x0105
  | .busy => 0x0106
  | .nvmBusy => 0x0107
  | .alignment => 0x0108
  | .overlapConvert => 0x0109
  | .timeout => 0x010A
  | .hwFault => 0x0200
  | .thermalLimited => 0x0201
  | .powerFail => 0x0202
  | .authFailed => 0x0203

/-- An unrecovered fault has stopped every island except 0, 1, 125 and 127: the steps of the power-loss sequence that it began
have ended (R572). -/
def State.stopped (s : State) : Bool := s.sup.fault && s.pwr.loss.isNone

/-! ## Completions -/

/-- The 16 bytes of a completion entry (R49). -/
def completionBytes (c : Completion) (phase : Bool) : List Byte :=
  leBytes 2 c.tag.toNat ++ leBytes 2 c.status.toNat ++ [c.ring, byte (b2n phase)] ++ leBytes 2 0 ++
    leBytes 4 c.result0.toNat ++ leBytes 4 c.result1.toNat

/-- Entries of a completion ring (R42). -/
def CplRing.size (r : CplRing) : Nat := 2 ^ r.sizeLog2.toNat

/-- The vector of a completion ring (R78). -/
def CplRing.vector (r : CplRing) (n : Nat) : Nat := if r.target = 0xFF then n + 1 else r.target.toNat

/-- The ring is full: the next entry to write is the one at the head (R49). -/
def CplRing.full (r : CplRing) : Bool := decide (r.size ≤ r.used)

/-- Move a completion ring past the entry just written; the phase alternates with each pass (R48). -/
def CplRing.advance (r : CplRing) : CplRing :=
  let nx := (r.next + 1) % r.size
  { r with next := nx, used := r.used + 1, phase := if nx = 0 then !r.phase else r.phase }

/-- Write one completion entry and raise its vector when it asks for that (R47, R54, R55). -/
def State.writeCompletion (s : State) (f : Func) (n : Nat) (r : CplRing) (c : Completion) : State :=
  let l := s.ringLoc f r.locDev (ringBase r.baseLo r.baseHi) (16 * r.next)
  let s := s.writeAt l (completionBytes c r.phase)
  let s := s.updCpl f n CplRing.advance
  if c.irq then s.raiseVector f (r.vector n) else s

/-- A completion due to ring `n`: written, or held while the ring is full (R49). A disabled ring takes nothing,
nor does one in device memory once the memory controllers have stopped (R673). -/
def State.postCompletion (s : State) (f : Func) (n : Nat) (c : Completion) : State :=
  match s.cplRing f n with
  | none => s
  | some r =>
    if !r.enable || (s.stopped && r.locDev) then s
    else if r.full || !r.held.isEmpty then s.updCpl f n fun x => { x with held := x.held ++ [c] }
    else s.writeCompletion f n r c

/-- Write held completions, oldest first, while the ring has room (R49). -/
def State.releaseHeld : Nat → State → Func → Nat → State
  | 0, s, _, _ => s
  | k + 1, s, f, n =>
    match s.cplRing f n with
    | none => s
    | some r =>
      match r.held with
      | [] => s
      | c :: rest =>
        if r.full then s
        else
          let s := s.updCpl f n fun x => { x with held := rest }
          State.releaseHeld k (s.writeCompletion f n { r with held := rest } c) f n

/-- A completion of the sideband: held in the device, SMB_ALERT_N asserted (R92). -/
def State.postSideband (s : State) (c : Completion) : State :=
  { s with smb.completions := s.smb.completions ++ [c], smb.alert := true }

/-- The completion ring that a submission ring reports to is full, or still holds completions back (R49). -/
def State.cplBlocked (s : State) (x : Src) : Bool :=
  match x with
  | .smbus => decide (16 ≤ s.smb.completions.length)
  | .ring f n =>
    match s.subRing f n.val with
    | none => false
    | some r =>
      match s.cplRing f r.target.toNat with
      | none => false
      | some c => c.enable && (c.full || !c.held.isEmpty)

/-! ## Events -/

/-- The event codes of R77 and the log-only codes of R577. -/
inductive EventCode where
  | commandOutcome | deviceReady | eventsLost | ringFault | expertChanged
  | streamTruncated | streamStalled | streamDiscontinuity | streamRejected | pictureConcealed
  | rungChanged | flipMissed | tileDegraded | tilesReissued | depthBudgetChanged
  | lockAcquired | lockHoldover | lockFreeRun | stillRate
  | laneRetrained | railFault | panelDischarged
  | rcRowsAtFloor | rcRowsSkipped | chainSigned | chainResumed
  | ptpLocked | ptpLost | evtCaptured | portLink
  | memRetried | memRetrained
  | recordAmbiguous | pageRefreshed | nvmUncorrectable
  | thermalWarning | thermalThrottle | thermalShutdown | sensorBroken | calibrated
  | faultRecovered | lockstepRestart | powerWarning | brownout
  | fwUpdated | authEvent
  | thermalTrip | faultUnrecovered | coreRetired
  deriving DecidableEq, Repr

/-- The number of an event code (R77, R577). -/
def EventCode.code : EventCode → Half
  | .commandOutcome => 0x0001
  | .deviceReady => 0x0101
  | .eventsLost => 0x0102
  | .ringFault => 0x0103
  | .expertChanged => 0x0104
  | .streamTruncated => 0x0201
  | .streamStalled => 0x0202
  | .streamDiscontinuity => 0x0203
  | .streamRejected => 0x0204
  | .pictureConcealed => 0x0301
  | .rungChanged => 0x0401
  | .flipMissed => 0x0402
  | .tileDegraded => 0x0403
  | .tilesReissued => 0x0404
  | .depthBudgetChanged => 0x0405
  | .lockAcquired => 0x0601
  | .lockHoldover => 0x0602
  | .lockFreeRun => 0x0603
  | .stillRate => 0x0604
  | .laneRetrained => 0x0701
  | .railFault => 0x0702
  | .panelDischarged => 0x0703
  | .rcRowsAtFloor => 0x0801
  | .rcRowsSkipped => 0x0802
  | .chainSigned => 0x0803
  | .chainResumed => 0x0804
  | .ptpLocked => 0x0A01
  | .ptpLost => 0x0A02
  | .evtCaptured => 0x0A03
  | .portLink => 0x0A04
  | .memRetried => 0x0B01
  | .memRetrained => 0x0B02
  | .recordAmbiguous => 0x0C01
  | .pageRefreshed => 0x0C02
  | .nvmUncorrectable => 0x0C03
  | .thermalWarning => 0x0D01
  | .thermalThrottle => 0x0D02
  | .thermalShutdown => 0x0D03
  | .sensorBroken => 0x0D04
  | .calibrated => 0x0D05
  | .faultRecovered => 0x0E01
  | .lockstepRestart => 0x0E02
  | .powerWarning => 0x0E03
  | .brownout => 0x0E04
  | .fwUpdated => 0x0F01
  | .authEvent => 0x0F02
  | .thermalTrip => 0x0E10
  | .faultUnrecovered => 0x0E11
  | .coreRetired => 0x0E12

/-- The severity of an event code (R577). -/
def EventCode.severity : EventCode → Nat
  | .commandOutcome | .deviceReady | .expertChanged | .streamDiscontinuity | .rungChanged | .depthBudgetChanged
  | .lockAcquired | .stillRate | .chainSigned | .ptpLocked | .evtCaptured | .portLink | .pageRefreshed | .calibrated
  | .fwUpdated => 0
  | .ringFault | .eventsLost | .tileDegraded | .railFault | .nvmUncorrectable | .thermalThrottle | .sensorBroken
  | .faultRecovered | .lockstepRestart | .authEvent => 2
  | .thermalShutdown | .powerWarning | .thermalTrip | .faultUnrecovered | .coreRetired => 3
  | _ => 1

/-- Events delivered to VFs as device-wide events (R77). -/
def EventCode.deviceWide : EventCode → Bool
  | .deviceReady | .lockAcquired | .lockHoldover | .lockFreeRun | .stillRate | .thermalWarning | .thermalThrottle
  | .thermalShutdown | .powerWarning => true
  | _ => false

/-- Codes that the log keeps and no event ring receives (R577). -/
def EventCode.logOnly : EventCode → Bool
  | .thermalTrip | .faultUnrecovered | .coreRetired => true
  | _ => false

/-- Codes of severity 0 that are logged all the same (R576). -/
def EventCode.logged (c : EventCode) : Bool :=
  decide (1 ≤ c.severity) || c == .deviceReady || c == .expertChanged || c == .fwUpdated

/-- Every code, for reading a code back from a number. -/
def EventCode.all : List EventCode :=
  [.commandOutcome, .deviceReady, .eventsLost, .ringFault, .expertChanged, .streamTruncated, .streamStalled,
    .streamDiscontinuity, .streamRejected, .pictureConcealed, .rungChanged, .flipMissed, .tileDegraded, .tilesReissued,
    .depthBudgetChanged, .lockAcquired, .lockHoldover, .lockFreeRun, .stillRate, .laneRetrained, .railFault,
    .panelDischarged, .rcRowsAtFloor, .rcRowsSkipped, .chainSigned, .chainResumed, .ptpLocked, .ptpLost, .evtCaptured,
    .portLink, .memRetried, .memRetrained, .recordAmbiguous, .pageRefreshed, .nvmUncorrectable, .thermalWarning,
    .thermalThrottle, .thermalShutdown, .sensorBroken, .calibrated, .faultRecovered, .lockstepRestart, .powerWarning,
    .brownout, .fwUpdated, .authEvent, .thermalTrip, .faultUnrecovered, .coreRetired]

/-- The event code with a number, if it is one of R77. -/
def EventCode.ofNumber (n : Nat) : Option EventCode :=
  EventCode.all.find? fun c => c.code.toNat == n && !c.logOnly

/-- An event before its time is put to it. -/
structure Event where
  /-- Its code. -/
  code : EventCode
  /-- Island number or 0xFFFF. -/
  source : Nat := 0xFFFF
  /-- Ring of the related packet, or 0xFF. -/
  ring : Byte := 0xFF
  /-- Tag of the related packet, or 0. -/
  tag : Half := 0
  /-- data0. -/
  data0 : Nat := 0
  /-- data1. -/
  data1 : Nat := 0
  /-- The VF whose packet, context, layer or session the event concerns (R74). -/
  owner : Option Func := none
  /-- It follows from EVT_INJECT (R582). -/
  injected : Bool := false
  deriving DecidableEq, Repr

/-- The event with MT at this moment (R74). -/
def State.stampEvent (s : State) (e : Event) : EventRec :=
  { code := e.code.code, severity := byte e.code.severity, mtSec := word (secField s.time.mt),
    mtNs := word (nsField s.time.mt), source := BitVec.ofNat 16 e.source, tag := e.tag, ring := e.ring,
    data0 := word e.data0, data1 := word e.data1 }

/-- The 32 bytes of an event entry (R74). -/
def eventBytes (e : EventRec) (phase : Bool) (seq : Word) : List Byte :=
  leBytes 2 e.code.toNat ++ [e.severity, byte (b2n phase)] ++ leBytes 4 seq.toNat ++ leBytes 4 e.mtSec.toNat ++
    leBytes 4 e.mtNs.toNat ++ leBytes 2 e.source.toNat ++ leBytes 2 e.tag.toNat ++ [e.ring] ++ leBytes 3 0 ++
    leBytes 4 e.data0.toNat ++ leBytes 4 e.data1.toNat

/-- Entries of every event ring (R74). -/
def evtSize : Nat := 256

/-- The vector of an event ring (R78). -/
def EvtRing.vector (r : EvtRing) : Nat := if r.target = 0xFF then 0 else r.target.toNat

/-- Write an event at the next entry of a function's event ring (R74, R75). -/
def State.writeEvent (s : State) (f : Func) (e : EventRec) : State :=
  let r := (s.fn f).evt
  let l := s.ringLoc f r.locDev (ringBase r.baseLo r.baseHi) (32 * r.next)
  let s := s.writeAt l (eventBytes e r.phase r.seq)
  let s := s.updEvt f fun r =>
    let nx := (r.next + 1) % evtSize
    { r with next := nx, used := r.used + 1, seq := r.seq + 1, phase := if nx = 0 then !r.phase else r.phase }
  s.raiseVector f r.vector

/-- Deliver an event to a function's event ring: masked codes and disabled rings take nothing, a full ring counts (R75); an
event that it discards raises no vector (log 125). -/
def State.deliverEvent (s : State) (f : Func) (e : EventRec) : State :=
  let r := (s.fn f).evt
  if !r.enable || r.masked.contains e.code || (s.stopped && r.locDev) then s
  else if evtSize ≤ r.used then s.updEvt f fun r => { r with lost := r.lost + 1 }
  else s.writeEvent f e

/-- Deliver an event to the sideband: at most 32 are held, others are counted (R92). -/
def State.deliverSideband (s : State) (e : EventRec) : State :=
  if s.smb.masked.contains e.code then s
  else if 32 ≤ s.smb.events.length then { s with smb.lost := s.smb.lost + 1 }
  else { s with smb.events := s.smb.events ++ [(s.smb.seq, e)], smb.seq := s.smb.seq + 1, smb.alert := true }

/-- The guard of a code and source in the log (R576). -/
def findGuard (c src : Half) (gs : List LogGuard) : Option LogGuard :=
  gs.find? fun g => g.code == c && g.source == src

/-- Put the guard of a code and source in place of the old one. -/
def putGuard (g : LogGuard) (gs : List LogGuard) : List LogGuard :=
  g :: gs.filter fun x => !(x.code == g.code && x.source == g.source)

/-- Queue a log entry for an event (R575, R576, R578). A repeat within 1 s of an entry with the same code and source is
suppressed and counted; a queue of 64 that is full loses the entry, which is counted. -/
def State.logEvent (s : State) (e : EventRec) (injected : Bool) : State :=
  let old := findGuard e.code e.source s.sup.logGuards
  let recent := match old with
    | some g => decide (s.mtNs < g.at_ + 1000000000)
    | none => false
  if recent then
    match old with
    | some g =>
      { s with sup.logGuards := putGuard { g with suppressed := g.suppressed + 1 } s.sup.logGuards,
               sup.logLost := s.sup.logLost + 1 }
    | none => s
  else if 64 ≤ s.sup.logQueue.length then { s with sup.logLost := s.sup.logLost + 1 }
  else
    let sup := match old with
      | some g => min g.suppressed 127
      | none => 0
    let entry : LogEntry :=
      { code := e.code, severity := e.severity, injected := injected, suppressed := sup, mtSec := e.mtSec,
        mtNs := e.mtNs, source := e.source, data0 := e.data0, data1 := e.data1 }
    { s with sup.logQueue := s.sup.logQueue ++ [entry],
             sup.logGuards := putGuard { code := e.code, source := e.source, at_ := s.mtNs } s.sup.logGuards }

/-- A VF's event ring receives the event: it is device-wide, or it concerns that VF (R74). -/
def Event.reaches (e : Event) (f : Func) : Bool :=
  match f with
  | .pf => true
  | .vf _ => e.code.deviceWide || e.owner == some f

/-- Deliver an event to the event rings of the functions in turn. -/
def State.deliverAll (s : State) (e : Event) (r : EventRec) : List Func → State
  | [] => s
  | f :: fs => State.deliverAll (if e.reaches f then s.deliverEvent f r else s) e r fs

/-- The PF and VFs 1 to 8. -/
def allFuncs : List Func := [.pf, .vf 0, .vf 1, .vf 2, .vf 3, .vf 4, .vf 5, .vf 6, .vf 7]

/-- Raise an event: log it, then deliver it to the event rings and to the sideband (R74 to R77, R92, R576). -/
def State.raise (s : State) (e : Event) : State :=
  let r := s.stampEvent e
  let s := if e.code.logged then s.logEvent r e.injected else s
  if e.code.logOnly then s
  else
    let s := s.deliverAll e r allFuncs
    s.deliverSideband r

/-! ## Faults -/

/-- Count a detected fault of a class (R580). -/
def State.countDetected (s : State) (cls : Nat) : State :=
  { s with sup.detected := updAt s.sup.detected cls (· + 1) }

/-! ## Fences -/

/-- The counter that an index of a function names, if it is in the function's range (R66). -/
def fenceIndex (f : Func) (i : Nat) : Option Nat :=
  match f with
  | .pf => if i < 192 then some i else none
  | .vf n => if i < 8 then some (192 + 8 * n.val + i) else none

/-- The value of a fence counter. -/
def State.fence (s : State) (i : Nat) : DWord := s.cmd.fences.getD i 0

/-- A signal adds 1 to a counter (R67). -/
def State.signalFence (s : State) (i : Nat) : State :=
  { s with cmd.fences := updAt s.cmd.fences i (· + 1) }

/-- The condition of a wait: (low 32 bits of counter - wait value) as a signed 32-bit value is at least 0 (R68). -/
def fenceReached (counter : DWord) (wait : Word) : Bool := !(counter.lo - wait).msb

/-- The order of two 32-bit numbers judged as in R68: `a` is later than `b`. -/
def seqAfter (a b : Word) : Bool := a != b && !(a - b).msb

/-- Signal the fence that a packet names, when it asks for that (R54, R67). -/
def State.signalOf (s : State) (p : Packet) : State :=
  if p.signals then
    match fenceIndex p.src.func p.signalFence.toNat with
    | some i => s.signalFence i
    | none => s
  else s

/-- A packet completes with a status: the fence signals first, then the entry is written unless QUIET suppresses it
(R54, R55, R67). -/
def State.complete (s : State) (p : Packet) (st : Status) (r0 r1 : Word) : State :=
  let s := s.signalOf p
  let c : Completion :=
    { ring := p.src.ringNo, tag := p.tag, status := st.code, result0 := r0, result1 := r1,
      irq := p.irq || decide (0x100 ≤ st.code.toNat) }
  if p.quiet && st == .ok then
    match p.src with
    | .smbus => { s with smb.outstanding := false }
    | .ring _ _ => s
  else
    match p.src with
    | .smbus => s.postSideband c
    | .ring f n =>
      match s.subRing f n.val with
      | none => s
      | some r => s.postCompletion f r.target.toNat c

/-- Give a free value: the model draws the next unstated number (log 4). -/
def State.drawFree (s : State) : Nat × State := (Config.freeNat s.free, { s with free := s.free + 1 })

/-- Raise an event whose data the manual does not give: both words are free values (log 8). -/
def State.raiseFree (s : State) (e : Event) : State :=
  let (a, s) := s.drawFree
  let (b, s) := s.drawFree
  s.raise { e with data0 := a, data1 := b }

/-! ## Recovery from faults -/

/-- The longest interruption that R562 counts for a recovery of a class, ns (R567); an error retrain that waits for another
reaches 40 us (R487). -/
def classBound (cls : Nat) : Nat :=
  match cls with
  | 2 => 2000
  | 4 | 6 | 8 => 0
  | 5 => 40000
  | _ => 20000

/-- The island at which the events of a class and unit arise, 0xFFFF where no one island does (log 36). -/
def faultSource (cls unit : Nat) : Nat :=
  match cls with
  | 2 => 8 + unit
  | 3 | 9 => unit
  | 4 => 108 + unit
  | 5 => 123 + unit / 4
  | 7 => 122
  | 8 => 127
  | _ => 0xFFFF

/-- A fault of a class has been recovered: the counters rise and FAULT_RECOVERED is raised; the interruption is a free value
within the bound of the class (R567, R583, log 36). -/
def State.recovered (s : State) (cls unit : Nat) (injected : Bool) : State :=
  let (v, s) := s.drawFree
  { s with sup.recovered := updAt s.sup.recovered cls (· + 1) }.raise
    { code := .faultRecovered, source := faultSource cls unit, data0 := cls + 256 * b2n injected + 65536 * (unit % 65536),
      data1 := v % (classBound cls + 1), injected := injected }

/-! ## The journal (R563) -/

/-- Remove a started packet from the journal. -/
def State.dropFlight (s : State) (t : Nat) : State :=
  { s with cmd.flights := s.cmd.flights.filter fun f => f.ticket != t }

/-- The started packet with a ticket. -/
def State.flight (s : State) (t : Nat) : Option Flight := s.cmd.flights.find? fun f => f.ticket == t

/-- A done-D packet ends: its completion is written unless its ring was disabled without completions (R70, R671). -/
def State.finish (s : State) (t : Nat) (st : Status) (r0 r1 : Nat) : State :=
  match s.flight t with
  | none => s
  | some f =>
    let s := s.dropFlight t
    if f.mute then (if f.noSignal then s else s.signalOf f.pkt)
    else s.complete f.pkt st (word r0) (word r1)

/-- Mark a started packet committed, counted in the total order (R63, R70, R563). -/
def State.commitFlight (s : State) (t : Nat) : State :=
  { s with cmd.flights := s.cmd.flights.map (fun f => if f.ticket == t then { f with committed := true } else f),
           cmd.committed := s.cmd.committed + 1 }

/-- The outcome of a done-A packet arrives as COMMAND_OUTCOME (R76). -/
def State.outcome (s : State) (t : Nat) (st : Status) (data1 : Nat) : State :=
  match s.cmd.outcomes.find? (fun f => f.ticket == t) with
  | none => s
  | some f =>
    let s := { s with cmd.outcomes := s.cmd.outcomes.filter fun f => f.ticket != t }
    if f.mute then s
    else
      s.raise { code := .commandOutcome, ring := f.pkt.src.ringNo, tag := f.pkt.tag, data0 := st.code.toNat,
                data1 := data1, owner := some f.pkt.src.func }

/-- The completion ring of a started packet is full: its commit waits until the head moves (R49). -/
def State.commitHeld (s : State) (t : Nat) : Bool :=
  (s.flight t).any fun (f : Flight) => !f.mute && s.cplBlocked f.pkt.src

/-- The refusal that the commit point meets while commits are held: POWER_FAIL from the power-fail warning on (R73), BUSY
during the orderly shutdown (R545). -/
def State.commitRefusal (s : State) : Option Status :=
  if s.pwr.loss.isSome then some .powerFail
  else if s.thm.shutdown.isSome then some .busy
  else none

end Sys2Proof.Machine
end

