-- ==== Sys2Proof/Machine/Operands.lean ====
section
/-!
DEFINITION. The operand forms: the fields of a packet, the table of opcodes, and the checks of the header.

A packet's bytes are numbered from the start of its header (R51), so parameters begin at 16. The header checks stand in
the order of log 7, since the manual gives each check and no order among them.
-/

namespace Sys2Proof

open Sys2Proof.Machine

/-! ## Fields of a packet -/

/-- The little-endian number of `n` bytes at packet offset `off`, which is at least 16. -/
def Packet.num (p : Packet) (off n : Nat) : Nat := fieldAt p.body (off - 16) n
/-- Byte at a packet offset. -/
def Packet.u8 (p : Packet) (off : Nat) : Nat := p.num off 1
/-- 16-bit field at a packet offset. -/
def Packet.u16 (p : Packet) (off : Nat) : Nat := p.num off 2
/-- 32-bit field at a packet offset. -/
def Packet.u32 (p : Packet) (off : Nat) : Nat := p.num off 4
/-- 64-bit field at a packet offset. -/
def Packet.u64 (p : Packet) (off : Nat) : Nat := p.num off 8
/-- Signed field of `n` bytes at a packet offset. -/
def Packet.int (p : Packet) (off n : Nat) : Int := signedOf (8 * n) (p.num off n)
/-- A time in the 12-byte form of R436 at a packet offset. -/
def Packet.time (p : Packet) (off : Nat) : Nat := timeOf (sliceZ p.body (off - 16) 12)
/-- `n` bytes at a packet offset. -/
def Packet.bytesAt (p : Packet) (off n : Nat) : List Byte := sliceZ p.body (off - 16) n

end Sys2Proof

namespace Sys2Proof.Machine

/-- When a completion is written (R58). -/
inductive Done where
  | immediate | deferred | asynchronous
  deriving DecidableEq, Repr

/-- One row of the table of R58. -/
structure OpInfo where
  /-- Opcode. -/
  code : Nat
  /-- Level E. -/
  expert : Bool
  /-- Done column. -/
  done : Done
  /-- A VF may issue it. -/
  vf : Bool
  /-- Length that the opcode requires, none where its own rule decides (R52). -/
  length : Option Nat
  /-- The parameter bytes that the opcode names, as offset and size; all others are reserved (R5). -/
  named : List (Nat × Nat)
  /-- Memory addresses that the opcode cannot do without. -/
  needsAddr : List Nat
  /-- Memory addresses that may be 0 for none. -/
  mayAddr : List Nat
  deriving DecidableEq, Repr


end Sys2Proof.Machine

namespace Sys2Proof

open Sys2Proof.Machine

/-- The table of R58, with the length and the named parameter bytes that each opcode's own rule gives. -/
def Op.info : Op → OpInfo
  | .devNop => ⟨0x0100, false, .immediate, true, none, [(16, 240)], [], []⟩
  | .devInfo => ⟨0x0101, false, .immediate, true, some 5, [(16, 1)], [], []⟩
  | .devAbort => ⟨0x0102, false, .immediate, true, some 5, [(16, 1), (18, 2)], [], []⟩
  | .devSetLevel => ⟨0x0103, false, .immediate, false, some 5, [(16, 1), (17, 1), (18, 2)], [], []⟩
  | .devFenceRead => ⟨0x0104, false, .immediate, true, some 5, [(16, 1)], [], []⟩
  | .devVfGrant => ⟨0x0105, false, .immediate, false, some 12, [(16, 12), (32, 8)], [], []⟩
  | .devStatus => ⟨0x0106, false, .immediate, true, some 8, [(24, 8)], [], [24]⟩
  | .devDusk => ⟨0x0107, false, .deferred, false, some 5, [(16, 1)], [], []⟩
  | .devFenceSet => ⟨0x0180, true, .immediate, false, some 8, [(16, 1), (24, 8)], [], []⟩
  | .strmOpen => ⟨0x0200, false, .immediate, true, some 8, [(16, 1), (18, 10)], [], []⟩
  | .strmSubmit => ⟨0x0201, false, .deferred, true, some 8, [(16, 1), (20, 4), (24, 8)], [24], []⟩
  | .strmCut => ⟨0x0202, false, .asynchronous, false, some 5, [(16, 1)], [], []⟩
  | .strmClose => ⟨0x0203, false, .immediate, true, some 5, [(16, 1)], [], []⟩
  | .strmStatus => ⟨0x0204, false, .immediate, true, some 5, [(16, 2)], [], []⟩
  | .strmTimeouts => ⟨0x0280, true, .immediate, false, some 6, [(16, 1), (18, 4)], [], []⟩
  | .strmFilter => ⟨0x0281, true, .immediate, false, some 8, [(16, 1), (18, 14)], [], []⟩
  | .decPoolSize => ⟨0x0300, false, .immediate, false, some 5, [(16, 1), (18, 2)], [], []⟩
  | .decStatus => ⟨0x0301, false, .immediate, false, some 5, [(16, 2)], [], []⟩
  | .decAssign => ⟨0x0380, true, .immediate, false, some 6, [(16, 6)], [], []⟩
  | .decColour => ⟨0x0381, true, .immediate, false, some 5, [(16, 3)], [], []⟩
  | .rayModelLoad => ⟨0x0400, false, .deferred, false, some 8, [(16, 1), (20, 4), (24, 8)], [], [24]⟩
  | .rayModelStore => ⟨0x0401, false, .deferred, false, some 4, [], [], []⟩
  | .rayStatus => ⟨0x0402, false, .immediate, false, some 5, [(16, 1), (18, 2)], [], []⟩
  | .rayRelease => ⟨0x0403, false, .immediate, false, some 4, [], [], []⟩
  | .raySetRung => ⟨0x0480, true, .immediate, false, some 5, [(16, 1)], [], []⟩
  | .raySetDepthCurve => ⟨0x0481, true, .immediate, false, some 9, [(16, 18)], [], []⟩
  | .rayCoreMask => ⟨0x0482, true, .immediate, false, some 8, [(16, 12)], [], []⟩
  | .cmpLayerSet => ⟨0x0500, false, .immediate, true, some 12, [(16, 30)], [], []⟩
  | .cmpFlip => ⟨0x0501, false, .deferred, true, some 14, [(16, 1), (20, 36)], [32], []⟩
  | .cmpLayerOff => ⟨0x0502, false, .deferred, true, some 5, [(16, 1)], [], []⟩
  | .cmpScalerCoef => ⟨0x0580, true, .immediate, false, some 8, [(16, 2), (24, 8)], [24], []⟩
  | .dspTimingSet => ⟨0x0600, false, .asynchronous, false, some 10, [(16, 20)], [], []⟩
  | .dspLock => ⟨0x0601, false, .asynchronous, false, some 8, [(16, 2), (20, 10)], [], []⟩
  | .dspStill => ⟨0x0602, false, .immediate, false, some 5, [(16, 2)], [], []⟩
  | .dspStatus => ⟨0x0603, false, .immediate, true, some 5, [(16, 2)], [], []⟩
  | .dspProfileStore => ⟨0x0604, false, .deferred, false, some 8, [(16, 4), (24, 8)], [24], []⟩
  | .dspProfileRead => ⟨0x0605, false, .immediate, false, some 8, [(16, 4), (24, 8)], [24], []⟩
  | .dspOffset => ⟨0x0680, true, .immediate, false, some 5, [(16, 4)], [], []⟩
  | .dspHoldover => ⟨0x0681, true, .immediate, false, some 5, [(16, 2)], [], []⟩
  | .pnlPowerOn => ⟨0x0700, false, .asynchronous, false, some 4, [], [], []⟩
  | .pnlPowerOff => ⟨0x0701, false, .asynchronous, false, some 4, [], [], []⟩
  | .pnlLinkTrain => ⟨0x0702, false, .asynchronous, false, some 8, [(16, 10)], [], []⟩
  | .pnlGammaLoad => ⟨0x0703, false, .deferred, false, some 10, [(16, 2), (20, 18)], [24], []⟩
  | .pnlStatus => ⟨0x0704, false, .immediate, false, some 5, [(16, 2)], [], []⟩
  | .pnlRailSet => ⟨0x0780, true, .immediate, false, some 8, [(16, 10)], [], []⟩
  | .pnlVcomSet => ⟨0x0781, true, .immediate, false, some 8, [(16, 12)], [], []⟩
  | .pnlGateTiming => ⟨0x0782, true, .immediate, false, some 8, [(16, 11)], [], []⟩
  | .witConfig => ⟨0x0800, false, .immediate, false, some 10, [(16, 24)], [], []⟩
  | .witStart => ⟨0x0801, false, .immediate, false, some 4, [], [], []⟩
  | .witStop => ⟨0x0802, false, .deferred, false, some 4, [], [], []⟩
  | .witExport => ⟨0x0803, false, .immediate, false, some 12, [(16, 22)], [], [24]⟩
  | .encOpen => ⟨0x0804, false, .immediate, true, some 12, [(16, 19), (36, 12)], [40], []⟩
  | .encFrame => ⟨0x0805, false, .deferred, true, some 16, [(16, 3), (20, 44)], [40], []⟩
  | .encClose => ⟨0x0806, false, .deferred, true, some 5, [(16, 1)], [], []⟩
  | .encRate => ⟨0x0880, true, .immediate, false, some 8, [(16, 7)], [], []⟩
  | .encSearch => ⟨0x0881, true, .immediate, false, some 6, [(16, 5)], [], []⟩
  | .bltSurfaceSet => ⟨0x0900, false, .immediate, true, none, [(16, 3), (32, 208)], [], []⟩
  | .bltRun => ⟨0x0901, false, .deferred, true, some 8, [(16, 2), (24, 8)], [24], []⟩
  | .timeRead => ⟨0x0A00, false, .immediate, true, some 8, [(16, 2), (24, 8)], [], [24]⟩
  | .timePortConfig => ⟨0x0A01, false, .asynchronous, false, some 8, [(16, 3), (20, 12)], [], []⟩
  | .timePtpConfig => ⟨0x0A02, false, .immediate, false, some 8, [(16, 6)], [], []⟩
  | .timeEvtConfig => ⟨0x0A03, false, .immediate, false, some 12, [(16, 3), (20, 28)], [], []⟩
  | .timeSetEt => ⟨0x0A04, false, .immediate, false, some 8, [(20, 12)], [], []⟩
  | .timeRelease => ⟨0x0A05, false, .immediate, false, some 4, [], [], []⟩
  | .timeIncrement => ⟨0x0A80, true, .immediate, false, some 8, [(16, 1), (24, 8)], [], []⟩
  | .timeStep => ⟨0x0A81, true, .immediate, false, some 8, [(16, 2), (20, 12)], [], []⟩
  | .memStatus => ⟨0x0B00, false, .immediate, false, some 5, [(16, 2)], [], []⟩
  | .memEccRegion => ⟨0x0B01, false, .immediate, false, some 8, [(16, 1), (20, 12)], [], []⟩
  | .memRelease => ⟨0x0B02, false, .immediate, false, some 4, [], [], []⟩
  | .memRegulator => ⟨0x0B80, true, .immediate, false, some 6, [(16, 1), (18, 4)], [], []⟩
  | .memClass => ⟨0x0B81, true, .immediate, false, some 9, [(16, 10), (28, 6)], [], []⟩
  | .memRetrain => ⟨0x0B82, true, .immediate, false, some 5, [(16, 2)], [], []⟩
  | .nvmRecordRead => ⟨0x0C00, false, .immediate, false, some 8, [(16, 8), (24, 8)], [], [24]⟩
  | .nvmRecordStore => ⟨0x0C01, false, .deferred, false, none, [(16, 4), (24, 232)], [], [24]⟩
  | .nvmRawRead => ⟨0x0C02, false, .immediate, false, some 8, [(16, 4), (24, 8)], [], [24]⟩
  | .nvmRawWrite => ⟨0x0C03, false, .deferred, false, none, [(16, 4), (24, 232)], [], []⟩
  | .nvmStatus => ⟨0x0C04, false, .immediate, false, some 5, [(16, 2)], [], []⟩
  | .nvmRelease => ⟨0x0C05, false, .immediate, false, some 4, [], [], []⟩
  | .nvmRefreshPolicy => ⟨0x0C80, true, .immediate, false, some 5, [(16, 4)], [], []⟩
  | .thmRead => ⟨0x0D00, false, .immediate, true, some 5, [(16, 2)], [], []⟩
  | .thmCalRun => ⟨0x0D01, false, .asynchronous, false, some 5, [(16, 1)], [], []⟩
  | .thmRelease => ⟨0x0D02, false, .immediate, false, some 4, [], [], []⟩
  | .thmLimits => ⟨0x0D80, true, .immediate, false, some 8, [(16, 2), (20, 8)], [], []⟩
  | .thmThresholds => ⟨0x0D81, true, .immediate, false, some 6, [(16, 4)], [], []⟩
  | .thmCalPolicy => ⟨0x0D82, true, .immediate, false, some 5, [(16, 2)], [], []⟩
  | .evtLogRead => ⟨0x0E00, false, .immediate, false, some 8, [(16, 6), (24, 8)], [24], []⟩
  | .evtCounters => ⟨0x0E01, false, .immediate, false, some 5, [(16, 3)], [], []⟩
  | .evtMask => ⟨0x0E02, false, .immediate, true, some 5, [(16, 3)], [], []⟩
  | .evtInject => ⟨0x0E80, true, .immediate, false, some 5, [(16, 3)], [], []⟩
  | .fwVersion => ⟨0x0F00, false, .immediate, true, some 4, [], [], []⟩
  | .fwUpdate => ⟨0x0F01, false, .deferred, false, some 8, [(16, 4), (24, 8)], [24], []⟩
  | .fwCertRead => ⟨0x0F02, false, .immediate, true, some 8, [(16, 1), (20, 4), (24, 8)], [24], []⟩
  | .fwAttest => ⟨0x0F03, false, .deferred, false, some 14, [(16, 32), (48, 8)], [48], []⟩
  | .fwDebugUnlock => ⟨0x0F80, true, .immediate, false, some 8, [(16, 4), (24, 8)], [24], []⟩

/-- Every opcode, in the order of R58. -/
def Op.all : List Op :=
  [.devNop, .devInfo, .devAbort, .devSetLevel, .devFenceRead, .devVfGrant, .devStatus, .devDusk, .devFenceSet, .strmOpen, .strmSubmit, .strmCut, .strmClose, .strmStatus, .strmTimeouts, .strmFilter, .decPoolSize, .decStatus, .decAssign, .decColour, .rayModelLoad, .rayModelStore, .rayStatus, .rayRelease, .raySetRung, .raySetDepthCurve, .rayCoreMask, .cmpLayerSet, .cmpFlip, .cmpLayerOff, .cmpScalerCoef, .dspTimingSet, .dspLock, .dspStill, .dspStatus, .dspProfileStore, .dspProfileRead, .dspOffset, .dspHoldover, .pnlPowerOn, .pnlPowerOff, .pnlLinkTrain, .pnlGammaLoad, .pnlStatus, .pnlRailSet, .pnlVcomSet, .pnlGateTiming, .witConfig, .witStart, .witStop, .witExport, .encOpen, .encFrame, .encClose, .encRate, .encSearch, .bltSurfaceSet, .bltRun, .timeRead, .timePortConfig, .timePtpConfig, .timeEvtConfig, .timeSetEt, .timeRelease, .timeIncrement, .timeStep, .memStatus, .memEccRegion, .memRelease, .memRegulator, .memClass, .memRetrain, .nvmRecordRead, .nvmRecordStore, .nvmRawRead, .nvmRawWrite, .nvmStatus, .nvmRelease, .nvmRefreshPolicy, .thmRead, .thmCalRun, .thmRelease, .thmLimits, .thmThresholds, .thmCalPolicy, .evtLogRead, .evtCounters, .evtMask, .evtInject, .fwVersion, .fwUpdate, .fwCertRead, .fwAttest, .fwDebugUnlock]

/-- The opcode with a number (R52). -/
def Op.ofCode (n : Nat) : Option Op := Op.all.find? fun o => o.info.code == n

/-- Class of an opcode (R57). -/
def Op.cls (o : Op) : Nat := o.info.code / 256

end Sys2Proof

namespace Sys2Proof.Machine

/-- What a refused header answers: status, result0 and result1 (R50). -/
structure Refused where
  /-- Status. -/
  status : Status
  /-- result0. -/
  r0 : Nat
  /-- result1. -/
  r1 : Nat := 0
  deriving DecidableEq, Repr

/-- No single field is at fault (R50). -/
def noField : Nat := 0xFFFFFFFF

/-- The offset is a named parameter byte. -/
def isNamed (named : List (Nat × Nat)) (off : Nat) : Bool :=
  named.any fun r => decide (r.1 ≤ off ∧ off < r.1 + r.2)

/-- The offset of the first reserved byte that is not 0 (R5), from `off` on. -/
def firstReserved (named : List (Nat × Nat)) : Nat → List Byte → Option Nat
  | _, [] => none
  | off, b :: bs => if b != 0 && !isNamed named off then some off else firstReserved named (off + 1) bs

/-- The classes enabled for the expert level on a packet's ring (R59). -/
def State.classesOf (s : State) : Src → Half
  | .smbus => s.smb.classes
  | .ring f n => match s.subRing f n.val with
    | some r => r.classes
    | none => 0

/-- The length check of R45 and R52 that needs no opcode. -/
def checkLength (p : Packet) : Option Refused :=
  if p.length.toNat < 4 || 64 < p.length.toNat then some ⟨.badLength, 2, 0⟩ else none

/-- The opcode may be used by the issuing function (R52, R83), and its class is enabled when it is expert (R59). -/
def checkLevel (s : State) (o : Op) (p : Packet) : Option Refused :=
  if p.src.isVf && (!o.info.vf || o.info.expert) then some ⟨.badOpcode, 0, 0⟩
  else if o.info.expert && !(s.classesOf p.src).getLsbD o.cls then some ⟨.expertLocked, 0, 0⟩
  else none

/-- The reserved bits and bytes of the header, and the flags that ring 0x80 must not set (R5, R51, R93). -/
def checkHeaderBits (p : Packet) : Option Refused :=
  if p.flags.toNat / 32 ≠ 0 then some ⟨.badParam, 6, 0⟩
  else if p.resv7 ≠ 0 then some ⟨.badParam, 7, 0⟩
  else if p.resv10 ≠ 0 then some ⟨.badParam, if p.resv10.toNat % 256 ≠ 0 then 10 else 11, 0⟩
  else if p.src = .smbus ∧ (p.signals ∨ p.waits ∨ p.irq) then some ⟨.badParam, 6, 0⟩
  else none

/-- The fences that the header names lie in the function's range (R66). -/
def checkFences (p : Packet) : Option Refused :=
  if p.waits && (fenceIndex p.src.func p.waitFence.toNat).isNone then some ⟨.badParam, 8, 0⟩
  else if p.signals && (fenceIndex p.src.func p.signalFence.toNat).isNone then some ⟨.badParam, 9, 0⟩
  else none

/-- The bytes of a packet that its parameters name (R5): an inline body ends with its length, and with a body in memory nothing
follows the address (R508). -/
def namedIn (o : Op) (p : Packet) : List (Nat × Nat) :=
  if o = .nvmRecordStore then
    if p.u64 24 ≠ 0 then [(16, 4), (24, 8)]
    else if 224 < p.u16 18 then o.info.named
    else [(16, 4), (24, 8), (32, p.u16 18)]
  else o.info.named

/-- The length that the opcode requires (R52), the reserved parameter bytes (R5), and the addresses of ring 0x80 (R93;
the base of MEM_ECC_REGION is none, DESIGN CHOICE, log 138). -/
def checkParams (o : Op) (p : Packet) : Option Refused :=
  let i := o.info
  if i.length.any (· != p.length.toNat) then some ⟨.badLength, 2, 0⟩
  else
    let own := p.body.take (4 * p.length.toNat - 16)
    match firstReserved (namedIn o p) 16 own with
    | some off => some ⟨.badParam, off, 0⟩
    | none =>
      if p.src = .smbus then
        match i.needsAddr with
        | off :: _ => some ⟨.badParam, off, 0⟩
        | [] => (i.mayAddr.find? fun off => p.u64 off != 0).map fun off => ⟨.badParam, off, 0⟩
      else none

/-- After an unrecovered fault only these opcodes commit (R572). -/
def opAfterFault (o : Op) : Bool :=
  o == .devInfo || o == .devStatus || o == .evtLogRead || o == .evtCounters || o == .fwVersion || o == .fwCertRead

/-- The packet names device memory, whose controllers an unrecovered fault stops (R673). -/
def needsDevMem (o : Op) (p : Packet) : Bool := (o.info.needsAddr ++ o.info.mayAddr).any fun off => bitOf (p.u64 off) 63

/-- The checks of a packet's header in the order of log 7; none when the packet may start its own checks. -/
def checkHeader (s : State) (o : Op) (p : Packet) : Option Refused :=
  (checkLength p).or <| (checkLevel s o p).or <| (checkHeaderBits p).or <| (checkFences p).or <|
    (checkParams o p).or <|
    if s.sup.fault && (!opAfterFault o || needsDevMem o p) then some ⟨.hwFault, noField, 0⟩ else none

end Sys2Proof.Machine
end

