-- ==== Sys2Proof/Machine/Intake.lean ====
section
/-!
DEFINITION. How a packet starts, commits and completes (R63 to R73).

Every opcode's own effect is a function `run` from the ticket, the packet and the state to an `Answer`; this file puts
the rules that hold for every packet around it. A refusal carries no state, so a refused packet has no effect at all (R56).
-/

namespace Sys2Proof.Machine

/-- What an opcode's own rules answer at the start of a packet. -/
inductive Answer where
  /-- Done-I, and a done-D packet that ends at once: the effect, with the status and both results. -/
  | done (st : Status) (r0 r1 : Nat) (s : State)
  /-- Done-A: the packet took effect as a request; its outcome may be known at once. -/
  | accepted (s : State) (out : Option (Status × Nat))
  /-- Done-D: handed to its unit; `committed` when its commit point is its start (R70). -/
  | started (s : State) (committed : Bool)
  /-- Refused: no effect at all. -/
  | refused (r : Refused)

/-- Refuse with a status, the offset of the field at fault, and a detail code (R50). -/
def refuse (st : Status) (off : Nat) (detail : Nat := 0) : Answer := .refused ⟨st, off, detail⟩

/-- Done at once with OK. -/
def okay (s : State) (r0 r1 : Nat := 0) : Answer := .done .ok r0 r1 s

/-- The device commits packets at all: command-ready, supervisor running, no power-loss sequence, no orderly shutdown, no
Dusk (R73, R545, R611, R593, R565). -/
def State.serving (s : State) : Bool :=
  s.pwr.ready && s.sup.supState == 0 && !s.pwr.warn && s.pwr.loss.isNone && s.thm.shutdown.isNone &&
    s.pwr.dusk == .awake && !s.pwr.resetLow && !s.pwr.vsenseReset && s.pwr.vddAon

/-- WAIT_FENCE holds (R54, R68). An index out of range waits for nothing; the packet is refused when it starts, and so is
any packet of ring 0x80 that asks for a wait (R93). -/
def State.waitHolds (s : State) (p : Packet) : Bool :=
  !p.waits || p.src == .smbus || match fenceIndex p.src.func p.waitFence.toNat with
    | some i => fenceReached (s.fence i) p.waitValue
    | none => true

/-- FENCE_BEFORE holds: every earlier packet of the ring has completed (R54). -/
def State.beforeHolds (s : State) (p : Packet) : Bool :=
  !p.fenceBefore || s.cmd.flights.all fun f => f.pkt.src != p.src

/-- Nothing but the order of service keeps a packet at the front of its ring from starting (R49, R64). -/
def State.ready (s : State) (p : Packet) : Bool :=
  s.serving && !s.cplBlocked p.src && s.waitHolds p && s.beforeHolds p

/-- Packets fetched on a ring and not started. -/
def State.queued (s : State) : Src → List Fetched
  | .smbus => s.smb.waiting.toList
  | .ring f n => match s.subRing f n.val with
    | some r => r.fetched
    | none => []

/-- The place of a ring in the order of service: PF rings, the rings of VF 1 to 8, then ring 0x80 (R65). -/
def srcPlace : Src → Nat
  | .ring .pf n => n.val
  | .ring (.vf k) n => 16 + 2 * k.val + n.val % 2
  | .smbus => 32

/-- Every ring that may hold packets, in the order of service. -/
def allSrcs : List Src :=
  (List.finRange 16).map (Src.ring .pf) ++
    (List.finRange 8).flatMap (fun k => [Src.ring (.vf k) 0, Src.ring (.vf k) 1]) ++ [.smbus]

/-- Rings that the round has to pass before it comes to a ring (R65). -/
def State.distance (s : State) (x : Src) : Nat :=
  match s.cmd.served with
  | none => srcPlace x
  | some y => (srcPlace x + 32 - srcPlace y) % 33

/-- No other ring with a packet that is ready comes before a ring in the round (R65; DEDUCED, log 139). -/
def State.hasTurn (s : State) (x : Src) : Bool :=
  allSrcs.all fun y => match s.queued y with
    | [] => true
    | e :: _ => y == x || decide (s.distance x < s.distance y) || !s.ready e.pkt

/-- A packet at the front of its ring may start: it is ready, and the round has come to its ring (R64, R65). -/
def State.canStart (s : State) (p : Packet) : Bool := s.ready p && s.hasTurn p.src

/-- A ring is served; the round goes on behind it (R65). -/
def State.serve (s : State) (x : Src) : State := { s with cmd.served := some x }

/-- Register a packet that stays in progress beyond its start (R563). -/
def State.putFlight (s : State) (o : Op) (p : Packet) (committed : Bool) : State :=
  { s with cmd.flights := s.cmd.flights ++
      [{ ticket := s.cmd.nextTicket, opcode := BitVec.ofNat 16 o.info.code, pkt := p, committed := committed }],
           cmd.nextTicket := s.cmd.nextTicket + 1 }

/-- Count one packet committed (R88). -/
def State.countCommit (s : State) : State := { s with cmd.committed := s.cmd.committed + 1 }

/-- AUTH_EVENT accompanies every AUTH_FAILED; its data are free values (R77, log 8). -/
def State.authEvent (s : State) (p : Packet) (st : Status) : State :=
  if st == .authFailed then
    s.raiseFree { code := .authEvent, ring := p.src.ringNo, tag := p.tag, owner := some p.src.func }
  else s

/-- Write what an answer leads to. -/
def State.settle (s : State) (p : Packet) : Answer → State
  | .refused r => (s.complete p r.status (word r.r0) (word r.r1)).authEvent p r.status
  | .done st r0 r1 s' =>
    -- the flight registered for the run is dropped: the packet is complete
    let s' := (s'.dropFlight s.cmd.nextTicket).countCommit
    s'.complete p st (word r0) (word r1)
  | .accepted s' out =>
    let t := s.cmd.nextTicket
    let fl := (s'.flight t).map fun f => { f with committed := true }
    let s' := { s' with cmd.outcomes := s'.cmd.outcomes ++ fl.toList }
    let s' := ((s'.dropFlight t).countCommit).complete p .accepted 0 0
    match out with
    | some (st, d) => s'.outcome t st d
    | none => s'
  | .started s' committed => if committed then s'.commitFlight s.cmd.nextTicket else s'

/-- The effect of the packet would raise power, and P_lim stands at its floor of 8.0 W (R543). -/
def State.thermalLimited (s : State) (o : Op) (p : Packet) : Bool :=
  s.thm.limit == 80 && match o with
    | .witStart | .encOpen | .encFrame | .pnlPowerOn | .strmOpen => true
    | .raySetRung => decide (s.ray.rung < p.u8 16)
    | .rayCoreMask => (List.range 96).any fun n => bitOf s.ray.mask n && !bitOf (p.num 16 12) n
    | .timePortConfig => p.u8 17 != 0 && (s.net.ports.getD (p.u8 16) {}).mode == 0
    | _ => false

/-- What an opcode's own rules answer, and the refusal of R543 behind them. -/
def State.judgeStart (s : State) (o : Op) (p : Packet) (a : Answer) : Answer :=
  match a with
  | .refused r => .refused r
  | a => if s.thermalLimited o p then refuse .thermalLimited noField else a

/-- Start a packet whose ring lets it start: the header's checks, then the opcode's own (R50, R56, R64). The packet is
registered before its own rules run, so that they can name it by its ticket. -/
def State.begin_ (s : State) (o : Op) (run : Nat → Packet → State → Answer) (p : Packet) : State :=
  match checkHeader s o p with
  | some r => s.settle p (.refused r)
  | none => s.settle p (s.judgeStart o p (run s.cmd.nextTicket p (s.putFlight o p false)))

/-- The ring takes packets: an enabled submission ring, or ring 0x80 once the device is command-ready (R593). -/
def State.takes (s : State) : Src → Bool
  | .smbus => s.pwr.ready && s.pwr.dusk != .asleep && s.pwr.dusk != .waking
  | .ring f n => match s.subRing f n.val with
    | some r => r.enable && s.pwr.ready
    | none => false

/-- Put a fetched packet behind the others of its ring. -/
def State.enqueue (s : State) (x : Src) (e : Fetched) : State :=
  match x with
  | .smbus => { s with smb.waiting := some e, smb.outstanding := true }
  | .ring f n => s.updSub f n.val fun r => { r with fetched := r.fetched ++ [e] }

/-- A packet of an opcode reaches the device on its ring. It starts at once when it is at the front and may start (R64);
otherwise it is held in its ring. A ring that is disabled, or ring 0x80 with a packet outstanding, carries no packet. -/
def State.issue (s : State) (o : Op) (run : Nat → Packet → State → Answer) (p : Packet) : State :=
  if !s.takes p.src || (p.src == .smbus && s.smb.outstanding) then s
  else
    let s := if p.src == .smbus then { s with smb.outstanding := true } else s
    if (s.queued p.src).isEmpty && s.canStart p then (s.serve p.src).begin_ o run p
    else s.enqueue p.src { opcode := BitVec.ofNat 16 o.info.code, pkt := p }

end Sys2Proof.Machine
end

