-- ==== Sys2Proof/Machine/Profile.lean ====
section
/-!
DEFINITION. Display timings, link parameters and the panel-profile blob (R291 to R299, R344, R345): fields and checks.
-/

namespace Sys2Proof.Machine

/-! ## Timings (R293, R294) -/

/-- The timing that 24 bytes carry (R293). -/
def timingOf (b : List Byte) : Timing :=
  { hactive := fieldAt b 0 2, vactive := fieldAt b 2 2, hblank := fieldAt b 4 2, vblank := fieldAt b 6 2,
    refresh := fieldAt b 8 4, parallax := fieldAt b 12 1, chanMap := fieldAt b 13 1, blank := fieldAt b 14 2,
    nb := fieldAt b 16 2, fb := fieldAt b 18 2 }

/-- htotal. -/
def Timing.htotal (t : Timing) : Nat := t.hactive + t.hblank
/-- vtotal. -/
def Timing.vtotal (t : Timing) : Nat := t.vactive + t.vblank
/-- Pixel clocks of a refresh. -/
def Timing.clocks (t : Timing) : Nat := t.htotal * t.vtotal
/-- The duration of `n` pixel clocks in units of 2^-32 ns, rounded down (R291). -/
def Timing.span (t : Timing) (n : Nat) : Nat := n * 1000 * secUnitsOf / (t.clocks * t.refresh)
where
  /-- Units of 2^-32 ns in a second. -/
  secUnitsOf : Nat := 1000000000 * 0x100000000
/-- The nominal period in units of 2^-32 ns, rounded down. -/
def Timing.period (t : Timing) : Nat := 1000 * 1000000000 * 0x100000000 / t.refresh

/-- chan_map names each colour exactly once. -/
def chanMapOk (m : Nat) : Bool :=
  let a := bitsOf m 0 2
  let b := bitsOf m 2 2
  let c := bitsOf m 4 2
  decide (m < 64 ∧ a < 3 ∧ b < 3 ∧ c < 3 ∧ a ≠ b ∧ b ≠ c ∧ a ≠ c)

/-- Check 0x01 of R294: the offset, in the 24 bytes, of the first field out of range. -/
def timingFault (b : List Byte) : Option Nat :=
  let t := timingOf b
  if t.hactive % 2 ≠ 0 ∨ t.hactive < 256 ∨ 15360 < t.hactive then some 0
  else if t.vactive < 256 ∨ 8640 < t.vactive then some 2
  else if t.hblank < 128 ∨ 4096 < t.hblank then some 4
  else if t.vblank < 20 ∨ 4096 < t.vblank then some 6
  else if t.refresh < 24000 ∨ 240000 < t.refresh then some 8
  else if 1 < t.parallax then some 12
  else if !chanMapOk t.chanMap then some 13
  else if 1023 < t.blank then some 14
  else if 4095 < t.nb then some 16
  else if 4095 < t.fb then some 18
  else none

/-- Check 0x02 of R294: the pixel clock. -/
def pixelClockOk (t : Timing) : Bool := decide (t.clocks * t.refresh ≤ 8640000000 * 1000)
/-- Check 0x03 of R294: the line time is at least 1.50 us. -/
def lineTimeOk (t : Timing) : Bool := decide (3 * t.vtotal * t.refresh ≤ 2000 * 1000000)

/-- The checks 0x01 to 0x03 of R294: detail, and the offset of the field at fault in the 24 bytes if one field is. -/
def checkTiming (b : List Byte) : Option (Nat × Option Nat) :=
  match timingFault b with
  | some off => some (0x01, some off)
  | none =>
    if !pixelClockOk (timingOf b) then some (0x02, none)
    else if !lineTimeOk (timingOf b) then some (0x03, none)
    else none

/-! ## Link parameters (R344, R345) -/

/-- The link parameters that 16 bytes carry (R344). -/
def linkOf (b : List Byte) : LinkSet :=
  { lanes := if fieldAt b 0 1 = 0 then 48 else fieldAt b 0 1, tx := fieldAt b 1 1 % 32,
    rate := if fieldAt b 2 2 = 0 then 6000 else fieldAt b 2 2, polarity := fieldAt b 4 6 }

/-- Check 0x01 of R345: the offset, in the 16 bytes, of the first field out of range. -/
def linkFault (b : List Byte) : Option Nat :=
  let rate := fieldAt b 2 2
  if 48 < fieldAt b 0 1 then some 0
  else if 64 ≤ fieldAt b 1 1 then some 1
  else if rate ≠ 0 ∧ (rate < 1500 ∨ 8000 < rate ∨ rate % 250 ≠ 0) then some 2
  else none

/-- Pixels per lane. -/
def LinkSet.ppl (k : LinkSet) (t : Timing) : Nat := t.hactive / k.lanes
/-- Data blocks of a line packet (R342). -/
def lineBlocks (ppl : Nat) : Nat := ceilDiv (30 * ppl) 64
/-- Check 0x02 of R345. -/
def linkWidthOk (k : LinkSet) (t : Timing) : Bool :=
  decide (t.hactive % k.lanes = 0 ∧ 16 ≤ k.ppl t ∧ k.ppl t ≤ 640)
/-- Check 0x03 of R345: bits / rate <= line time - 0.10 us, with line time 1000 / (vtotal x refresh) s. -/
def linkRateOk (k : LinkSet) (t : Timing) : Bool :=
  let bits := 66 * (lineBlocks (k.ppl t) + 4)
  -- times in units of 10^-7 us / (rate x vtotal x refresh)
  decide (bits * (t.vtotal * t.refresh) * 10 + k.rate * (t.vtotal * t.refresh) ≤ 10 * 1000 * 1000000 * k.rate)
/-- The link parameters fit a timing (R356). -/
def linkFits (k : LinkSet) (t : Timing) : Bool := linkWidthOk k t && linkRateOk k t

/-! ## The panel-profile blob (R296 to R298) -/

/-- sections. -/
def profSections (b : List Byte) : Nat := fieldAt b 6 1
/-- TIMING is present. -/
def profTiming (b : List Byte) : Bool := bitOf (profSections b) 0
/-- LINK is present. -/
def profLink (b : List Byte) : Bool := bitOf (profSections b) 1
/-- GAMMA is present. -/
def profGamma (b : List Byte) : Bool := bitOf (profSections b) 2
/-- CONFIG is present. -/
def profConfig (b : List Byte) : Bool := bitOf (profSections b) 3
/-- length. -/
def profLength (b : List Byte) : Nat := fieldAt b 8 4
/-- seq. -/
def profSeq (b : List Byte) : Word := word (fieldAt b 12 4)
/-- profile_id. -/
def profId (b : List Byte) : Nat := fieldAt b 16 4
/-- config_first. -/
def profFirst (b : List Byte) : Nat := fieldAt b 20 2
/-- config_len. -/
def profConfigLen (b : List Byte) : Nat := fieldAt b 22 2
/-- Offset of the LINK section. -/
def profLinkOff (b : List Byte) : Nat := 64 + 24 * b2n (profTiming b)
/-- Offset of the GAMMA section. -/
def profGammaOff (b : List Byte) : Nat := profLinkOff b + 16 * b2n (profLink b)
/-- Offset of the CONFIG section. -/
def profConfigOff (b : List Byte) : Nat := profGammaOff b + 6144 * b2n (profGamma b)
/-- The length that the sections give (R297). -/
def profSpan (b : List Byte) : Nat := profConfigOff b + (if profConfig b then profConfigLen b else 0) + 4
/-- The TIMING section. -/
def profTimingBytes (b : List Byte) : List Byte := sliceZ b 64 24
/-- The LINK section. -/
def profLinkBytes (b : List Byte) : List Byte := sliceZ b (profLinkOff b) 16
/-- The GAMMA image for all drivers. -/
def profGammaImage (b : List Byte) : DriverImage := ⟨0x1000, sliceZ b (profGammaOff b) 6144, 2 ^ 48 - 1⟩
/-- The CONFIG image for all drivers. -/
def profConfigImage (b : List Byte) : DriverImage := ⟨profFirst b, sliceZ b (profConfigOff b) (profConfigLen b), 2 ^ 48 - 1⟩

/-- Bytes of a list are all 0. -/
def allZero (b : List Byte) : Bool := b.all (· == 0)

/-- Header, length and crc of a blob (detail 0x01 of R301). -/
def profHeaderOk (b : List Byte) : Bool :=
  decide (fieldAt b 0 4 = 0x42505055 ∧ fieldAt b 4 2 = 1 ∧ profSections b < 16 ∧ fieldAt b 7 1 = 0 ∧
    profLength b % 4 = 0 ∧ 68 ≤ profLength b ∧ profLength b ≤ 12288 ∧ profLength b = b.length ∧
    profLength b = profSpan b) && allZero (sliceZ b 24 40) &&
    fieldAt b (profLength b - 4) 4 == crc32c (b.take (profLength b - 4))

/-- config_first and config_len (detail 0x02 of R301). -/
def profConfigOk (b : List Byte) : Bool :=
  if profConfig b then
    decide (0x100 ≤ profFirst b ∧ profFirst b ≤ 0xFFF ∧ profConfigLen b % 8 = 0 ∧ 8 ≤ profConfigLen b ∧
      profConfigLen b ≤ 6032 ∧ profFirst b + profConfigLen b / 2 - 1 ≤ 0xFFF)
  else decide (profFirst b = 0 ∧ profConfigLen b = 0)

/-- The TIMING section (detail 0x03 of R301). -/
def profTimingOk (b : List Byte) : Bool :=
  !profTiming b || ((checkTiming (profTimingBytes b)).isNone && allZero (sliceZ (profTimingBytes b) 20 4))

/-- The LINK section (detail 0x04 of R301). -/
def profLinkOk (b : List Byte) : Bool :=
  !profLink b ||
    (profTiming b && (linkFault (profLinkBytes b)).isNone && !bitOf (fieldAt (profLinkBytes b) 1 1) 5 &&
      allZero (sliceZ (profLinkBytes b) 10 6) && linkFits (linkOf (profLinkBytes b)) (timingOf (profTimingBytes b)))

/-- The detail of R301 for a blob, 0 when it is valid (R298). -/
def checkProfile (b : List Byte) : Nat :=
  if !profHeaderOk b then 0x01
  else if !profConfigOk b then 0x02
  else if !profTimingOk b then 0x03
  else if !profLinkOk b then 0x04
  else 0

/-- First page of a copy's panel-profile blob (R296). -/
def profilePage (copy : Nat) : Nat := if copy = 0 then 3904 else 6976

/-- The blob with another seq and its crc to match (R301). -/
def withProfileSeq (b : List Byte) (seq : Word) : List Byte :=
  let c := (spliceAt b 12 (leBytes 4 seq.toNat)).take (profLength b - 4)
  c ++ leBytes 4 (crc32c c)

end Sys2Proof.Machine
end

