-- ==== Sys2Proof/Machine/Raster.lean ====
section
/-!
DEFINITION. The refresh period in force, the next frame-start event as it is predicted, and the size of a woven frame
(R28, R216, R219, R304, R308, R318).
-/

namespace Sys2Proof.Machine

/-- The rate in Hz of a STILL_RATE code, 0 for the base rate (R325). -/
def rateHz : Nat → Nat
  | 1 => 30
  | 2 => 10
  | 3 => 1
  | _ => 0

/-- Base-grid instants per frame-start event at a STILL_RATE code (R318). -/
def Timing.stillDiv (t : Timing) (rate : Nat) : Nat :=
  if rateHz rate = 0 then 1 else t.refresh / (1000 * rateHz rate)

/-- The mean of a list of periods, or another value when there is none. -/
def meanOr (d : Nat) (l : List Nat) : Nat := if l.isEmpty then d else sumNat l / l.length

/-- The interval between two base-grid instants under the lock source in force, 2^-32 ns (R304, R308). -/
def State.gridPeriod (s : State) : Nat :=
  match s.dsp.timing with
  | none => 0
  | some t =>
    match s.dsp.lockState with
    | .locked => if s.dsp.lock.source = 1 ∧ s.dsp.period ≠ 0 then s.dsp.period else t.period
    | .holdover => s.dsp.holdPeriod
    | _ => t.period

/-- Base-grid instants per frame-start event now. -/
def State.stillStep (s : State) : Nat :=
  match s.dsp.timing with
  | none => 1
  | some t => t.stillDiv s.dsp.rate

/-- The refresh period in force, 2^-32 ns. -/
def State.refreshSpan (s : State) : Nat := s.gridPeriod * s.stillStep

/-- The refresh period in force, ns. -/
def State.refreshNs (s : State) : Nat := s.refreshSpan / 0x100000000

/-- Frame-start events occur: a timing is in force and the base grid runs. -/
def State.rasterRuns (s : State) : Bool := s.dsp.timing.isSome && s.dsp.nextGrid.isSome

/-- MT at which the next frame-start event is predicted, 2^-32 ns (R219, R318). -/
def State.nextFrame (s : State) : Option Nat :=
  s.dsp.nextGrid.map fun g =>
    if s.dsp.wantBase then g else g + (s.stillStep - 1 - s.dsp.gridCount) * s.gridPeriod

/-- The value that base `n` will show when MT reaches `mt`, as the increments stand (R28, log 23). -/
def State.baseAt (s : State) (n mt : Nat) : Nat := s.baseOf n + (mt - s.time.mt) * s.incOf n / s.time.mtInc

/-- Bytes of a woven-frame buffer for a timing (R216). -/
def Timing.wovenBytes (t : Timing) : Nat := 256 * ceilDiv t.hactive 64 * t.vactive

/-- Bytes of a woven-frame buffer for the timing in force. -/
def State.wovenBytes (s : State) : Nat :=
  match s.dsp.timing with
  | none => 0
  | some t => t.wovenBytes

/-- Address of woven-frame buffer `n` in device memory (R216). -/
def State.wovenAddr (s : State) (n : Nat) : Nat := Config.wovenBase n s.wovenBytes

end Sys2Proof.Machine
end

