-- ==== Sys2Proof/Machine/Flags.lean ====
section
/-!
DEFINITION. The status words that more than one chapter reads: the lock word (R325) and the panel word (R366).
-/

namespace Sys2Proof.Machine

/-- A number from its bits, least significant first. -/
def bitsNat : List Bool → Nat
  | [] => 0
  | b :: bs => b2n b + 2 * bitsNat bs

/-- Code of a lock state (R325). -/
def LockState.code : LockState → Nat
  | .noTiming => 0
  | .acquiring => 1
  | .locked => 2
  | .holdover => 3
  | .free => 4

/-- The lock word (R325). -/
def State.lockWord (s : State) : Nat :=
  let d := s.dsp
  d.lockState.code + 16 * d.lock.source + 64 * d.rate + 256 * b2n d.still + 512 * b2n (d.timing.isSome && s.ray.presented.isNone) +
    1024 * b2n (d.offset != 0) + 2048 * b2n d.lock.falling

/-- Code of a panel state (R326). -/
def PanelMode.code : PanelMode → Nat
  | .off => 0
  | .rampingUp => 1
  | .railsUp => 2
  | .training => 3
  | .driving => 4
  | .discharging => 5
  | .fault => 7

/-- The check of detail 0x02 of R335: rail settings, VCOM settings and gate timing are each in force. -/
def State.panelSet (s : State) : Bool := s.pnl.rails.isSome && s.pnl.vcom.isSome && s.pnl.gate.isSome

/-- The panel word (R366). -/
def State.panelWord (s : State) : Nat :=
  let p := s.pnl
  p.mode.code + 16 * b2n p.linkLock + 32 * b2n p.lockout + 64 * b2n p.gammaLoaded + 128 * b2n s.panelSet +
    256 * bitsNat p.good + 4096 * bitsNat p.faulted + 65536 * b2n p.vcomOn + 131072 * b2n p.gallOn +
    262144 * b2n p.untraced + 524288 * b2n p.gateInvalid + 1048576 * b2n p.linkInvalid

end Sys2Proof.Machine
end

