-- ==== Sys2Proof/Machine/Colour.lean ====
section
/-!
DEFINITION. Colour conversion between YCbCr and RGB (R168, R169): the matrix, its coefficients, and the chroma filter.
-/

namespace Sys2Proof.Machine

/-- The coefficients of R169: yoff, ky, kr_cr, kg_cb, kg_cr, kb_cb. -/
structure YuvCoef where
  yoff : Nat
  ky : Nat
  krCr : Nat
  kgCb : Nat
  kgCr : Nat
  kbCb : Nat
  deriving DecidableEq, Repr

/-- The coefficients of a matrix (1 BT.709, 2 BT.2020) and range (0 limited, 1 full) (R169). -/
def yuvCoef (matrix range : Nat) : YuvCoef :=
  if matrix = 2 then
    if range = 1 then ⟨0, 8192, 12080, 1348, 4681, 15412⟩ else ⟨64, 9567, 13792, 1539, 5344, 17597⟩
  else if range = 1 then ⟨0, 8192, 12901, 1535, 3835, 15201⟩
  else ⟨64, 9567, 14729, 1752, 4378, 17356⟩

/-- The matrix step for one channel: 0 red, 1 green, 2 blue (R168). -/
def yuvChannel (k : YuvCoef) (ch : Nat) (y cb cr : Nat) : Nat :=
  let yv : Int := (y : Int) - k.yoff
  let cbv : Int := (cb : Int) - 512
  let crv : Int := (cr : Int) - 512
  let t : Int := match ch with
    | 0 => k.ky * yv + k.krCr * crv
    | 1 => k.ky * yv - k.kgCb * cbv - k.kgCr * crv
    | _ => k.ky * yv + k.kbCb * cbv
  (clampInt (asr (t + 4096) 13) 0 1023).toNat

/-- Chroma brought to a luma position: `c i j` is the widened sample of column `i` and row `j` (R168). -/
def chromaUp (c : Nat → Nat → Nat) (cw ch x y : Nat) : Nat :=
  let cx := x / 2
  let hx := if x % 2 = 0 then cx else min (cx + 1) (cw - 1)
  let vy0 := if y % 2 = 0 then y / 2 - 1 else y / 2
  let vy1 := if y % 2 = 0 then y / 2 else min (y / 2 + 1) (ch - 1)
  let w0 := if y % 2 = 0 then 1 else 3
  let w1 := if y % 2 = 0 then 3 else 1
  (w0 * (c cx vy0 + c hx vy0) + w1 * (c cx vy1 + c hx vy1) + 4) / 8

end Sys2Proof.Machine
end

