-- ==== Sys2Proof/Machine/MemPath.lean ====
section
/-!
DEFINITION. Requests to the memory channels: the address map, the ports and their buckets, the order of service, and what each
client asks for (R469, R471 to R476).

A request takes effect on memory in the step that makes it: a write is accepted at once, and a read returns what has been
accepted (R471). What a channel that does not serve holds back is its place in the queue of its channel, its bucket and its age.
Which spans a client asks for is the model's choice (log 134).
-/

namespace Sys2Proof.Machine

/-! ## Channels and ports -/

/-- Channel `k`. -/
def State.chan (s : State) (k : Nat) : MemChan := s.memc.chans.getD k {}

/-- Change channel `k`. -/
def State.updChan (s : State) (k : Nat) (g : MemChan → MemChan) : State :=
  { s with memc.chans := updAt s.memc.chans k g }

/-- Port `n` of the memory controllers; 10 stands for the background clients (R472). -/
def State.memPort (s : State) (n : Nat) : MemPort :=
  if n = 10 then s.memc.background else s.memc.ports.getD n { cls := 3 }

/-- Change a port, or the background clients. -/
def State.updMemPort (s : State) (n : Nat) (g : MemPort → MemPort) : State :=
  if n = 10 then { s with memc.background := g s.memc.background }
  else { s with memc.ports := updAt s.memc.ports n g }

/-- Bytes in a port's bucket at MT `now`, ns: it fills at 0.25 bytes per ns and unit of rate, up to its burst (R474). -/
def MemPort.level (q : MemPort) (now : Nat) : Nat := min (64 * q.burst) (q.fill + q.rate * (now - q.fillNs) / 4)

/-- A port takes a rate and a burst; its fill stays, but no greater than the new burst (R479). -/
def MemPort.setRate (q : MemPort) (now rate burst : Nat) : MemPort :=
  { q with rate := rate, burst := burst, fill := min (64 * burst) (q.level now), fillNs := now }

/-- Serving a request takes its bytes from the bucket of its port, down to no less than 0 (R474). -/
def MemPort.serve (q : MemPort) (now n : Nat) : MemPort := { q with fill := q.level now - n, fillNs := now }

/-! ## Ranks (R473, R475) -/

/-- Channel of a device address (R469). -/
def channelOf (a : Nat) : Nat := a / 256 % 8

/-- A port is at its critical watermark (R314, R473). -/
def State.portCritical (s : State) (n : Nat) : Bool :=
  (n == 0 && s.dsp.wovenBuf.critical) || (n == 1 && s.dsp.layerBufs.any fun (b : LineBuf) => b.critical)

/-- A port is at its low watermark (R314, R473). -/
def State.portUrgent (s : State) (n : Nat) : Bool :=
  (n == 0 && s.dsp.wovenBuf.urgent) || (n == 1 && s.dsp.layerBufs.any fun (b : LineBuf) => b.urgent)

/-- Age limit of a class, ns; class 0 has none (R475). -/
def State.ageLimit (s : State) (cls : Nat) : Nat := s.memc.ages.getD (cls - 1) 0 * 1000

/-- A request has waited longer than the age limit of its port's class (R475). -/
def State.hasAged (s : State) (r : MemReq) : Bool :=
  (s.memPort r.port).cls != 0 && (r.aged || decide (s.ageLimit (s.memPort r.port).cls < s.mtNs - r.at_))

/-- A request is within its port's share at this moment (R473). -/
def State.withinShare (s : State) (r : MemReq) : Bool := decide (r.bytes ≤ (s.memPort r.port).level s.mtNs)

/-- The rank of a request, and its class at rank 8 (R473). -/
def State.rankOf (s : State) (r : MemReq) : Nat × Nat :=
  let cls := (s.memPort r.port).cls
  if s.portCritical r.port then (1, 0)
  else if s.portUrgent r.port then (2, 0)
  else if cls = 0 ∧ s.withinShare r then (3, 0)
  else if s.hasAged r then (4, 0)
  else if s.withinShare r then (4 + cls, 0)
  else (8, cls)

/-- One request goes before another: the higher rank, then the older, then the lower port (R473). -/
def State.reqBefore (s : State) (a b : MemReq) : Bool :=
  let ka := s.rankOf a
  let kb := s.rankOf b
  if ka.1 ≠ kb.1 then decide (ka.1 < kb.1)
  else if ka.2 ≠ kb.2 then decide (ka.2 < kb.2)
  else if a.at_ ≠ b.at_ then decide (a.at_ < b.at_)
  else decide (a.port < b.port)

/-- The place of the request that a scheduler serves next; of equals the one that came first. -/
def State.nextReq (s : State) (rs : List MemReq) : Option Nat :=
  (List.range rs.length).foldl (fun best i => match best.bind (rs[·]?), rs[i]? with
    | some b, some r => if s.reqBefore r b then some i else best
    | _, _ => some i) none

/-- A channel serves requests: it neither retrains nor waits to (R482, R487). -/
def MemChan.serves (c : MemChan) : Bool := c.state == .ready && !c.errorDue

/-- Serve one request of channel `k`: its bytes leave the bucket, its wait and its promotion are noted (R474, R475, R493). -/
def State.serveReq (s : State) (k i : Nat) : State :=
  match (s.chan k).queue[i]? with
  | none => s
  | some r =>
    let aged := s.hasAged r && !r.aged
    let now := s.mtNs
    (s.updMemPort r.port fun q =>
      { q.serve now r.bytes with longest := max q.longest (now - r.at_),
                                 nAged := q.nAged + word (b2n aged) }).updChan k fun c =>
        { c with queue := c.queue.eraseIdx i }

/-- The scheduler of channel `k` serves what waits for it, highest rank first (R473). -/
def State.serveChan : Nat → State → Nat → State
  | 0, s, _ => s
  | n + 1, s, k =>
    if !(s.chan k).serves then s
    else match s.nextReq (s.chan k).queue with
      | none => s
      | some i => State.serveChan n (s.serveReq k i) k

/-- Channel `k` serves all that waits for it. -/
def State.runChan (s : State) (k : Nat) : State := s.serveChan (s.chan k).queue.length k

/-! ## Requests -/

/-- The pieces of a span that lie on one channel each: an address and a length (R469). -/
def granules : Nat → Nat → Nat → List (Nat × Nat)
  | 0, _, _ => []
  | k + 1, a, n =>
    if n = 0 then []
    else
      let m := min n (256 - a % 256)
      (a, m) :: granules k (a + m) (n - m)

/-- A client asks for a span of device memory: a request for each granule reaches its channel, which serves what it can (R469,
R473). -/
def State.request (s : State) (port addr len : Nat) (write : Bool) : State :=
  (granules (len / 256 + 2) addr len).foldl (fun s g =>
    let k := channelOf g.1
    (s.updChan k fun c => { c with queue := c.queue ++
      [{ port := port, addr := g.1, bytes := g.2, write := write, at_ := s.mtNs }] }).runChan k) s

/-- Ask for spans in turn: first byte, and the byte after the last. -/
def State.requestAll (s : State) (port : Nat) (write : Bool) (spans : List (Nat × Nat)) : State :=
  spans.foldl (fun s x => s.request port x.1 (x.2 - x.1) write) s

/-- `n` lines of `len` bytes, `pitch` bytes apart, as spans. -/
def lineSpans (addr pitch len n : Nat) : List (Nat × Nat) :=
  (List.range n).map fun i => (addr + i * pitch, addr + i * pitch + len)

/-- The requests of a port that wait beyond the age limit of its class and have not been promoted. -/
def State.dueToAge (s : State) (n : Nat) (r : MemReq) : Bool := r.port == n && !r.aged && s.hasAged r

/-- REQUEST_AGE_LIMIT (R475): the requests of a port that have waited too long become aged, and are counted. -/
def State.ageOut (s : State) (n : Nat) : State :=
  let due := sumNat (s.memc.chans.map fun c => (c.queue.filter (s.dueToAge n)).length)
  let promote (c : MemChan) : MemChan :=
    { c with queue := c.queue.map fun r => { r with aged := r.aged || s.dueToAge n r } }
  { s with memc.chans := s.memc.chans.map promote,
           memc.ports := updAt s.memc.ports n fun q => { q with nAged := q.nAged + word due } }

end Sys2Proof.Machine
end

