-- ==== Sys2Proof/Machine/Frames.lean ====
section
/-!
DEFINITION. Ethernet, IPv4, ARP, ICMP, IGMP, UDP and PTP fields of frames.

The manual names these protocols (R141, R412, R446, R448, R450) and leaves their layouts to their own standards (log 12).
-/

namespace Sys2Proof.Machine

/-- Number of a port: A is 0 and B is 1. -/
def portIdx : Port → Nat
  | .a => 0
  | .b => 1

/-- Change port `n`. -/
def State.updPort (s : State) (n : Nat) (g : PortState → PortState) : State :=
  { s with net.ports := updAt s.net.ports n g }

/-- Port `n`. -/
def State.port (s : State) (n : Nat) : PortState := s.net.ports.getD n {}

/-- MAC address of port `n`: the factory region holds two consecutive ones (chapter 14, Ports). -/
def macOf (n : Nat) : Nat := (Config.macA + n) % 0x1000000000000

/-- The ones' complement sum of a byte string in 16-bit words. -/
def sum16 : List Byte → Nat
  | [] => 0
  | [b] => b.toNat * 256
  | a :: b :: rest => a.toNat * 256 + b.toNat + sum16 rest

/-- Fold a sum into 16 bits twice: enough for any frame. -/
def fold16 (n : Nat) : Nat :=
  let a := n % 65536 + n / 65536
  let b := a % 65536 + a / 65536
  b % 65536 + b / 65536

/-- The Internet checksum. -/
def inetSum (b : List Byte) : Nat := 0xFFFF - fold16 (sum16 b)

/-- EtherType of a frame without a tag. -/
def ethType (f : List Byte) : Nat := beNat ((f.drop 12).take 2)
/-- Destination MAC address. -/
def ethDst (f : List Byte) : Nat := beNat (f.take 6)
/-- Source MAC address. -/
def ethSrc (f : List Byte) : Nat := beNat ((f.drop 6).take 6)
/-- VLAN ID of a tagged frame; none when it is untagged. -/
def vlanId (f : List Byte) : Option Nat :=
  if ethType f = 0x8100 then some (beNat ((f.drop 14).take 2) % 4096) else none
/-- EtherType behind a tag, or the frame's own. -/
def innerType (f : List Byte) : Nat := if ethType f = 0x8100 then beNat ((f.drop 16).take 2) else ethType f
/-- What follows the EtherType. -/
def ethBody (f : List Byte) : List Byte := if ethType f = 0x8100 then f.drop 18 else f.drop 14

/-- An Ethernet frame from its parts. -/
def ethFrame (dst src typ : Nat) (body : List Byte) : List Byte := beBytes 6 dst ++ beBytes 6 src ++ beBytes 2 typ ++ body

/-- Header length of an IPv4 packet in bytes. -/
def ipHdr (b : List Byte) : Nat := fieldAt b 0 1 % 16 * 4
/-- Protocol of an IPv4 packet. -/
def ipProto (b : List Byte) : Nat := fieldAt b 9 1
/-- Source address of an IPv4 packet. -/
def ipSrc (b : List Byte) : Nat := beNat (sliceZ b 12 4)
/-- Destination address of an IPv4 packet. -/
def ipDst (b : List Byte) : Nat := beNat (sliceZ b 16 4)
/-- The bytes behind the IPv4 header, by its total length. -/
def ipBody (b : List Byte) : List Byte := (b.take (beNat (sliceZ b 2 2))).drop (ipHdr b)

/-- An IPv4 packet without fragmentation; `opts` are its option bytes. -/
def ipPacket (src dst proto ttl : Nat) (opts body : List Byte) : List Byte :=
  let len := 20 + opts.length + body.length
  let h (c : Nat) : List Byte :=
    [byte (0x45 + opts.length / 4), 0] ++ beBytes 2 len ++ beBytes 4 0 ++ [byte ttl, byte proto] ++ beBytes 2 c ++
      beBytes 4 src ++ beBytes 4 dst ++ opts
  h (inetSum (h 0)) ++ body

/-- Ethernet address of an IPv4 multicast group. -/
def groupMac (g : Nat) : Nat := 0x01005E000000 + g % 0x800000

/-- A UDP packet over IPv4, with the checksum 0 that UDP allows. -/
def udpPacket (srcPort dstPort : Nat) (body : List Byte) : List Byte :=
  beBytes 2 srcPort ++ beBytes 2 dstPort ++ beBytes 2 (8 + body.length) ++ beBytes 2 0 ++ body

/-- IGMPv2 membership report. -/
def igmpReport : Nat := 0x16
/-- IGMPv2 leave group. -/
def igmpLeave : Nat := 0x17

/-- Islands 1 to 127 run: out of reset, not held, not in Dusk (R590, R612, R538). -/
def State.fabricUp (s : State) : Bool :=
  s.pwr.vddAon && !s.pwr.resetLow && !s.pwr.vsenseReset && s.pwr.phase != .reset && s.pwr.phase != .dusk &&
    s.pwr.phase != .held

end Sys2Proof.Machine
end

