-- ==== Sys2Proof/Machine/Egress.lean ====
section
/-!
DEFINITION. The egress side of the ports: residence and the transparent clock, the egress order, and the sending of a frame
(R449 to R453).
-/

namespace Sys2Proof.Machine

/-! ## What a frame carries -/

/-- Offset of the body behind the EtherType. -/
def ethOff (f : List Byte) : Nat := if ethType f = 0x8100 then 18 else 14

/-- The frame holds an IPv4 packet that is no fragment. -/
def isWholeIp (f : List Byte) : Bool :=
  innerType f == 0x0800 && beNat (sliceZ f (ethOff f + 6) 2) % 0x4000 == 0

/-- UDP destination port of a frame, if it holds UDP over IPv4. -/
def udpDst (f : List Byte) : Option Nat :=
  if isWholeIp f && ipProto (ethBody f) == 17 then some (beNat (sliceZ (ethBody f) (ipHdr (ethBody f) + 2) 2)) else none

/-- Offset of a PTP message of version 2 in a frame, and whether it stands in UDP (R450). -/
def ptpAt (f : List Byte) : Option (Nat × Bool) :=
  let at_ := if innerType f = 0x88F7 then some (ethOff f, false)
    else match udpDst f with
      | some p => if p = 319 ∨ p = 320 then some (ethOff f + ipHdr (ethBody f) + 8, true) else none
      | none => none
  at_.filter fun x => fieldAt f (x.1 + 1) 1 % 16 == 2 && decide (x.1 + 34 ≤ f.length)

/-- Message type of the PTP message at an offset. -/
def ptpType (f : List Byte) (at_ : Nat) : Nat := fieldAt f at_ 1 % 16

/-- correctionField of the PTP message at an offset. -/
def ptpCorrection (f : List Byte) (at_ : Nat) : Int := signedOf 64 (beNat (sliceZ f (at_ + 8) 8))

/-- meanLinkDelay in 1/16 ns: the mean of the last 8 measurements (R450). -/
def PortState.meanDelay (q : PortState) : Int :=
  if q.linkDelays.isEmpty then 0 else (q.linkDelays.foldl (· + ·) 0) / (q.linkDelays.length : Nat)

/-! ## Residence (R451, R452) -/

/-- Residence time scaled by NT's increment, 2^-16 ns (R451). -/
def residence (raw inc : Nat) : Nat := (raw * inc + 0x100000000) / 0x200000000

/-- What a mode adds to a message that passes: residence, and the ingress link delay in P2P; none when it passes unchanged
(R450, R452). -/
def State.tcAdds (s : State) (n typ raw : Nat) : Option Int :=
  let res : Int := residence raw s.time.ntInc
  match s.net.tcMode with
  | 1 => if typ < 4 then some res else none
  | 2 => if typ = 0 then some (res + (s.port n).meanDelay * 4096) else none
  | _ => none

/-- Greatest correctionField. -/
def corrMax : Int := 0x7FFFFFFFFFFFFFFF

/-- A frame whose PTP message at an offset gets `d` added to its correctionField; over UDP the UDP checksum becomes 0 (R452). -/
def addCorrection (f : List Byte) (at_ : Nat) (udp : Bool) (d : Int) : List Byte :=
  let c := ptpCorrection f at_ + d
  let f := spliceAt f (at_ + 8) (beBytes 8 (unsignedOf 64 (if corrMax < c then corrMax else c)))
  if udp then spliceAt f (at_ - 2) [0, 0] else f

/-- A frame as it leaves, after the transparent clock, and the ingress port's counters (R445, R452). -/
def State.correct (s : State) (n raw : Nat) (f : List Byte) : List Byte × State :=
  match ptpAt f with
  | none => (f, s)
  | some (at_, udp) =>
    match s.tcAdds n (ptpType f at_) raw with
    | none => (f, s)
    | some d =>
      let high := decide (corrMax < ptpCorrection f at_ + d)
      (addCorrection f at_ udp d,
        s.updPort n fun q => { q with corrected := q.corrected + 1, saturated := if high then q.saturated + 1 else q.saturated })

/-! ## The egress order (R449) -/

/-- Raw cycles that a frame occupies a link, with its FCS, preamble and gap: 0.8 ns a byte at 10 Gb/s, 8 ns at 1 Gb/s
(log 12). -/
def wireCycles (mode len : Nat) : Nat := if mode = 1 then ceilDiv (2 * (len + 24)) 5 else 4 * (len + 24)

/-- Raw units of 2^-16 ns that have passed since a cycle count, at 2 ns a cycle (R451). -/
def State.rawSince (s : State) (raw cycle : Nat) : Nat := raw + 131072 * (s.time.cycles - cycle)

/-- A frame as it leaves port `n`, and what its egress time-stamp sets (R450 to R453). -/
def State.stampOut (s : State) (n : Nat) (f : OutFrame) : List Byte × State :=
  match f.stamp with
  | .plain => (f.bytes, s)
  | .delayReq => (f.bytes, { s with net.delayT3 := some (s.time.nt / 0x10000) })
  | .pdelayReq => (f.bytes, s.updPort n fun q => { q with pdelayT1 := some (s.time.nt / 0x10000) })
  | .transit m raw cycle => s.correct m (s.rawSince raw cycle) f.bytes
  | .answer raw cycle => match ptpAt f.bytes with
    | some (at_, udp) => (addCorrection f.bytes at_ udp (residence (s.rawSince raw cycle) s.time.ntInc), s)
    | none => (f.bytes, s)

/-- The transmission of a frame begins at port `n`. -/
def State.launch (s : State) (n : Nat) (f : OutFrame) : State :=
  let (b, s) := s.stampOut n f
  s.updPort n fun q => { q with lastSent := b, lastBad := f.bad, sendEnd := s.time.cycles + wireCycles q.mode b.length }

/-- The frame that leaves next: the oldest of the first class that has one (R449). -/
def nextOut (q : List OutFrame) : Option OutFrame := (List.range 4).findSome? fun c => q.find? fun f => f.cls == c

/-- A port whose link is up and whose last frame has left begins its next one (R449). -/
def State.drainPort (s : State) (n : Nat) : State :=
  let q := s.port n
  if q.mode = 0 || !q.link || decide (s.time.cycles < q.sendEnd) then s
  else match nextOut q.outq with
    | none => s
    | some f => (s.updPort n fun q => { q with outq := q.outq.erase f }).launch n f

/-- A frame takes its place at an egress port. -/
def State.queueOut (s : State) (n : Nat) (f : OutFrame) : State :=
  (s.updPort n fun q => { q with outq := q.outq ++ [f] }).drainPort n

/-- A port has nothing to send and nothing in transmission (R449). -/
def State.egressIdle (s : State) (n : Nat) : Bool :=
  (s.port n).outq.isEmpty && decide ((s.port n).sendEnd ≤ s.time.cycles)

/-- Bytes of the forwarding buffer towards port `n`, each frame with its FCS (R449). -/
def State.bufferUsed (s : State) (n : Nat) : Nat :=
  sumNat ((s.port n).outq.map fun f => if f.cls = 0 || f.cls = 2 then f.bytes.length + 4 else 0)

/-- The device sends a frame of its own on a port whose PCS runs and whose link is up (R449). -/
def State.sendStamped (s : State) (n cls : Nat) (stamp : OutStamp) (f : List Byte) : State :=
  let q := s.port n
  if q.mode ≠ 0 ∧ q.link then s.queueOut n ⟨cls, f ++ List.replicate (60 - f.length) 0, false, stamp⟩ else s

/-- A frame other than a PTP message leaves a port. -/
def State.sendFrame (s : State) (n : Nat) (f : List Byte) : State := s.sendStamped n 3 .plain f

/-- The link of a port falls: what waits to leave there is dropped (R446, R463; log 34). -/
def State.portFalls (s : State) (n : Nat) : State :=
  s.updPort n fun q => { q with link := false, linkDowns := satInc 0xFFFF q.linkDowns, outq := [], sendEnd := 0 }

/-- An IGMPv2 message leaves port `n` (R141). -/
def State.sendIgmp (s : State) (n typ group : Nat) : State :=
  let m (c : Nat) : List Byte := [byte typ, 0] ++ beBytes 2 c ++ beBytes 4 group
  let dst := if typ = igmpLeave then 0xE0000002 else group
  let ip := ipPacket (s.port n).ipv4 dst 2 1 [0x94, 0x04, 0x00, 0x00] (m (inetSum (m 0)))
  s.sendFrame n (ethFrame (groupMac dst) (macOf n) 0x0800 ip)

end Sys2Proof.Machine
end

