-- ==== Sys2Proof/Machine/Pool.lean ====
section
/-!
DEFINITION. The stream contexts as other chapters reach them, and the slots of the picture pool (R159 to R162).
-/

namespace Sys2Proof.Machine

/-- Stream context `i`. -/
def State.ctx (s : State) (i : Nat) : StreamCtx := s.strm.ctxs.getD i {}

/-- Change stream context `i`. -/
def State.updCtx (s : State) (i : Nat) (g : StreamCtx → StreamCtx) : State :=
  { s with strm.ctxs := updAt s.strm.ctxs i g }

/-- Slot `k` of the pool. -/
def State.slot (s : State) (k : Nat) : Slot := s.dec.slots.getD k {}

/-- Change slot `k`. -/
def State.updSlot (s : State) (k : Nat) (g : Slot → Slot) : State := { s with dec.slots := updAt s.dec.slots k g }

/-- Address of slot `k` in device memory (R159). -/
def State.slotAddr (s : State) (k : Nat) : Nat :=
  Config.poolBase s.dec.slotCount s.dec.slotBlocks + k * (s.dec.slotBlocks * 65536)

/-- A part of the access unit in slot `k` runs on some core. -/
def State.partRuns (s : State) (k : Nat) : Bool :=
  s.dec.cores.any fun c => match c with
    | some (.part sl _ _) => sl == k
    | _ => false

/-- The conditions under which a slot returns to FREE (R142, R162). -/
def State.slotLoose (s : State) (k : Nat) : Bool :=
  let x := s.slot k
  match x.state with
  | .free => false
  | .decoding => x.abandoned && !s.partRuns k && !x.heldByRay
  | .complete =>
    x.marks.all (· == .unused) && !x.outputPending && !x.heldByRay && !x.latest &&
      (s.ctx x.ctx).stallHold.isNone

/-- Slot `k` returns to FREE, and what was in decode there is dropped. -/
def State.freeSlot (s : State) (k : Nat) : State :=
  { (s.updSlot k fun _ => {}) with dec.jobs := s.dec.jobs.filter fun j => j.slot != k }

/-- Return the slots of a list to FREE where nothing holds them. -/
def State.sweepList : State → List Nat → State
  | s, [] => s
  | s, k :: ks => State.sweepList (if s.slotLoose k then s.freeSlot k else s) ks

/-- Return every slot to FREE that nothing holds (R162). -/
def State.sweepSlots (s : State) : State := s.sweepList (List.range s.dec.slots.length)

end Sys2Proof.Machine
end

