-- ==== Sys2Proof/Machine/Hevc.lean ====
section
/-!
DEFINITION. What the device makes of an HEVC bitstream: the fields of SCENE_PARAMS and VIEW_LAYOUT, the subset of R148, the
colour description, the loads of tiles, slices and CTU rows, and picture order counts (R98, R101, R113, R114, R148 to R152,
R172, R178). The layout of a NAL unit header and the derivation of a picture order count are those of the HEVC standard
(log 9); the syntax elements themselves are free values (log 130).
-/

namespace Sys2Proof.Machine

/-! ## Parameter sets (R98 to R102) -/

/-- version of a SCENE_PARAMS payload. -/
def scVersion (b : List Byte) : Nat := fieldAt b 0 2
/-- view_count. -/
def scViews (b : List Byte) : Nat := fieldAt b 2 1
/-- parallax. -/
def scParallax (b : List Byte) : Nat := fieldAt b 3 1
/-- width. -/
def scWidth (b : List Byte) : Nat := fieldAt b 4 2
/-- height. -/
def scHeight (b : List Byte) : Nat := fieldAt b 6 2
/-- depth_scale. -/
def scDepthScale (b : List Byte) : Nat := fieldAt b 8 1
/-- colour_bits. -/
def scColourBits (b : List Byte) : Nat := fieldAt b 9 1
/-- depth_bits. -/
def scDepthBits (b : List Byte) : Nat := fieldAt b 10 1
/-- focal, u16.16. -/
def scFocal (b : List Byte) : Nat := fieldAt b 12 4
/-- z_near, u16.16. -/
def scNear (b : List Byte) : Nat := fieldAt b 16 4
/-- z_far, u16.16. -/
def scFar (b : List Byte) : Nat := fieldAt b 20 4
/-- z_zero, u16.16. -/
def scZero (b : List Byte) : Nat := fieldAt b 24 4
/-- u_span, s15.16. -/
def scUSpan (b : List Byte) : Int := signedOf 32 (fieldAt b 28 4)
/-- v_span, s15.16. -/
def scVSpan (b : List Byte) : Int := signedOf 32 (fieldAt b 32 4)

/-- Offset of the entry of view `n` in a VIEW_LAYOUT payload (R101). -/
def viewOff (n : Nat) : Nat := 4 + 32 * n
/-- Rig x of view `n`, s15.16. -/
def vwX (b : List Byte) (n : Nat) : Int := signedOf 32 (fieldAt b (viewOff n) 4)
/-- Rig y of view `n`. -/
def vwY (b : List Byte) (n : Nat) : Int := signedOf 32 (fieldAt b (viewOff n + 4) 4)
/-- Principal point x of view `n`. -/
def vwCx (b : List Byte) (n : Nat) : Int := signedOf 32 (fieldAt b (viewOff n + 8) 4)
/-- Principal point y of view `n`. -/
def vwCy (b : List Byte) (n : Nat) : Int := signedOf 32 (fieldAt b (viewOff n + 12) 4)
/-- Bitstream of the colour picture of view `n`. -/
def vwColourBs (b : List Byte) (n : Nat) : Nat := fieldAt b (viewOff n + 16) 1
/-- Layer of the colour picture of view `n`. -/
def vwColourLayer (b : List Byte) (n : Nat) : Nat := fieldAt b (viewOff n + 17) 1
/-- Bitstream of the depth picture of view `n`. -/
def vwDepthBs (b : List Byte) (n : Nat) : Nat := fieldAt b (viewOff n + 18) 1
/-- Layer of the depth picture of view `n`. -/
def vwDepthLayer (b : List Byte) (n : Nat) : Nat := fieldAt b (viewOff n + 19) 1

/-- Depth width of a scene picture (R166). -/
def scDepthW (b : List Byte) : Nat := if scDepthScale b = 0 then scWidth b else scWidth b / 2
/-- Depth height of a scene picture (R166). -/
def scDepthH (b : List Byte) : Nat := if scDepthScale b = 0 then scHeight b else scHeight b / 2
/-- y_pitch of R166. -/
def yPitch (width : Nat) : Nat := roundUp (20 * ceilDiv width 16) 64
/-- d_pitch of R166. -/
def dPitch (dw : Nat) : Nat := roundUp (2 * dw) 64
/-- view_bytes of R166. -/
def viewBytes (b : List Byte) : Nat := yPitch (scWidth b) * scHeight b * 3 / 2 + dPitch (scDepthW b) * scDepthH b
/-- Size of a scene picture (R160). -/
def sceneBytes (b : List Byte) : Nat := 4096 + scViews b * viewBytes b

/-! ## NAL units (R107, R113, R114, R148) -/

/-- NAL unit type, bits 14:9 of the NAL header (log 9). -/
def nalType (n : Nal) : Nat := fieldAt n.bytes 0 1 / 2 % 64
/-- nuh_layer_id of a NAL unit (log 9). -/
def nalLayer (n : Nal) : Nat := fieldAt n.bytes 0 1 % 2 * 32 + fieldAt n.bytes 1 1 / 8
/-- nuh_temporal_id_plus1 of a NAL unit (log 9). -/
def nalTemporal (n : Nal) : Nat := fieldAt n.bytes 1 1 % 8
/-- The NAL unit carries a slice segment (log 9). -/
def nalVcl (n : Nal) : Bool := decide (nalType n < 32)
/-- A VPS, SPS or PPS, by its NAL unit type (log 9). -/
def nalParams : List Nat := [32, 33, 34]
/-- The NAL unit is a VPS, SPS or PPS. -/
def nalIsParam (n : Nal) : Bool := nalParams.contains (nalType n)
/-- A leading picture: RADL or RASL (log 9). -/
def nalLeading (n : Nal) : Bool := decide (6 ≤ nalType n ∧ nalType n ≤ 9)
/-- The types that R113 names (log 9). -/
def nalIrap (n : Nal) : Bool := decide (16 ≤ nalType n ∧ nalType n ≤ 21)

/-- Bitstream of a component. -/
def compBs (p : ParamSet) (view : Nat) (depth : Bool) : Nat :=
  if depth then vwDepthBs p.layout view else vwColourBs p.layout view
/-- Layer of a component. -/
def compLayer (p : ParamSet) (view : Nat) (depth : Bool) : Nat :=
  if depth then vwDepthLayer p.layout view else vwColourLayer p.layout view
/-- Width of a component picture (R148, R166). -/
def compW (p : ParamSet) (depth : Bool) : Nat := if depth then scDepthW p.scene else scWidth p.scene
/-- Height of a component picture. -/
def compH (p : ParamSet) (depth : Bool) : Nat := if depth then scDepthH p.scene else scHeight p.scene

/-- The slice segments of one component picture. -/
def compNals (p : ParamSet) (view : Nat) (depth : Bool) (ns : List Nal) : List Nal :=
  ns.filter fun n => n.bs == compBs p view depth && nalVcl n && nalLayer n == compLayer p view depth

/-- The parameter sets and the slice segments that a component picture's decoding reads, the parameter sets of earlier access
units first. SEI messages, delimiters and filler are ignored (R148). -/
def compData (p : ParamSet) (view : Nat) (depth : Bool) (psets ns : List Nal) : List (List Byte) :=
  ((psets ++ ns).filter fun n => n.bs == compBs p view depth &&
    (nalIsParam n || (nalVcl n && nalLayer n == compLayer p view depth))).map (·.bytes)

/-- What HEVC parsing tells of a component picture. -/
def hevcOf (p : ParamSet) (view : Nat) (depth : Bool) (psets ns : List Nal) : HevcPicture :=
  Config.hevcPicture (compData p view depth psets ns)

/-- The components of a parameter set: colour then depth of each view in turn. -/
def components (p : ParamSet) : List (Nat × Bool) :=
  (List.range (scViews p.scene)).flatMap fun v => [(v, false), (v, true)]

/-- A slice segment that no component of the layout claims (R147, HEVC_LAYER_MAP). -/
def strayNal (p : ParamSet) (n : Nal) : Bool :=
  nalVcl n && (components p).all fun c => !(n.bs == compBs p c.1 c.2 && nalLayer n == compLayer p c.1 c.2)

/-- A bitstream that the layout names carries no VPS, no SPS or no PPS of its own (R114). -/
def lacksParams (p : ParamSet) (ns : List Nal) : Bool :=
  (components p).any fun c => nalParams.any fun t => ns.all fun n => n.bs != compBs p c.1 c.2 || nalType n != t

/-- The bitstream of a component carries no other component (R148: single-layer). -/
def aloneInBs (p : ParamSet) (view : Nat) (depth : Bool) : Bool :=
  (components p).all fun c => c == (view, depth) || compBs p c.1 c.2 != compBs p view depth

/-! ## The subset (R148, R149, R178) -/

/-- The greatest luma sample rate of a layer: level 5.1 (R178). -/
def maxLumaRate : Nat := 534773760

/-- The highest level accepted, 5.1, as 30 times its number (R148). -/
def maxLevel : Nat := 153

/-- The profile is one that R148 accepts for a component. -/
def hevcProfileOk (p : ParamSet) (view : Nat) (depth : Bool) (h : HevcPicture) : Bool :=
  if depth then h.profile == .monochrome12 && aloneInBs p view true
  else h.profile == .multiviewMain || ((h.profile == .main || h.profile == .main10) && aloneInBs p view false)

/-- The level is at most 5.1, and so is the rate of luma samples that the layer states. -/
def levelOk (h : HevcPicture) : Bool :=
  decide (h.level ≤ maxLevel ∧ h.width * h.height * h.rateNum ≤ maxLumaRate * h.rateDen)

/-- Chroma format and bit depths are those that the parameter set declares. -/
def formatOk (p : ParamSet) (depth : Bool) (h : HevcPicture) : Bool :=
  if depth then h.chroma == 0 && h.bitsLuma == scDepthBits p.scene
  else h.chroma == 1 && h.bitsLuma == scColourBits p.scene && h.bitsChroma == scColourBits p.scene &&
    (h.profile != .multiviewMain || scColourBits p.scene == 8)

/-- The picture, after the conformance window, has exactly the size that the parameter set declares. -/
def codedSizeOk (p : ParamSet) (depth : Bool) (h : HevcPicture) : Bool :=
  h.width == compW p depth + h.cropX && h.height == compH p depth + h.cropY

/-- matrix_coefficients is 1 or 9, or there is no colour description (R149). -/
def colourOk (h : HevcPicture) : Bool := h.matrix.all fun m => m == 1 || m == 9

/-- The reason for which R148 or R149 rejects a component picture, 0 for none: the rows of the table in their order. -/
def hevcFault (p : ParamSet) (view : Nat) (depth colourOverride : Bool) (h : HevcPicture) : Nat :=
  if !hevcProfileOk p view depth h then 0x10
  else if !levelOk h then 0x11
  else if !formatOk p depth h then 0x12
  else if !codedSizeOk p depth h then 0x13
  else if h.numReorder.any (· != 0) then 0x14
  else if h.fieldSeq || h.fieldPicture || h.extension then 0x16
  else if h.auxiliary then 0x15
  else if !depth && !colourOverride && !colourOk h then 0x17
  else 0

/-- Matrix and range that the VUI gives: 1 BT.709 or 2 BT.2020, limited or full; BT.709 limited range without a colour
description (R149). -/
def vuiColour (h : HevcPicture) : Nat × Nat :=
  match h.matrix with
  | none => (1, 0)
  | some m => (if m = 9 then 2 else 1, b2n h.fullRange)

/-! ## Loads (R151, R152) -/

/-- Samples of a component picture: its whole load (R151). -/
def compLoad (p : ParamSet) (depth : Bool) : Nat := compW p depth * compH p depth

/-- CTUs across `n` samples. -/
def ctusIn (h : HevcPicture) (n : Nat) : Nat := ceilDiv n h.ctb

/-- Samples of `len` CTUs from CTU `first` on that lie inside `n` samples (R151). -/
def ctuInside (h : HevcPicture) (n first len : Nat) : Nat := min ((first + len) * h.ctb) n - min (first * h.ctb) n

/-- First CTU and number of CTUs of each of some spans. -/
def spans : Nat → List Nat → List (Nat × Nat)
  | _, [] => []
  | at_, n :: ns => (at_, n) :: spans (at_ + n) ns

/-- Tile columns, as spans of CTUs across `w` samples: one when it has no tiles. -/
def colSpans (h : HevcPicture) (w : Nat) : List (Nat × Nat) :=
  spans 0 (if h.tileCols.isEmpty then [ctusIn h w] else h.tileCols)

/-- Tile rows, as spans of CTUs down `n` samples. -/
def rowSpans (h : HevcPicture) (n : Nat) : List (Nat × Nat) :=
  spans 0 (if h.tileRows.isEmpty then [ctusIn h n] else h.tileRows)

/-- Loads of the tiles of a picture of `w` by `n` samples, in tile scan. -/
def tileLoads (h : HevcPicture) (w n : Nat) : List Nat :=
  (rowSpans h n).flatMap fun r => (colSpans h w).map fun c => ctuInside h w c.1 c.2 * ctuInside h n r.1 r.2

/-- Loads of the CTU rows. -/
def rowLoads (h : HevcPicture) (w n : Nat) : List Nat :=
  (List.range (ctusIn h n)).map fun r => w * ctuInside h n r 1

/-- Loads of the CTUs in tile scan. -/
def scanLoads (h : HevcPicture) (w n : Nat) : List Nat :=
  (rowSpans h n).flatMap fun r => (colSpans h w).flatMap fun c => (List.range r.2).flatMap fun y => (List.range c.2).map fun x =>
    ctuInside h w (c.1 + x) 1 * ctuInside h n (r.1 + y) 1

/-- Loads of the independent slice segments with the dependent ones that follow them: from each first CTU to the next. -/
def sliceLoads (h : HevcPicture) (w n : Nat) : List Nat :=
  let all := scanLoads h w n
  h.segments.mapIdx fun k first => sumNat ((all.drop first).take ((h.segments.getD (k + 1) all.length) - first))

/-! ## Picture order counts (R172) -/

/-- The picture order count of a picture from its low bits and the count before it (log 9). -/
def pocOf (prev : Int) (lsb bits : Nat) : Int :=
  let m : Int := (2 ^ bits : Nat)
  let old := prev % m
  let base := prev - old
  if (lsb : Int) < old ∧ m ≤ 2 * (old - lsb) then base + m + lsb
  else if old < (lsb : Int) ∧ m < 2 * (lsb - old) then base - m + lsb
  else base + lsb

/-- A picture begins a coded video sequence: IDR or BLA, or CRA where nothing comes before it (log 9). -/
def startsCvs (st : PocState) (ns : List Nal) : Bool :=
  ns.head?.any fun n => decide (16 ≤ nalType n ∧ nalType n ≤ 20) || (nalType n == 21 && st.cvs == 0)

/-- Later counts of the layer are counted from a picture: one of sub-layer 0 that is neither a leading nor a sub-layer
non-reference picture (log 9). -/
def countsOn (ns : List Nal) : Bool :=
  ns.head?.any fun n => nalTemporal n == 1 && !nalLeading n && !(decide (nalType n < 16) && nalType n % 2 == 0)

/-- The count of a component picture, and the state of its layer after it. -/
def nextPoc (st : PocState) (h : HevcPicture) (ns : List Nal) : Int × PocState :=
  if ns.isEmpty then (st.prev, st)
  else if startsCvs st ns then (h.pocLsb, { prev := h.pocLsb, cvs := st.cvs + 1 })
  else
    let n := pocOf st.prev h.pocLsb h.pocBits
    (n, { st with prev := if countsOn ns then n else st.prev })

end Sys2Proof.Machine
end

