-- ==== Sys2Proof/Machine/PoolIntake.lean ====
section
/-!
DEFINITION. How an access unit is divided into parts, what its pictures reference, and how it takes a slot of the pool (R136,
R151 to R155, R161 to R163, R172).
-/

namespace Sys2Proof.Machine

/-! ## Parts (R151, R152) -/

/-- The mode that AUTO chooses (R152). -/
def autoMode (h : HevcPicture) (w n : Nat) : Nat :=
  if 1 < (tileLoads h w n).length then 2
  else if h.wpp ∧ 1 < (rowLoads h w n).length then 4
  else if 1 < h.segments.length then 3
  else 1

/-- The mode taken for the mode named, and whether it is a fallback to WHOLE (R152). -/
def takenMode (mode : Nat) (h : HevcPicture) (w n : Nat) : Nat × Bool :=
  match mode with
  | 0 => (autoMode h w n, false)
  | 1 => (1, false)
  | 2 => if 1 < (tileLoads h w n).length then (2, false) else (1, true)
  | 3 => if 1 < h.segments.length then (3, false) else (1, true)
  | _ => if h.wpp ∧ 1 < (rowLoads h w n).length then (4, false) else (1, true)

/-- The parts of a picture of `w` by `n` samples in a mode (R152). -/
def partsOf (mode : Nat) (h : HevcPicture) (w n : Nat) : List Part :=
  (match mode with
   | 2 => tileLoads h w n
   | 3 => sliceLoads h w n
   | 4 => rowLoads h w n
   | _ => [w * n]).map fun l => { load := l }

/-- The place of a component in lists that run colour then depth of each view in turn. -/
def compIdx (view : Nat) (depth : Bool) : Nat := 2 * view + b2n depth

/-- The assignment of a component (R157). -/
def State.assignOf (s : State) (i view : Nat) (depth : Bool) : Assign :=
  (s.dec.ctxs.getD i {}).assigns.getD (compIdx view depth) {}

/-- Divide a component picture as its assignment says (R152, R158). -/
def State.divide (s : State) (i : Nat) (p : ParamSet) (c : CompJob) : CompJob :=
  let g := s.assignOf i c.view c.depth
  let m := (takenMode g.mode c.info (compW p c.depth) (compH p c.depth)).1
  { c with mask := g.mask, mode := m, parts := partsOf m c.info (compW p c.depth) (compH p c.depth) }

/-! ## References (R153, R161, R172) -/

/-- The mark of one component picture in a slot. -/
def Slot.mark (x : Slot) (comp : Nat) : RefMark := x.marks.getD comp .unused

/-- The mark of the picture in slot `k` after the reference picture set of a picture of its layer (R161): the picture itself
becomes a reference, and one before it in decoding order is kept or dropped. -/
def RpsStep.move (st : RpsStep) (k : Nat) (x : Slot) (m : RefMark) : RefMark :=
  if k = st.slot then (if st.isRef then .short else .unused)
  else if m == .unused || !seqAfter st.au x.au then m
  else if x.cvss.getD st.comp 0 != st.cvs then .unused
  else if st.long.contains (x.pocs.getD st.comp 0) then .long
  else if st.short.contains (x.pocs.getD st.comp 0) then m
  else .unused

/-- The mark of a component picture in slot `k` once every reference picture set of its layer that is still to come into force
has done so: the mark that decoding order gives it (R154). -/
def State.markInOrder (s : State) (i comp k : Nat) : RefMark :=
  (((s.dec.ctxs.getD i {}).rps.filter fun st => st.comp == comp).foldl
    (fun m st => st.move k (s.slot k) m) ((s.slot k).mark comp))

/-- The slots with a reference of a component in a coded video sequence of context `i`. -/
def State.refSlots (s : State) (i comp cvs : Nat) : List Nat :=
  (List.range s.dec.slots.length).filter fun k =>
    (s.slot k).state != .free && (s.slot k).ctx == i && !(s.slot k).abandoned && (s.slot k).cvss.getD comp 0 == cvs &&
      s.markInOrder i comp k != .unused

/-- The slot with the picture order count nearest to one, of two the lower count (R172). -/
def State.nearest (s : State) (comp : Nat) (n : Int) (ks : List Nat) : Option Nat :=
  ks.foldl (fun b k => match b with
    | none => some k
    | some m =>
      let pk := (s.slot k).pocs.getD comp 0
      let pm := (s.slot m).pocs.getD comp 0
      if (pk - n).natAbs < (pm - n).natAbs ∨ ((pk - n).natAbs = (pm - n).natAbs ∧ pk < pm) then some k else b) none

/-- What stands for an entry of a reference picture set: the picture it names, or what replaces it (R172). -/
def State.pickRef (s : State) (i comp cvs : Nat) (n : Int) : RefPick :=
  let ks := s.refSlots i comp cvs
  match ks.find? fun k => (s.slot k).pocs.getD comp 0 == n with
  | some k => ⟨some k, false⟩
  | none => ⟨s.nearest comp n ks, true⟩

/-- The views of the same access unit that an inter-layer reference picture set names by their layers. -/
def interViews (p : ParamSet) (view : Nat) (layers : List Nat) : List Nat :=
  (List.range (scViews p.scene)).filter fun v =>
    v != view && vwColourBs p.layout v == vwColourBs p.layout view && layers.contains (vwColourLayer p.layout v)

/-- The job of one component picture of an access unit of context `i`, and the picture order count state of its layer after it.
A picture of which no slice segment arrived, or whose parameter sets are missing, references nothing; nor does one that begins
a coded video sequence. -/
def State.compJob (s : State) (i : Nat) (a : AccessUnit) (c : Nat × Bool) : CompJob × PocState :=
  let h := hevcOf a.params c.1 c.2 a.psets a.nals
  let ns := compNals a.params c.1 c.2 a.nals
  let arrived := !ns.isEmpty && !h.paramsMissing
  let st := (s.dec.ctxs.getD i {}).pocs.getD (compIdx c.1 c.2) {}
  let (poc, st') := nextPoc st h (if arrived then ns else [])
  let keep := if arrived && !startsCvs st ns then (h.keepShort ++ h.keepLong).map (poc + ·) else []
  (s.divide i a.params
    { view := c.1, depth := c.2, mask := 0, mode := 1, parts := [], info := if arrived then h else {}, arrived := arrived,
      poc := poc, cvs := st'.cvs, refs := keep.map (s.pickRef i (compIdx c.1 c.2) st'.cvs),
      inter := if arrived && !c.2 then interViews a.params c.1 h.interLayers else [] }, st')

/-- The reference picture set of a component picture, as it will move the marks of its layer. -/
def CompJob.step (c : CompJob) (slot : Nat) (au : Word) (fresh : Bool) : RpsStep :=
  { comp := compIdx c.view c.depth, slot := slot, au := au, cvs := c.cvs,
    short := if fresh then [] else c.info.keepShort.map (c.poc + ·),
    long := if fresh then [] else c.info.keepLong.map (c.poc + ·), isRef := true }

/-- Every part of a component picture is done. -/
def CompJob.isDone (c : CompJob) : Bool := c.parts.all fun p => p.state == .done

/-- The picture of a component in slot `k` is still in decode. -/
def State.refBusy (s : State) (k view : Nat) (depth : Bool) : Bool :=
  s.dec.jobs.any fun j => j.slot == k && j.comps.any fun c => c.view == view && c.depth == depth && !c.isDone

/-- The references of a component picture are complete (R153). -/
def State.refsReady (s : State) (comps : List CompJob) (c : CompJob) : Bool :=
  c.refs.all (fun r => r.slot.all fun k => !s.refBusy k c.view c.depth) &&
    c.inter.all fun v => (comps.filter fun d => d.view == v && !d.depth).all CompJob.isDone

/-! ## Slots (R162, R163) -/

/-- The access units of a context in decode (R155). -/
def State.inDecode (s : State) (i : Nat) : Nat := (s.dec.jobs.filter fun j => j.ctx == i).length

/-- Slots that the contexts not on air hold together (R163). -/
def State.offAirSlots (s : State) : Nat :=
  (s.dec.slots.filter fun k => k.state != .free && s.strm.onAir != some k.ctx).length

/-- The lowest FREE slot that a context may take (R162, R163). -/
def State.slotFor (s : State) (i : Nat) : Option Nat :=
  let free := (List.range s.dec.slotCount).find? fun k => (s.slot k).state == .free
  if s.strm.onAir = some i then free
  else if s.offAirSlots < s.dec.slotCount / 2 then free else none

/-- The header fields that a slot takes from its access unit. -/
def slotOf (i : Nat) (a : AccessUnit) (comps : List CompJob) : Slot :=
  { state := .decoding, ctx := i, au := a.number, params := some a.params,
    marks := List.replicate (2 * scViews a.params.scene) .unused, pocs := comps.map (·.poc), cvss := comps.map (·.cvs),
    flags := b2n a.truncated, ptsBase := a.ptsBase, effPts := a.effPts, unbroken := a.unbroken }

/-- A wait for a slot that has lasted longer than one refresh period is counted as it ends (R179). -/
def State.endSlotWait (s : State) (i : Nat) (a : AccessUnit) : State :=
  if a.slotSince.any fun t => decide (t + s.refreshNs < s.mtNs) then
    { s with dec.ctxs := updAt s.dec.ctxs i fun (d : DecCtx) => { d with slotWaits := d.slotWaits + 1 } }
  else s

/-- The oldest waiting access unit of a context takes slot `k`: its picture order counts and reference picture sets take their
places in decoding order. -/
def State.takeSlot (s : State) (i k : Nat) (a : AccessUnit) (jobs : List (CompJob × PocState)) : State :=
  let comps := jobs.map (·.1)
  let old := (s.dec.ctxs.getD i {}).pocs
  let steps := (comps.filter (·.arrived)).map fun (c : CompJob) =>
    c.step k a.number (c.cvs != (old.getD (compIdx c.view c.depth) {}).cvs)
  let s := (s.endSlotWait i a).updCtx i fun c => { c with waiting := c.waiting.drop 1 }
  let s := s.updSlot k fun _ => slotOf i a comps
  { s with dec.jobs := s.dec.jobs ++ [{ ctx := i, slot := k, au := a, comps := comps }],
           dec.ctxs := updAt s.dec.ctxs i fun (d : DecCtx) =>
             { d with rps := d.rps ++ steps,
                      pocs := jobs.foldl (fun ps j => setAt ps (compIdx j.1.view j.1.depth) j.2) d.pocs } }

/-- The oldest waiting access unit of a context takes a slot once a part of it is ready to start, or begins to wait for one
(R155, R162, R163). -/
def State.accepts (s : State) (i : Nat) : State :=
  match (s.ctx i).waiting with
  | [] => s
  | a :: _ =>
    let jobs := (components a.params).map (s.compJob i a)
    if 2 ≤ s.inDecode i || !(jobs.any fun j => s.refsReady (jobs.map (·.1)) j.1) then s
    else match s.slotFor i with
      | some k => s.takeSlot i k a jobs
      | none => s.updCtx i fun c => { c with waiting := updAt c.waiting 0 fun (a : AccessUnit) =>
          { a with slotSince := a.slotSince.or (some s.mtNs) } }

/-- Islands run and no unrecovered fault has stopped the codec complex. -/
def State.codecWorks (s : State) : Bool :=
  !s.pwr.resetLow && !s.pwr.vsenseReset && s.pwr.dusk != .asleep && s.sup.supState != 2 && !s.stopped

/-- Decode parts may start: no loss, shutdown, Dusk entry or unrecovered fault stops them. -/
def State.partsRun (s : State) : Bool :=
  s.pwr.loss.isNone && s.thm.shutdown.isNone && s.pwr.dusk == .awake && s.codecWorks

/-- Give slots to access units of the on-air context first, then of the others in number order (R136). -/
def State.giveSlots (s : State) : State :=
  if s.partsRun then
    let order := s.strm.onAir.toList ++ (List.range 4).filter fun i => s.strm.onAir != some i
    order.foldl State.accepts s
  else s

end Sys2Proof.Machine
end

