-- ==== Sys2Proof/Machine/Strm.lean ====
section
/-!
DEFINITION. The Talvy stream (chapter 03): units, parameter sets, access units, reassembly, and the four contexts.

A rejection has no effect beyond its counters and its event (R147): the checks of an access unit are computed first and
the context changes only when all hold.
-/

namespace Sys2Proof.Machine

/-! ## Parameter sets (R98 to R102) -/

/-- Ranges of R98 and conditions of R99. -/
def validScene (b : List Byte) : Bool :=
  decide (2 ≤ scViews b ∧ scViews b ≤ 16) && decide (scParallax b ≤ 1) &&
  decide (256 ≤ scWidth b ∧ scWidth b ≤ 3840 ∧ scWidth b % 2 = 0) &&
  decide (256 ≤ scHeight b ∧ scHeight b ≤ 2160 ∧ scHeight b % 2 = 0) &&
  decide (scDepthScale b ≤ 1) && (scColourBits b == 8 || scColourBits b == 10) &&
  decide (8 ≤ scDepthBits b ∧ scDepthBits b ≤ 12) && fieldAt b 11 1 == 0 && fieldAt b 36 4 == 0 &&
  scFocal b != 0 && scNear b != 0 && decide (scNear b < scFar b) &&
  decide (scNear b ≤ scZero b ∧ scZero b ≤ scFar b) && decide (0 < scUSpan b) &&
  (if scParallax b = 1 then decide (0 < scVSpan b) else decide (scVSpan b = 0))

/-- One view follows another in the order of R102. -/
def viewOrdered (parallax : Nat) (b : List Byte) (n : Nat) : Bool :=
  if parallax = 0 then vwY b n == vwY b (n + 1) && decide (vwX b n < vwX b (n + 1))
  else decide (vwY b n < vwY b (n + 1)) || (vwY b n == vwY b (n + 1) && decide (vwX b n < vwX b (n + 1)))

/-- A VIEW_LAYOUT agrees with its SCENE_PARAMS and keeps R101 and R102. -/
def validLayout (scene b : List Byte) : Bool :=
  let n := scViews scene
  let vs := List.range n
  fieldAt b 0 2 == scVersion scene && fieldAt b 2 1 == n && fieldAt b 3 1 == 0 &&
  vs.all (fun v => decide (vwColourBs b v ≤ 31) && decide (vwColourLayer b v ≤ 62) && decide (vwDepthBs b v ≤ 31) &&
    vwDepthLayer b v == 0 && (sliceZ b (viewOff v + 20) 12).all (· == 0)) &&
  (List.range (n - 1)).all (viewOrdered (scParallax scene) b) &&
  vs.all (fun v => vs.all fun w =>
    vwColourBs b v != vwDepthBs b w &&
    (v == w || ((vwColourBs b v != vwColourBs b w || vwColourLayer b v != vwColourLayer b w) &&
      vwDepthBs b v != vwDepthBs b w && (vwX b v != vwX b w || vwY b v != vwY b w))))

/-! ## Contexts -/

/-- Raise an event that concerns context `i`. -/
def State.raiseStrm (s : State) (i : Nat) (c : EventCode) (d0 d1 : Nat) : State :=
  s.raise { code := c, data0 := d0, data1 := d1, owner := some (s.ctx i).owner }

/-- A unit, a pair or an access unit is rejected: the event and REJ_LAST (R146, R147). -/
def State.reject (s : State) (i reason : Nat) (au : Word) : State :=
  (s.updCtx i fun c => { c with rejLast := reason }).raiseStrm i .streamRejected reason au.toNat

/-- Reason codes of R147. -/
def rejBadSync : Nat := 0x01
/-- BAD_UNIT. -/
def rejBadUnit : Nat := 0x02
/-- AU_CRC. -/
def rejAuCrc : Nat := 0x03
/-- AU_TOO_LARGE. -/
def rejTooLarge : Nat := 0x04
/-- NO_AU_START. -/
def rejNoStart : Nat := 0x05
/-- BAD_SCENE_PARAMS. -/
def rejScene : Nat := 0x06
/-- BAD_VIEW_LAYOUT. -/
def rejLayout : Nat := 0x07
/-- PARAMS_WITHOUT_RAP. -/
def rejNoRap : Nat := 0x08
/-- MISSING_COMPONENT. -/
def rejComponent : Nat := 0x09
/-- RAP_MISMATCH. -/
def rejRap : Nat := 0x0A
/-- PTS_ORDER. -/
def rejOrder : Nat := 0x0B
/-- PTS_RANGE. -/
def rejRange : Nat := 0x0C
/-- MT_ON_NETWORK. -/
def rejMt : Nat := 0x0D
/-- HEVC_REORDER. -/
def rejReorder : Nat := 0x14
/-- HEVC_LAYER_MAP. -/
def rejLayerMap : Nat := 0x15

/-- A cut that names context `i` does not take effect (R139). -/
def State.failCut (s : State) (i : Nat) : State :=
  match s.strm.cut with
  | some (t, j) => if j = i then ({ s with strm.cut := none }).outcome t .wrongState 0 else s
  | none => s

/-- Judge an access-unit number (R111): in order, with the reference number moved and missing numbers counted, or a
duplicate, which is counted. -/
def State.judge (s : State) (i : Nat) (n : Word) : Bool × State :=
  match (s.ctx i).refNum with
  | none => (true, s.updCtx i fun c => { c with refNum := some n })
  | some r =>
    if seqAfter n r then
      let gap := n - r - 1
      (true, s.updCtx i fun c =>
        { c with refNum := some n, nMissing := c.nMissing + gap, unbroken := c.unbroken && gap == 0 })
    else (false, s.updCtx i fun c => { c with nDuplicates := c.nDuplicates + 1 })

/-- An access unit is rejected with its number known: judged, counted, reported (R96, R111, R147). One of which every byte was
present is counted as complete beside that (R131, R145). -/
def State.rejectAu (s : State) (i reason : Nat) (n : Word) (complete : Bool := false) : State :=
  let (fresh, s) := s.judge i n
  if fresh then
    (s.updCtx i fun c =>
      { c with nRejected := c.nRejected + 1, unbroken := false,
               nComplete := if complete then c.nComplete + 1 else c.nComplete }).reject i reason n
  else s

/-! ## Units (R94 to R97) -/

/-- A whole Talvy unit. -/
structure TUnit where
  /-- Type. -/
  typ : Nat
  /-- Version. -/
  ver : Nat
  /-- Reserved field. -/
  resv : Nat
  /-- Payload length. -/
  plen : Nat
  /-- au_number. -/
  au : Word
  /-- Payload without padding. -/
  payload : List Byte
  /-- Header, payload and padding. -/
  raw : List Byte
  deriving DecidableEq, Repr

/-- The sync bytes as a word (R94). -/
def tuSync : Nat := 0x59564C54
/-- payload_len limit (R94). -/
def tuLimit : Nat := 0x1000000
/-- Size limit of an access unit (R110). -/
def auLimit : Nat := 0x2000000

/-- What stands at the front of a byte string. -/
inductive Scan where
  | short
  | noSync
  | tooLong (typ : Nat) (au : Word)
  | whole (u : TUnit) (rest : List Byte)
  deriving DecidableEq, Repr

/-- Read the unit at the front of a byte string. -/
def scanUnit (b : List Byte) : Scan :=
  if b.length < 16 then (if 4 ≤ b.length ∧ fieldAt b 0 4 ≠ tuSync then .noSync else .short)
  else if fieldAt b 0 4 ≠ tuSync then .noSync
  else
    let plen := fieldAt b 8 4
    let au := word (fieldAt b 12 4)
    if tuLimit < plen then .tooLong (fieldAt b 4 1) au
    else
      let total := 16 + 4 * ceilDiv plen 4
      if b.length < total then .short
      else
        .whole { typ := fieldAt b 4 1, ver := fieldAt b 5 1, resv := fieldAt b 6 2, plen := plen, au := au,
                 payload := (b.drop 16).take plen, raw := b.take total } (b.drop total)

/-- The header of a unit is malformed by its version or reserved field, or its type is undefined below 0x80 (R96). -/
def TUnit.badHead (u : TUnit) : Bool :=
  u.ver != 1 || u.resv != 0 ||
    !(u.typ == 0x01 || u.typ == 0x02 || u.typ == 0x10 || u.typ == 0x11 || u.typ == 0x12 || u.typ == 0x20 || u.typ == 0x21)

/-- An AU_START payload, none when it is malformed (R96, R105). -/
def parseAuStart (u : TUnit) : Option AuStart :=
  let b := u.payload
  if u.plen ≠ 20 ∨ 2 < fieldAt b 0 1 ∨ 2 ≤ fieldAt b 1 1 ∨ fieldAt b 6 2 ≠ 0 ∨ 1000000000 ≤ fieldAt b 8 4 ∨
      fieldAt b 18 2 ≠ 0 then none
  else
    some { ptsBase := fieldAt b 0 1, disc := fieldAt b 1 1 == 1, rapMask := fieldAt b 2 2, params := fieldAt b 4 2,
           pts := fieldAt b 12 6 * 1000000000 + fieldAt b 8 4 }

/-- Split length-prefixed NAL units that must fill the bytes exactly (R106). -/
def splitNals : Nat → List Byte → Option (List (List Byte))
  | 0, b => if b.isEmpty then some [] else none
  | k + 1, b =>
    if b.isEmpty then some []
    else if b.length < 4 then none
    else
      let n := fieldAt b 0 4
      if b.length < 4 + n then none
      else (splitNals k (b.drop (4 + n))).map (fun r => (b.drop 4).take n :: r)

/-- Where an access unit stands after one more of its units. -/
inductive Feed where
  | more (au : AuBuild)
  | done (au : AuBuild) (counts : Bool)
  | bad (reason skipped : Nat)
  deriving DecidableEq, Repr

/-- The NAL units of a whole LAYER_DATA payload and whether it is marked last, none when it is malformed (R96, R106). -/
def layerData (lasts : List Nat) (plen : Nat) (b : List Byte) : Option (List Nal × List Nat) :=
  let bs := fieldAt b 0 1
  if plen < 4 ∨ 31 < bs ∨ fieldAt b 2 2 ≠ 0 ∨ lasts.contains bs then none
  else (splitNals plen (b.drop 4)).map fun ns =>
    (ns.map (Nal.mk bs), if bitOf (fieldAt b 1 1) 0 then bs :: lasts else lasts)

/-- Feed a unit to the access unit being built (R96, R106, R108 to R110). -/
def feedUnit (a : AuBuild) (u : TUnit) : Feed :=
  let a' := { a with units := a.units + 1, bytes := a.bytes ++ u.raw }
  if auLimit < a'.bytes.length then .bad rejTooLarge a.skipped
  else if 0x80 ≤ u.typ then .more { a' with skipped := a.skipped + 1 }
  else if u.badHead || u.au != a.number then .bad rejBadUnit a.skipped
  else if u.typ = 0x20 then .more a'
  else if u.typ = 0x11 then
    match layerData a.lasts u.plen u.payload with
    | none => .bad rejBadUnit a.skipped
    | some (ns, lasts) => .more { a' with nals := a.nals ++ ns, lasts := lasts }
  else if u.typ = 0x12 then
    if u.plen ≠ 12 then .bad rejBadUnit a.skipped
    else
      let len := a'.bytes.length
      .done a' (fieldAt u.payload 0 4 == a'.units && fieldAt u.payload 4 4 == len &&
        fieldAt u.payload 8 4 == crc32c (a'.bytes.take (len - 4)))
  else .bad rejBadUnit a.skipped

/-! ## The pictures of an access unit (R107, R113, R114, R148, R149) -/

/-- The reason for which the pictures of an access unit are rejected, 0 for none. A DEC_COLOUR override lifts HEVC_COLOUR only.
In a TRUNCATED one a component may be missing, and a picture whose parameter sets are missing is concealed (R107, R171). -/
def pictureReason (p : ParamSet) (rap : Nat) (truncated clean colourOverride : Bool) (psets ns : List Nal) : Nat :=
  let cs := components p
  let own (c : Nat × Bool) : List Nal := compNals p c.1 c.2 ns
  if !truncated && cs.any (fun c => (own c).isEmpty) then rejComponent
  else if cs.any (fun c => bitOf rap c.1 && (own c).any (fun n => !nalIrap n)) then rejRap
  else if clean && lacksParams p ns then rejLayerMap
  else if ns.any nalLeading then rejReorder
  else if ns.any (strayNal p) then rejLayerMap
  else
    let rs := (cs.filter fun c => !(own c).isEmpty).map fun c =>
      let h := hevcOf p c.1 c.2 psets ns
      if h.paramsMissing then (if truncated then 0 else rejLayerMap) else hevcFault p c.1 c.2 colourOverride h
    (rs.find? (· != 0)).getD 0

/-! ## Handing on (R104, R112 to R120) -/

/-- Every view below view_count has its bit in rap_mask (R112). -/
def rapCovers (p : ParamSet) (rap : Nat) : Bool := (List.range (scViews p.scene)).all (bitOf rap)

/-- Buffer space of an access unit of `n` bytes: whole 4 KiB blocks (R134). -/
def bufSpace (n : Nat) : Nat := roundUp n 4096

/-- NT in ns. -/
def State.ntNs (s : State) : Nat := s.time.nt / 0x100000000

/-- Nanoseconds of the base that a pts_base names (R105). -/
def State.ptsNow (s : State) (base : Nat) : Nat := if base = 1 then s.ntNs else s.mtNs

/-- The set that an access unit names, and whether it is the pending one (R104). -/
def namedSet (c : StreamCtx) (ver : Nat) : Option (ParamSet × Bool) :=
  match c.current with
  | some p => if scVersion p.scene = ver then some (p, false) else
      (c.pendingSet.filter fun q => scVersion q.scene == ver).map fun q => (q, true)
  | none => (c.pendingSet.filter fun q => scVersion q.scene == ver).map fun q => (q, true)

/-- A scene picture of the set fits a slot of the pool (R160). -/
def State.fitsSlot (s : State) (p : ParamSet) : Bool := decide (sceneBytes p.scene ≤ s.dec.slotBlocks * 65536)

/-- An access unit is discarded while the context seeks (R119). -/
def State.discardAu (s : State) (i : Nat) : State :=
  s.updCtx i fun c => { c with nDiscarded := c.nDiscarded + 1, unbroken := false }

/-- What the checks of an access unit lead to. -/
inductive Verdict where
  | reject (reason : Nat)
  | discard
  | tooLarge
  | handOn (p : ParamSet) (newSet clean anchored : Bool) (offset eff : Int)
  deriving DecidableEq, Repr

/-- The checks of an access unit that has all its units, in the order of log 10; `nt` is NT at the arrival of its last byte.
Presentation times are compared on one base only (log 115). -/
def State.auVerdict (s : State) (i : Nat) (number : Word) (st : AuStart) (truncated : Bool) (ns : List Nal) (nt : Nat) :
    Verdict :=
  let c := s.ctx i
  if c.conflicts.contains number then .reject rejScene
  else match namedSet c st.params with
  | none => .reject rejScene
  | some (p, newSet) =>
    let clean := !truncated && rapCovers p st.rapMask
    if newSet && !clean then .reject rejNoRap
    else if !s.fitsSlot p then .tooLarge
    else if c.state ≠ .running ∧ !clean then .discard
    else
      let r := pictureReason p st.rapMask truncated clean ((s.dec.ctxs.getD i {}).colourMatrix != 0)
        (if clean then [] else c.psets) ns
      if r ≠ 0 then .reject r
      else if st.ptsBase = 2 ∧ c.source ≠ 0 then .reject rejMt
      else if !clean && c.base.any (· != st.ptsBase) then .reject rejOrder
      else
        let anchored := clean && (st.disc || c.state == .stalled || c.state == .ended)
        let offset := if anchored && st.ptsBase == 2 then (s.mtNs : Int) - st.pts else c.mtOffset
        let eff := if st.ptsBase = 2 then (st.pts : Int) + offset else st.pts
        let arrived : Nat := if st.ptsBase = 1 then nt else s.mtNs
        if st.ptsBase ≠ 0 ∧ !anchored ∧ c.lastBase = st.ptsBase ∧ c.lastPts.any (fun l => decide (eff ≤ l)) then
          .reject rejOrder
        else if st.ptsBase ≠ 0 ∧ (arrived : Int) + 10000000000 < eff then .reject rejRange
        else .handOn p newSet clean anchored offset eff

/-- Take an access unit through its checks: it is rejected, discarded, or handed on to the codec complex (R104, R118). -/
def State.acceptAu (s : State) (i : Nat) (number : Word) (st : AuStart) (truncated : Bool) (ns : List Nal)
    (bytes nt : Nat) : State :=
  match s.judge i number with
  | (false, s) => s
  | (true, s) =>
    let s := if truncated then s else s.updCtx i fun c => { c with nComplete := c.nComplete + 1 }
    match s.auVerdict i number st truncated ns nt with
    | .reject r =>
      (s.updCtx i fun c =>
        { c with nRejected := c.nRejected + 1, unbroken := false,
                 conflicts := c.conflicts.filter (· != number) }).reject i r number
    | .discard => s.discardAu i
    | .tooLarge =>
      let s := { s with dec.ctxs := updAt s.dec.ctxs i fun d => { d with tooLarge := d.tooLarge + 1 } }
      s.discardAu i
    | .handOn p newSet clean anchored offset eff =>
      let was := (s.ctx i).state
      let s := s.updCtx i fun c =>
        let unbroken := clean || c.unbroken
        { c with
          state := if clean then .running else c.state
          current := if newSet then some p else c.current
          pendingSet := if newSet then none else c.pendingSet
          nSets := if newSet then c.nSets + 1 else c.nSets
          nTruncated := if truncated then c.nTruncated + 1 else c.nTruncated
          mtOffset := offset
          base := some st.ptsBase
          lastPts := if st.ptsBase = 0 then none else some eff
          lastBase := st.ptsBase
          stallRun := c.stallMs
          lastHanded := number
          unbroken := unbroken
          psets := (if clean then [] else c.psets) ++ ns.filter nalIsParam
          stallHold := if was = .stalled then some (some number) else c.stallHold
          waiting := c.waiting ++
            [{ number := number, truncated := truncated, clean := clean, unbroken := unbroken, ptsBase := st.ptsBase,
               effPts := eff, rapMask := st.rapMask, params := p, nals := ns, psets := if clean then [] else c.psets,
               space := bufSpace bytes }] }
      (if anchored then s.raiseStrm i .streamDiscontinuity number.toNat st.ptsBase else s).giveSlots

/-- An access unit whose AU_END has been read: its counts and CRC, then its checks (R109). -/
def State.finishAu (s : State) (i : Nat) (a : AuBuild) (counts : Bool) (nt : Nat) : State :=
  if counts then s.acceptAu i a.number a.start false a.nals a.bytes.length nt else s.rejectAu i rejAuCrc a.number true

/-! ## Units between access units (R96, R103) -/

/-- A pair is rejected: one event, and nothing else but the conflict that R103 remembers. -/
def State.rejectPair (s : State) (i reason : Nat) (au : Word) : State :=
  (s.updCtx i fun c => { c with scene := none }).reject i reason au

/-- A SCENE_PARAMS and its VIEW_LAYOUT have both been read (R103). An empty payload stands for a malformed unit. The pair's
au_number is that of its SCENE_PARAMS (log 131). -/
def State.judgePair (s : State) (i : Nat) (au : Word) (scene layout : List Byte) : State :=
  if scene.isEmpty || layout.isEmpty then s.rejectPair i rejBadUnit au
  else if !validScene scene then s.rejectPair i rejScene au
  else if !validLayout scene layout then s.rejectPair i rejLayout au
  else
    let p : ParamSet := ⟨scene, layout⟩
    match (s.ctx i).current with
    | some q =>
      if q = p then s.updCtx i fun c => { c with scene := none }
      else if scVersion q.scene = scVersion scene then
        (s.updCtx i fun c => { c with conflicts := au :: c.conflicts }).rejectPair i rejScene au
      else s.updCtx i fun c => { c with scene := none, pendingSet := some p }
    | none => s.updCtx i fun c => { c with scene := none, pendingSet := some p }

/-- END_OF_STREAM is parsed: a RUNNING context ends, and a cut that waits for it fails (R120, R123, R139). -/
def State.endStream (s : State) (i : Nat) : State :=
  if (s.ctx i).state = .running then (s.updCtx i fun c => { c with state := .ended }).failCut i else s

/-- A SCENE_PARAMS whose VIEW_LAYOUT does not follow is an incomplete pair (R103). -/
def State.closePair (s : State) (i : Nat) : State :=
  match (s.ctx i).scene with
  | some (au, _) => s.rejectPair i rejBadUnit au
  | none => s

/-- A unit between access units whose payload_len is above the limit: it is rejected on its own, or with its pair (R96,
R103). -/
def State.longUnit (s : State) (i typ : Nat) (au : Word) : State :=
  match typ, (s.ctx i).scene with
  | 0x02, some (first, _) => s.rejectPair i rejBadUnit first
  | 0x01, _ => (s.closePair i).updCtx i fun c => { c with scene := some (au, []) }
  | _, _ => (s.closePair i).reject i rejBadUnit au

/-- A unit that stands between access units. It answers the access unit that an AU_START begins (R96, R103). -/
def State.betweenUnit (s : State) (i : Nat) (u : TUnit) : State × Option AuBuild :=
  if 0x80 ≤ u.typ then (s.updCtx i fun c => { c with nSkipped := c.nSkipped + 1 }, none)
  else if u.typ = 0x20 ∧ !u.badHead then (s, none)
  else
    -- a SCENE_PARAMS followed by anything but FILLER and a VIEW_LAYOUT is an incomplete pair
    let s := if u.typ = 0x02 then s else s.closePair i
    if u.typ = 0x02 then
      match (s.ctx i).scene with
      | none => (s.reject i rejBadUnit u.au, none)
      | some (au, scene) =>
        let want := 4 + 32 * fieldAt u.payload 2 1
        let layout := if u.badHead ∨ u.plen ≠ want then [] else u.payload
        (s.judgePair i au scene layout, none)
    else if u.typ = 0x01 then
      let scene := if u.badHead ∨ u.plen ≠ 40 then [] else u.payload
      (s.updCtx i fun c => { c with scene := some (u.au, scene) }, none)
    else if u.badHead then (s.reject i rejBadUnit u.au, none)
    else if u.typ = 0x10 then
      match parseAuStart u with
      | none => (s.reject i rejBadUnit u.au, none)
      | some st => (s, some { number := u.au, start := st, units := 1, bytes := u.raw, nals := [], lasts := [] })
    else if u.typ = 0x21 then
      if u.plen ≠ 0 then (s.reject i rejBadUnit u.au, none) else (s.endStream i, none)
    else (s.reject i rejBadUnit u.au, none)

/-- Find the next sync bytes that begin an AU_START, SCENE_PARAMS or END_OF_STREAM, 4 bytes at a time (R97). -/
def huntSync : Nat → List Byte → List Byte
  | 0, b => b
  | k + 1, b =>
    if b.length < 5 then b
    else if fieldAt b 0 4 = tuSync ∧ (fieldAt b 4 1 = 0x10 ∨ fieldAt b 4 1 = 0x01 ∨ fieldAt b 4 1 = 0x21) then b
    else huntSync k (b.drop 4)

/-- The hunt of `huntSync` has found its unit. -/
def huntDone (b : List Byte) : Bool :=
  decide (5 ≤ b.length) && fieldAt b 0 4 == tuSync &&
    (fieldAt b 4 1 == 0x10 || fieldAt b 4 1 == 0x01 || fieldAt b 4 1 == 0x21)

/-- Put the parser of context `i` behind a unit. -/
def State.parserTo (s : State) (i : Nat) (m : ParseMode) (rest : List Byte) : State :=
  s.updCtx i fun c => { c with mode := m, buf := rest }

/-- A unit inside an access unit of a PCIe context (R96). -/
def State.insideUnit (s : State) (i : Nat) (a : AuBuild) (u : TUnit) (rest : List Byte) : State :=
  if u.typ = 0x10 ∨ u.typ = 0x01 ∨ u.typ = 0x21 then
    let s := s.rejectAu i rejBadUnit a.number
    let (s, au) := s.betweenUnit i u
    s.parserTo i (match au with | some b => .inside b | none => .between) rest
  else
    let s := if 0x80 ≤ u.typ then s.updCtx i fun c => { c with nSkipped := c.nSkipped + 1 } else s
    match feedUnit a u with
    | .more b => s.parserTo i (.inside b) rest
    | .done b counts => (s.parserTo i .between rest).finishAu i b counts s.ntNs
    | .bad r _ => (s.parserTo i (if u.typ = 0x12 then .between else .skipping) rest).rejectAu i r a.number

/-- Parse what a PCIe context has buffered; answers the units that entered it (R96, R97, R125). -/
def State.parseBuf : Nat → State → Nat → Nat → Nat × State
  | 0, s, _, n => (n, s)
  | k + 1, s, i, n =>
    let c := s.ctx i
    match c.mode with
    | .hunting =>
      let b := huntSync (c.buf.length / 4 + 1) c.buf
      if huntDone b then State.parseBuf k (s.parserTo i .between b) i n else (n, s.parserTo i .hunting b)
    | m =>
      match scanUnit c.buf with
      | .short => (n, s)
      | .noSync =>
        let s := match m with
          | .inside a => s.rejectAu i rejBadSync a.number
          | .between => s.closePair i
          | _ => s
        State.parseBuf k (s.parserTo i .hunting (c.buf.drop 4)) i n
      | .tooLong typ au =>
        let s := match m with
          | .inside a => s.rejectAu i rejBadUnit a.number
          | .between => s.longUnit i typ au
          | _ => s
        State.parseBuf k (s.parserTo i .hunting (c.buf.drop 16)) i n
      | .whole u rest =>
        match m with
        | .inside a => State.parseBuf k (s.insideUnit i a u rest) i (n + 1)
        | .skipping =>
          if u.typ = 0x12 then State.parseBuf k (s.parserTo i .between rest) i (n + 1)
          else if u.typ = 0x10 ∨ u.typ = 0x01 ∨ u.typ = 0x21 then State.parseBuf k (s.parserTo i .between c.buf) i n
          else State.parseBuf k (s.parserTo i .skipping rest) i (n + 1)
        | _ =>
          let (s, au) := s.betweenUnit i u
          State.parseBuf k (s.parserTo i (match au with | some b => .inside b | none => .between) rest) i (n + 1)

/-! ## Network intake (R127 to R135) -/

/-- The byte of an access unit in reassembly, first copy first (R131). -/
def Reassembly.byteAt (r : Reassembly) (x : Nat) : Option Byte :=
  match r.frags.find? fun f => decide (f.off ≤ x ∧ x < f.off + f.bytes.length) with
  | some f => f.bytes[x - f.off]?
  | none => none

/-- One more than the highest byte received. -/
def Reassembly.top (r : Reassembly) : Nat := maxNat (r.frags.map fun f => f.off + f.bytes.length)

/-- The bytes of an access unit in reassembly, with holes. -/
def Reassembly.image (r : Reassembly) : List (Option Byte) := (List.range (r.total.getD r.top)).map r.byteAt

/-- A LAST datagram has been received and every byte is present (R131). -/
def Reassembly.isComplete (r : Reassembly) : Bool := r.total.isSome && r.image.all Option.isSome

/-- The AU_START unit is present in full (R132). -/
def Reassembly.hasStart (r : Reassembly) : Bool := (List.range 36).all fun x => (r.byteAt x).isSome

/-- `n` bytes of an image from a position, when all are present. -/
def imageAt (im : List (Option Byte)) (pos n : Nat) : Option (List Byte) :=
  let w := (im.drop pos).take n
  if w.length = n ∧ w.all Option.isSome then some (w.map fun o => o.getD 0) else none

/-- The first position from `pos` on where parsing may resume, and how (R133). -/
def resumeAt (r : Reassembly) (pos : Nat) : Option (Nat × Option Nat) :=
  (r.marks.filter fun m => decide (pos ≤ m.1)).foldl (fun best x => match best with
    | some b => if x.1 < b.1 then some x else best
    | none => some x) none

/-- The first byte from `pos` on that is missing in an image, or its end. -/
def holeFrom (im : List (Option Byte)) (pos : Nat) : Nat := pos + ((im.drop pos).takeWhile Option.isSome).length

/-- The whole NAL units from a position up to a limit or a hole: the NAL units and where they end. -/
def nalsFrom : Nat → List (Option Byte) → Nat → Nat → Nat → List Nal × Nat
  | 0, _, pos, _, _ => ([], pos)
  | k + 1, im, pos, lim, bs =>
    if lim < pos + 4 then ([], pos)
    else match imageAt im pos 4 with
      | none => ([], pos)
      | some h =>
        if leNat h = tuSync then ([], pos)
        else match imageAt im (pos + 4) (leNat h) with
          | none => ([], pos)
          | some b =>
            if lim < pos + 4 + b.length then ([], pos)
            else
              let (ns, e) := nalsFrom k im (pos + 4 + b.length) lim bs
              (⟨bs, b⟩ :: ns, e)

/-- What a TRUNCATED access unit yields: NAL units, units skipped, the bitstreams marked last, a reason to reject it. -/
structure CutAu where
  nals : List Nal := []
  skipped : Nat := 0
  lasts : List Nat := []
  bad : Option Nat := none
  deriving DecidableEq, Repr

/-- The unit header at a position of a TRUNCATED access unit of a number is malformed, though the unit is not whole: its
version, its reserved field, its au_number, or a type that has no place inside (R96). -/
def badCutHead (number : Word) (h : List Byte) : Bool :=
  decide (fieldAt h 4 1 < 0x80) &&
    (fieldAt h 5 1 != 1 || fieldAt h 6 2 != 0 || fieldAt h 12 4 != number.toNat ||
      !(fieldAt h 4 1 == 0x11 || fieldAt h 4 1 == 0x12 || fieldAt h 4 1 == 0x20))

/-- A whole unit of a TRUNCATED access unit is used (R96, R106, R133): the counts of AU_END are not checked. -/
def cutUnit (number : Word) (u : TUnit) (c : CutAu) : CutAu :=
  if 0x80 ≤ u.typ then { c with skipped := c.skipped + 1 }
  else if badCutHead number u.raw || (u.typ == 0x12 && u.plen != 12) then { c with bad := some rejBadUnit }
  else if u.typ = 0x11 then
    match layerData c.lasts u.plen u.payload with
    | none => { c with bad := some rejBadUnit }
    | some (ns, lasts) => { c with nals := c.nals ++ ns, lasts := lasts }
  else c

/-- The units that a TRUNCATED access unit yields (R96, R97, R133), from a unit header, or from a NAL length prefix of the
bitstream that a datagram names; after a hole, from the next datagram that carries a mark. -/
def truncUnits : Nat → Reassembly → List (Option Byte) → Nat → Option Nat → CutAu → CutAu
  | 0, _, _, _, _, c => c
  | k + 1, r, im, pos, inNal, c =>
    let after (p : Nat) (c : CutAu) : CutAu := match resumeAt r (holeFrom im p) with
      | some (q, m) => truncUnits k r im q m c
      | none => c
    match inNal with
    | some bs =>
      let (ns, e) := nalsFrom im.length im pos im.length bs
      let c := { c with nals := c.nals ++ ns }
      let e4 := roundUp e 4
      match imageAt im e4 4 with
      | some h => if leNat h = tuSync then truncUnits k r im e4 none c else after e4 c
      | none => after e c
    | none =>
      match imageAt im pos 16 with
      | none => after pos c
      | some h =>
        let plen := fieldAt h 8 4
        if leNat (h.take 4) ≠ tuSync then { c with bad := some rejBadSync }
        else if tuLimit < plen then { c with bad := some rejBadUnit }
        else match imageAt im pos (16 + 4 * ceilDiv plen 4) with
        | some b => match scanUnit b with
          | .whole u _ =>
            let c := cutUnit r.number u c
            if c.bad.isSome || u.typ = 0x12 then c else truncUnits k r im (pos + u.raw.length) none c
          | _ => c
        | none =>
          if badCutHead r.number h then { c with bad := some rejBadUnit }
          else if 0x80 ≤ fieldAt h 4 1 then after pos { c with skipped := c.skipped + 1 }
          else if fieldAt h 4 1 = 0x11 then
            match imageAt im (pos + 16) 4 with
            | some d =>
              let (ns, e) := nalsFrom im.length im (pos + 20) (pos + 16 + plen) (fieldAt d 0 1)
              after e { c with nals := c.nals ++ ns }
            | none => after pos c
          else after pos c

/-- Feed the units of a whole access unit, one after another (R96 for a network context). Nothing may stand behind its AU_END
(log 131). -/
def feedAll : Nat → AuBuild → List Byte → Feed
  | 0, a, _ => .bad rejBadUnit a.skipped
  | k + 1, a, b =>
    match scanUnit b with
    | .whole u rest =>
      match feedUnit a u with
      | .more a' => feedAll k a' rest
      | .done a' c => if rest.isEmpty then .done a' c else .bad rejBadUnit a'.skipped
      | .bad r n => .bad r n
    | .noSync => .bad rejBadSync a.skipped
    | _ => .bad rejBadUnit a.skipped

/-- Count the units of type 0x80 to 0xFF that the parsing of an access unit has passed (R96). -/
def State.countSkipped (s : State) (i n : Nat) : State := s.updCtx i fun c => { c with nSkipped := c.nSkipped + word n }

/-- A complete access unit of a network context is checked and handed on (R131). Its AU_START carries the number of its
datagrams (log 131). -/
def State.finishReassembly (s : State) (i : Nat) (number : Word) (b : List Byte) (nt : Nat) : State :=
  match scanUnit b with
  | .whole u rest =>
    if u.typ ≠ 0x10 ∨ u.badHead ∨ u.au ≠ number then s.rejectAu i rejBadUnit number true
    else match parseAuStart u with
      | none => s.rejectAu i rejBadUnit number true
      | some st =>
        match feedAll (b.length / 4 + 1)
            { number := number, start := st, units := 1, bytes := u.raw, nals := [], lasts := [] } rest with
        | .done a c => (s.countSkipped i a.skipped).finishAu i a c nt
        | .bad r n => (s.countSkipped i n).rejectAu i r number true
        | .more a => (s.countSkipped i a.skipped).rejectAu i rejBadUnit number true
  | .noSync => s.rejectAu i rejBadSync number true
  | _ => s.rejectAu i rejBadUnit number true

/-- An access unit cut short is parsed for what it still holds (R133); a malformed unit rejects it whole (R96). -/
def State.finishTruncated (s : State) (i : Nat) (r : Reassembly) : State :=
  match imageAt r.image 0 36 with
  | none => s.rejectAu i rejNoStart r.number
  | some h =>
    match scanUnit h with
    | .whole u _ => match parseAuStart u with
      | none => s.rejectAu i rejBadUnit r.number
      | some st =>
        if u.badHead ∨ u.au ≠ r.number then s.rejectAu i rejBadUnit r.number
        else
          let c := truncUnits (r.marks.length + r.top / 4 + 1) r r.image 36 none {}
          let s := s.countSkipped i c.skipped
          match c.bad with
          | some reason => s.rejectAu i reason r.number
          | none => s.acceptAu i r.number st true c.nals r.top r.arrived
    | .noSync => s.rejectAu i rejBadSync r.number
    | _ => s.rejectAu i rejBadUnit r.number

/-- Hand on what stands complete or cut at the front of the reassembly, in access-unit order (R131). -/
def State.drain : Nat → State → Nat → State
  | 0, s, _ => s
  | k + 1, s, i =>
    match (s.ctx i).reasm with
    | [] => s
    | r :: rest =>
      if r.dead then
        let s := s.updCtx i fun c => { c with reasm := rest }
        State.drain k ((s.judge i r.number).2.updCtx i fun c => { c with unbroken := false }) i
      else if r.isComplete then
        let s := s.updCtx i fun c => { c with reasm := rest }
        State.drain k (s.finishReassembly i r.number (r.image.map fun o => o.getD 0) r.arrived) i
      else if r.cut then
        let s := s.updCtx i fun c => { c with reasm := rest }
        State.drain k (s.finishTruncated i r) i
      else s

/-- Hand on whatever may be handed on. -/
def State.drainAll (s : State) (i : Nat) : State := State.drain (s.ctx i).reasm.length s i

/-- An access unit in reassembly is rejected at once; its number is judged when those before it have been (R111, R131). -/
def State.rejectReasm (s : State) (i reason : Nat) (number : Word) : State :=
  let s := s.updCtx i fun c =>
    { c with nRejected := c.nRejected + 1,
             reasm := c.reasm.map fun x =>
               if x.number == number then { x with frags := [], marks := [], total := none, cut := true, dead := true } else x }
  (s.reject i reason number).drainAll i

/-- The reassembly of an incomplete access unit ends, as at the expiry of its timer (R132, R134). -/
def State.endReassembly (s : State) (i : Nat) (number : Word) : State :=
  match (s.ctx i).reasm.find? fun r => r.number == number with
  | none => s
  | some r =>
    if r.isComplete || r.cut then s
    else if r.hasStart then
      let holes := (r.image.filter Option.isNone).length
      -- without a LAST datagram the bytes behind the highest one received are missing too, and their number is open (log 11)
      let (beyond, s) := match r.total with
        | some _ => (0, s)
        | none => s.drawFree
      let missing := holes + beyond
      let s := s.updCtx i fun c =>
        { c with reasm := c.reasm.map fun x => if x.number == number then { x with cut := true } else x }
      (s.raiseStrm i .streamTruncated number.toNat missing).drainAll i
    else s.rejectReasm i rejNoStart number

/-- Bytes that a PCIe context has taken in and not yet handed on: of the access unit in progress and of what follows it. -/
def StreamCtx.partial_ (c : StreamCtx) : Nat :=
  c.buf.length + match c.mode with
    | .inside a => a.bytes.length
    | _ => 0

/-- Bytes of the 64 MiB reassembly buffer in use, in 4 KiB blocks: until a scene picture is complete, or its context closes
(R134). -/
def State.bufUsed (s : State) : Nat :=
  sumNat (s.strm.ctxs.map fun c =>
    bufSpace c.partial_ + sumNat (c.reasm.map fun r => bufSpace r.top) + sumNat (c.waiting.map fun a => a.space)) +
  sumNat ((s.dec.jobs.filter fun j => !(s.slot j.slot).abandoned).map fun j => j.au.space)

/-- Size of the reassembly buffer (R134). -/
def bufLimit : Nat := 64 * 0x100000

/-- The oldest incomplete access unit of any network context: its context and number (R134). -/
def State.oldestIncomplete (s : State) : Option (Nat × Word) :=
  let cands := (List.range 4).filterMap fun i =>
    ((s.ctx i).reasm.find? fun r => !r.isComplete && !r.cut).map fun r => (i, r.number, r.born)
  (cands.foldl (fun best x => match best with
    | some b => if x.2.2 < b.2.2 then some x else best
    | none => some x) none).map fun x => (x.1, x.2.1)

/-- End incomplete access units until `n` more bytes fit (R134). -/
def State.makeRoom : Nat → State → Nat → State
  | 0, s, _ => s
  | k + 1, s, n =>
    if s.bufUsed + n ≤ bufLimit then s
    else match s.oldestIncomplete with
      | none => s
      | some (i, num) => State.makeRoom k (s.endReassembly i num) n

/-- Put a reassembly in its place in access-unit order. -/
def insertReasm (r : Reassembly) : List Reassembly → List Reassembly
  | [] => [r]
  | x :: xs => if seqAfter x.number r.number then r :: x :: xs else x :: insertReasm r xs

/-- Cut a run to the bytes that no earlier fragment holds: runs of fresh bytes (R131). -/
def freshRuns (r : Reassembly) : Nat → List Byte → List Byte → List Fragment
  | off, [], acc => if acc.isEmpty then [] else [⟨off - acc.length, acc⟩]
  | off, b :: bs, acc =>
    if (r.byteAt off).isSome then
      (if acc.isEmpty then [] else [⟨off - acc.length, acc⟩]) ++ freshRuns r (off + 1) bs []
    else freshRuns r (off + 1) bs (acc ++ [b])

/-- Parse the parameter units of a PARAMS datagram (R135). An AU_START has no place in one. Where a unit does not begin with
the sync bytes, the search of R97 goes on within the datagram. -/
def State.parseParams : Nat → State → Nat → List Byte → State
  | 0, s, _, _ => s
  | k + 1, s, i, b =>
    match scanUnit b with
    | .whole u rest =>
      if u.typ = 0x10 then State.parseParams k ((s.closePair i).reject i rejBadUnit u.au) i rest
      else State.parseParams k (s.betweenUnit i u).1 i rest
    | .tooLong typ au => s.longUnit i typ au
    | .noSync =>
      let rest := huntSync (b.length / 4 + 1) (b.drop 4)
      if huntDone rest then State.parseParams k (s.closePair i) i rest else s.closePair i
    | .short => s

/-- Context `i` takes datagrams of a port to a UDP port and address (R130, R141). -/
def ctxTakes (c : StreamCtx) (port : Nat) (ip : Nat) (d : Datagram) : Bool :=
  c.state != .closed && c.source == port + 1 && c.udpPort == d.dstPort &&
    (d.dstIp == ip || (c.group != 0 && d.dstIp == c.group))

/-- A datagram of a context is dropped and counted (R129, R145). -/
def State.dropDatagram (s : State) (i : Nat) : State := s.updCtx i fun c => { c with nDropped := c.nDropped + 1 }

/-- A datagram of a late or duplicate access unit: discarded and counted, the access unit once (R111, R145). -/
def State.lateDatagram (s : State) (i : Nat) (num : Word) : State :=
  (s.dropDatagram i).updCtx i fun c =>
    if c.lateSeen.contains num then c
    else { c with nDuplicates := c.nDuplicates + 1, lateSeen := num :: c.lateSeen }

/-- The number of an access unit is not after the reference number of its context (R111). -/
def State.isLate (s : State) (i : Nat) (num : Word) : Bool := (s.ctx i).refNum.any fun r => !seqAfter num r

/-- Access units of a context in reassembly that have not been rejected. -/
def State.liveReasm (s : State) (i : Nat) : Nat := ((s.ctx i).reasm.filter fun r => !r.dead).length

/-- The access unit of a number in reassembly, or a new one. -/
def State.reasmOf (s : State) (i : Nat) (num : Word) : Reassembly :=
  ((s.ctx i).reasm.find? fun r => r.number == num).getD
    { number := num, frags := [], total := none, deadline := 0, born := s.mtNs }

/-- Put an access unit into reassembly, in its place. -/
def State.putReasm (s : State) (i : Nat) (r : Reassembly) : State :=
  s.updCtx i fun c => { c with reasm := insertReasm r (c.reasm.filter fun x => x.number != r.number) }

/-- A datagram's payload enters its access unit (R131). UNIT_START counts where both marks are set, and FIRST is not checked
against byte_offset (log 131). -/
def Reassembly.place (r : Reassembly) (b : List Byte) (deadline nt : Nat) : Reassembly :=
  let flags := fieldAt b 3 1
  let off := fieldAt b 12 4
  let data := b.drop 20
  let mark := if bitOf flags 4 then [(off, none)] else if bitOf flags 3 then [(off, some (fieldAt b 16 1))] else []
  { r with frags := r.frags ++ freshRuns r off data [], marks := r.marks ++ mark,
           total := if bitOf flags 1 then some (off + data.length) else r.total, deadline := deadline, arrived := nt }

/-- Place an access-unit datagram of context `i` (R110, R131, R132, R134): one that reaches past 32 MiB rejects its access
unit before anything else. -/
def State.placeDatagram (s : State) (i : Nat) (b : List Byte) : State :=
  let num := word (fieldAt b 8 4)
  let top := fieldAt b 12 4 + (b.drop 20).length
  if s.isLate i num then s.lateDatagram i num
  else if (s.reasmOf i num).isComplete || (s.reasmOf i num).cut then s.dropDatagram i
  else if auLimit < top then ((s.putReasm i (s.reasmOf i num)).dropDatagram i).rejectReasm i rejTooLarge num
  else
    let known := (s.ctx i).reasm.any fun r => r.number == num
    let s := if known || s.liveReasm i < 4 then s
      else match (s.ctx i).reasm.find? fun r => !r.isComplete && !r.cut with
        | some r => s.endReassembly i r.number
        | none => s
    let oldTop := (s.reasmOf i num).top
    let grow := bufSpace (max oldTop top) - bufSpace oldTop
    let s := s.makeRoom 16 grow
    if s.isLate i num then s.lateDatagram i num
    else
      let full := decide (4 ≤ s.liveReasm i) && !((s.ctx i).reasm.any fun r => r.number == num)
      let r := s.reasmOf i num
      if full || r.isComplete || r.cut || decide (bufLimit < s.bufUsed + grow) then s.dropDatagram i
      else
        let s := s.putReasm i (r.place b (s.mtNs + (s.ctx i).gapMs * 1000000) s.ntNs)
        (s.updCtx i fun c => { c with nDatagrams := c.nDatagrams + 1 }).drainAll i

/-- A Talvy datagram reaches a port (R129 to R135). -/
def State.datagram (s : State) (port : Nat) (d : Datagram) : State :=
  let ip := (s.net.ports.getD port {}).ipv4
  match (List.range 4).find? fun i => ctxTakes (s.ctx i) port ip d with
  | none => { s with strm.noContext := s.strm.noContext + 1 }
  | some _ =>
    let b := d.payload
    let hit := (List.range 4).find? fun i =>
      let c := s.ctx i
      ctxTakes c port ip d && (c.streamId == 0 || c.streamId == fieldAt b 4 4) &&
        d.srcIp &&& c.fMask == c.fSource &&& c.fMask
    let first := ((List.range 4).find? fun i => ctxTakes (s.ctx i) port ip d).getD 0
    match hit with
    | none => s.dropDatagram first
    | some i =>
      if d.fragmented || !d.checksumOk || 8972 < b.length || b.length < 20 || fieldAt b 0 2 != 0x4454 ||
          fieldAt b 2 1 != 1 || 32 ≤ fieldAt b 3 1 || fieldAt b 17 3 != 0 then s.dropDatagram i
      else
        -- the filter has accepted it: bytes have arrived for the context, whatever becomes of them (R121, log 115)
        let s := s.updCtx i fun c => { c with lastByte := s.mtNs, stallRun := c.stallMs }
        if bitOf (fieldAt b 3 1) 2 then
          (s.updCtx i fun c => { c with nDatagrams := c.nDatagrams + 1 }).parseParams (b.length / 4) i (b.drop 20)
        else s.placeDatagram i b

/-- DATAGRAM_RECEIVED (R131): a datagram that a running port delivers locally. -/
def execDatagramReceived (port : Port) (d : Datagram) (s : State) : Host.Outcome State Fault Refusal :=
  let n := portIdx port
  let q := s.net.ports.getD n {}
  .next (if q.mode ≠ 0 ∧ q.link ∧ s.fabricUp then s.datagram n d else s)

/-- FRAGMENT_GAP_EXPIRY (R132): the timer of an access unit in reassembly has run out. -/
def execFragmentGapExpiry (ctx : Fin 4) (au : Word) (s : State) : Host.Outcome State Fault Refusal :=
  match (s.ctx ctx.val).reasm.find? fun r => r.number == au with
  | some r => .next (if r.deadline ≤ s.mtNs then s.endReassembly ctx.val au else s)
  | none => .next s

/-- The stall timer of a RUNNING context has run out: both instants of R121 lie a stall timeout back. -/
def State.stallDue (s : State) (i : Nat) : Bool :=
  let c := s.ctx i
  let w := c.stallRun * 1000000
  c.state == .running && c.stallRun != 0 && decide (c.lastByte + w ≤ s.mtNs) &&
    (match c.lastPts with
     | some p => decide (p + w ≤ (s.ptsNow c.lastBase : Int))
     | none => true)

/-- STALL_TIMER_EXPIRY (R121): the context becomes STALLED; a cut that names it fails (R139). -/
def execStallTimerExpiry (ctx : Fin 4) (s : State) : Host.Outcome State Fault Refusal :=
  let i := ctx.val
  .next (if s.stallDue i then
      let s := s.updCtx i fun c => { c with state := .stalled, stallHold := some none }
      (s.raiseStrm i .streamStalled (s.ctx i).lastHanded.toNat 0).failCut i
    else s)

/-- The context is not on air, RUNNING, and waits too long (R163). -/
def State.isBehind (s : State) (i : Nat) : Bool :=
  let c := s.ctx i
  c.state == .running && s.strm.onAir != some i &&
    match c.waiting with
    | [] => false
    | a :: _ =>
      (a.ptsBase != 0 && decide (a.effPts + 2 * s.refreshNs < (s.ptsNow a.ptsBase : Int))) ||
        a.slotSince.any fun t => decide (t + 100000000 < s.mtNs)

/-- CONTEXT_FALLS_BEHIND (R120, R136, R163): the context drops to SEEKING and what still waits is discarded. -/
def execContextFallsBehind (ctx : Fin 4) (s : State) : Host.Outcome State Fault Refusal :=
  let i := ctx.val
  .next (if s.isBehind i then
      -- slots kept for the access unit that resumes the context are let go when it is discarded (R162)
      (((s.ctx i).waiting.foldl (fun (s : State) a => s.endSlotWait i a) s).updCtx i fun c =>
        { c with state := .seeking, behind := true, nDiscarded := c.nDiscarded + word c.waiting.length, waiting := [],
                 unbroken := false
                 stallHold := if c.waiting.any (fun a => c.stallHold == some (some a.number)) then none
                   else c.stallHold }).sweepSlots
    else s)

/-- STRM_SUBMIT_BUFFER_READ (R125, R126): the oldest submitted buffer of a context is read whole and its units enter, once
fewer than four access units wait and the reassembly buffer has room. The reading is the commit point (R70). -/
def execStrmSubmitBufferRead (ctx : Fin 4) (s : State) : Host.Outcome State Fault Refusal :=
  let i := ctx.val
  let c := s.ctx i
  match c.submits with
  | [] => .next s
  | sub :: rest =>
    if 4 ≤ c.waiting.length ∨ bufLimit < s.bufUsed + bufSpace sub.len then .next s
    else
      let s := s.updCtx i fun c => { c with submits := rest }
      match s.flight sub.ticket, s.commitRefusal with
      | none, _ => .next s
      | some _, some st => .next (s.finish sub.ticket st noField 0)
      | some f, none =>
        match s.resolve f.pkt.src sub.addr sub.len with
        | none => .next (s.finish sub.ticket .badParam 24 0)
        | some l =>
          if s.commitHeld sub.ticket then .next s else
          let bytes := s.readAt l sub.len
          let s := if l.dev then s.request 9 l.addr sub.len false else s
          let s := s.commitFlight sub.ticket
          let s := s.updCtx i fun c => { c with buf := c.buf ++ bytes, lastByte := s.mtNs, stallRun := c.stallMs }
          let (n, s) := State.parseBuf ((s.ctx i).buf.length / 4 + 1) s i 0
          .next (s.finish sub.ticket .ok n 0)

/-! ## Context commands (R124, R137, R141 to R146) -/

/-- A VF names only a context that it opened (R80). -/
def State.ctxAllowed (s : State) (p : Packet) (i : Nat) : Bool :=
  !p.src.isVf || ((s.ctx i).state != .closed && (s.ctx i).owner == p.src.func)

/-- The contexts that a function has open. -/
def State.openedBy (s : State) (f : Func) : Nat :=
  (s.strm.ctxs.filter fun c => c.state != .closed && c.owner == f).length

/-- Contexts that VF grants reserve and no VF has opened (R89). -/
def State.reservedCtxs (s : State) : Nat :=
  sumNat ((allFuncs.drop 1).map fun f => (s.fn f).grant.streams - s.openedBy f)

/-- Two stream identities overlap: equal, or either of them any (R141). -/
def idsOverlap (a b : Nat) : Bool := a == b || a == 0 || b == 0

/-- STRM_OPEN (R141). An overlap is judged before the contexts that are free (log 131). -/
def runStrmOpen (_t : Nat) (p : Packet) (s : State) : Answer :=
  let source := p.u8 16
  let udp := if p.u16 18 = 0 then 47811 else p.u16 18
  let group := p.u32 24
  if 2 < source then refuse .badParam 16
  else if source ≠ 0 ∧ group ≠ 0 ∧ (group < 0xE0000000 ∨ 0xF0000000 ≤ group) then refuse .badParam 24
  else if source ≠ 0 ∧ s.strm.ctxs.any (fun c => c.state != .closed && c.source == source && c.udpPort == udp &&
      idsOverlap c.streamId (p.u32 20)) then refuse .badParam 18
  else
    let closed := (List.range 4).filter fun i => (s.ctx i).state == .closed
    let room := if p.src.isVf then decide (s.openedBy p.src.func < (s.grantOf p.src).streams)
      else decide (s.reservedCtxs < closed.length)
    match closed with
    | [] => refuse .noResource noField
    | i :: _ =>
      if !room then refuse .noResource noField
      else
        let c : StreamCtx :=
          { state := .seeking, source := source, owner := p.src.func, udpPort := if source = 0 then 0 else udp,
            streamId := if source = 0 then 0 else p.u32 20, group := if source = 0 then 0 else group,
            lastByte := s.mtNs }
        let s := s.updCtx i fun _ => c
        let s := { s with dec.ctxs := updAt s.dec.ctxs i fun _ => {} }
        let s := if source ≠ 0 ∧ group ≠ 0 then s.sendIgmp (source - 1) igmpReport group else s
        okay s i

/-- STRM_SUBMIT (R124): the buffer waits to be read; nothing of it enters the context yet. -/
def runStrmSubmit (t : Nat) (p : Packet) (s : State) : Answer :=
  let i := p.u8 16
  let len := p.u32 20
  if 3 < i then refuse .badParam 16
  else if (s.ctx i).state = .closed then refuse .wrongState 16
  else if !s.ctxAllowed p i then refuse .badParam 16
  else if len % 4 ≠ 0 then refuse .alignment 20
  else if len < 4 ∨ 33554432 < len then refuse .badParam 20
  else if p.u64 24 % 4 ≠ 0 then refuse .alignment 24
  else if (s.resolve p.src (p.u64 24) len).isNone then refuse .badParam 24
  else if (s.ctx i).source ≠ 0 then refuse .wrongState 16
  else .started (s.updCtx i fun c => { c with submits := c.submits ++ [⟨t, len, p.u64 24⟩] }) false

/-- STRM_CUT (R137). -/
def runStrmCut (t : Nat) (p : Packet) (s : State) : Answer :=
  let i := p.u8 16
  if 3 < i then refuse .badParam 16
  else if (s.ctx i).state = .closed ∨ (s.ctx i).owner ≠ .pf ∨ s.strm.onAir = some i then refuse .wrongState 16
  else if s.strm.cut.isSome then refuse .busy noField
  else .accepted { s with strm.cut := some (t, i) } none

/-- Complete the STRM_SUBMIT packets of a list with ABORTED. -/
def State.abortSubmits : State → List Submit → State
  | s, [] => s
  | s, x :: xs => State.abortSubmits (s.finish x.ticket .aborted 0 0) xs

/-- The marks of a context's slots when it closes (R142): reference marks and OUTPUT_PENDING drop, a picture in decode is
abandoned. -/
def closeSlot (i : Nat) (k : Slot) : Slot :=
  if k.state == .free || k.ctx != i then k
  else { k with marks := k.marks.map fun _ => .unused, outputPending := false, latest := false,
                abandoned := k.state == .decoding }

/-- Context `i` becomes CLOSED (R142); the slots that nothing holds any more return to FREE. -/
def State.closeCtx (s : State) (i : Nat) : State :=
  let c := s.ctx i
  let s := s.failCut i
  let s := if c.source ≠ 0 ∧ c.group ≠ 0 then s.sendIgmp (c.source - 1) igmpLeave c.group else s
  let s := s.abortSubmits c.submits
  let s := { s with strm.onAir := if s.strm.onAir = some i then none else s.strm.onAir }
  let s := s.updCtx i fun _ => {}
  -- assignments and the colour override end with the context (R158, R170)
  let s := { s with dec.slots := s.dec.slots.map (closeSlot i),
                    dec.ctxs := updAt s.dec.ctxs i fun (d : DecCtx) =>
                      { d with assigns := List.replicate 32 {}, colourMatrix := 0, colourRange := 0, rps := [],
                               pocs := List.replicate 32 {} } }
  s.sweepSlots

/-- STRM_CLOSE (R142). -/
def runStrmClose (_t : Nat) (p : Packet) (s : State) : Answer :=
  let i := p.u8 16
  if 3 < i then refuse .badParam 16
  else if (s.ctx i).state = .closed then refuse .wrongState 16
  else if !s.ctxAllowed p i then refuse .badParam 16
  else okay (s.closeCtx i)

/-- STRM_TIMEOUTS (R143). -/
def runStrmTimeouts (_t : Nat) (p : Packet) (s : State) : Answer :=
  let i := p.u8 16
  let gap := p.u16 18
  let stall := p.u16 20
  if 3 < i then refuse .badParam 16
  else if gap < 1 ∨ 1000 < gap then refuse .badParam 18
  else if stall ≠ 0 ∧ (stall < 10 ∨ 60000 < stall ∨ stall ≤ gap) then refuse .badParam 20
  else okay (s.updCtx i fun c => { c with gapMs := gap, stallMs := stall })

/-- STRM_FILTER (R144). -/
def runStrmFilter (_t : Nat) (p : Packet) (s : State) : Answer :=
  let i := p.u8 16
  let group := p.u32 28
  if 3 < i then refuse .badParam 16
  else if (s.ctx i).state = .closed ∨ (s.ctx i).source = 0 then refuse .wrongState 16
  else if p.u16 18 = 0 then refuse .badParam 18
  else if group ≠ 0 ∧ (group < 0xE0000000 ∨ 0xF0000000 ≤ group) then refuse .badParam 28
  else
    let c := s.ctx i
    let s := if c.group ≠ group ∧ c.group ≠ 0 then s.sendIgmp (c.source - 1) igmpLeave c.group else s
    let s := if c.group ≠ group ∧ group ≠ 0 then s.sendIgmp (c.source - 1) igmpReport group else s
    okay (s.updCtx i fun c =>
      { c with udpPort := p.u16 18, fSource := p.u32 20, fMask := p.u32 24, group := group })

/-- State code of R119. -/
def CtxState.code : CtxState → Nat
  | .closed => 0
  | .seeking => 1
  | .running => 2
  | .stalled => 3
  | .ended => 4

/-- The state word of R146. -/
def State.ctxStateWord (s : State) (i : Nat) : Nat :=
  let c := s.ctx i
  let ver := match c.current with
    | some q => scVersion q.scene % 256
    | none => 0
  c.rejLast * 65536 + ver * 256 + b2n c.pendingSet.isSome * 128 + b2n (s.strm.cut.any fun x => x.2 == i) * 64 +
    b2n (s.strm.onAir == some i) * 32 + c.source * 8 + c.state.code

/-- STRM_STATUS (R145). -/
def runStrmStatus (_t : Nat) (p : Packet) (s : State) : Answer :=
  let i := p.u8 16
  let c := s.ctx i
  if 3 < i ∨ !s.ctxAllowed p i then refuse .badParam 16
  else match p.u8 17 with
    | 0 => okay s (s.ctxStateWord i) c.lastHanded.toNat
    | 1 => okay s c.nComplete.toNat c.nTruncated.toNat
    | 2 => okay s c.nRejected.toNat c.nDiscarded.toNat
    | 3 => okay s c.nDatagrams.toNat c.nDropped.toNat
    | 4 => okay s c.nMissing.toNat c.nSets.toNat
    | 5 => okay s c.nDuplicates.toNat c.nSkipped.toNat
    | _ => refuse .badParam 17

/-- STRM_OPEN arrives (R141). -/
def execStrmOpen (p : Packet) (s : State) : Host.Outcome State Fault Refusal := .next (s.issue .strmOpen runStrmOpen p)
/-- STRM_SUBMIT arrives (R124). -/
def execStrmSubmit (p : Packet) (s : State) : Host.Outcome State Fault Refusal :=
  .next (s.issue .strmSubmit runStrmSubmit p)
/-- STRM_CUT arrives (R137). -/
def execStrmCut (p : Packet) (s : State) : Host.Outcome State Fault Refusal := .next (s.issue .strmCut runStrmCut p)
/-- STRM_CLOSE arrives (R142). -/
def execStrmClose (p : Packet) (s : State) : Host.Outcome State Fault Refusal :=
  .next (s.issue .strmClose runStrmClose p)
/-- STRM_STATUS arrives (R145). -/
def execStrmStatus (p : Packet) (s : State) : Host.Outcome State Fault Refusal :=
  .next (s.issue .strmStatus runStrmStatus p)
/-- STRM_TIMEOUTS arrives (R143). -/
def execStrmTimeouts (p : Packet) (s : State) : Host.Outcome State Fault Refusal :=
  .next (s.issue .strmTimeouts runStrmTimeouts p)
/-- STRM_FILTER arrives (R144). -/
def execStrmFilter (p : Packet) (s : State) : Host.Outcome State Fault Refusal :=
  .next (s.issue .strmFilter runStrmFilter p)

end Sys2Proof.Machine
end

