-- ==== Sys2Proof/Machine/Dec.lean ====
section
/-!
DEFINITION. Decoding anchor views (chapter 04): parts, slots, concealment, the layout of a scene picture and its statistics.

HEVC decoding itself lies outside the manual: `Config.hevcSample` gives each decoded sample as a free value. Everything
the manual adds to HEVC is computed here.
-/

namespace Sys2Proof.Machine

/-! ## Parts (R152 to R158) -/

/-- A component picture that no part of has started falls back to WHOLE as it starts (R152, R158). -/
def State.fallsBack (s : State) (j : DecodeJob) (ci : Nat) : Bool :=
  (j.comps[ci]?).any fun (c : CompJob) => !c.started &&
    (takenMode (s.assignOf j.ctx c.view c.depth).mode c.info (compW j.au.params c.depth) (compH j.au.params c.depth)).2

/-- Clock of codec core `core`, MHz (R21, R541). -/
def State.coreMhz (s : State) (core : Nat) : Nat := s.thm.codecMhz.getD (core / 3) 0

/-- Load samples that a core at `mhz` decodes in `ns`: 1.4 x 10^9 in a second at 1.6 GHz (R151). -/
def samplesIn (mhz ns : Nat) : Nat := ns * mhz * 7 / 8000

/-- Load samples of part `k` of a component picture decoded so far, at the rate of its core's clock (R151, log 13). -/
def State.progress (s : State) (slot ci k : Nat) (p : Part) : Nat :=
  match s.dec.cores.findIdx? (· == some (.part slot ci k)) with
  | some core => samplesIn (s.coreMhz core) (s.mtNs - p.since)
  | none => 0

/-- The part above a CTU row lets it start: it is done, or it has decoded the CTU above and to the right of the first one
(R153). -/
def State.rowAboveReady (s : State) (j : DecodeJob) (ci : Nat) (c : CompJob) (k : Nat) : Bool :=
  match c.parts[k - 1]? with
  | none => true
  | some a =>
    a.state == .done || (a.state == .running && decide (1 < ctusIn c.info (compW j.au.params c.depth)) &&
      decide (ctuInside c.info (compW j.au.params c.depth) 0 2 * ctuInside c.info (compH j.au.params c.depth) (k - 1) 1 ≤
        s.progress j.slot ci (k - 1) a))

/-- Part `k` of a component picture may start (R153). -/
def State.partReady (s : State) (j : DecodeJob) (ci : Nat) (c : CompJob) (k : Nat) : Bool :=
  match c.parts[k]? with
  | none => false
  | some p => p.state == .waiting && (c.mode != 4 || k == 0 || s.rowAboveReady j ci c k)

/-- A core is faulted from its fault until another has taken what it lost, where another may (R156, R177, log 103). -/
def State.coreFaulted (s : State) (core : Nat) : Bool :=
  (s.dec.jobs.any fun j => !(s.slot j.slot).abandoned && j.comps.any fun c =>
    c.mask != 2 ^ core && c.parts.any fun p => p.banned == some core) ||
  s.enc.any fun e => e.pics.any fun p => p.banned == some core

/-- A decode part that could start: its rank key under R155 and its place. -/
structure Cand where
  /-- Rank, then context or session, then access-unit number. -/
  key : Nat × Nat × Word
  /-- Part load. -/
  load : Nat
  /-- View and kind: 2 x view + depth. -/
  place : Nat
  /-- What the core would take. -/
  item : CoreItem
  deriving DecidableEq, Repr

/-- The order of R155: rank, then lower access-unit number, then larger load, then lower view, colour before depth. -/
def Cand.before (a b : Cand) : Bool :=
  if a.key.1 ≠ b.key.1 then decide (a.key.1 < b.key.1)
  else if a.key.2.1 ≠ b.key.2.1 then decide (a.key.2.1 < b.key.2.1)
  else if a.key.2.2 ≠ b.key.2.2 then seqAfter b.key.2.2 a.key.2.2
  else if a.load ≠ b.load then decide (b.load < a.load)
  else decide (a.place < b.place)

/-- The first candidate in the order of R155. -/
def pickCand (cs : List Cand) : Option Cand :=
  cs.foldl (fun best c => match best with
    | some b => if c.before b then some c else best
    | none => some c) none

/-- The parts that core `core` may take (R153, R155, R158). -/
def State.partCands (s : State) (core : Nat) : List Cand :=
  s.dec.jobs.flatMap fun j =>
    if (s.slot j.slot).abandoned then []
    else
      let onAir := s.strm.onAir == some j.ctx
      (List.range j.comps.length).flatMap fun ci =>
        match j.comps[ci]? with
        | none => []
        | some c =>
          if bitOf c.mask core && s.refsReady j.comps c then
            (List.range c.parts.length).filterMap fun k =>
              if s.partReady j ci c k && (c.parts[k]?).all (fun p => p.banned != some core) then
                some { key := (if onAir then 2 else 4, if onAir then 0 else j.ctx, j.au.number)
                       load := (c.parts.getD k { load := 0 }).load, place := 2 * c.view + b2n c.depth
                       item := .part j.slot ci k }
              else none
          else []

/-- Change the job in a slot. -/
def State.updJob (s : State) (slot : Nat) (g : DecodeJob → DecodeJob) : State :=
  { s with dec.jobs := s.dec.jobs.map fun j => if j.slot == slot then g j else j }

/-- Change one part of a job. -/
def setPart (ci k : Nat) (g : Part → Part) (j : DecodeJob) : DecodeJob :=
  { j with comps := updAt j.comps ci fun c => { c with parts := updAt c.parts k g } }

/-- Matrix and range in force for a scene picture (R149, R170). -/
def State.colourOf (s : State) (j : DecodeJob) : Nat × Nat :=
  let d := s.dec.ctxs.getD j.ctx {}
  if d.colourMatrix ≠ 0 then (d.colourMatrix, d.colourRange)
  else vuiColour ((j.comps[0]?).elim {} (·.info))

/-- A core starts a part. The first part of an access unit fixes its colour description, the first of a picture counts its
fallback (R152, R170). -/
def State.startPart (s : State) (core slot ci k : Nat) : State :=
  match s.dec.jobs.find? fun j => j.slot == slot with
  | none => s
  | some j =>
    let (m, r) := s.colourOf j
    let now := s.mtNs
    let s := if j.started then s else s.updSlot slot fun x => { x with startedNs := now, matrix := m, range := r }
    let fb := s.fallsBack j ci
    let s := { s with dec.ctxs := updAt s.dec.ctxs j.ctx fun d =>
      { d with fallback := if fb then d.fallback + 1 else d.fallback } }
    let run (p : Part) : Part := { p with state := .running, since := now, banned := none }
    { s.updJob slot (fun j =>
        let j := setPart ci k run j
        { j with started := true, comps := updAt j.comps ci fun c => { c with started := true } }) with
      dec.cores := setAt s.dec.cores core (some (.part slot ci k)) }

/-! ## The stored picture (R165 to R167) -/

/-- Address of view `v` of the scene picture in slot `k` (R166). -/
def State.viewAddr (s : State) (k : Nat) (p : ParamSet) (v : Nat) : Nat :=
  s.slotAddr k + 4096 + v * viewBytes p.scene

/-- Offset of the chroma plane in a view (R166). -/
def chromaOff (p : ParamSet) : Nat := yPitch (scWidth p.scene) * scHeight p.scene
/-- Offset of the depth plane in a view (R166). -/
def depthOff (p : ParamSet) : Nat := chromaOff p * 3 / 2

/-- A group of up to 16 samples as a 160-bit number (R167). -/
def groupNat : List Nat → Nat
  | [] => 0
  | x :: xs => x % 1024 + 1024 * groupNat xs

/-- A line of 10-bit samples, 16 to a 20-byte group, padded with zeros to the pitch (R167). -/
def packLine : Nat → List Nat → List Byte
  | 0, _ => []
  | k + 1, xs => leBytes 20 (groupNat (xs.take 16)) ++ packLine k (xs.drop 16)

/-- Pad or cut a line to its pitch with zeros (R167). -/
def toPitch (pitch : Nat) (b : List Byte) : List Byte := sliceZ b 0 pitch

/-- 10-bit sample `x` of a packed line at an address (R167). -/
def State.sample10 (s : State) (line x : Nat) : Nat :=
  bitsOf (leNat (s.dmem.readN (line + x / 16 * 20 + x % 16 * 10 / 8) 3)) (x % 16 * 10 % 8) 10

/-- Stored luma sample of a view. -/
def State.lumaAt (s : State) (k : Nat) (p : ParamSet) (v x y : Nat) : Nat :=
  s.sample10 (s.viewAddr k p v + y * yPitch (scWidth p.scene)) x

/-- Stored chroma sample of a view: 0 for Cb, 1 for Cr (R167). -/
def State.chromaAt (s : State) (k : Nat) (p : ParamSet) (v comp cx cy : Nat) : Nat :=
  s.sample10 (s.viewAddr k p v + chromaOff p + cy * yPitch (scWidth p.scene)) (2 * cx + comp)

/-- Stored depth code of a view (R167). -/
def State.depthAt (s : State) (k : Nat) (p : ParamSet) (v x y : Nat) : Nat :=
  leNat (s.dmem.readN (s.viewAddr k p v + depthOff p + y * dPitch (scDepthW p.scene) + 2 * x) 2) % 4096

/-- The stored bytes of one component picture. -/
def State.planeBytes (s : State) (k : Nat) (p : ParamSet) (v : Nat) (depth : Bool) : List Byte :=
  if depth then s.dmem.readN (s.viewAddr k p v + depthOff p) (dPitch (scDepthW p.scene) * scDepthH p.scene)
  else s.dmem.readN (s.viewAddr k p v) (depthOff p)

/-- zp_code of R173: the code of the zero-parallax plane, exact rationals rounded half up. -/
def zpCode (scene : List Byte) : Nat :=
  let zn := scNear scene
  let zz := scZero scene
  let zf := scFar scene
  let num := if zf = 0xFFFFFFFF then zn else zn * (zf - zz)
  let den := if zf = 0xFFFFFFFF then zz else zz * (zf - zn)
  (2 * 4095 * num + den) / (2 * den)

/-! ## Concealment (R171 to R174) -/

/-- The previous scene picture of a context: its most recently completed one (R172). -/
def State.prevSlot (s : State) (i : Nat) : Option Nat :=
  (List.range s.dec.slots.length).find? fun k => (s.slot k).state == .complete && (s.slot k).latest && (s.slot k).ctx == i

/-- The previous scene picture can stand in for concealed samples: equal size and depth_scale (R172). -/
def State.prevUsable (s : State) (i : Nat) (p : ParamSet) (v : Nat) : Option (Nat × ParamSet) :=
  match s.prevSlot i with
  | none => none
  | some k => match (s.slot k).params with
    | none => none
    | some q =>
      if scWidth q.scene = scWidth p.scene ∧ scHeight q.scene = scHeight p.scene ∧
          scDepthScale q.scene = scDepthScale p.scene ∧ v < scViews q.scene then some (k, q) else none

/-- The slot whose picture a reference is read from: the one chosen, or the previous scene picture's (R172). -/
def State.refSlot (s : State) (i v : Nat) (r : RefPick) : Option Nat :=
  r.slot.or ((s.prevSlot i).filter fun k => (s.slot k).params.any fun q => decide (v < scViews q.scene))

/-- What decoding one component picture meets: the stored bytes of its references, the causes of R171, what is concealed. -/
structure DecodeView where
  /-- Stored bytes of the references, in the order of the picture's references. -/
  refs : List (List Byte)
  /-- Causes, bit n - 1 for cause n. -/
  causes : Nat
  /-- Nothing of it can be decoded: it is concealed whole. -/
  whole : Bool
  /-- A missing reference has no substitute: it is filled under R173. -/
  lost : Bool
  deriving DecidableEq, Repr

/-- Gather what decoding a component picture meets (R171, R172). -/
def State.decodeView (s : State) (j : DecodeJob) (c : CompJob) : DecodeView :=
  let found := c.refs.map (s.refSlot j.ctx c.view)
  let lost := found.any Option.isNone
  let slots := found.filterMap id
  let interBytes := c.inter.map fun v => s.planeBytes j.slot j.au.params v false
  let bytes := slots.map fun k => match (s.slot k).params with
    | some q => s.planeBytes k q c.view c.depth
    | none => []
  let propagated := slots.any fun k => bitOf (s.slot k).marred (compIdx c.view c.depth)
  let interConcealed := c.inter.any fun v => j.comps.any fun d => d.view == v && !d.depth && d.causes != 0
  let c1 := j.au.truncated && (!c.arrived || c.info.segmentMissing)
  let c3 := !j.au.truncated && c.info.decodeError
  { refs := bytes ++ interBytes, whole := !c.arrived || lost, lost := lost,
    causes := b2n c1 + 2 * b2n (c.refs.any (·.missing)) + 4 * b2n c3 + 8 * b2n (propagated || interConcealed) }

/-- One stored sample of a component picture: decoded, or concealed from the previous scene picture or by a fill
(R154, R172, R173). Plane 0 is luma or depth, 1 Cb, 2 Cr. -/
def State.pictureSample (s : State) (j : DecodeJob) (c : CompJob) (d : DecodeView) (plane x y w : Nat) : Nat :=
  let p := j.au.params
  let dec := if d.whole then none
    else Config.hevcSample (compData p c.view c.depth j.au.psets j.au.nals) d.refs plane (y * w + x)
  match dec with
  | some v => if c.depth then (v % 2 ^ scDepthBits p.scene) <<< (12 - scDepthBits p.scene)
      else v % 2 ^ scColourBits p.scene
  | none =>
    match (if d.lost then none else s.prevUsable j.ctx p c.view) with
    | some (k, q) =>
      if c.depth then s.depthAt k q c.view x y
      else if plane = 0 then s.lumaAt k q c.view x y else s.chromaAt k q c.view (plane - 1) x y
    | none => if c.depth then zpCode p.scene else if scColourBits p.scene = 8 then 128 else 512

/-- The bytes of a decoded component picture as a slot stores them (R166, R167). -/
def State.pictureBytes (s : State) (j : DecodeJob) (c : CompJob) (d : DecodeView) : List Byte :=
  let b := j.au.params.scene
  if c.depth then
    (List.range (scDepthH b)).flatMap fun y =>
      toPitch (dPitch (scDepthW b))
        ((List.range (scDepthW b)).flatMap fun x => leBytes 2 (s.pictureSample j c d 0 x y (scDepthW b)))
  else
    let w := scWidth b
    let line (xs : List Nat) : List Byte := toPitch (yPitch w) (packLine (ceilDiv w 16) xs)
    ((List.range (scHeight b)).flatMap fun y =>
      line ((List.range w).map fun x => s.pictureSample j c d 0 x y w)) ++
    ((List.range (scHeight b / 2)).flatMap fun y =>
      line ((List.range (w / 2)).flatMap fun x =>
        [s.pictureSample j c d 1 x y (w / 2), s.pictureSample j c d 2 x y (w / 2)]))

/-- Bring reference picture sets into force in decoding order, each once its picture is complete; one whose layer has an
earlier one outstanding waits. Answers those that wait, and the slots. -/
def settleRps (i : Nat) : List RpsStep → List Nat → List Slot → List RpsStep × List Slot
  | [], _, xs => ([], xs)
  | st :: rest, busy, xs =>
    if st.done && !busy.contains st.comp then
      settleRps i rest busy (xs.mapIdx fun k x =>
        if x.state == .free || x.ctx != i then x
        else { x with marks := setAt x.marks st.comp (st.move k x (x.mark st.comp)) })
    else
      let (wait, xs) := settleRps i rest (st.comp :: busy) xs
      (st :: wait, xs)

/-- Move the reference marks of a context as far as its pictures are complete (R161); in a STALLED context they stand until the
clean access unit that resumes it has been decoded (R122). -/
def State.moveMarks (s : State) (i : Nat) : State :=
  if (s.ctx i).stallHold.isSome then s
  else
    let (wait, xs) := settleRps i (s.dec.ctxs.getD i {}).rps [] s.dec.slots
    { s with dec.slots := xs, dec.ctxs := updAt s.dec.ctxs i fun (d : DecCtx) => { d with rps := wait } }.sweepSlots

/-- The codec reads the references of a picture and writes its planes (R472). -/
def State.codecTraffic (s : State) (j : DecodeJob) (c : CompJob) (d : DecodeView) : State :=
  let p := j.au.params
  let own := s.viewAddr j.slot p c.view + if c.depth then depthOff p else 0
  let reads := (c.refs.filterMap (s.refSlot j.ctx c.view)).map fun k =>
    s.viewAddr k p c.view + if c.depth then depthOff p else 0
  (s.requestAll 4 false ((reads.zip d.refs).map fun x => (x.1, x.1 + x.2.length))).request 5 own (s.pictureBytes j c d).length true

/-- A component picture is complete: its planes are stored, its causes noted, the marks of its layer moved. -/
def State.storePicture (s : State) (j : DecodeJob) (ci : Nat) (c : CompJob) : State :=
  let p := j.au.params
  let d := s.decodeView j c
  let filled := d.lost || ((bitOf d.causes 0 || bitOf d.causes 2) && (s.prevUsable j.ctx p c.view).isNone)
  let off := if c.depth then depthOff p else 0
  let s := s.codecTraffic j c d
  let s := s.writeAt ⟨true, s.viewAddr j.slot p c.view + off⟩ (s.pictureBytes j c d)
  let at_ := compIdx c.view c.depth
  let s := s.updSlot j.slot fun x =>
    { x with marks := if c.arrived then setAt x.marks at_ .short else x.marks,
             marred := if d.causes = 0 then x.marred else x.marred ||| 2 ^ at_ }
  let ended (st : RpsStep) : RpsStep := if st.comp == at_ && st.slot == j.slot then { st with done := true } else st
  let s := { s with dec.ctxs := updAt s.dec.ctxs j.ctx fun (d : DecCtx) => { d with rps := d.rps.map ended } }
  (s.updJob j.slot fun j => { j with comps := updAt j.comps ci fun c =>
    { c with causes := d.causes, filled := filled } }).moveMarks j.ctx

/-! ## Completion of a scene picture (R161, R164, R174 to R176) -/

/-- Views in which some component picture satisfies a test, as a bit mask. -/
def viewMask (cs : List CompJob) (f : CompJob → Bool) : Nat :=
  sumNat ((List.range 16).map fun v => if cs.any (fun c => c.view == v && f c) then 2 ^ v else 0)

/-- Both components of a view are IRAP pictures decoded without concealment of their own (R174). -/
def cleanIrap (j : DecodeJob) (v : Nat) : Bool :=
  (j.comps.filter fun c => c.view == v).all fun c =>
    (compNals j.au.params v c.depth j.au.nals).all nalIrap && decide (c.causes % 8 = 0)

/-- The concealed views of a scene picture (R174). -/
def State.concealedViews (s : State) (j : DecodeJob) : Nat :=
  let before := (s.dec.ctxs.getD j.ctx {}).concealedNow
  sumNat ((List.range (scViews j.au.params.scene)).map fun v =>
    let hit := j.comps.any fun c => c.view == v && c.causes != 0
    if hit || (bitOf before v && !cleanIrap j v) then 2 ^ v else 0)

/-- Count a list of depth codes into 64 bins (R176). -/
def binCount (ds : List Nat) (k : Nat) : Nat := (ds.filter fun d => d / 64 == k).length

/-- The depth codes of the views of a mask. -/
def State.depthCodes (s : State) (k : Nat) (p : ParamSet) (mask : Nat) : List Nat :=
  ((List.range (scViews p.scene)).filter (bitOf mask)).flatMap fun v =>
    (List.range (scDepthH p.scene)).flatMap fun y =>
      (List.range (scDepthW p.scene)).map fun x => s.depthAt k p v x y

/-- The lowest of a list of codes, 0 for none. -/
def minNat : List Nat → Nat
  | [] => 0
  | [x] => x
  | x :: xs => min x (minNat xs)

/-- The views whose depth is counted, and whether every depth picture is concealed (R176). -/
def countedViews (j : DecodeJob) : Nat × Bool :=
  let good := viewMask j.comps fun c => c.depth && c.causes == 0
  if good = 0 then (2 ^ scViews j.au.params.scene - 1, true) else (good, false)

/-- The 4096-byte header of a scene picture (R165). -/
def headerBytes (x : Slot) (p : ParamSet) : List Byte :=
  let b := p.scene
  let u : Nat := if 0 ≤ x.effPts then x.effPts.toNat else 0
  leBytes 4 x.au.toNat ++ [byte x.ctx, byte (scViews b)] ++ leBytes 2 (scVersion b) ++ leBytes 2 x.concealed ++
    leBytes 2 x.flags ++ [byte x.matrix, byte x.range, byte x.ptsBase, byte (scColourBits b)] ++
    leBytes 4 (u % 1000000000) ++ leBytes 6 (u / 1000000000) ++ leBytes 2 (zpCode b) ++ leBytes 2 (scWidth b) ++
    leBytes 2 (scHeight b) ++ [byte (scDepthScale b), 0, 0, 0] ++ leBytes 4 (yPitch (scWidth b)) ++
    leBytes 4 (dPitch (scDepthW b)) ++ leBytes 4 (viewBytes b) ++ List.replicate 16 0 ++
    x.hist.flatMap (leBytes 4) ++ leBytes 2 x.dMin ++ leBytes 2 x.dMax ++ leBytes 4 x.histCount ++
    leBytes 2 x.histViews ++ List.replicate (4096 - 330) 0

/-- Raise PICTURE_CONCEALED for a scene picture with a concealment of cause 1, 2 or 3 (R175). -/
def State.raiseConcealed (s : State) (j : DecodeJob) : State :=
  let views := viewMask j.comps fun c => decide (c.causes % 8 ≠ 0)
  let causes := j.comps.foldl (fun m c => m ||| (c.causes % 8)) 0
  if views = 0 then s
  else
    s.raiseStrm j.ctx .pictureConcealed j.au.number.toNat
      (views + causes * 65536 + b2n (j.comps.any (·.filled)) * 0x1000000)

/-- Count the pictures of a job whose causes have a bit. -/
def causeCount (cs : List CompJob) (bit : Nat) : Word := word (cs.filter (fun (c : CompJob) => bitOf c.causes bit)).length

/-- The slots of a context after one of its scene pictures became complete (R161). -/
def afterCompletion (i own : Nat) (n : Word) (k : Nat) (x : Slot) : Slot :=
  if x.state == .free || x.ctx != i || k == own then x
  else { x with latest := false, outputPending := x.outputPending && !seqAfter n x.au }

/-- The last part of the last component picture is stored: the scene picture is complete (R164). -/
def State.completeScene (s : State) (j : DecodeJob) : State :=
  let p := j.au.params
  let (views, all) := countedViews j
  let ds := s.depthCodes j.slot p views
  let concealed := s.concealedViews j
  let filled := j.comps.any (·.filled)
  let s := s.updSlot j.slot fun x =>
    { x with state := .complete, outputPending := true, latest := true, concealed := concealed,
             flags := b2n j.au.truncated + 2 * b2n filled + 4 * b2n all,
             hist := (List.range 64).map (binCount ds), dMin := minNat ds, dMax := maxNat ds,
             histCount := ds.length, histViews := views, doneSeq := s.dec.doneSeq, doneMt := s.time.mt }
  let s := s.writeAt ⟨true, s.slotAddr j.slot⟩ (headerBytes (s.slot j.slot) p)
  let us := (s.mtNs - (s.slot j.slot).startedNs) / 1000
  let s := { s with dec.slots := s.dec.slots.mapIdx (afterCompletion j.ctx j.slot j.au.number),
                    dec.doneSeq := s.dec.doneSeq + 1,
                    dec.jobs := s.dec.jobs.filter fun x => x.slot != j.slot,
                    dec.ctxs := updAt s.dec.ctxs j.ctx fun d =>
                      { d with concealedNow := concealed, completed := d.completed + 1, lastUs := word us,
                               concealedAll := d.concealedAll + word (j.comps.filter (fun (c : CompJob) => c.causes != 0)).length,
                               cause1 := d.cause1 + causeCount j.comps 0,
                               cause2 := d.cause2 + causeCount j.comps 1,
                               cause3 := d.cause3 + causeCount j.comps 2 } }
  let s := s.raiseConcealed j
  let s := s.updCtx j.ctx fun c =>
    { c with stallHold := if c.stallHold = some (some j.au.number) then none else c.stallHold }
  (s.moveMarks j.ctx).sweepSlots

/-- A core has ended a part: the picture, and with its last picture the scene picture, may be complete (R164). -/
def State.endPart (s : State) (core slot ci k : Nat) : State :=
  let s := { s with dec.cores := setAt s.dec.cores core none }
  let s := s.updJob slot (setPart ci k fun p => { p with state := .done })
  if (s.slot slot).abandoned then s.sweepSlots
  else match s.dec.jobs.find? fun j => j.slot == slot with
    | none => s.sweepSlots
    | some j => match j.comps[ci]? with
      | none => s
      | some c =>
        if !c.isDone then s
        else
          let s := s.storePicture j ci c
          match s.dec.jobs.find? fun j => j.slot == slot with
          | none => s
          | some j => if j.comps.all CompJob.isDone then s.completeScene j else s

/-- A part can end: the last CTU of a WPP row waits for the whole row above (R153). -/
def State.partCanEnd (s : State) (slot ci k : Nat) : Bool :=
  match s.dec.jobs.find? fun j => j.slot == slot with
  | none => true
  | some j => (j.comps[ci]?).all fun c => c.mode != 4 || k == 0 || (c.parts[k - 1]?).all fun p => p.state == .done

/-- PART_COMPLETE (R164): the part that a codec core works on ends. -/
def execPartComplete (core : Fin 12) (s : State) : Host.Outcome State Fault Refusal :=
  match s.dec.cores.getD core.val none with
  | some (.part slot ci k) => .next (if s.partCanEnd slot ci k then s.endPart core.val slot ci k else s)
  | _ => .next s

/-! ## Decode commands (R157 to R159, R170, R179 to R181) -/

/-- Device memory that the device itself takes beside the pool: the intake buffer, the chain buffer, three woven frames,
and the region at the top of memory (R27, R470, log 14). -/
def State.ownBytes (s : State) : Nat :=
  bufLimit + 32 * 0x100000 + 3 * s.wovenBytes + 256 * 0x100000

/-- DEC_POOL_SIZE (R159). -/
def runDecPoolSize (_t : Nat) (p : Packet) (s : State) : Answer :=
  let n := p.u8 16
  let b := p.u16 18
  if n < 3 ∨ 8 < n then refuse .badParam 16
  else if b < 16 ∨ 8192 < b then refuse .badParam 18
  else if s.strm.ctxs.any (fun c => c.state != .closed) then refuse .wrongState noField
  else if s.capacity < n * b * 65536 + s.ownBytes then refuse .noResource noField
  else
    let base := Config.poolBase n b
    okay { s with dec.slotCount := n, dec.slotBlocks := b, dec.slots := List.replicate 8 {}, dec.jobs := [] }
      (base % 0x100000000) (base / 0x100000000)

/-- A component of a DEC_ASSIGN: view 0xFF names every view, component 2 both kinds (R157). -/
def assignHits (view comp idx : Nat) : Bool :=
  (view == 0xFF || view == idx / 2) && (comp == 2 || comp == idx % 2)

/-- Divide again the pictures of a job that have not started (R158). -/
def State.redivide (s : State) (i : Nat) (j : DecodeJob) : DecodeJob :=
  if j.ctx != i then j
  else
    { j with comps := j.comps.map fun c =>
        if c.started then c else s.divide i j.au.params c }

/-- DEC_ASSIGN (R157, R158). -/
def runDecAssign (_t : Nat) (p : Packet) (s : State) : Answer :=
  let i := p.u8 16
  let view := p.u8 17
  let comp := p.u8 18
  let mode := p.u8 19
  let mask := p.u16 20
  if 3 < i then refuse .badParam 16
  else if 2 < comp then refuse .badParam 18
  else if 4 < mode then refuse .badParam 19
  else if mask = 0 ∨ 0xFFF < mask then refuse .badParam 20
  else if (s.ctx i).state = .closed then refuse .wrongState 16
  else
    let count := match (s.ctx i).current with
      | some q => scViews q.scene
      | none => 16
    if view ≠ 0xFF ∧ count ≤ view then refuse .badParam 17
    else
      let s := { s with dec.ctxs := updAt s.dec.ctxs i fun d =>
        { d with assigns := d.assigns.mapIdx fun k a => if assignHits view comp k then ⟨mode, mask⟩ else a } }
      okay { s with dec.jobs := s.dec.jobs.map (s.redivide i) }

/-- DEC_COLOUR (R170). -/
def runDecColour (_t : Nat) (p : Packet) (s : State) : Answer :=
  let i := p.u8 16
  if 3 < i then refuse .badParam 16
  else if 2 < p.u8 17 then refuse .badParam 17
  else if p.u8 17 ≠ 0 ∧ 1 < p.u8 18 then refuse .badParam 18
  else if (s.ctx i).state = .closed then refuse .wrongState 16
  else okay { s with dec.ctxs := updAt s.dec.ctxs i fun d =>
    { d with colourMatrix := p.u8 17, colourRange := if p.u8 17 = 0 then 0 else p.u8 18 } }

/-- The slot word of R180. -/
def State.slotWord (s : State) (k : Nat) : Nat :=
  let x := s.slot k
  let st := match x.state with
    | .free => 0
    | .decoding => 1
    | .complete => 2
  x.concealed * 65536 + b2n x.heldByRay * 2048 + b2n x.outputPending * 1024 +
    b2n (x.marks.any (· != .unused)) * 512 + b2n x.latest * 256 + x.ctx * 16 + st

/-- The context word of R181. -/
def State.decCtxWord (s : State) (i : Nat) : Nat :=
  let d := s.dec.ctxs.getD i {}
  let c := s.ctx i
  let held := (s.dec.slots.filter fun x => x.state != .free && x.ctx == i).length
  let small := (c.current.toList ++ c.pendingSet.toList).any fun q => !s.fitsSlot q
  d.concealedNow * 65536 + held * 256 + b2n (d.colourMatrix != 0) * 16 +
    b2n (d.assigns.any (· != {})) * 8 + b2n small * 4 + b2n c.behind * 2 + b2n (0 < s.inDecode i)

/-- DEC_STATUS (R179). -/
def runDecStatus (_t : Nat) (p : Packet) (s : State) : Answer :=
  let sel := p.u8 16
  let k := p.u8 17
  let d := s.dec.ctxs.getD k {}
  if 6 < sel then refuse .badParam 16
  else if (sel = 0 ∧ k ≠ 0) ∨ (sel = 1 ∧ s.dec.slotCount ≤ k) ∨ (2 ≤ sel ∧ 3 < k) then refuse .badParam 17
  else match sel with
    | 0 => okay s s.dec.slotCount s.dec.slotBlocks
    | 1 => okay s (s.slotWord k) (s.slot k).au.toNat
    | 2 => okay s (s.decCtxWord k) d.completed.toNat
    | 3 => okay s d.concealedAll.toNat d.cause1.toNat
    | 4 => okay s d.cause2.toNat d.cause3.toNat
    | 5 => okay s d.fallback.toNat d.slotWaits.toNat
    | _ => okay s d.lastUs.toNat d.tooLarge.toNat

/-- DEC_POOL_SIZE arrives (R159). -/
def execDecPoolSize (p : Packet) (s : State) : Host.Outcome State Fault Refusal :=
  .next (s.issue .decPoolSize runDecPoolSize p)
/-- DEC_STATUS arrives (R179). -/
def execDecStatus (p : Packet) (s : State) : Host.Outcome State Fault Refusal :=
  .next (s.issue .decStatus runDecStatus p)
/-- DEC_ASSIGN arrives (R157). -/
def execDecAssign (p : Packet) (s : State) : Host.Outcome State Fault Refusal :=
  .next (s.issue .decAssign runDecAssign p)
/-- DEC_COLOUR arrives (R170). -/
def execDecColour (p : Packet) (s : State) : Host.Outcome State Fault Refusal :=
  .next (s.issue .decColour runDecColour p)

end Sys2Proof.Machine
end

