-- ==== Sys2Proof/Machine/RayModel.lean ====
section
/-!
DEFINITION. The panel ray model (chapter 05): the layout of a ray-model blob, its checks, and the ray angle of a subpixel.

A blob is the list of its bytes. Every function here is a pure function of the blob, as R182 asks.
-/

namespace Sys2Proof.Machine

/-! ## Header fields (R195) -/

/-- A header field as an unsigned number. -/
def blobNat (b : List Byte) (off n : Nat) : Nat := fieldAt b off n
/-- A header field as a signed number. -/
def blobInt (b : List Byte) (off n : Nat) : Int := signedOf (8 * n) (fieldAt b off n)
/-- parallax. -/
def blobParallax (b : List Byte) : Nat := blobNat b 6 1
/-- DRIFT_ENABLE. -/
def blobDrift (b : List Byte) : Bool := bitOf (blobNat b 7 1) 0
/-- length. -/
def blobLength (b : List Byte) : Nat := blobNat b 8 4
/-- width. -/
def blobWidth (b : List Byte) : Nat := blobNat b 12 2
/-- height. -/
def blobHeight (b : List Byte) : Nat := blobNat b 14 2
/-- width_um. -/
def blobWidthUm (b : List Byte) : Nat := blobNat b 16 4
/-- height_um. -/
def blobHeightUm (b : List Byte) : Nat := blobNat b 20 4
/-- view_dist. -/
def blobViewDist (b : List Byte) : Nat := blobNat b 24 4
/-- cone_tan_u. -/
def blobConeU (b : List Byte) : Nat := blobNat b 28 4
/-- cone_tan_v. -/
def blobConeV (b : List Byte) : Nat := blobNat b 32 4
/-- xs_c. -/
def blobXsC (b : List Byte) : Nat := blobNat b 36 4
/-- y_c. -/
def blobYC (b : List Byte) : Nat := blobNat b 40 4
/-- t_ref. -/
def blobTRef (b : List Byte) : Int := blobInt b 84 2
/-- sensor_mask. -/
def blobSensors (b : List Byte) : Nat := blobNat b 86 1
/-- grid_w. -/
def blobGridW (b : List Byte) : Nat := blobNat b 88 2
/-- grid_h. -/
def blobGridH (b : List Byte) : Nat := blobNat b 90 2
/-- model_id. -/
def blobModelId (b : List Byte) : Nat := blobNat b 92 4

/-! ## Sections (R196) -/

/-- Bytes of the profile section. -/
def profileBytes (par : Nat) : Nat := 4 * ceilDiv (514 * (1 + par)) 4
/-- Bytes of the grid section. -/
def gridBytes (par w h : Nat) : Nat := 4 * ceilDiv (w * h * 2 * (1 + par)) 4
/-- Offset of the crosstalk section. -/
def crossOff (b : List Byte) : Nat := 128 + profileBytes (blobParallax b)
/-- Offset of the grid section. -/
def gridOff (b : List Byte) : Nat := crossOff b + 204
/-- The length that the sections give (R196). -/
def blobSpan (b : List Byte) : Nat :=
  gridOff b + gridBytes (blobParallax b) (blobGridW b) (blobGridH b) + 4
/-- The crc field (R197). -/
def blobCrc (b : List Byte) : Nat := fieldAt b (blobLength b - 4) 4

/-- The 16-bit signed values of a byte string, in order. -/
def halves : List Byte → List Int
  | x :: y :: r => signedOf 16 (x.toNat + 256 * y.toNat) :: halves r
  | _ => []

/-! ## Checks (R198) -/

/-- Greatest length of a blob (R198). -/
def blobMax : Nat := 184256

/-- Every byte of a stretch is 0. -/
def zerosAt (b : List Byte) (off n : Nat) : Bool := ((b.drop off).take n).all (· == 0)

/-- A principal coefficient lies in its range (R185). -/
def principalOk (a : Int) : Bool := decide (2 ^ 25 ≤ a.natAbs ∧ a.natAbs ≤ 2 ^ 31 - 1)

/-- Check 0x02; a parallax other than 0 and 1 has no sections that the length could follow from (log 15). -/
def lengthOk (b : List Byte) : Bool :=
  decide (blobParallax b ≤ 1 ∧ blobLength b = blobSpan b ∧ blobLength b ≤ blobMax ∧ blobLength b = b.length)

/-- Check 0x04. -/
def reservedOk (b : List Byte) : Bool :=
  let par := blobParallax b
  let prof := 514 * (1 + par)
  let grid := blobGridW b * blobGridH b * 2 * (1 + par)
  decide (blobNat b 7 1 < 2 ∧ blobSensors b < 16) && zerosAt b 87 1 && zerosAt b 96 32 &&
    zerosAt b (128 + prof) (profileBytes par - prof) &&
    zerosAt b (gridOff b + grid) (gridBytes par (blobGridW b) (blobGridH b) - grid)

/-- Check 0x05. -/
def sizeOk (b : List Byte) : Bool :=
  decide (256 ≤ blobWidth b ∧ blobWidth b ≤ 15360 ∧ 256 ≤ blobHeight b ∧ blobHeight b ≤ 8640 ∧
    blobGridW b = ceilDiv (blobWidth b) 64 + 1 ∧ blobGridH b = ceilDiv (blobHeight b) 64 + 1)

/-- Check 0x06 (R194, R195). -/
def geometryOk (b : List Byte) : Bool :=
  decide (blobWidthUm b ≠ 0 ∧ blobHeightUm b ≠ 0 ∧ blobViewDist b ≠ 0 ∧ blobConeU b ≠ 0) &&
    (if blobParallax b = 1 then decide (blobConeV b ≠ 0) else decide (blobConeV b = 0)) &&
    decide (blobXsC b < 3 * blobWidth b ∧ blobYC b < blobHeight b)

/-- Check 0x07 (R185). -/
def coefficientsOk (b : List Byte) : Bool :=
  principalOk (blobInt b 44 4) &&
    if blobParallax b = 1 then principalOk (blobInt b 60 4)
    else zerosAt b 56 12 && zerosAt b 76 8

/-- Check 0x08 (R186). -/
def profileOk (b : List Byte) : Bool :=
  (halves ((b.drop 128).take (514 * (1 + blobParallax b)))).all fun v => decide (-16384 ≤ v ∧ v ≤ 16384)

/-- Offset of the crosstalk entry of a colour. -/
def crossAt (b : List Byte) (c : Nat) : Nat := crossOff b + 68 * c

/-- A neighbour offset lies in its range (R189). -/
def offsetOk (dx dy : Int) : Bool :=
  decide (-12 ≤ dx ∧ dx ≤ 12 ∧ dx % 3 = 0 ∧ -4 ≤ dy ∧ dy ≤ 4) && !(dx == 0 && dy == 0)

/-- Check 0x09 for one colour (R189). -/
def crossOk (b : List Byte) (c : Nat) : Bool :=
  let o := crossAt b c
  offsetOk (blobInt b o 1) (blobInt b (o + 1) 1) && offsetOk (blobInt b (o + 2) 1) (blobInt b (o + 3) 1) &&
    (halves ((b.drop (o + 4)).take 64)).all fun v => decide (-4096 ≤ v ∧ v ≤ 0)

/-- Check 0x0A (R187). -/
def gridOk (b : List Byte) : Bool :=
  (halves ((b.drop (gridOff b)).take (blobGridW b * blobGridH b * 2 * (1 + blobParallax b)))).all fun v =>
    decide (-4096 ≤ v ∧ v ≤ 4096)

/-- The checks 0x01 to 0x0A in their order, 0 when all pass (R198). -/
def checkBlob (b : List Byte) : Nat :=
  if !(blobNat b 0 4 == 0x424D5255 && blobNat b 4 2 == 1) then 0x01
  else if !lengthOk b then 0x02
  else if !(crc32c (b.take (blobLength b - 4)) == blobCrc b) then 0x03
  else if !reservedOk b then 0x04
  else if !sizeOk b then 0x05
  else if !geometryOk b then 0x06
  else if !coefficientsOk b then 0x07
  else if !profileOk b then 0x08
  else if !(crossOk b 0 && crossOk b 1 && crossOk b 2) then 0x09
  else if !gridOk b then 0x0A
  else 0

/-! ## Lens drift (R191) -/

/-- A coefficient with its drift term. -/
def driftCoef (a kt dt16 : Int) : Int := a + asr (kt * dt16 + 8) 4

/-- A principal coefficient out of its range goes to the nearer bound; 0 goes to the bound on the blob's side. -/
def clampPrincipal (own a : Int) : Int :=
  if principalOk a then a
  else if 2 ^ 31 - 1 < a then 2 ^ 31 - 1
  else if a < -(2 ^ 31 - 1) then -(2 ^ 31 - 1)
  else if 0 < a ∨ (a = 0 ∧ 0 < own) then 2 ^ 25
  else -(2 ^ 25)

/-- The effective principal coefficient. -/
def principal (own kt dt16 : Int) : Int := clampPrincipal own (driftCoef own kt dt16)

/-- DRIFT_CLAMPED for a blob and a drift offset. -/
def driftClamped (b : List Byte) (dt16 : Int) : Bool :=
  !principalOk (driftCoef (blobInt b 44 4) (blobInt b 68 4) dt16) ||
    (blobParallax b == 1 && !principalOk (driftCoef (blobInt b 60 4) (blobInt b 80 4) dt16))

/-! ## The angle (R184 to R188) -/

/-- The phase for u of a subpixel (R184). -/
def phaseU (b : List Byte) (dt16 : Int) (xs y : Nat) : Nat :=
  let dxs : Int := (xs : Int) - blobXsC b
  let dy : Int := (y : Int) - blobYC b
  let ax := principal (blobInt b 44 4) (blobInt b 68 4) dt16
  let ay := driftCoef (blobInt b 48 4) (blobInt b 72 4) dt16
  (unsignedOf 32 (dxs * ax + dy * ay) + blobNat b 52 4) % 0x100000000

/-- The phase for v of a subpixel (R184). -/
def phaseV (b : List Byte) (dt16 : Int) (xs y : Nat) : Nat :=
  let dxs : Int := (xs : Int) - blobXsC b
  let dy : Int := (y : Int) - blobYC b
  let ax := driftCoef (blobInt b 56 4) (blobInt b 76 4) dt16
  let ay := principal (blobInt b 60 4) (blobInt b 80 4) dt16
  (unsignedOf 32 (dxs * ax + dy * ay) + blobNat b 64 4) % 0x100000000

/-- Entry `i` of the profile table of axis `k`, 0 for u and 1 for v (R186). -/
def lutAt (b : List Byte) (k i : Nat) : Int := blobInt b (128 + 514 * k + 2 * i) 2

/-- The angle that a profile gives for a phase (R186). -/
def profileAt (b : List Byte) (k phi : Nat) : Int :=
  let i := phi >>> 24
  let f : Nat := (phi >>> 16) % 256
  let d := lutAt b k (i + 1) - lutAt b k i
  lutAt b k i + asr (d * f + 128) 8

/-- Node (i, j) of the grid for axis `k` (R187). -/
def gridAt (b : List Byte) (k i j : Nat) : Int :=
  blobInt b (gridOff b + 2 * ((j * blobGridW b + i) * (1 + blobParallax b) + k)) 2

/-- The correction at a pixel and a line (R187). -/
def correctionAt (b : List Byte) (k x y : Nat) : Int :=
  let gi := x / 64
  let fx : Nat := x % 64
  let gj := y / 64
  let fy : Nat := y % 64
  let t := gridAt b k gi gj * ((64 - fx) * (64 - fy) : Nat) + gridAt b k (gi + 1) gj * (fx * (64 - fy) : Nat) +
    gridAt b k gi (gj + 1) * ((64 - fx) * fy : Nat) + gridAt b k (gi + 1) (gj + 1) * (fx * fy : Nat)
  asr (t + 2048) 12

/-- The angle u of a subpixel (R188). -/
def angleU (b : List Byte) (dt16 : Int) (xs y : Nat) : Int :=
  clampInt (profileAt b 0 (phaseU b dt16 xs y) + correctionAt b 0 (xs / 3) y) (-16384) 16384

/-- The angle v of a subpixel, used for parallax 1 only (R188). -/
def angleV (b : List Byte) (dt16 : Int) (xs y : Nat) : Int :=
  clampInt (profileAt b 1 (phaseV b dt16 xs y) + correctionAt b 1 (xs / 3) y) (-16384) 16384

/-! ## Crosstalk coefficients (R189, R190) -/

/-- The crosstalk bin of an angle (R190). -/
def crossBin (u : Int) : Nat := min (asr (u + 16384) 11).toNat 15

/-- km of a colour and bin. -/
def kmAt (b : List Byte) (c bin : Nat) : Int := blobInt b (crossAt b c + 4 + 2 * bin) 2
/-- kp of a colour and bin. -/
def kpAt (b : List Byte) (c bin : Nat) : Int := blobInt b (crossAt b c + 36 + 2 * bin) 2
/-- Offset of the lower-angle neighbour of a colour. -/
def lowerOf (b : List Byte) (c : Nat) : Int × Int := (blobInt b (crossAt b c) 1, blobInt b (crossAt b c + 1) 1)
/-- Offset of the higher-angle neighbour of a colour. -/
def upperOf (b : List Byte) (c : Nat) : Int × Int := (blobInt b (crossAt b c + 2) 1, blobInt b (crossAt b c + 3) 1)

/-! ## Copies in the store (R204, R205) -/

/-- First page of a copy's header. -/
def copyPage (copy : Nat) : Nat := if copy = 0 then 1024 else 4096

/-- A copy that is valid: its seq and its blob (R204). -/
def copyOf (hdr : List Byte) (body : Nat → List Byte) : Option (Word × List Byte) :=
  let len := fieldAt hdr 12 4
  if fieldAt hdr 0 4 ≠ 0x43524D55 ∨ fieldAt hdr 4 1 ≠ 0x5A ∨ blobMax < len ∨
      fieldAt hdr 60 4 ≠ crc32c (hdr.take 60) then none
  else
    let b := body len
    if checkBlob b ≠ 0 ∨ blobCrc b ≠ fieldAt hdr 16 4 then none else some (word (fieldAt hdr 8 4), b)

/-- The header page of a copy (R204). -/
def copyHeader (state : Nat) (seq : Word) (len crc : Nat) : List Byte :=
  let h := leBytes 4 0x43524D55 ++ [byte state, 0, 0, 0] ++ leBytes 4 seq.toNat ++ leBytes 4 len ++ leBytes 4 crc ++
    List.replicate 40 0
  h ++ leBytes 4 (crc32c h)

end Sys2Proof.Machine
end

