-- ==== Sys2Proof/Machine/Synth.lean ====
section
/-!
DEFINITION. Ray synthesis arithmetic (chapter 07): the value of a subpixel from the window constants and the anchor samples.

`SynthIn` names what the constants of R245 are made from; the anchor samples come in as `Anchors`, so that every function
here is pure and two computations with the same inputs agree (R243). Int division and `asr` round as R244 says.
-/

namespace Sys2Proof.Machine

/-- The anchor samples of a scene picture as synthesis reads them: stored depth codes, and 10-bit RGB channels. -/
structure Anchors where
  /-- depth(n, i, j): the stored code of R167. -/
  depth : Nat → Nat → Nat → Nat
  /-- col(n, ch, x, y): the channel after the conversion of R168. -/
  col : Nat → Nat → Nat → Nat → Nat

/-- rnd of a quotient: floor(num / den + 1/2), den positive. -/
def rndDiv (num : Int) (den : Nat) : Int := (2 * num + den) / (2 * den : Nat)

/-! ## Window constants (R245) -/

/-- eu, which depends on the blob alone (R245). -/
def euOf (b : List Byte) : Nat :=
  min (rndDiv (2 ^ 78 * blobWidthUm b : Nat) (6000 * blobWidth b * blobViewDist b * blobConeU b)).toNat (2 ^ 40 - 1)

/-- ev, which depends on the blob alone; 0 for parallax 0 (R245). -/
def evOf (b : List Byte) : Nat :=
  if blobParallax b = 1 then
    min (rndDiv (2 ^ 78 * blobHeightUm b : Nat) (2000 * blobHeight b * blobViewDist b * blobConeV b)).toNat (2 ^ 40 - 1)
  else 0

namespace SynthIn

/-- Number of views. -/
def views (w : SynthIn) : Nat := scViews w.params.scene
/-- x[n]. -/
def x (w : SynthIn) (n : Nat) : Int := vwX w.params.layout n
/-- y[n]. -/
def y (w : SynthIn) (n : Nat) : Int := vwY w.params.layout n
/-- The blob is of parallax 1. -/
def full (w : SynthIn) : Bool := blobParallax w.blob == 1

/-- dtab[d]. -/
def dtab (w : SynthIn) (d : Nat) : Int :=
  let f := scFocal w.params.scene
  let zn := scNear w.params.scene
  let zf := scFar w.params.scene
  let zz := scZero w.params.scene
  let num : Int := if zf = 0xFFFFFFFF then (d * zz : Nat) - (4095 * zn : Nat)
    else (d * (zf - zn) * zz : Nat) + (4095 * zn * zz : Nat) - (4095 * zn * zf : Nat)
  let den : Nat := if zf = 0xFFFFFFFF then 4095 * zn * zz else 4095 * zn * zf * zz
  clampInt (rndDiv (2 ^ 32 * f * num) den) (-(2 ^ 62)) (2 ^ 62 - 1)

/-- offx[n]. -/
def offx (w : SynthIn) (n : Nat) : Int :=
  let zz := scZero w.params.scene
  rndDiv (64 * (vwCx w.params.layout n * zz - (32768 * scWidth w.params.scene * zz : Nat) -
    scFocal w.params.scene * w.x n)) (65536 * zz)

/-- offy[n]. -/
def offy (w : SynthIn) (n : Nat) : Int :=
  let zz := scZero w.params.scene
  rndDiv (64 * (vwCy w.params.layout n * zz - (32768 * scHeight w.params.scene * zz : Nat) -
    scFocal w.params.scene * w.y n)) (65536 * zz)

/-- smax in units of 2^-16 mm: from the scene parameters alone, so by the parallax of the scene. -/
def smax (w : SynthIn) : Nat :=
  let ns := List.range w.views
  let sx := (scUSpan w.params.scene).toNat + maxNat (ns.map fun n => (w.x n).natAbs)
  let sy := (scVSpan w.params.scene).toNat + maxNat (ns.map fun n => (w.y n).natAbs)
  if scParallax w.params.scene = 1 then max sx sy else sx

/-- hl, the halo H. -/
def halo (w : SynthIn) : Nat :=
  let dmax := max (w.dtab 0).natAbs (w.dtab 4095).natAbs
  min 256 (ceilDiv (w.smax * dmax) (2 ^ 48))

/-- eu. -/
def eu (w : SynthIn) : Nat := euOf w.blob

/-- ev. -/
def ev (w : SynthIn) : Nat := evOf w.blob

/-- Knot `k`. -/
def knot (w : SynthIn) (k : Nat) : Int := (w.curve.getD k 0 : Nat)

/-- rm[d], which the depth codes of rungs 1 to 4 pass through (R248, R249). -/
def rm (w : SynthIn) (d : Nat) : Int :=
  if d < 3584 then
    let k := d / 512
    let r : Nat := d % 512
    w.knot k + asr ((w.knot (k + 1) - w.knot k) * r + 256) 9
  else w.knot 7 + ((w.knot 8 - w.knot 7) * ((d - 3584) * 2 : Nat) + 511) / 1022

/-- lo. -/
def lo (w : SynthIn) : Int := if w.histCount = 0 then w.rm 0 else w.rm w.dMin
/-- hi. -/
def hi (w : SynthIn) : Int := if w.histCount = 0 then w.rm 4095 else w.rm w.dMax

/-- nst: search steps of a rung. -/
def nst (rung : Nat) : Nat :=
  match rung with
  | 4 => 8
  | 3 => 6
  | 2 => 4
  | _ => 3

/-- tau at a rung. -/
def tau (w : SynthIn) (rung : Nat) : Int := max 48 ((w.hi - w.lo) / (2 * (nst rung - 1) : Nat))

/-- zp. -/
def zp (w : SynthIn) : Nat := zpCode w.params.scene

end SynthIn

/-! ## From subpixel to rig position (R247) -/

/-- Where a ray starts: rig position and place on the colour picture. -/
structure RayStart where
  /-- p, s15.16 mm. -/
  p : Int
  /-- q, s15.16 mm. -/
  q : Int
  /-- sx64. -/
  sx : Int
  /-- sy64. -/
  sy : Int
  deriving DecidableEq, Repr

/-- p or q from a normalised eye position and a span. -/
def rigAt (e span : Int) : Int := asr (e * span + 8192) 14

/-- ue of a panel subpixel. -/
def eyeU (w : SynthIn) (xs y : Nat) : Int :=
  let hx : Int := (2 * xs + 1 : Nat) - (3 * blobWidth w.blob : Nat)
  clampInt (angleU w.blob w.dt16 xs y + asr (hx * w.eu + 2 ^ 31) 32) (-16384) 16384

/-- ve of a panel subpixel. -/
def eyeV (w : SynthIn) (xs y : Nat) : Int :=
  let hy : Int := (2 * y + 1 : Nat) - (blobHeight w.blob : Nat)
  clampInt (angleV w.blob w.dt16 xs y + asr (hy * w.ev + 2 ^ 31) 32) (-16384) 16384

/-- sx64 of a panel column. -/
def placeX (w : SynthIn) (xs : Nat) : Int :=
  let wd := blobWidth w.blob
  ((64 * scWidth w.params.scene * (2 * xs + 1) + 3 * wd) / (6 * wd) : Nat) - 32

/-- sy64 of a panel line. -/
def placeY (w : SynthIn) (y : Nat) : Int :=
  let ht := blobHeight w.blob
  ((64 * scHeight w.params.scene * (2 * y + 1) + ht) / (2 * ht) : Nat) - 32

/-- The ray of a panel subpixel (R7, R8). -/
def panelRay (w : SynthIn) (xs y : Nat) : RayStart :=
  { p := rigAt (eyeU w xs y) (scUSpan w.params.scene),
    q := if w.full then rigAt (eyeV w xs y) (scVSpan w.params.scene) else w.y 0,
    sx := placeX w xs, sy := placeY w y }

/-! ## Projection and sampling (R250, R251) -/

/-- The displacement of a ray in a view for one axis. -/
def shiftOf (w : SynthIn) (at_ own : Int) (c : Nat) : Int :=
  clampInt (asr ((at_ - own) * w.dtab c + 2 ^ 41) 42) (-(64 * w.halo : Nat)) (64 * w.halo : Nat)

/-- proj(n, c). -/
def proj (w : SynthIn) (r : RayStart) (n c : Nat) : Int × Int :=
  (r.sx + w.offx n + shiftOf w r.p (w.x n) c,
    r.sy + w.offy n + if w.full then shiftOf w r.q (w.y n) c else 0)

/-- A picture coordinate brought to the nearest one inside. -/
def onPicture (i : Int) (n : Nat) : Nat := (clampInt i 0 (n - 1 : Nat)).toNat

/-- dsamp(n, X, Y). -/
def dsamp (w : SynthIn) (a : Anchors) (n : Nat) (pos : Int × Int) : Int :=
  let k := if scDepthScale w.params.scene = 0 then 6 else 7
  w.rm (a.depth n (onPicture (asr (pos.1 + 32) k) (scDepthW w.params.scene))
    (onPicture (asr (pos.2 + 32) k) (scDepthH w.params.scene)))

/-- csamp(n, ch, X, Y). -/
def csamp (w : SynthIn) (a : Anchors) (n ch : Nat) (pos : Int × Int) : Nat :=
  let x0 := asr pos.1 6
  let y0 := asr pos.2 6
  let fx := (pos.1 % 64).toNat
  let fy := (pos.2 % 64).toNat
  let aw := scWidth w.params.scene
  let ah := scHeight w.params.scene
  let xa := onPicture x0 aw
  let xb := onPicture (x0 + 1) aw
  let ya := onPicture y0 ah
  let yb := onPicture (y0 + 1) ah
  let t := (a.col n ch xa ya * (64 - fx) + a.col n ch xb ya * fx) * (64 - fy) +
    (a.col n ch xa yb * (64 - fx) + a.col n ch xb yb * fx) * fy
  (t + 2048) / 4096

/-! ## Views and weights (R253 to R255) -/

/-- The bracket of a position among the views of a row, in order: index of its first view, and t (R253). -/
def bracketOf (pos : Int) (xs : List Int) : Nat × Nat :=
  let last := xs.length - 2
  let i := match (List.range (last + 1)).reverse.find? fun n => decide (xs.getD n 0 ≤ pos) with
    | some n => n
    | none => 0
  let s := xs.getD (i + 1) 0 - xs.getD i 0
  (i, (clampInt (((pos - xs.getD i 0) * 4096 + asr s 1) / s) 0 4096).toNat)

/-- A contributing view with its weight. -/
abbrev Weighted := Nat × Nat

/-- Contributing views for parallax 0 (R253). -/
def viewsFlat (w : SynthIn) (rung : Nat) (r : RayStart) : List Weighted :=
  let vc := w.views
  let (i, t) := bracketOf r.p ((List.range vc).map w.x)
  let base := [(i, 4096 - t), (i + 1, t)]
  let has (n : Nat) : List Weighted := if n < vc then [(n, 0)] else []
  let below (n d : Nat) : List Weighted := if d ≤ n then [(n - d, 0)] else []
  match rung with
  | 0 | 1 => base
  | 2 =>
    if 1 ≤ i && (decide (vc ≤ i + 2) || decide (r.p - w.x (i - 1) ≤ w.x (i + 2) - r.p)) then base ++ below i 1
    else base ++ has (i + 2)
  | _ =>
    base ++ (if 1 ≤ i then below i 1 else has (i + 3)) ++ (if i + 2 < vc then has (i + 2) else below i 2)

/-- Add weight to a view of a list. -/
def addWeight (n k : Nat) : List Weighted → List Weighted
  | [] => [(n, k)]
  | (m, j) :: ws => if m = n then (m, j + k) :: ws else (m, j) :: addWeight n k ws

/-- The distinct y values of the views, rising (R254): views are ordered by y (R102). -/
def rowsOf (w : SynthIn) : List Int := ((List.range w.views).map w.y).eraseDups

/-- The views of a row, in order of x. -/
def rowViews (w : SynthIn) (yv : Int) : List Nat := (List.range w.views).filter fun n => w.y n == yv

/-- The bracket pair and t of a row (R254). -/
def rowPair (w : SynthIn) (pos : Int) (yv : Int) : Nat × Nat × Nat :=
  let vs := rowViews w yv
  if vs.length ≤ 1 then (vs.getD 0 0, vs.getD 0 0, 0)
  else
    let (i, t) := bracketOf pos (vs.map w.x)
    (vs.getD i 0, vs.getD (i + 1) 0, t)

/-- The view to drop at rung 2: the least weight, the higher index on a tie (R254). -/
def leastOf : List Weighted → Option Weighted
  | [] => none
  | v :: vs => match leastOf vs with
    | none => some v
    | some u => if v.2 < u.2 ∨ (v.2 = u.2 ∧ u.1 < v.1) then some v else some u

/-- Contributing views for parallax 1 (R254). -/
def viewsGrid (w : SynthIn) (rung : Nat) (r : RayStart) : List Weighted :=
  let rows := rowsOf w
  let (a, ty) := if rows.length ≤ 1 then (0, 0) else bracketOf r.q rows
  let b := if rows.length ≤ 1 then a else a + 1
  let (a0, a1, ta) := rowPair w r.p (rows.getD a 0)
  let (b0, b1, tb) := rowPair w r.p (rows.getD b 0)
  let all := addWeight b1 ((tb * ty + 2048) / 4096) <| addWeight b0 (((4096 - tb) * ty + 2048) / 4096) <|
    addWeight a1 ((ta * (4096 - ty) + 2048) / 4096) <| addWeight a0 (((4096 - ta) * (4096 - ty) + 2048) / 4096) []
  match rung with
  | 0 | 1 =>
    if ty ≤ 2048 then addWeight a1 ta (addWeight a0 (4096 - ta) [])
    else addWeight b1 tb (addWeight b0 (4096 - tb) [])
  | 2 => if all.length = 4 then (match leastOf all with
      | some v => all.filter fun u => u.1 != v.1
      | none => all) else all
  | _ => all

/-- Contributing views of a ray: R254 wherever the blob or the scene is of parallax 1 (log 16). -/
def viewsOf (w : SynthIn) (rung : Nat) (r : RayStart) : List Weighted :=
  if w.full || scParallax w.params.scene == 1 then viewsGrid w rung r else viewsFlat w rung r

/-- The views that are searched, and whether every view is concealed and whether any is (R255). -/
def withoutConcealed (w : SynthIn) (vs : List Weighted) : List Weighted × Bool × Bool :=
  let clear := vs.filter fun v => !bitOf w.concealed v.1
  (if clear.isEmpty then vs else clear, clear.isEmpty, decide (clear.length < vs.length))

/-! ## Depth search (R256) -/

/-- A candidate code. -/
def candidate (w : SynthIn) (rung k : Nat) : Int := w.hi - (k * (w.hi - w.lo)) / (SynthIn.nst rung - 1 : Nat)

/-- The code found between candidates `k - 1` and `k`, whose differences are `ep` and `e`. -/
def crossing (w : SynthIn) (rung k : Nat) (e ep : Int) : Int :=
  let ck := candidate w rung k
  let prev := candidate w rung (k - 1)
  let den := e - ep
  if k = 0 then ck else prev - ((prev - ck) * (0 - ep) + asr den 1) / den

/-- search(n) from candidate `k` on, with the difference of the candidate before. -/
def searchFrom (w : SynthIn) (a : Anchors) (rung : Nat) (r : RayStart) (n : Nat) : Nat → Nat → Int → Bool × Nat
  | 0, _, _ => (false, w.lo.toNat)
  | fuel + 1, k, ep =>
    let ck := candidate w rung k
    let e := dsamp w a n (proj w r n ck.toNat) - ck
    if 0 ≤ e then
      let cd := crossing w rung k e ep
      (decide ((dsamp w a n (proj w r n cd.toNat) - cd).natAbs ≤ w.tau rung), cd.toNat)
    else searchFrom w a rung r n fuel (k + 1) e

/-- The positions at which search(n) reads depth, from candidate `k` on. -/
def searchReads (w : SynthIn) (a : Anchors) (rung : Nat) (r : RayStart) (n : Nat) : Nat → Nat → Int → List (Int × Int)
  | 0, _, _ => []
  | fuel + 1, k, ep =>
    let ck := candidate w rung k
    let at_ := proj w r n ck.toNat
    let e := dsamp w a n at_ - ck
    if 0 ≤ e then [at_, proj w r n (crossing w rung k e ep).toNat]
    else at_ :: searchReads w a rung r n fuel (k + 1) e

/-- A searched view: index, weight, ok, found code. -/
structure Found where
  n : Nat
  wt : Nat
  ok : Bool
  cd : Nat
  deriving DecidableEq, Repr

/-- The result of every view of S (R256, R258). -/
def searchAll (w : SynthIn) (a : Anchors) (rung : Nat) (r : RayStart) (vs : List Weighted) : List Found :=
  vs.map fun v =>
    if rung = 0 then ⟨v.1, v.2, true, w.zp⟩
    else
      let (ok, cd) := searchFrom w a rung r v.1 (SynthIn.nst rung) 0 0
      ⟨v.1, v.2, ok, cd⟩

/-! ## Occlusion, blending and holes (R257) -/

/-- Distance of a view from the ray's rig position. -/
def viewDistance (w : SynthIn) (r : RayStart) (n : Nat) : Nat := (r.p - w.x n).natAbs + (r.q - w.y n).natAbs

/-- The nearest of some views; a tie goes to the lower index. -/
def nearest (w : SynthIn) (r : RayStart) : List Found → Option Found
  | [] => none
  | f :: fs => match nearest w r fs with
    | none => some f
    | some g =>
      let df := viewDistance w r f.n
      let dg := viewDistance w r g.n
      if df < dg ∨ (df = dg ∧ f.n < g.n) then some f else some g

/-- What a ray reads in the end: the views blended, or one view at one code. -/
def blendSet (w : SynthIn) (rung : Nat) (r : RayStart) (fs : List Found) : List Found :=
  let oks := fs.filter (·.ok)
  let front := maxNat (oks.map (·.cd))
  let g := if rung = 0 then oks else oks.filter fun f => decide ((front : Int) ≤ f.cd + w.tau rung)
  let t1 := g.filter fun f => decide (0 < f.wt)
  if !t1.isEmpty then t1
  else if !g.isEmpty then (nearest w r g).toList.map fun f => { f with wt := 1 }
  else (nearest w r fs).toList.map fun f => { f with wt := 1, cd := w.lo.toNat }

/-- val of a ray for one channel: a weighted mean, which is the sample itself for a single view. -/
def blendValue (w : SynthIn) (a : Anchors) (r : RayStart) (ch : Nat) (ts : List Found) : Nat :=
  let sw := sumNat (ts.map (·.wt))
  let acc := sumNat (ts.map fun f => f.wt * csamp w a f.n ch (proj w r f.n f.cd))
  (acc + sw / 2) / sw

/-- A resolved ray: what it blends, the views it read a sample of, whether every view of S was concealed, whether any was. -/
structure Resolved where
  set : List Found
  mask : Nat
  allConcealed : Bool
  anyConcealed : Bool
  deriving DecidableEq, Repr

/-- Bits of a list of views. -/
def maskOf (ns : List Nat) : Nat := ns.foldl (fun m n => m ||| 2 ^ n) 0

/-- Resolve a ray at a rung, from anchor data alone (R259). -/
def resolveRay (w : SynthIn) (a : Anchors) (rung : Nat) (r : RayStart) : Resolved :=
  let (vs, all, any) := withoutConcealed w (viewsOf w rung r)
  let fs := searchAll w a rung r vs
  let set := blendSet w rung r fs
  { set := set, mask := maskOf ((if rung = 0 then set else fs).map (·.n)), allConcealed := all, anyConcealed := any }

/-! ## The blocks that a ray reads (R210, R225) -/

/-- The block that holds a pixel of a view. -/
def blockAt (w : SynthIn) (n x y : Nat) : CacheBlock := { slot := w.slot, view := n, bx := x / 16, by_ := y / 4 }

/-- log2 of the colour pixels per depth sample along an axis. -/
def depthShift (w : SynthIn) : Nat := if scDepthScale w.params.scene = 0 then 0 else 1

/-- The block of a depth read. -/
def depthBlock (w : SynthIn) (n : Nat) (pos : Int × Int) : CacheBlock :=
  let k := depthShift w
  blockAt w n (onPicture (asr (pos.1 + 32) (6 + k)) (scDepthW w.params.scene) * 2 ^ k)
    (onPicture (asr (pos.2 + 32) (6 + k)) (scDepthH w.params.scene) * 2 ^ k)

/-- The blocks of a colour read. -/
def colourBlocks (w : SynthIn) (n : Nat) (pos : Int × Int) : List CacheBlock :=
  let col (d : Int) : Nat := onPicture (asr pos.1 6 + d) (scWidth w.params.scene)
  let row (d : Int) : Nat := onPicture (asr pos.2 6 + d) (scHeight w.params.scene)
  [blockAt w n (col 0) (row 0), blockAt w n (col 1) (row 0), blockAt w n (col 0) (row 1), blockAt w n (col 1) (row 1)]

/-- The blocks that a ray reads at a rung. -/
def rayBlocks (w : SynthIn) (a : Anchors) (rung : Nat) (r : RayStart) : List CacheBlock :=
  let vs := (withoutConcealed w (viewsOf w rung r)).1
  let depths := if rung = 0 then [] else vs.flatMap fun v =>
    (searchReads w a rung r v.1 (SynthIn.nst rung) 0 0).map (depthBlock w v.1)
  let colours := (resolveRay w a rung r).set.flatMap fun f => colourBlocks w f.n (proj w r f.n f.cd)
  (depths ++ colours).eraseDups

/-! ## Panel rays: filter and output (R252, R260 to R263) -/

/-- The channel that a stripe position emits (R252). -/
def stripeChannel (w : SynthIn) (c : Nat) : Nat := bitsOf w.chanMap (2 * c) 2

/-- The pre-compensation value of a panel subpixel at a rung. -/
def rayValue (w : SynthIn) (a : Anchors) (rung xs y : Nat) : Nat :=
  let r := panelRay w xs y
  blendValue w a r (stripeChannel w (xs % 3)) (resolveRay w a rung r).set

/-- The value of a neighbour of a subpixel; outside the panel the target's own (R260). -/
def neighbourValue (w : SynthIn) (a : Anchors) (xs y own : Nat) (d : Int × Int) : Nat :=
  let nx : Int := xs + d.1
  let ny : Int := y + d.2
  if 0 ≤ nx ∧ nx < (3 * blobWidth w.blob : Nat) ∧ 0 ≤ ny ∧ ny < (blobHeight w.blob : Nat) then
    rayValue w a w.rung nx.toNat ny.toNat
  else own

/-- The output of a panel subpixel (R260, R261). -/
def subpixelOut (w : SynthIn) (a : Anchors) (rungZero : Bool) (xs y : Nat) : Nat :=
  if rungZero then rayValue w a 0 xs y
  else
    let v := rayValue w a w.rung xs y
    if w.rung < 2 then v
    else
      let c := xs % 3
      let bin := crossBin (angleU w.blob w.dt16 xs y)
      let km := kmAt w.blob c bin
      let kp := kpAt w.blob c bin
      let vm := neighbourValue w a xs y v (lowerOf w.blob c)
      let vp := neighbourValue w a xs y v (upperOf w.blob c)
      (clampInt (asr ((16384 - km - kp) * v + km * vm + kp * vp + 8192) 14) 0 1023).toNat

/-- The word of a panel pixel (R262). -/
def pixelWord (w : SynthIn) (a : Anchors) (rungZero : Bool) (x y : Nat) : Nat :=
  subpixelOut w a rungZero (3 * x) y + 1024 * subpixelOut w a rungZero (3 * x + 1) y +
    1048576 * subpixelOut w a rungZero (3 * x + 2) y

/-- The samples of the scene picture in a pool slot as device memory holds them, colour after its conversion (R168). -/
def State.slotAnchors (s : State) (k : Nat) (p : ParamSet) (matrix range : Nat) : Anchors :=
  let eight := scColourBits p.scene = 8
  let wide (v : Nat) : Nat := if eight then widen8 (v % 256) else v
  let cw := scWidth p.scene / 2
  let ch := scHeight p.scene / 2
  { depth := fun n i j => s.depthAt k p n i j,
    col := fun n c x y =>
      let cb := chromaUp (fun i j => wide (s.chromaAt k p n 0 i j)) cw ch x y
      let cr := chromaUp (fun i j => wide (s.chromaAt k p n 1 i j)) cw ch x y
      yuvChannel (yuvCoef matrix range) c (wide (s.lumaAt k p n x y)) cb cr }

/-- The 64 pixels of a block as a fill brings them: 6 bytes each, the places of the fields in them the model's (R210,
log 25). -/
def State.blockPx (s : State) (b : CacheBlock) : List Nat :=
  let x := s.slot b.slot
  match x.params with
  | none => []
  | some p =>
    let a := s.slotAnchors b.slot p x.matrix x.range
    let k := if scDepthScale p.scene = 0 then 1 else 2
    (List.range 64).map fun i =>
      let px := min (16 * b.bx + i % 16) (scWidth p.scene - 1)
      let py := min (4 * b.by_ + i / 16) (scHeight p.scene - 1)
      a.col b.view 0 px py + 0x400 * a.col b.view 1 px py + 0x100000 * a.col b.view 2 px py +
        0x40000000 * a.depth b.view (px / k) (py / k)

/-- The pixel of a view as cluster `c`'s cache holds it, if it does. -/
def State.cachedPx (s : State) (c : Nat) (b : CacheBlock) (x y : Nat) : Option Nat :=
  ((s.ray.caches.getD c {}).blocks.find? fun e => e.block == b).map fun e => e.px.getD (y % 4 * 16 + x % 16) 0

/-- The samples as rays run by cluster `c` read them: from its view cache, where the block is held (R210, R251). -/
def State.anchors (s : State) (c : Nat) (w : SynthIn) : Anchors :=
  let mem := s.slotAnchors w.slot w.params w.matrix w.range
  let k := 2 ^ depthShift w
  { depth := fun n i j => match s.cachedPx c (blockAt w n (i * k) (j * k)) (i * k) (j * k) with
      | some v => bitsOf v 30 12
      | none => mem.depth n i j,
    col := fun n ch x y => match s.cachedPx c (blockAt w n x y) x y with
      | some v => bitsOf v (10 * ch) 10
      | none => mem.col n ch x y }

/-! ## Tiles -/

/-- Bytes per line of a woven-frame buffer (R216). -/
def wovenPitch (width : Nat) : Nat := 256 * ceilDiv width 64

/-- The words of one line of a tile. -/
def tileLine (w : SynthIn) (a : Anchors) (rungZero : Bool) (x0 pixels y : Nat) : List Byte :=
  (List.range pixels).flatMap fun i => leBytes 4 (pixelWord w a rungZero (x0 + i) y)

/-- What a tile's own rays tell of it: view_mask, DEGRADED under R255, CONCEALED_USED (R263). -/
def tileFlags (w : SynthIn) (a : Anchors) (rungZero : Bool) (t : Tile) : Nat × Bool × Bool :=
  let rung := if rungZero then 0 else w.rung
  let rs := (List.range t.lines).flatMap fun j => (List.range (3 * t.pixels)).map fun i =>
    resolveRay w a rung (panelRay w (192 * t.tx + i) (32 * t.ty + j))
  (rs.foldl (fun m r => m ||| r.mask) 0, rs.any (·.allConcealed), rs.any (·.anyConcealed))

/-- Store lines of words one below the other. -/
def State.storeLines : State → Nat → Nat → List (List Byte) → State
  | s, _, _, [] => s
  | s, addr, pitch, l :: ls => State.storeLines (s.writeAt ⟨true, addr⟩ l) (addr + pitch) pitch ls

/-- The blocks that a tile's own rays and its apron rays read (R222, R225). -/
def tileBlocks (w : SynthIn) (a : Anchors) (t : Tile) : List CacheBlock :=
  let rung := if t.rungZero then 0 else w.rung
  let near (xs y : Nat) (d : Int × Int) : List CacheBlock :=
    let nx : Int := xs + d.1
    let ny : Int := y + d.2
    if rung < 2 ∨ nx < 0 ∨ (3 * blobWidth w.blob : Nat) ≤ nx ∨ ny < 0 ∨ (blobHeight w.blob : Nat) ≤ ny then []
    else rayBlocks w a rung (panelRay w nx.toNat ny.toNat)
  (List.range t.lines).foldl (fun bs j => (List.range (3 * t.pixels)).foldl (fun bs i =>
    let xs := 192 * t.tx + i
    let y := 32 * t.ty + j
    let own := rayBlocks w a rung (panelRay w xs y)
    (own ++ near xs y (lowerOf w.blob (xs % 3)) ++ near xs y (upperOf w.blob (xs % 3))).foldl (fun bs b => bs.insert b) bs)
    bs) []

/-- A synthesis tile writes its words into a buffer (R216, R226, R262). -/
def State.writeTile (s : State) (w : SynthIn) (a : Anchors) (base : Nat) (t : Tile) : State :=
  let pitch := wovenPitch (blobWidth w.blob)
  s.storeLines (base + 32 * t.ty * pitch + 256 * t.tx) pitch
    ((List.range t.lines).map fun j => tileLine w a t.rungZero (64 * t.tx) t.pixels (32 * t.ty + j))

end Sys2Proof.Machine
end

