-- ==== Sys2Proof/Machine/Quality.lean ====
section
/-!
DEFINITION. The ray engine's two managers: the quality manager with its predictions (R212, R227 to R231) and the
depth-budget manager (R232 to R234).
-/

namespace Sys2Proof.Machine

/-- The policy with a number in the row order of R62 stands at the expert level. -/
def State.isExpert (s : State) (policy : Nat) : Bool := s.cmd.policies.getD policy false

/-- Number of the quality manager in R62. -/
def policyQuality : Nat := 0
/-- Number of the depth-budget manager in R62. -/
def policyDepth : Nat := 1
/-- Number of the PTP servo and ET slew in R62. -/
def policyServo : Nat := 2
/-- Number of the memory regulator shares in R62. -/
def policyMemory : Nat := 3
/-- Number of the NVM refresh schedule in R62. -/
def policyRefresh : Nat := 4
/-- Number of the island power limits in R62. -/
def policyPower : Nat := 5
/-- Number of the calibration schedule in R62. -/
def policyCal : Nat := 6

/-- The class of a policy's expert opcodes (R57, R62). -/
def policyClass (policy : Nat) : Nat := [0x4, 0x4, 0xA, 0xB, 0xC, 0xD, 0xD].getD policy 0

/-- A policy's level changes: EXPERT_CHANGED tells it, with its cause (R61, R672). -/
def State.setPolicy (s : State) (policy : Nat) (expert : Bool) (cause : Nat) (ring : Byte) (tag : Half) : State :=
  if s.isExpert policy == expert then s
  else { s with cmd.policies := setAt s.cmd.policies policy expert }.raise
    { code := .expertChanged, ring := ring, tag := tag,
      data0 := policyClass policy + 256 * policy + 65536 * b2n expert, data1 := cause }

/-- A policy stands down at the commit of an expert packet that sets one of its parameters (R61). -/
def State.standDown (s : State) (p : Packet) (policy : Nat) : State := s.setPolicy policy true 0 p.src.ringNo p.tag

/-! ## Cost and capacity (R212, R227) -/

/-- A non-negative fraction. -/
structure Frac where
  num : Nat
  den : Nat
  deriving DecidableEq, Repr

/-- The sum of two fractions, with a shared denominator kept. -/
def Frac.add (a b : Frac) : Frac :=
  if a.den = b.den then ⟨a.num + b.num, a.den⟩ else ⟨a.num * b.den + b.num * a.den, a.den * b.den⟩

/-- Tabled core-cycles per ray of a rung (R212). -/
def tabledCost : Nat → Frac
  | 4 => ⟨103, 10⟩
  | 3 => ⟨84, 10⟩
  | 2 => ⟨66, 10⟩
  | 1 => ⟨45, 10⟩
  | _ => ⟨26, 10⟩

/-- The mean of cycles / rays over the tiles of the windows recorded for a rung. -/
def State.meanCost (s : State) (r : Nat) : Option Frac :=
  match s.ray.measured.getD r [] with
  | [] => none
  | w :: ws =>
    let tot := (w :: ws).foldl (fun f x => Frac.add f ⟨x.1, x.2.1⟩) ⟨0, w.2.1⟩
    some ⟨tot.num, tot.den * sumNat ((w :: ws).map fun x => x.2.2)⟩

/-- m(r), the cost of a rung in core-cycles per ray (R227). -/
def State.cost (s : State) (r : Nat) : Frac :=
  let own := if r = s.ray.rung then s.meanCost r else none
  match own with
  | some f => f
  | none =>
    match s.ray.lastRung with
    | none => tabledCost r
    | some l => match s.meanCost l with
      | none => tabledCost r
      | some f =>
        let tl := tabledCost l
        let tr := tabledCost r
        ⟨tr.num * f.num * tl.den, tr.den * f.den * tl.num⟩

/-- The quadrant of a ray core: 0 NW, 1 NE, 2 SW, 3 SE (R21). -/
def quadOfCore (n : Nat) : Nat := n / 48 * 2 + n % 24 / 12

/-- The island of a ray core (R15). -/
def islandOfCore (n : Nat) : Nat := 8 + n

/-- A core in service: neither faulted nor retired, not withheld, not gated, in a cluster that is not retired. -/
def State.coreOn (s : State) (n : Nat) : Bool :=
  s.sup.coreState.getD n 0 == 0 && !bitOf s.ray.mask n && !s.thm.gated.contains n &&
    !s.sup.clusterRetired.getD (n / 24) false

/-- Cycles stretched in an island over the last 1 ms (R227). -/
def State.stretchedNow (s : State) (island : Nat) : Nat :=
  sumNat ((s.sup.recentStretch.filter fun x => x.1 == island && decide (s.mtNs < x.2.1 + 1000000)).map fun x => x.2.2)

/-- The tile holds a context. -/
def Tile.holds (t : Tile) : Bool := t.state == .queued || t.state == .fetching || t.state == .running

/-- A core still works on tiles that it holds. -/
def State.coreHolds (s : State) (n : Nat) : Bool :=
  (s.ray.window.any fun w => w.tiles.any fun t => t.core == n && t.holds) ||
    s.ray.witFrames.any fun f => f.tiles.any fun t => t.core == n && t.holds

/-- A core chosen for gating is gated once its tiles have committed (R542). -/
def State.coreGated (s : State) (n : Nat) : Bool := s.thm.gated.contains n && !s.coreHolds n

/-- A core that contributes to C: in service, or chosen for gating and not yet gated (R227, R542). -/
def State.coreCounts (s : State) (n : Nat) : Bool :=
  s.sup.coreState.getD n 0 == 0 && !bitOf s.ray.mask n && !s.coreGated n && !s.sup.clusterRetired.getD (n / 24) false

/-- C in core-cycles per millisecond (R227). -/
def State.capacityC (s : State) : Nat :=
  sumNat (((List.range 96).filter s.coreCounts).map fun n =>
    s.thm.rayMhz.getD (quadOfCore n) 0 * 1000 - s.stretchedNow (islandOfCore n))

/-- Rays of a number of subpixels and witness tiles waiting (R221, R227). -/
def State.witnessRays (s : State) : Nat :=
  sumNat (s.ray.witFrames.map fun f => sumNat ((f.tiles.filter fun t => t.state != .committed).map fun t =>
    3 * t.pixels * t.lines))

/-- W(r) at cost `m` fits a time in ns: T(r) <= B. -/
def fitsIn (rays : Nat) (m : Frac) (c : Nat) (budgetNs : Int) : Bool :=
  decide (0 < c) && decide ((rays * m.num * 1000000 : Nat) ≤ budgetNs * (m.den * c : Nat))

/-- T(r) in us, rounded down; the greatest 32-bit number when no core serves. -/
def predictUs (rays : Nat) (m : Frac) (c : Nat) : Nat :=
  if c = 0 then 0xFFFFFFFF else min 0xFFFFFFFF (rays * m.num * 1000 / (m.den * c))

/-- The highest rung below `r` that fits, or 0 (R228). -/
def State.stepDown (s : State) (rays c : Nat) (budgetNs : Int) : Nat → Nat
  | 0 => 0
  | r + 1 => if fitsIn rays (s.cost r) c budgetNs then r else State.stepDown s rays c budgetNs r

/-! ## The rung (R213, R228, R230, R231) -/

/-- A new rung takes effect: RUNG_CHANGED, the step counters, the count of R230 (R240, R242). A host's rung keeps its own
reason behind a release. -/
def State.changeRung (s : State) (r reason rays : Nat) : State :=
  if r = s.ray.rung then s
  else
    let old := s.ray.rung
    let why := if s.ray.released && reason != 2 then 3 else reason
    let s := { s with ray.rung := r, ray.goodWindows := 0,
                      ray.nDown := if r < old then s.ray.nDown + 1 else s.ray.nDown,
                      ray.nUp := if old < r then s.ray.nUp + 1 else s.ray.nUp }
    s.raise { code := .rungChanged, data0 := r + 256 * old + 65536 * why, data1 := predictUs rays (s.cost r) s.capacityC }

/-- A host's rung takes effect at an opening; a change of it is a condition of R29 (R213, R231). -/
def State.hostRung (s : State) (rays : Nat) : State :=
  match s.ray.nextRung with
  | some (r, 2) =>
    let s := { s with ray.nextRung := none, ray.changed := s.ray.changed || r != s.ray.rung }
    s.changeRung r 2 rays
  | _ => s

/-- The quality manager chooses the rung of a window that starts synthesis (R228 to R230). -/
def State.manageRung (s : State) (rays : Nat) (budgetNs : Int) : State :=
  if s.isExpert policyQuality then { s with ray.nextRung := none }
  else
    let c := s.capacityC
    let chosen := s.ray.nextRung
    let cur := match chosen with
      | some (r, _) => r
      | none => s.ray.rung
    let s := { s with ray.nextRung := none }
    if fitsIn rays (s.cost cur) c budgetNs then
      if chosen.isNone && decide (30 ≤ s.ray.goodWindows) && decide (cur < 4) &&
          fitsIn rays (s.cost (cur + 1)) c budgetNs then s.changeRung (cur + 1) 1 rays
      else s.changeRung cur 0 rays
    else s.changeRung (s.stepDown rays c budgetNs cur) 0 rays

/-! ## The depth remap curve (R232 to R234) -/

/-- The first bin from the bottom whose count takes the sum above `q`. -/
def lowBin (q : Nat) : Nat → Nat → List Nat → Nat
  | _, k, [] => k
  | acc, k, h :: hs => if acc + h ≤ q then lowBin q (acc + h) (k + 1) hs else k

/-- nb and fb in force: 1024 each without a panel profile (R232). -/
def State.depthBudgets (s : State) : Nat × Nat :=
  match s.dsp.timing with
  | none => (1024, 1024)
  | some t => (t.nb, t.fb)

/-- gn and gf for a scene picture's statistics. -/
def State.depthGains (s : State) (x : Slot) (zp : Nat) : Nat × Nat :=
  let q := x.histCount / 100
  let pLo := max (64 * lowBin q 0 0 x.hist) x.dMin
  let pHi := min (64 * (63 - lowBin q 0 0 x.hist.reverse) + 63) x.dMax
  let en := pHi - zp
  let ef := zp - pLo
  let (nb, fb) := s.depthBudgets
  (if en ≤ nb then 32768 else nb * 32768 / en, if ef ≤ fb then 32768 else fb * 32768 / ef)

/-- The target of knot `k` before the slew. -/
def knotTarget (zp gn gf k : Nat) : Int :=
  let x := if k < 8 then 512 * k else 4095
  if zp ≤ x then (zp + ((x - zp) * gn + 16384) / 32768 : Nat) else (zp : Int) - (((zp - x) * gf + 16384) / 32768 : Nat)

/-- The new knots: slewed by at most 32 codes each, and never falling. -/
def slewKnots (zp gn gf : Nat) : Nat → Int → List Nat → List Nat
  | _, _, [] => []
  | k, floor_, p :: ps =>
    let n : Int := p + clampInt (knotTarget zp gn gf k - p) (-32) 32
    let n := if k = 0 then n else max n floor_
    n.toNat :: slewKnots zp gn gf (k + 1) n ps

/-- DEPTH_ALL_CONCEALED of a header (R165, R176). -/
def Slot.allConcealed (x : Slot) : Bool := bitOf x.flags 2

/-- Raise DEPTH_BUDGET_CHANGED for the curve in force (R242). -/
def State.reportCurve (s : State) (gn gf : Nat) (au : Word) : State :=
  { s with ray.reported := s.ray.curve, ray.reportedNs := some s.mtNs }.raise
    { code := .depthBudgetChanged, data0 := gn + 65536 * gf, data1 := au.toNat }

/-- A host's curve takes effect at an opening (R234, R242). -/
def State.hostCurve (s : State) (au : Word) : State :=
  match s.ray.nextCurve with
  | none => s
  | some c =>
    { s with ray.nextCurve := none, ray.curve := c, ray.changed := s.ray.changed || c != s.ray.curve }.reportCurve
      32768 32768 au

/-- The depth-budget manager computes the curve of a window that starts synthesis (R232, R233). -/
def State.manageCurve (s : State) (slot : Nat) : State :=
  let x := s.slot slot
  if s.isExpert policyDepth then s
  else
    let s := match x.params with
      | none => s
      | some p =>
        if x.histCount = 0 || x.allConcealed then s
        else
          let zp := zpCode p.scene
          let (gn, gf) := s.depthGains x zp
          { s with ray.gn := gn, ray.gf := gf, ray.curve := slewKnots zp gn gf 0 0 s.ray.curve }
    let rested := match s.ray.reportedNs with
      | none => true
      | some t => decide (t + 1000000000 ≤ s.mtNs)
    if s.ray.curve != s.ray.reported && rested then s.reportCurve s.ray.gn s.ray.gf x.au else s

end Sys2Proof.Machine
end

