-- ==== Sys2Proof/Machine/Temps.lean ====
section
/-!
DEFINITION. Temperatures of sensors, domains and dies, and the calibration items that fall due (R528 to R531, R549).
-/

namespace Sys2Proof.Machine

/-- Sensor `i`. -/
def State.sensor (s : State) (i : Nat) : Sensor := s.thm.sensors.getD i {}

/-- A sensor is usable when it is neither broken nor absent (R530) and its die has answered (R628). -/
def Sensor.usable (x : Sensor) : Bool := x.cause == 0 && !x.absent && !x.silent

/-- The domain of a sensor (R529). -/
def domainOf (i : Nat) : Nat := if i < 32 then i / 8 else if i < 36 then 4 else 5

/-- The sensors of a domain, in the order of its ring (R529). -/
def domainSensors : Nat → List Nat
  | 4 => [32, 33, 34, 35]
  | 5 => [36, 37, 38, 39]
  | d => (List.range 8).map (· + 8 * d)

/-- Readings of the usable sensors of a list. -/
def State.readings (s : State) (l : List Nat) : List Int :=
  (l.filter fun i => (s.sensor i).usable).map fun i => (s.sensor i).reading

/-- The greatest of some readings. -/
def maxInt : List Int → Option Int
  | [] => none
  | x :: xs => match maxInt xs with
    | none => some x
    | some y => some (max x y)

/-- Sum of readings. -/
def sumReadings : List Int → Int
  | [] => 0
  | x :: xs => x + sumReadings xs

/-- The temperature of a junction domain; its throttle threshold when no sensor is usable (R530, R534). -/
def State.domainTemp (s : State) (d : Nat) : Int :=
  (maxInt (s.readings (domainSensors d))).getD (16 * (s.thm.thrAt : Int))

/-- The quadrant of an island that lies in one: ray cores and codec cores (R20, R21). -/
def quadOfIsland (n : Nat) : Option Nat :=
  if 8 ≤ n ∧ n < 104 then some (quadOfCore (n - 8))
  else if 108 ≤ n ∧ n < 120 then some ((n - 108) / 3)
  else none

/-- The temperature of an island: that of its quadrant, and outside the quadrants the highest of domains 0 to 3 (R531). -/
def State.islandTemp (s : State) (n : Nat) : Int :=
  match quadOfIsland n with
  | some q => s.thm.domTemp.getD q 0
  | none => (maxInt (s.thm.domTemp.take 4)).getD 0

/-- The mean of the usable sensors among some, in 1/16 degree C rounded down (R530). -/
def State.meanTemp (s : State) (l : List Nat) : Option Int :=
  match s.readings l with
  | [] => none
  | rs => some (sumReadings rs / (rs.length : Int))

/-- The compute-die temperature (R530). -/
def State.computeTemp (s : State) : Option Int := s.meanTemp (List.range 32)

/-- The panel-power die temperature (R530). -/
def State.ppdTemp (s : State) : Option Int := s.meanTemp (domainSensors 4)

/-- The remote diodes that R191 selects: those of sensor_mask, else all four. -/
def State.selectedDiodes (s : State) : List Nat :=
  let mask := match s.ray.active with
    | some b => blobSensors b
    | none => 0
  let mask := if mask = 0 then 15 else mask
  ([0, 1, 2, 3].filter (bitOf mask)).map (· + 36)

/-- T16 of R191, none while no selected diode is usable. -/
def State.panelTemp (s : State) : Option Int :=
  match s.readings s.selectedDiodes with
  | [] => none
  | rs => some ((sumReadings rs + (rs.length / 2 : Nat)) / (rs.length : Int))

/-! ## Items that fall due (R549) -/

/-- A junction domain holds a wake under R546: a usable sensor of it reads 102 degrees C or more at the last sample. -/
def State.domainHolds (s : State) (d : Nat) : Bool :=
  (domainSensors d).any fun i => (s.sensor i).usable && decide (1632 ≤ (s.sensor i).comparator)

/-- Calibration item `k`. -/
def State.calItem (s : State) (k : Nat) : CalItem := s.thm.items.getD k {}

/-- Change an item. -/
def State.updItem (s : State) (k : Nat) (g : CalItem → CalItem) : State :=
  { s with thm.items := updAt s.thm.items k g }

/-- The panel is RAILS_UP, TRAINING or DRIVING: items 1 and 2 may run (R549). -/
def State.panelUp (s : State) : Bool := s.pnl.mode == .railsUp || s.pnl.mode == .training || s.pnl.mode == .driving

/-- An item may run now (R549). -/
def State.calMayRun (s : State) (k : Nat) : Bool := k == 0 || k == 3 || s.panelUp

/-- The measurement sequencer and island 127 can run an item: no sequence of R545, R605 or R611 holds them. -/
def State.calWorks (s : State) : Bool :=
  s.pwr.loss.isNone && s.thm.shutdown.isNone && s.pwr.dusk == .awake && !s.sup.fault && s.sup.supState != 2 &&
    (s.pwr.phase == .init || s.pwr.phase == .ready)

/-- Bits of a THM_CAL_RUN in data1 (R552), added by `bits` for item `k`, which has run or has been deferred; its outcome
follows the last item. -/
def State.calRunItem (s : State) (k bits : Nat) : State :=
  match s.thm.calRun with
  | none => s
  | some (t, named, left, d) =>
    if !bitOf left k then s
    else
      let left := left - 2 ^ k
      let d := d ||| bits
      if left = 0 then { s with thm.calRun := none }.outcome t .ok d
      else { s with thm.calRun := some (t, named, left, d) }

/-- Start the next item that is due: one at a time, in item order; items 1 and 2 wait for the rails as DEFERRED (R549). -/
def State.kickCal (s : State) : State :=
  let defer (s : State) (k : Nat) : State :=
    let i := s.calItem k
    if i.due && !s.calMayRun k && !i.deferred then
      (s.updItem k fun x => { x with deferred := true }).calRunItem k (2 ^ (8 + k))
    else if i.deferred && s.calMayRun k then s.updItem k fun x => { x with deferred := false }
    else s
  let s := defer (defer s 1) 2
  if s.thm.running.isSome || !s.calWorks then s
  else match [0, 1, 2, 3].find? fun k => (s.calItem k).due && (s.calItem k).inUse && s.calMayRun k with
    | some k => { s with thm.running := some k, thm.runSince := s.mtNs }
    | none => s

/-- An item in use falls due. -/
def State.makeDue (s : State) (k : Nat) : State :=
  if (s.calItem k).inUse then s.updItem k fun x => { x with due := true } else s

/-- The panel reaches RAILS_UP: at the basic level items 1 and 2 fall due (R549, R553). -/
def State.railsDue (s : State) : State :=
  (if s.isExpert policyCal then s else (s.makeDue 1).makeDue 2).kickCal

/-- A run in progress is abandoned: the item stays due, and its trims in force stand (R549). -/
def State.abandonCal (s : State) : State := { s with thm.running := none }

/-- Trims that wait for their point of R548 come into force. -/
def State.applyTrims (s : State) (k : Nat) : State :=
  s.updItem k fun x => match x.waiting with
    | some t => { x with trims := t, waiting := none }
    | none => x

end Sys2Proof.Machine
end

