-- ==== Sys2Proof/Machine/Power.lean ====
section
/-!
DEFINITION. The power limit, its ladder and its steps, the clocks and the ray rails (R535 to R544, R587, R588).
-/

namespace Sys2Proof.Machine

/-! ## Clocks and rails -/

/-- Steps outstanding that lowered the ray cores of quadrant `q`. -/
def rayStepsOn (steps : List (PowerStep × Nat)) (q : Nat) : Nat :=
  (steps.filter fun x => match x.1 with
    | .ray qs => qs.contains q
    | _ => false).length

/-- Steps outstanding that lowered the codec cores of quadrant `q`. -/
def codecStepsOn (steps : List (PowerStep × Nat)) (q : Nat) : Nat :=
  (steps.filter fun x => match x.1 with
    | .codec qs => qs.contains q
    | _ => false).length

/-- The cap of the ray cores of a quadrant, MHz: that of THM_LIMITS, and 2.0 GHz on a faulted rail (R544, R588). -/
def State.rayCapMhz (s : State) (q : Nat) : Nat :=
  let c := 250 * s.thm.rayCap.getD q 12
  if s.pwr.avsFault.getD (q / 2) false then min c 2000 else c

/-- Ray-core clock of a quadrant: its cap less 0.25 GHz for each step outstanding (R541). -/
def State.rayClock (s : State) (q : Nat) : Nat := max 1000 (s.rayCapMhz q - 250 * rayStepsOn s.thm.steps q)

/-- Codec-core clock of a quadrant: its cap less 0.2 GHz for each step outstanding (R541). -/
def State.codecClock (s : State) (q : Nat) : Nat :=
  max 800 (200 * s.thm.codecCap.getD q 8 - 200 * codecStepsOn s.thm.steps q)

/-- Cores that steps of order 6 have chosen for gating (R542). -/
def gatedBy (steps : List (PowerStep × Nat)) : List Nat :=
  steps.flatMap fun x => match x.1 with
    | .gate cs => cs
    | _ => []

/-- The blit engine has been slowed. -/
def blitSlowed (steps : List (PowerStep × Nat)) : Bool := steps.any fun x => x.1 == .blit

/-- Voltage of a ray rail for its highest running clock in MHz, mV (R587). -/
def railVoltage (mhz : Nat) : Nat := max 550 (min 850 (roundUp (520 + ceilDiv mhz 10 + min Config.avsTrim 30) 5))

/-- The highest clock of the running cores on a ray rail, MHz. -/
def State.railClock (s : State) (r : Nat) : Nat :=
  maxNat (((List.range 48).filter fun i => s.coreCounts (48 * r + i)).map fun i =>
    s.thm.rayMhz.getD (quadOfCore (48 * r + i)) 0)

/-- Clocks follow the caps and the steps outstanding, and the ray rails follow the clocks; a rail whose regulator has
failed is written no more (R542, R587, R588). -/
def State.setClocks (s : State) : State :=
  let s := { s with thm.rayMhz := [0, 1, 2, 3].map s.rayClock, thm.codecMhz := [0, 1, 2, 3].map s.codecClock,
                    thm.blitMhz := if blitSlowed s.thm.steps then 600 else 1200,
                    thm.gated := gatedBy s.thm.steps }
  { s with pwr.railMv := [0, 1].map fun r =>
      if s.pwr.avsFault.getD r false then s.pwr.railMv.getD r 750 else railVoltage (s.railClock r) }

/-! ## The limit and its ladder (R537, R540) -/

/-- HOT: bit n for junction domain n in THROTTLE (R557). -/
def State.hotMask (s : State) : Nat := bitsNat ([0, 1, 2, 3, 4].map fun d => bitOf (s.thm.domHeld.getD d 0) 1)

/-- P_lim moves to a value in 0.1 W; crossing 30.0 W raises THERMAL_THROTTLE (R540, R544, R559). -/
def State.setLimit (s : State) (v : Nat) (expert : Bool) : State :=
  let old := s.thm.limit
  let s := { s with thm.limit := v }
  let s :=
    if v = 80 ∧ s.thm.floorSince.isNone then { s with thm.floorSince := some s.mtNs }
    else if v ≠ 80 then
      { s with thm.floorNs := s.thm.floorNs + s.thm.floorSince.elim 0 (s.mtNs - ·), thm.floorSince := none }
    else s
  if (old = 300 ∧ v < 300) ∨ (old < 300 ∧ v = 300) then
    s.raise { code := .thermalThrottle, source := 127,
              data0 := s.hotMask + 256 * b2n (v == 300) + 512 * b2n expert, data1 := v }
  else s

/-- What R537 asks of the limit: falling while a domain in THROTTLE reads at or above its threshold, holding while one is
in THROTTLE below it, rising otherwise until 30.0 W. -/
def State.ladderWanted (s : State) : Ladder :=
  let hot (d : Nat) : Bool := bitOf (s.thm.domHeld.getD d 0) 1
  let at_ (d : Nat) : Bool := decide (16 * (s.thm.thrAt : Int) ≤ s.thm.domTemp.getD d 0)
  if [0, 1, 2, 3, 4].any fun d => hot d && at_ d then .falling
  else if [0, 1, 2, 3, 4].any hot then .holding
  else if s.thm.limit < 300 then .rising
  else .steady

/-- The ladder follows the domains at each sample; at the expert level nothing moves the limit (R537, R540, R544). -/
def State.judgeLadder (s : State) : State :=
  let want := if s.isExpert policyPower then .steady else s.ladderWanted
  if want = s.thm.ladder then s
  else { s with thm.ladder := want, thm.ladderNs := s.mtNs,
                thm.episodes := if want = .falling then s.thm.episodes + 1 else s.thm.episodes }

/-- LADDER_STEP (R540): 10 ms of falling or 100 ms of rising move P_lim by 1.0 W, between 8.0 W and 30.0 W. -/
def State.ladderStep (s : State) : State :=
  match s.thm.ladder with
  | .falling =>
    if s.mtNs < s.thm.ladderNs + 10000000 then s
    else { s with thm.ladderNs := s.thm.ladderNs + 10000000 }.setLimit (max 80 (s.thm.limit - 10)) false
  | .rising =>
    if s.mtNs < s.thm.ladderNs + 100000000 then s
    else
      let s := { s with thm.ladderNs := s.thm.ladderNs + 100000000 }.setLimit (min 300 (s.thm.limit + 10)) false
      if s.thm.limit = 300 then { s with thm.ladder := .steady } else s
  | _ => s

/-- LADDER_STEP (R540). -/
def execLadderStep (s : State) : Host.Outcome State Fault Refusal := .next s.ladderStep

/-! ## The steps (R541, R542) -/

/-- Quadrants in THROTTLE, or the others. -/
def State.quadrants (s : State) (hot : Bool) : List Nat :=
  [0, 1, 2, 3].filter fun q => bitOf (s.thm.domHeld.getD q 0) 1 == hot

/-- The first core of a cluster that is neither faulted nor withheld, which is never gated (R542). -/
def State.keptCore (s : State) (c : Nat) : Option Nat :=
  ((List.range 24).map (· + 24 * c)).find? fun n => s.sup.coreState.getD n 0 == 0 && !bitOf s.ray.mask n

/-- The cores of cluster half `h` of quadrant `q`, highest number first. -/
def halfCores (q h : Nat) : List Nat :=
  ((List.range 12).map fun i => 48 * (q / 2) + 24 * h + 12 * (q % 2) + i).reverse

/-- The highest-numbered running core of each cluster half of some quadrants (R541). -/
def State.gateable (s : State) (qs : List Nat) : List Nat :=
  qs.flatMap fun q => [0, 1].flatMap fun h =>
    ((halfCores q h).find? fun n => s.coreOn n && s.keptCore (n / 24) != some n).toList

/-- The next step of R541, passing over those that find nothing left to act on (DEDUCED, log 136). -/
def State.nextStep (s : State) : Option PowerStep :=
  let rays (hot : Bool) := (s.quadrants hot).filter fun q => decide (1000 < s.rayClock q)
  let codecs (hot : Bool) := (s.quadrants hot).filter fun q => decide (800 < s.codecClock q)
  let gates (hot : Bool) := s.gateable (s.quadrants hot)
  if !blitSlowed s.thm.steps then some .blit
  else if !(rays true).isEmpty then some (.ray (rays true))
  else if !(rays false).isEmpty then some (.ray (rays false))
  else if !(codecs true).isEmpty then some (.codec (codecs true))
  else if !(codecs false).isEmpty then some (.codec (codecs false))
  else if !(gates true).isEmpty then some (.gate (gates true))
  else if !(gates false).isEmpty then some (.gate (gates false))
  else none

/-- POWER_LIMIT_TICK (R541): P_est is compared with P_lim, and one step is taken or undone. The estimated cost of a step is
a free value. -/
def State.powerTick (s : State) (pEst : Nat) : State :=
  let s := { s with thm.pEst := pEst }
  if 100 * s.thm.limit < pEst then
    match s.nextStep with
    | none => { s with thm.unmet := true }
    | some st =>
      let (cost, s) := s.drawFree
      { s with thm.steps := (st, cost) :: s.thm.steps, thm.unmet := false }.setClocks
  else
    let s := { s with thm.unmet := false }
    match s.thm.steps with
    | [] => s.setClocks
    | (_, cost) :: rest =>
      if pEst + cost + 500 ≤ 100 * s.thm.limit then { s with thm.steps := rest }.setClocks else s.setClocks

/-- POWER_LIMIT_TICK (R541). -/
def execPowerLimitTick (pEst : Nat) (s : State) : Host.Outcome State Fault Refusal := .next (s.powerTick pEst)

/-! ## Packets -/

/-- The first field of a THM_LIMITS that is out of range (R544). -/
def limitsFault (p : Packet) : Option Nat :=
  if p.u16 16 < 80 ∨ 300 < p.u16 16 then some 16
  else ((List.range 4).find? fun i => decide (p.u8 (20 + i) < 4 ∨ 12 < p.u8 (20 + i))).map (20 + ·) |>.or
    (((List.range 4).find? fun i => decide (p.u8 (24 + i) < 4 ∨ 8 < p.u8 (24 + i))).map (24 + ·))

/-- THM_LIMITS (R544). -/
def runThmLimits (_t : Nat) (p : Packet) (s : State) : Answer :=
  match limitsFault p with
  | some off => refuse .badParam off
  | none =>
    let s := s.standDown p policyPower
    let s := { s with thm.rayCap := (List.range 4).map fun i => p.u8 (20 + i),
                      thm.codecCap := (List.range 4).map fun i => p.u8 (24 + i) }
    okay ((s.setLimit (p.u16 16) true).judgeLadder.setClocks)

/-- THM_THRESHOLDS (R536): they hold from the first sample after the commit. -/
def runThmThresholds (_t : Nat) (p : Packet) (s : State) : Answer :=
  let w := p.u8 16
  let t := p.u8 18
  if w < 60 ∨ 109 < w then refuse .badParam 16
  else if p.u8 17 < 1 ∨ 10 < p.u8 17 then refuse .badParam 17
  else if t < w + 1 ∨ 110 < t then refuse .badParam 18
  else if p.u8 19 < 1 ∨ 10 < p.u8 19 then refuse .badParam 19
  else okay { s with thm.warnAt := w, thm.warnHyst := p.u8 17, thm.thrAt := t, thm.thrHyst := p.u8 19 }

/-- The power-limit policy is basic again: the caps are lifted and P_lim moves on from its value (R544). -/
def State.basicPower (s : State) : State :=
  { s with thm.rayCap := List.replicate 4 12, thm.codecCap := List.replicate 4 8 }.judgeLadder.setClocks

/-- AVS_REGULATOR_FAULT (R588): AVS_FAULT is set, the rail's cores are capped and the rail is written no more until Dawn. -/
def execAvsRegulatorFault (south : Bool) (s : State) : Host.Outcome State Fault Refusal :=
  let r := b2n south
  if s.pwr.avsFault.getD r false then .next s
  else .next ({ s with pwr.avsFault := setAt s.pwr.avsFault r true }.setClocks.raiseCause causeAvs)

/-! ## Words -/

/-- Code of a ladder state (R557). -/
def Ladder.code : Ladder → Nat
  | .steady => 0
  | .falling => 1
  | .holding => 2
  | .rising => 3

/-- The limit word (R557). -/
def State.limitWord (s : State) : Nat :=
  let expert := s.isExpert policyPower
  s.thm.limit + 2048 * s.thm.ladder.code + 8192 * b2n (s.thm.limit == 80 && !expert) + 16384 * b2n s.thm.unmet +
    32768 * b2n expert + 65536 * min 255 s.thm.steps.length + 16777216 * s.hotMask

/-- The sensor word (R555). -/
def State.sensorWord (s : State) (i : Nat) : Nat :=
  let x := s.sensor i
  b2n (x.cause != 0) + 2 * x.cause + 8 * b2n x.absent + 16 * b2n x.masked + 32 * domainOf i

/-- The domain word (R556). -/
def State.domainWord (s : State) (d : Nat) : Nat :=
  let n := (s.readings (domainSensors d)).length
  let held := s.thm.domHeld.getD d 0
  let st := if d = 5 then 0 else if bitOf held 2 then 3 else if bitOf held 1 then 2 else if bitOf held 0 then 1 else 0
  st + 64 * b2n (n == 0) + 128 * b2n (decide (d < 5) && s.thm.duskByShutdown && s.domainHolds d) + 256 * n

/-- THM_LIMITS (R544). -/
def execThmLimits (p : Packet) (s : State) : Host.Outcome State Fault Refusal := .next (s.issue .thmLimits runThmLimits p)
/-- THM_THRESHOLDS (R536). -/
def execThmThresholds (p : Packet) (s : State) : Host.Outcome State Fault Refusal :=
  .next (s.issue .thmThresholds runThmThresholds p)

end Sys2Proof.Machine
end

