-- ==== Sys2Proof/Machine/Nvm.lean ====
section
/-!
DEFINITION. The non-volatile store (chapter 16): pages, slots and records, the store unit, saves, and the refresh of weak pages.

The bytes stored stand in `nvm.mem`; a page program in flight changes them when it ends. The chosen slot, the directory and
the valid copies are computed from the bytes, so they are always what R501 to R503 say of them.
-/

namespace Sys2Proof.Machine

/-! ## Pages and words (R496, R497) -/

/-- The stored byte at an address: factory data below page 1022, else what has been programmed. -/
def State.storeByte (s : State) (a : Nat) : Byte :=
  if a < 1022 * 64 then Config.factoryByte a else s.nvm.mem.read a

/-- `n` stored bytes from an address. -/
def State.storeRead (s : State) (a n : Nat) : List Byte :=
  if 1022 * 64 ≤ a then s.nvm.mem.readN a n else (List.range n).map fun i => s.storeByte (a + i)

/-- Number of a word: page x 8 + word. -/
def wordNo (page w : Nat) : Nat := 8 * page + w

/-- Mask of the words of a page that a list of words names. -/
def pageMask (l : List Nat) (page : Nat) : Nat :=
  sumNat ((List.range 8).map fun w => if l.contains (wordNo page w) then 2 ^ w else 0)

/-- The words of a list of bytes, from word `w` on. -/
def wordsFrom : Nat → Nat → List Byte → List (Nat × List Byte)
  | 0, _, _ => []
  | n + 1, w, b => (w % 8, sliceZ b 0 8) :: wordsFrom n (w + 1) (b.drop 8)

/-- The program of a whole page. -/
def pageOf (page : Nat) (b : List Byte) : Nat × List (Nat × List Byte) := (page, wordsFrom 8 0 b)

/-- The programs of consecutive pages; the last is filled with zeros. -/
def pagesOf : Nat → Nat → List Byte → List (Nat × List (Nat × List Byte))
  | 0, _, _ => []
  | n + 1, page, b => pageOf page b :: pagesOf n (page + 1) (b.drop 64)

/-- Put programmed words into the store. They read without error from then on. -/
def State.putWords : State → Nat → List (Nat × List Byte) → State
  | s, _, [] => s
  | s, page, (w, b) :: ws =>
    let n := wordNo page w
    let mem := if page < 1022 then s.nvm.mem else s.nvm.mem.writeN (8 * n) b
    State.putWords { s with nvm.mem := mem, nvm.bad := s.nvm.bad.filter (· != n),
                            nvm.soft := s.nvm.soft.filter (· != n) } page ws

/-- Program whole pages at once: the saves of the device itself, which run in one command (log 18). -/
def State.putPages : State → List (Nat × List (Nat × List Byte)) → State
  | s, [] => s
  | s, (p, ws) :: ps => State.putPages { s.putWords p ws with nvm.nPrograms := s.nvm.nPrograms + 1 } ps

/-- The region of a page, in the order of R497. -/
def regionOf (page : Nat) : Nat :=
  if page < 512 then 0 else if page < 1024 then 1 else if page < 7168 then 2 else if page < 15360 then 3
  else if page < 16128 then 4 else 5

/-! ## Slots and frames (R499 to R502) -/

/-- First page of a slot. -/
def slotPage (f k : Nat) : Nat := 7168 + 32 * f + 16 * k

/-- A valid slot. -/
structure SlotHead where
  /-- Record ID. -/
  id : Nat
  /-- Flags. -/
  flags : Nat
  /-- seq. -/
  seq : Word
  /-- Body. -/
  body : List Byte
  deriving DecidableEq, Repr

/-- Pages that a slot with a body of a length occupies (R500). -/
def slotPages (len : Nat) : Nat := ceilDiv (32 + len) 64

/-- No word of some pages reads uncorrectable. -/
def State.pagesClean (s : State) (page n : Nat) : Bool :=
  s.nvm.bad.all fun w => decide (w < 8 * page ∨ 8 * (page + n) ≤ w)

/-- The header of a slot as it would be stored, without its crc. -/
def slotHeader (id flags : Nat) (seq : Word) (len : Nat) : List Byte :=
  leBytes 4 0x544F4C53 ++ leBytes 2 id ++ [byte flags, 0] ++ leBytes 4 seq.toNat ++ leBytes 2 len ++ List.replicate 14 0

/-- The bytes of a slot: header, crc and body (R500). -/
def slotBytes (id flags : Nat) (seq : Word) (body : List Byte) : List Byte :=
  let h := slotHeader id flags seq body.length
  h ++ leBytes 4 (crc32c (h ++ body)) ++ body

/-- A slot, when it is valid (R501). -/
def State.slotAt (s : State) (f k : Nat) : Option SlotHead :=
  let a := 64 * slotPage f k
  if leNat (s.nvm.mem.readN a 4) ≠ 0x544F4C53 then none
  else
    let h := s.nvm.mem.readN a 32
    let id := fieldAt h 4 2
    let flags := fieldAt h 6 1
    let len := fieldAt h 12 2
    if id < 0x100 ∨ 0x2FF < id ∨ 992 < len ∨ 4 ≤ flags ∨ (flags % 2 = 1 ∧ len ≠ 0) then none
    else
      let body := s.nvm.mem.readN (a + 32) len
      if fieldAt h 7 1 = 0 && allZero (sliceZ h 14 14) && s.pagesClean (slotPage f k) (slotPages len) &&
          fieldAt h 28 4 == crc32c (h.take 28 ++ body) then
        some ⟨id, flags, word (fieldAt h 8 4), body⟩
      else none

/-- The chosen slot of a frame (R501). -/
def State.chosenSlot (s : State) (f : Nat) : Option (Nat × SlotHead) :=
  match s.slotAt f 0, s.slotAt f 1 with
  | none, none => none
  | some a, none => some (0, a)
  | none, some b => some (1, b)
  | some a, some b => if seqAfter b.seq a.seq then some (1, b) else some (0, a)

/-- Both slots of a frame are valid with equal seq and differ: id of slot 0 and seq (R501). -/
def State.slotsDiffer (s : State) (f : Nat) : Option (Nat × Word) :=
  match s.slotAt f 0, s.slotAt f 1 with
  | some a, some b => if a.seq == b.seq && a != b then some (a.id, a.seq) else none
  | _, _ => none

/-- The frames of the range of a record ID (R499). -/
def framesFor (id : Nat) : List Nat := if id < 0x200 then List.range 64 else (List.range 192).map (· + 64)

/-- The live record that a frame holds (R502). -/
def State.frameRecord (s : State) (f : Nat) : Option (Nat × SlotHead) :=
  match s.chosenSlot f with
  | some (k, h) => if h.flags % 2 = 1 then none else some (k, h)
  | none => none

/-- The frames that hold a record, the lowest first. -/
def State.framesOf (s : State) (id : Nat) : List Nat :=
  (framesFor id).filter fun f => match s.frameRecord f with
    | some (_, h) => h.id == id
    | none => false

/-- A free frame of the range (R502). -/
def State.freeFrame (s : State) (id : Nat) : Option Nat :=
  (framesFor id).find? fun f => (s.frameRecord f).isNone

/-- RECORD_AMBIGUOUS (R501, R502, R205, R299, R527). -/
def State.recordAmbiguous (s : State) (d0 : Nat) (seq : Word) : State :=
  { s with nvm.ambiguous := true }.raise { code := .recordAmbiguous, data0 := d0, data1 := seq.toNat }

/-- Resolve a frame: an ambiguity is reported at its first resolution since Dawn (R501, R514). -/
def State.resolveFrame (s : State) (f : Nat) : State :=
  if s.nvm.resolved.contains f then s
  else
    let s := { s with nvm.resolved := f :: s.nvm.resolved }
    match s.slotsDiffer f with
    | some (id, seq) => s.recordAmbiguous id seq
    | none => s

/-- Resolve some frames in turn. -/
def State.resolveFrames : State → List Nat → State
  | s, [] => s
  | s, f :: fs => State.resolveFrames (s.resolveFrame f) fs

/-- Resolve a record: its frames, and a second frame that holds it as well (R502, R514). -/
def State.resolveRecord (s : State) (id : Nat) : State :=
  let fs := s.framesOf id
  let s := s.resolveFrames fs
  let more := (fs.drop 1).filter fun f => !s.nvm.duplicates.contains f
  if more.isEmpty then s
  else
    let seq := match s.chosenSlot (fs.headD 0) with
      | some (_, h) => h.seq
      | none => 0
    { s with nvm.duplicates := s.nvm.duplicates ++ more }.recordAmbiguous id seq

/-! ## Records held in memory (R510 to R513) -/

/-- Seconds outside Dusk, summed over all runs (R512). -/
def State.onSeconds (s : State) : Nat := s.nvm.run.onBase + (s.mtNs - s.nvm.runSince) / 1000000000

/-- The bytes of record 0x121 (R512). -/
def State.runBytes (s : State) : List Byte :=
  let r := s.nvm.run
  [byte r.state, byte r.cause, 0, 0] ++ leBytes 4 r.dawns ++ leBytes 4 r.powerFails ++ leBytes 4 r.brownouts ++
    leBytes 4 r.dusks ++ leBytes 4 r.shutdowns ++ leBytes 4 s.onSeconds ++ leBytes 4 0

/-- Record 0x121 from its bytes. -/
def runOf (b : List Byte) : RunRecord :=
  { state := fieldAt b 0 1, cause := fieldAt b 1 1, dawns := fieldAt b 4 4, powerFails := fieldAt b 8 4,
    brownouts := fieldAt b 12 4, dusks := fieldAt b 16 4, shutdowns := fieldAt b 20 4, onBase := fieldAt b 24 4 }

/-- A store of R503: frame, slot and seq. -/
structure StorePlan where
  frame : Nat
  slot : Nat
  seq : Word
  deriving DecidableEq, Repr

/-- Where a store of a record goes (R499, R503). None when no frame is free. -/
def State.planStore (s : State) (id : Nat) : Option StorePlan :=
  match (s.framesOf id).head?.or (s.freeFrame id) with
  | none => none
  | some f => match s.chosenSlot f with
    | some (k, h) => some ⟨f, 1 - k, h.seq + 1⟩
    | none => some ⟨f, 0, 1⟩

/-- The page programs of a slot (R500). -/
def slotPrograms (p : StorePlan) (id flags : Nat) (body : List Byte) : List (Nat × List (Nat × List Byte)) :=
  pagesOf (slotPages body.length) (slotPage p.frame p.slot) (slotBytes id flags p.seq body)

/-- A store that the device makes by itself (R510). -/
def State.saveRecord (s : State) (id flags : Nat) (body : List Byte) : State :=
  match s.planStore id with
  | none => s
  | some p => s.putPages (slotPrograms p id flags body)

/-- Write record 0x121 with run_state RUNNING (R512). -/
def State.saveRunning (s : State) : State :=
  if !s.nvm.loaded then s
  else
    let s := { s with nvm.run.state := 0x52 }
    s.saveRecord 0x121 0 s.runBytes

/-- The saves of the volatile-held records, 0x120 first (R510, R512): the head's bytes as they stand, then the run record
with a cause and the matching counter incremented. -/
def State.saveHead (s : State) : State :=
  match s.nvm.loaded, s.nvm.head with
  | true, some b => s.saveRecord 0x120 2 b
  | _, _ => s

/-- The save of record 0x121 with a cause: 0 power loss, 1 thermal shutdown, 2 Dusk entry (R512). -/
def State.saveRun (s : State) (cause : Nat) : State :=
  if !s.nvm.loaded then s
  else
    let r := s.nvm.run
    let r := { r with state := 0x53, cause := cause, powerFails := r.powerFails + b2n (cause == 0),
                      shutdowns := r.shutdowns + b2n (cause == 1), dusks := r.dusks + b2n (cause == 2) }
    let s := { s with nvm.run := r }
    s.saveRecord 0x121 2 s.runBytes

/-- Load the volatile-held records, judge the head and count the Dawn (R510, R512, R513). -/
def State.loadVolatile (s : State) : State :=
  let s := (s.resolveRecord 0x120).resolveRecord 0x121
  let body (id : Nat) := ((s.framesOf id).head?.bind s.frameRecord).map fun x => x.2.body
  let head := body 0x120
  let run := body 0x121
  let stale := match run with
    | some b => fieldAt b 0 1 == 0x52
    | none => head.isSome
  let r := match run with
    | some b => runOf b
    | none => {}
  let s := { s with nvm.head := head, nvm.run := { r with dawns := r.dawns + 1 }, nvm.runSince := s.mtNs,
                    nvm.headStale := stale, nvm.loaded := true }
  s.saveRunning

/-- The body of a record as the device reads it for its own settings (R506). -/
def State.deviceRecord (s : State) (id : Nat) : Option (List Byte) :=
  ((s.framesOf id).head?.bind s.frameRecord).map fun x => x.2.body

/-! ## Copies in the blob area (R204, R205, R296, R299) -/

/-- A copy of the ray-model blob, when it is valid. -/
def State.modelCopy (s : State) (c : Nat) : Option (Word × List Byte) :=
  copyOf (s.storeRead (64 * copyPage c) 64) fun len => s.storeRead (64 * copyPage c + 64) len

/-- The ray-model copy chosen (R205). -/
def State.chosenModel (s : State) : Option (Nat × Word × List Byte) :=
  match s.modelCopy 0, s.modelCopy 1 with
  | none, none => none
  | some a, none => some (0, a)
  | none, some b => some (1, b)
  | some a, some b => if seqAfter b.1 a.1 then some (1, b) else some (0, a)

/-- The two ray-model copies are valid with equal seq and different blobs (R205). -/
def State.modelsDiffer (s : State) : Option Word :=
  match s.modelCopy 0, s.modelCopy 1 with
  | some a, some b => if a.1 == b.1 && a.2 != b.2 then some a.1 else none
  | _, _ => none

/-- A copy of the panel-profile blob, when it is valid. -/
def State.profileCopy (s : State) (c : Nat) : Option (List Byte) :=
  let a := 64 * profilePage c
  if leNat (s.storeRead a 4) ≠ 0x42505055 then none
  else
    let b := s.storeRead a (min 12288 (leNat (s.storeRead (a + 8) 4)))
    if checkProfile b = 0 then some b else none

/-- The panel-profile copy chosen (R299). -/
def State.chosenProfile (s : State) : Option (Nat × List Byte) :=
  match s.profileCopy 0, s.profileCopy 1 with
  | none, none => none
  | some a, none => some (0, a)
  | none, some b => some (1, b)
  | some a, some b => if seqAfter (profSeq b) (profSeq a) then some (1, b) else some (0, a)

/-- The two panel-profile copies are valid with equal seq and different bytes (R299). -/
def State.profilesDiffer (s : State) : Option Word :=
  match s.profileCopy 0, s.profileCopy 1 with
  | some a, some b => if profSeq a == profSeq b && a != b then some (profSeq a) else none
  | _, _ => none

/-- Resolve the blob copies (R205, R299, R514). -/
def State.resolveCopies (s : State) : State :=
  let s := match s.modelsDiffer with
    | some seq => s.recordAmbiguous 0x400 seq
    | none => s
  match s.profilesDiffer with
  | some seq => s.recordAmbiguous 0x401 seq
  | none => s

/-! ## The store unit (R503, R504, R515) -/

/-- What the front operation programs once it begins: the operation with its plan and pages. -/
def State.planOp (s : State) (o : NvmOp) : Option NvmOp :=
  match o.kind with
  | .record id del body =>
    match s.planStore id with
    | none => none
    | some p =>
      let dup := (s.framesOf id).drop 1
      let free (f : Nat) := match s.chosenSlot f with
        | some (k, h) => slotPrograms ⟨f, 1 - k, h.seq + 1⟩ id 1 []
        | none => []
      some { o with frame := p.frame, slot := p.slot, seq := p.seq,
                    pages := slotPrograms p id (b2n del) body ++ dup.flatMap free }
  | .raw page ws => some { o with pages := [(16128 + page, ws)] }
  | .model =>
    match s.ray.active with
    | none => none
    | some b =>
      let (c, seq) := match s.chosenModel with
        | some (k, q, _) => (1 - k, q + 1)
        | none => (0, 1)
      let len := blobLength b
      some { o with slot := c, seq := seq,
                    pages := pageOf (copyPage c) (copyHeader 0xA5 seq len (blobCrc b)) ::
                      pagesOf (ceilDiv len 64) (copyPage c + 1) b ++
                        [pageOf (copyPage c) (copyHeader 0x5A seq len (blobCrc b))] }
  | .profile b =>
    let (c, seq) := match s.chosenProfile with
      | some (k, q) => (1 - k, profSeq q + 1)
      | none => (0, 1)
    let b := withProfileSeq b seq
    let p := profilePage c
    some { o with slot := c, seq := seq,
                  pages := (p, [(0, List.replicate 8 0)]) :: pagesOf (ceilDiv b.length 64 - 1) (p + 1) (b.drop 64) ++
                    [pageOf p b] }

/-- A frame that a page lies in. -/
def frameOfPage (page : Nat) : Nat := (page - 7168) / 32

/-- The foreground operation in front may make a program (R208, R301, R515): in a power-loss sequence only a store or raw
write that has committed. -/
def State.mayProgram (s : State) (o : NvmOp) : Bool :=
  if s.pwr.loss.isSome then
    o.begun && match o.kind with
      | .record .. | .raw .. => true
      | _ => false
  else true

/-- Begin the front foreground operation: its commit point (R70, R509). -/
def State.beginOp (s : State) : State :=
  match s.nvm.ops with
  | [] => s
  | o :: os =>
    if o.begun then s
    else match s.commitRefusal with
      | some st => { s with nvm.ops := os }.finish o.ticket st noField 0
      | none => match s.planOp o with
        | none => { s with nvm.ops := os }.finish o.ticket .noResource noField 0
        | some p =>
          if s.commitHeld o.ticket then s else
          let s := { s with nvm.ops := { p with begun := true } :: os }.commitFlight o.ticket
          match o.kind with
          | .record .. =>
            -- a store to a frame cancels a refresh planned for it (R515)
            { s with nvm.refreshes := s.nvm.refreshes.filter fun r =>
                decide (r.page < 7168 ∨ 15360 ≤ r.page) || !p.pages.any fun x => frameOfPage x.1 == frameOfPage r.page }
          | _ => s

/-- The next program of the foreground, if one may start. -/
def State.nextForeground (s : State) : Option PageProg :=
  match s.nvm.ops with
  | [] => none
  | o :: _ =>
    if o.begun && s.mayProgram o then
      (o.pages[o.done]?).map fun p => { page := p.1, words := p.2, owner := .foreground }
    else none

/-- The 32 bytes of a log entry with a seq (R575). -/
def State.logBytes (s : State) (e : LogEntry) (seq : Word) : List Byte :=
  let b := leBytes 2 e.code.toNat ++ [e.severity, byte (b2n e.injected + 2 * e.suppressed)] ++ leBytes 4 seq.toNat ++
    leBytes 4 e.mtSec.toNat ++ leBytes 4 e.mtNs.toNat ++ leBytes 2 e.source.toNat ++
    leBytes 2 s.nvm.run.dawns ++ leBytes 4 e.data0.toNat ++ leBytes 4 e.data1.toNat
  b ++ leBytes 4 (crc32c b)

/-- Page and words at which a log entry with a seq is programmed (R575). -/
def State.logProgram (s : State) (e : LogEntry) (seq : Word) : Nat × List (Nat × List Byte) :=
  let k := seq.toNat % 1536
  (15360 + k / 2, wordsFrom 4 (k % 2 * 4) (s.logBytes e seq))

/-- First byte of the event log in the store, its entries, and the bytes of one (R575). -/
def logBase : Nat := 15360 * 64

/-- The entry at a place of the log, when it is whole: every word reads and its crc is right (R575). -/
def State.wholeLogEntry (s : State) (k : Nat) : Option (List Byte) :=
  let b := s.storeRead (logBase + 32 * k) 32
  let w := wordNo (15360 + k / 2) (4 * (k % 2))
  let clean := s.nvm.bad.all fun n => decide (n < w ∨ w + 4 ≤ n)
  if clean && fieldAt b 28 4 == crc32c (b.take 28) then some b else none

/-- Places of the log that hold any stored byte but zeros; a whole entry is never all zeros. -/
def State.logPlaces (s : State) : List Nat :=
  ((s.nvm.mem.filter fun c => decide (logBase ≤ c.1 ∧ c.1 < logBase + 32 * 1536)).map
    fun c => (c.1 - logBase) / 32).eraseDups

/-- At Dawn the whole entry with the greatest seq marks the head of the log; the next entry follows it (R575). -/
def State.findLogHead (s : State) : State :=
  let seqs := s.logPlaces.filterMap fun k => (s.wholeLogEntry k).map fun b => fieldAt b 4 4 + 1
  { s with sup.logNextSeq := word (seqs.foldl max 0) }

/-- The program of the oldest queued log entry (R578). -/
def State.nextLog (s : State) : Option PageProg :=
  s.sup.logQueue.head?.map fun e =>
    let p := s.logProgram e s.sup.logNextSeq
    { page := p.1, words := p.2, owner := .log }

/-- The next program of the refresh in front. -/
def State.nextRefresh (s : State) : Option PageProg :=
  match s.nvm.refreshes with
  | [] => none
  | r :: _ => (r.pages[r.done]?).map fun p => { page := p.1, words := p.2, owner := .refresh }

/-- Begin foreground operations until one has begun or none is left: those that cannot commit are answered. -/
def State.beginOps : Nat → State → State
  | 0, s => s
  | n + 1, s =>
    match s.nvm.ops with
    | [] => s
    | o :: _ => if o.begun then s else State.beginOps n s.beginOp

/-- Start the next page program of an idle unit (R515). After a foreground program the log and the refreshes have their
turn; else the foreground comes first (log 19). -/
def State.kickNvm (s : State) (afterForeground : Bool) : State :=
  if s.nvm.halted || s.nvm.flight.isSome then s
  else
    let quiet := s.pwr.loss.isSome
    let log := if quiet then none else s.nextLog
    let ref := if quiet then none else s.nextRefresh
    match afterForeground, log, ref with
    | true, some p, _ => { s with nvm.flight := some p }
    | true, none, some p => { s with nvm.flight := some p }
    | _, _, _ =>
      let s := s.beginOps (s.nvm.ops.length + 1)
      { s with nvm.flight := s.nextForeground.or (log.or ref) }

/-- Put a foreground operation behind the others. -/
def State.pushOp (s : State) (k : NvmKind) (t : Nat) : State :=
  { s with nvm.ops := s.nvm.ops ++ [({ kind := k, ticket := t } : NvmOp)] }.kickNvm false

/-- Drop the front operation and answer its packet. -/
def State.endOp (s : State) (t : Nat) (st : Status) (r0 r1 : Nat) : State :=
  { s with nvm.ops := s.nvm.ops.drop 1 }.finish t st r0 r1

/-- The front operation has verified its last page (R207, R301, R509, R523). -/
def State.completeOp (s : State) (o : NvmOp) : State :=
  match o.kind with
  | .record id _ _ =>
    let s := { s with nvm.nStores := s.nvm.nStores + 1, nvm.fallback := s.nvm.fallback.filter (· != id),
                      nvm.duplicates := s.nvm.duplicates.filter fun f => !(s.framesOf id).contains f }
    s.endOp o.ticket .ok (o.slot + 256 * o.frame) o.seq.toNat
  | .raw page _ => s.endOp o.ticket .ok page 0
  | .model => s.endOp o.ticket .ok o.slot o.seq.toNat
  | .profile _ => s.endOp o.ticket .ok o.slot o.seq.toNat

/-- A page program and its verify have ended well: the front of its owner moves on. -/
def State.programEnded (s : State) (p : PageProg) : State :=
  let s := { s.putWords p.page p.words with nvm.flight := none, nvm.nPrograms := s.nvm.nPrograms + 1 }
  match p.owner with
  | .foreground => match s.nvm.ops with
    | [] => s
    | o :: os =>
      if o.broken then s.endOp o.ticket .hwFault noField 0
      else
        let o := { o with done := o.done + 1 }
        let s := { s with nvm.ops := o :: os }
        if o.pages.length ≤ o.done then s.completeOp o else s
  | .log =>
    { s with sup.logQueue := s.sup.logQueue.drop 1, sup.logNextSeq := s.sup.logNextSeq + 1,
             sup.logWritten := s.sup.logWritten + 1 }
  | .refresh => match s.nvm.refreshes with
    | [] => s
    | r :: rs =>
      let r := { r with done := r.done + 1 }
      if r.pages.length ≤ r.done then
        { s with nvm.refreshes := rs, nvm.nRefreshed := s.nvm.nRefreshed + 1 }.raise
          { code := .pageRefreshed, data0 := r.page, data1 := r.cause + 256 * regionOf r.page }
      else { s with nvm.refreshes := r :: rs }

/-- Words that failed their verify hold an unstated value: each is drawn (log 20). -/
def State.garble : State → Nat → List (Nat × List Byte) → State
  | s, _, [] => s
  | s, page, (w, _) :: ws =>
    let (n, s) := s.drawFree
    State.garble (s.putWords page [(w, leBytes 8 n)]) page ws

/-- A page has failed its verify three times: word 0 of its slot is programmed to zero next (R504; slots begin at multiples of 16
pages). What follows for anything but a record slot is log 20. -/
def State.programFailed (s : State) (p : PageProg) : State :=
  let s := { s.garble p.page p.words with nvm.flight := none }
  match p.owner with
  | .foreground => match s.nvm.ops with
    | [] => s
    | o :: os => match o.kind, o.broken with
      | .record .., false =>
        { s with nvm.ops := { o with broken := true } :: os,
                 nvm.flight := some { page := p.page / 16 * 16, words := [(0, List.replicate 8 0)],
                                      owner := .foreground } }
      | _, _ => s.endOp o.ticket .hwFault noField 0
  | .log => { s with sup.logQueue := s.sup.logQueue.drop 1, sup.logLost := s.sup.logLost + 1 }
  | .refresh => { s with nvm.refreshes := s.nvm.refreshes.drop 1 }

/-- NVM_PAGE_PROGRAM_DONE (R496, R504, R515): the program in flight ends, and the unit goes on. -/
def execNvmPageProgramDone (verifyOk : Bool) (s : State) : Host.Outcome State Fault Refusal :=
  let s := s.kickNvm false
  match s.nvm.flight with
  | none => .next s
  | some p =>
    let fg := p.owner == .foreground
    if verifyOk then .next ((s.programEnded p).kickNvm fg)
    else if p.fails < 2 then .next { s with nvm.flight := some { p with fails := p.fails + 1 } }
    else .next ((s.programFailed p).kickNvm fg)

/-- The supply of the store is lost while a page is programmed (R498): how many words are done, and how the word in flight
reads, is unstated and drawn, the stored bits of an uncorrectable one as well (log 21). -/
def State.tearProgram (s : State) : State :=
  match s.nvm.flight with
  | none => s
  | some p =>
    let (a, s) := s.drawFree
    let (b, s) := s.drawFree
    let k := a % p.words.length
    let s := s.putWords p.page (p.words.take k)
    let s := match b % 3 with
      | 0 => s
      | 1 => s.putWords p.page ((p.words.drop k).take 1)
      | _ =>
        let torn := (p.words.drop k).take 1
        let s := s.garble p.page torn
        { s with nvm.bad := s.nvm.bad ++ (torn.map fun (w : Nat × List Byte) => wordNo p.page w.1) }
    { s with nvm.flight := none }

/-! ## Margin reads and refresh (R516 to R519) -/

/-- Time between two margin reads, ns (R516, R520). -/
def State.marginStep (s : State) : Nat :=
  let base := s.nvm.passHours * 3600 * 1000000000 / 16384
  let hot := (s.thm.domTemp.take 4).any fun t => decide (1600 ≤ t)
  if hot && !s.nvm.noTemp then base / 4 else base

/-- The corrected content of a page. -/
def State.pageBytes (s : State) (page : Nat) : List Byte := s.storeRead (64 * page) 64

/-- The journal's second page for a page, its content and the mask of the words to program (R518); its layout is the model's
(log 22). -/
def journalBytes (page : Nat) (content : List Byte) (mask : Nat) (active : Bool) : List Byte :=
  let b := leBytes 4 page ++ leBytes 4 (crc32c content) ++ [if active then 0x5A else 0xA5, byte mask, 0, 0]
  b ++ leBytes 4 (crc32c b)

/-- The program of a page's content in place, of the words that a mask names. -/
def pageWords (page : Nat) (content : List Byte) (mask : Nat) : Nat × List (Nat × List Byte) :=
  (page, (wordsFrom 8 0 content).filter fun w => bitOf mask w.1)

/-- The words of a page that a refresh programs: an uncorrectable word, which has no corrected content, stays as it is
(log 22). -/
def State.goodMask (s : State) (page : Nat) : Nat := 255 - pageMask s.nvm.bad page

/-- A page programmed again in place (R517). -/
def State.rewrite (s : State) (page : Nat) : Nat × List (Nat × List Byte) :=
  pageWords page (s.pageBytes page) (s.goodMask page)

/-- Whole slot copies: `n` pages of content from `src` programmed at `dst`. -/
def State.copyPages (s : State) (src dst n : Nat) : List (Nat × List (Nat × List Byte)) :=
  (List.range n).map fun i => pageOf (dst + i) (s.pageBytes (src + i))

/-- The page programs that refresh a weak page (R517, R518). -/
def State.refreshPages (s : State) (page : Nat) : List (Nat × List (Nat × List Byte)) :=
  if 7168 ≤ page ∧ page < 15360 then
    let f := frameOfPage page
    let k := (page - 7168) / 16 % 2
    let own := slotPage f k
    match s.slotAt f k with
    | some h =>
      let n := slotPages h.body.length
      if own + n ≤ page then [s.rewrite page]
      else if (s.chosenSlot f).any fun x => x.1 == k then s.copyPages own (slotPage f (1 - k)) n ++ s.copyPages own own n
      else s.copyPages own own n
    | none => [s.rewrite page]
  else
    let content := s.pageBytes page
    let m := s.goodMask page
    [pageOf 1022 content, pageOf 1023 (journalBytes page content m true), pageWords page content m,
      pageOf 1023 (journalBytes page content m false)]

/-- The refresh journal is replayed (R518). -/
def State.replayJournal (s : State) : State :=
  let j := s.pageBytes 1023
  let content := s.pageBytes 1022
  if fieldAt j 8 1 = 0x5A ∧ fieldAt j 12 4 = crc32c (j.take 12) ∧ fieldAt j 4 4 = crc32c content ∧
      s.pagesClean 1022 2 = true then
    let page := fieldAt j 0 4
    let m := fieldAt j 9 1
    { s.putPages [pageWords page content m, pageOf 1023 (journalBytes page content m false)] with nvm.replayed := true }
  else s

/-- Number of words in a mask. -/
def popCount8 (m : Nat) : Nat := ((List.range 8).filter fun i => bitOf m i).length

/-- NVM_UNCORRECTABLE for a page (R519, R522, R527). -/
def State.raiseBad (s : State) (page mask : Nat) : State :=
  { s with nvm.sawBad := true, nvm.nBad := s.nvm.nBad + word (popCount8 mask) }.raise
    { code := .nvmUncorrectable, data0 := page, data1 := mask + 256 * regionOf page }

/-- A page of a chosen slot has been found to hold an uncorrectable word: the record falls back, and the fault counts
(R519, class 8 of R567). `old` is the chosen slot from before. -/
def State.fallBack (s : State) (page : Nat) (old : Option (Nat × SlotHead)) : State :=
  match old with
  | some (k, h) =>
    let f := frameOfPage page
    let own := slotPage f k
    if own ≤ page ∧ page < own + slotPages h.body.length ∧ s.nvm.resolved.contains f then
      let s := s.countDetected 8
      let s := if (s.slotAt f (1 - k)).isSome then
          { s with nvm.fallback := h.id :: s.nvm.fallback.filter (· != h.id), nvm.fellBack := true }
        else s
      s.recovered 8 page false
    else s
  | none => s

/-- A refresh of a page is planned, unless one is already (R516). -/
def State.planRefresh (s : State) (page cause : Nat) : State :=
  if s.nvm.refreshes.any fun r => r.page == page then s
  else { s with nvm.refreshes := s.nvm.refreshes ++ [({ page := page, cause := cause, pages := s.refreshPages page } : Refresh)] }

/-- A normal read has corrected some words of a page: they count, and the page is weak (R516, R525). -/
def State.sawSoft (s : State) (page mask : Nat) : State :=
  if mask = 0 then s
  else ({ s with nvm.nCorrected := s.nvm.nCorrected + word (popCount8 mask) }.planRefresh page 0).kickNvm false

/-- A record is read from its slot, each of its pages once (R516). -/
def State.sawSlot (s : State) (f : Nat) (x : Nat × SlotHead) : State :=
  ((List.range (slotPages x.2.body.length)).map (slotPage f x.1 + ·)).foldl (fun s p => s.sawSoft p (pageMask s.nvm.soft p)) s

/-- MARGIN_READ_STEP (R516): the next page of the pass is read twice; a weak page is refreshed. -/
def execMarginReadStep (weak : Bool) (corrected bad : Byte) (s : State) : Host.Outcome State Fault Refusal :=
  if s.nvm.halted || s.mtNs < s.nvm.marginNs + s.marginStep || !s.pwr.ready then .next s
  else
    let page := s.nvm.nextPage
    let old := if 7168 ≤ page ∧ page < 15360 then s.chosenSlot (frameOfPage page) else none
    let add (m : Byte) := ((List.range 8).filter fun i => m.getLsbD i).map fun i => wordNo page i
    let s := { s with nvm.bad := s.nvm.bad ++ (add bad).filter (fun n => !s.nvm.bad.contains n),
                      nvm.soft := s.nvm.soft ++ (add corrected).filter (fun n => !s.nvm.soft.contains n) }
    let badMask := pageMask s.nvm.bad page
    let softMask := pageMask s.nvm.soft page
    let last := page == 16383
    let s := { s with nvm.nextPage := if last then 0 else page + 1, nvm.marginNs := s.mtNs,
                      nvm.nMargin := s.nvm.nMargin + 1, nvm.nCorrected := s.nvm.nCorrected + word (popCount8 softMask),
                      nvm.nPasses := if last then s.nvm.nPasses + 1 else s.nvm.nPasses }
    let s := if badMask = 0 then s else (s.raiseBad page badMask).fallBack page old
    if weak || softMask != 0 || s.nvm.refreshAll then
      let cause := if softMask ≠ 0 then 0 else if weak then 1 else 2
      .next ((s.planRefresh page cause).kickNvm false)
    else .next s

/-! ## Commands -/

/-- The store is being scanned (R514). -/
def State.scanning (s : State) : Bool := s.nvm.scan == 1

/-- What a read of a record finds: body, slot, seq, VOLATILE_HELD. -/
structure RecordView where
  body : List Byte
  slot : Nat
  seq : Word
  held : Bool
  deriving DecidableEq, Repr

/-- The front operation has committed a store of this record: it reads as that store leaves it (R509). -/
def State.storing (s : State) (id : Nat) : Option NvmOp :=
  s.nvm.ops.find? fun o => o.begun && !o.broken && match o.kind with
    | .record i _ _ => i == id
    | _ => false

/-- The copy of a factory item that counts: copy 1 where copy 0 fails its CRC or holds an uncorrectable word (R497). -/
def State.factoryCopy (s : State) (x : FactoryItem) : Nat :=
  b2n (!x.crcOk || s.nvm.bad.any fun w => decide (x.first ≤ w ∧ w < x.first + x.words))

/-- A record as a read finds it (R507, R509, R510). -/
def State.readRecord (s : State) (id : Nat) : Option RecordView :=
  if id < 0x100 then (Config.factoryItem id).map fun x => ⟨x.body, s.factoryCopy x, 0, false⟩
  else
    match s.storing id with
    | some o => match o.kind with
      | .record _ false body => some ⟨body, o.slot, o.seq, false⟩
      | _ => none
    | none =>
      let stored := (s.framesOf id).head?.bind s.frameRecord
      if s.nvm.loaded && (id == 0x120 || id == 0x121) then
        let (k, q) := match stored with
          | some (k, h) => (k, h.seq)
          | none => (0, 0)
        if id = 0x121 then some ⟨s.runBytes, k, q, true⟩ else s.nvm.head.map fun b => ⟨b, k, q, true⟩
      else stored.map fun x => ⟨x.2.body, x.1, x.2.seq, false⟩

/-- What a read of a record leaves: it is resolved, and the pages of the slot that it comes from are marked (R514, R516). -/
def State.recordSeen (s : State) (id : Nat) : State :=
  if id < 0x100 then s
  else
    let s := s.resolveRecord id
    match s.frameRecord ((s.framesOf id).headD 0) with
    | some x => if (s.readRecord id).any (·.held) || (s.storing id).isSome then s else s.sawSlot ((s.framesOf id).headD 0) x
    | none => s

/-- NVM_RECORD_READ (R507). -/
def runNvmRecordRead (_t : Nat) (p : Packet) (s : State) : Answer :=
  let id := p.u16 16
  let off := p.u16 18
  let len := p.u32 20
  let addr := p.u64 24
  if off % 4 ≠ 0 then refuse .alignment 18
  else if len % 4 ≠ 0 then refuse .alignment 20
  else if len ≠ 0 ∧ addr % 4 ≠ 0 then refuse .alignment 24
  else if 0x2FF < id then refuse .badParam 16 1
  else if 992 ≤ off then refuse .badParam 18 1
  else if 992 < len then refuse .badParam 20 1
  else if len = 0 ∧ addr ≠ 0 then refuse .badParam 24 1
  else if s.scanning then refuse .nvmBusy noField
  else
    match s.readRecord id with
    | none => refuse .wrongState 16 2
    | some v =>
      let back := s.nvm.fallback.contains id
      let s := s.recordSeen id
      if len = 0 then
        okay s (fieldAt v.body off 4)
          (v.body.length + 65536 * v.slot + 131072 * b2n v.held + 262144 * b2n back)
      else
        let n := min len (v.body.length - off)
        match s.resolve p.src addr n with
        | none => refuse .badParam 24 1
        | some l => okay (s.writeAt l ((v.body.drop off).take n)) n v.seq.toNat

/-- The length that R505 gives a device record, none for an ID that is not defined. -/
def deviceLength : Nat → Option Nat
  | 0x100 => some 16
  | 0x110 => some 48
  | 0x111 => some 48
  | 0x112 => some 16
  | 0x120 => some 112
  | 0x121 => some 32
  | _ => none

/-- The record exists for the checks of R509. -/
def State.recordExists (s : State) (id : Nat) : Bool :=
  match s.storing id with
  | some o => match o.kind with
    | .record _ del _ => !del
    | _ => false
  | none => !(s.framesOf id).isEmpty

/-- A store that looks for a free frame resolves each frame that it considers (R514). -/
def State.considerFrames (s : State) (id : Nat) : State :=
  if s.recordExists id then s
  else
    let fs := framesFor id
    let n := (fs.takeWhile fun f => (s.frameRecord f).isSome).length
    s.resolveFrames (fs.take (n + 1))

/-- NVM_RECORD_STORE (R508, R509). A packet length that R508 does not give is refused as R509 says (log 62). -/
def runNvmRecordStore (t : Nat) (p : Packet) (s : State) : Answer :=
  let id := p.u16 16
  let len := p.u16 18
  let addr := p.u64 24
  let words := if addr = 0 then 8 + ceilDiv len 4 else 8
  if id < 0x100 ∨ 0x2FF < id then refuse .badParam 16 1
  else if 992 < len ∨ (addr = 0 ∧ 224 < len) then refuse .badParam 18 1
  else if p.length.toNat ≠ words then refuse .badParam 18 1
  else if id < 0x200 ∧ (deviceLength id = none ∨ (len ≠ 0 ∧ deviceLength id ≠ some len)) then
    refuse .badParam (if deviceLength id = none then 16 else 18) 2
  else if id = 0x120 ∨ id = 0x121 then refuse .wrongState 16 3
  else if len = 0 ∧ s.recordExists id = false then refuse .wrongState 16 4
  else if s.recordExists id = false ∧ s.freeFrame id = none then refuse .noResource 16 5
  else if addr % 4 ≠ 0 then refuse .alignment 24 6
  else if s.scanning then refuse .nvmBusy noField
  else
    let s := (s.resolveRecord id).considerFrames id
    if addr = 0 then .started (s.pushOp (.record id (len == 0) (p.bytesAt 32 len)) t) false
    else match s.resolve p.src addr len with
      | none => refuse .badParam 24 1
      | some l => .started (s.pushOp (.record id (len == 0) (s.readAt l len)) t) false

/-- What a raw read leaves: corrected words count and are marked, uncorrectable ones are reported (R516, R522). -/
def State.rawSeen (s : State) (page soft bad : Nat) : State :=
  let s := s.sawSoft page soft
  if bad = 0 then s else s.raiseBad page bad

/-- NVM_RAW_READ (R522). -/
def runNvmRawRead (_t : Nat) (p : Packet) (s : State) : Answer :=
  let page := p.u16 16
  let half := p.u8 18
  let mode := p.u8 19
  let addr := p.u64 24
  if 255 < page then refuse .badParam 16
  else if 1 < mode then refuse .badParam 19
  else if (mode = 0 ∧ 15 < half) ∨ (mode = 1 ∧ half ≠ 0) then refuse .badParam 18
  else if mode = 0 ∧ addr ≠ 0 then refuse .badParam 24
  else if mode = 1 ∧ addr % 8 ≠ 0 then refuse .alignment 24
  else if s.scanning then refuse .nvmBusy noField
  else
    let pg := 16128 + page
    let only := if mode = 0 then 2 ^ (half / 2) else 255
    let bad := pageMask s.nvm.bad pg &&& only
    let soft := pageMask s.nvm.soft pg &&& only
    let b := s.pageBytes pg
    if mode = 0 then okay (s.rawSeen pg soft bad) (fieldAt b (4 * half) 4) (b2n (bad != 0) + 2 * b2n (soft != 0))
    else match s.resolve p.src addr 64 with
      | none => refuse .badParam 24
      | some l => okay ((s.writeAt l b).rawSeen pg soft bad) (bad + 256 * soft) 0

/-- NVM_RAW_WRITE (R523). -/
def runNvmRawWrite (t : Nat) (p : Packet) (s : State) : Answer :=
  let page := p.u16 16
  let start := p.u8 18
  let count := p.u8 19
  if 255 < page then refuse .badParam 16
  else if 7 < start then refuse .badParam 18
  else if count = 0 ∨ 8 < count then refuse .badParam 19
  else if p.length.toNat ≠ 6 + 2 * count then refuse .badLength 2
  else if s.scanning then refuse .nvmBusy noField
  else .started (s.pushOp (.raw page (wordsFrom count start (p.bytesAt 24 (8 * count)))) t) false

/-- The status word of R526. -/
def State.nvmWord (s : State) : Nat :=
  let n := s.nvm
  n.scan + 4 * b2n n.dirReady + 8 * b2n n.loaded + 512 * b2n n.refreshAll + 1024 * b2n (s.cmd.policies.getD 4 false) +
    2048 * b2n n.sawBad + 4096 * b2n n.ambiguous + 8192 * b2n n.fellBack + 16384 * b2n n.replayed +
    32768 * b2n n.headStale

/-- Records of a range that exist (R525). -/
def State.recordCount (s : State) (fs : List Nat) : Nat :=
  ((fs.filterMap fun f => (s.frameRecord f).map fun x => x.2.id).eraseDups).length

/-- NVM_STATUS (R525). -/
def runNvmStatus (_t : Nat) (p : Packet) (s : State) : Answer :=
  let sel := p.u8 16
  let n := s.nvm
  if 6 < sel then refuse .badParam 16
  else if p.u8 17 ≠ 0 then refuse .badParam 17
  else match sel with
    | 0 => okay s s.nvmWord (if n.loaded then 1 + (if n.head.isSome then 3 else 0) else 0)
    | 1 => okay s (s.recordCount (framesFor 0x100)) (s.recordCount (framesFor 0x200))
    | 2 => okay s n.nMargin.toNat n.nRefreshed.toNat
    | 3 => okay s n.nCorrected.toNat n.nBad.toNat
    | 4 => okay s n.nPasses.toNat n.nextPage
    | 5 => okay s n.nPrograms.toNat n.nStores.toNat
    | _ => okay s n.saveUs.toNat n.scanUs.toNat

/-- The basic refresh policy (R516). -/
def State.basicRefresh (s : State) : State :=
  { s with nvm.passHours := 24, nvm.margin := 1, nvm.refreshAll := false, nvm.noTemp := false }

/-- NVM_RECORD_READ arrives (R507). -/
def execNvmRecordRead (p : Packet) (s : State) : Host.Outcome State Fault Refusal :=
  .next (s.issue .nvmRecordRead runNvmRecordRead p)
/-- NVM_RECORD_STORE arrives (R509). -/
def execNvmRecordStore (p : Packet) (s : State) : Host.Outcome State Fault Refusal :=
  .next (s.issue .nvmRecordStore runNvmRecordStore p)
/-- NVM_RAW_READ arrives (R522). -/
def execNvmRawRead (p : Packet) (s : State) : Host.Outcome State Fault Refusal :=
  .next (s.issue .nvmRawRead runNvmRawRead p)
/-- NVM_RAW_WRITE arrives (R523). -/
def execNvmRawWrite (p : Packet) (s : State) : Host.Outcome State Fault Refusal :=
  .next (s.issue .nvmRawWrite runNvmRawWrite p)
/-- NVM_STATUS arrives (R525). -/
def execNvmStatus (p : Packet) (s : State) : Host.Outcome State Fault Refusal :=
  .next (s.issue .nvmStatus runNvmStatus p)

end Sys2Proof.Machine
end

