-- ==== Sys2Proof/Machine/RayLoad.lean ====
section
/-!
DEFINITION. Loading, activating and storing the ray-model blob (R199 to R208).
-/

namespace Sys2Proof.Machine

/-- A RAY_MODEL_LOAD or RAY_MODEL_STORE is in progress (R199, R207). -/
def State.modelBusy (s : State) : Bool :=
  s.ray.load.isSome || s.nvm.ops.any fun o => o.kind == .model

/-- The blob that a source of RAY_MODEL_LOAD names in the store (R199, R205). -/
def State.modelFrom (s : State) (source : Nat) : Option (List Byte) :=
  if source = 3 then (s.chosenModel).map fun c => c.2.2
  else (s.modelCopy (source - 1)).map fun c => c.2

/-- RAY_MODEL_LOAD (R199, R200): the device copies the blob when the packet starts. -/
def runRayModelLoad (t : Nat) (p : Packet) (s : State) : Answer :=
  let source := p.u8 16
  let len := p.u32 20
  let addr := p.u64 24
  if len % 4 ≠ 0 then refuse .alignment 20
  else if addr % 4 ≠ 0 then refuse .alignment 24
  else if 3 < source then refuse .badParam 16
  else if source ≠ 0 ∧ len ≠ 0 then refuse .badParam 20
  else if source ≠ 0 ∧ addr ≠ 0 then refuse .badParam 24
  else if s.modelBusy then refuse .busy noField
  else if source = 0 then
    -- more than the greatest blob fails check 0x02; only as much is read
    match s.resolve p.src addr len with
    | none => refuse .badParam 24
    | some l => .started { s with ray.load := some ⟨some t, s.readAt l (min len (blobMax + 4)), false⟩ } false
  else if s.scanning then refuse .nvmBusy noField
  else match s.modelFrom source with
    | none => refuse .wrongState noField 0x0C
    | some b => .started { s with ray.load := some ⟨some t, b, false⟩ } false

/-- The load in progress ends with a status (R198, R201). -/
def State.endLoad (s : State) (st : Status) (r0 r1 : Nat) : State :=
  match s.ray.load with
  | none => s
  | some l =>
    let s := { s with ray.load := none }
    match l.ticket with
    | none => s
    | some t => s.finish t st r0 r1

/-- Check 0x0B of R198: the blob has the active size of the timing in force, if one is. -/
def State.blobFits (s : State) (b : List Byte) : Bool :=
  match s.dsp.timing with
  | none => true
  | some t => blobWidth b == t.hactive && blobHeight b == t.vactive

/-- Activate a checked blob: its commit point (R200). ΔT16 is 0 while the blob has no drift compensation (R192). -/
def State.activate (s : State) (l : ModelLoad) : State :=
  if !s.blobFits l.blob then s.endLoad .wrongState noField 0x0B
  else match s.commitRefusal with
    | some st => s.endLoad st noField 0
    | none =>
      if l.ticket.any s.commitHeld then s else
      let s := match l.ticket with
        | some t => s.commitFlight t
        | none => s
      let drifts := blobDrift l.blob && blobSensors l.blob != 0
      let s := { s with ray.active := some l.blob, ray.everActive := true, ray.changed := true,
                        ray.dt16Next := if drifts then s.ray.dt16Next else 0,
                        ray.dt16 := if drifts then s.ray.dt16 else 0 }
      s.endLoad .ok (blobModelId l.blob) (blobCrc l.blob)

/-- Activate the load in progress when its checks have ended (R200). -/
def State.activateLoad (s : State) : State :=
  match s.ray.load with
  | none => s
  | some l => if l.checked then s.activate l else s

/-- RAY_MODEL_CHECKS_DONE (R198, R200): a blob that fails has no effect; one that passes waits for an opening, or is
activated at once while no frame-start events occur. -/
def State.checksDone (s : State) : State :=
  match s.ray.load with
  | none => s
  | some l =>
    if l.checked then (if s.rasterRuns then s else s.activateLoad)
    else
      let d := checkBlob l.blob
      if d ≠ 0 then s.endLoad .badParam noField d
      else
        let s := { s with ray.load := some { l with checked := true } }
        if s.rasterRuns then s else s.activateLoad

/-- The load of Dawn: the chosen copy, without a completion (R202). -/
def State.loadModelAtDawn (s : State) : State :=
  if s.modelBusy then s
  else match s.modelFrom 3 with
    | none => s
    | some b => { s with ray.load := some ⟨none, b, false⟩ }

/-- RAY_MODEL_STORE (R207). -/
def runRayModelStore (t : Nat) (_p : Packet) (s : State) : Answer :=
  if s.ray.active.isNone then refuse .wrongState noField
  else if s.modelBusy then refuse .busy noField
  else if s.scanning then refuse .nvmBusy noField
  else .started (s.pushOp .model t) false

/-- RAY_MODEL_LOAD (R199). -/
def execRayModelLoad (p : Packet) (s : State) : Host.Outcome State Fault Refusal :=
  .next (s.issue .rayModelLoad runRayModelLoad p)

/-- RAY_MODEL_STORE (R207). -/
def execRayModelStore (p : Packet) (s : State) : Host.Outcome State Fault Refusal :=
  .next (s.issue .rayModelStore runRayModelStore p)

/-- RAY_MODEL_CHECKS_DONE (R200). -/
def execRayModelChecksDone (s : State) : Host.Outcome State Fault Refusal := .next s.checksDone

end Sys2Proof.Machine
end

