-- ==== Sys2Proof/Machine/Window.lean ====
section
/-!
DEFINITION. Synthesis windows: opening, tiles and deadlines, contexts, abandonment (R28, R29, R34, R37, R138, R213 to R220).
-/

namespace Sys2Proof.Machine

/-- DT in ns, its low 32 bits as deadlines and tile times keep it (R218). -/
def dtNs (t : Nat) : Word := word (t / 0x100000000 % 0x100000000)

/-! ## The scene picture a window takes -/

/-- The effective presentation time of a slot is not later than the next frame-start event (R28, R115). -/
def State.dueBy (s : State) (x : Slot) (mt : Nat) : Bool :=
  match x.ptsBase with
  | 1 => decide (x.effPts * (0x100000000 : Nat) ≤ (s.baseAt 0 mt : Nat))
  | 2 => decide (x.effPts * (0x100000000 : Nat) ≤ (s.baseAt 3 mt : Nat))
  | _ => true

/-- The newest scene picture of a context that a window may take (R28, R161). One completed in the cycle of the opening is not
seen (R164, log 123). -/
def State.eligible (s : State) (ctx mt : Nat) : Option Nat :=
  ((List.range s.dec.slots.length).filter fun k =>
      let x := s.slot k
      x.state == .complete && x.ctx == ctx && x.outputPending && decide (x.doneMt < s.time.mt) && s.dueBy x mt).foldl
    (fun best k => match best with
      | none => some k
      | some b => if (s.slot b).doneSeq < (s.slot k).doneSeq then some k else some b) none

/-- An opening can take a picture of a context: a model is active that fits the panel, and the context does not stand
(R122, R202, R206). -/
def State.mayTake (s : State) (ctx : Nat) : Bool := (s.ray.active.any s.blobFits) && (s.ctx ctx).state != .stalled

/-- The cut that waits takes effect when its target holds an eligible picture decoded from a clean access unit on, and this
opening takes it (R138). -/
def State.takeCut (s : State) (mt : Nat) : State :=
  match s.strm.cut with
  | none => s
  | some (t, target) =>
    match s.eligible target mt with
    | none => s
    | some k =>
      if !(s.slot k).unbroken || !s.mayTake target || (s.slot k).params.isNone then s
      else { s with strm.onAir := some target, strm.cut := none }.outcome t .ok (s.slot k).au.toNat

/-- The slot that still holds the scene picture last synthesised. -/
def State.lastSlot (s : State) : Option Nat :=
  match s.ray.lastSynth with
  | none => none
  | some (c, n) => (List.range s.dec.slots.length).find? fun k =>
      (s.slot k).state == .complete && (s.slot k).heldByRay && (s.slot k).ctx == c && (s.slot k).au == n

/-- What an opening synthesises: a slot, and whether it re-synthesises (R28, R29, R40, R122, R140, R202, R206). -/
def State.pickScene (s : State) (mt : Nat) : Option (Nat × Bool) :=
  match s.ray.active, s.strm.onAir with
  | some b, some i =>
    if !s.blobFits b || (s.ctx i).state == .stalled then none
    else match s.eligible i mt with
      | some k => some (k, false)
      | none =>
        if s.ray.changed then
          match s.lastSlot with
          | some k => if (s.slot k).ctx = i then some (k, true) else none
          | none => none
        else none
  | _, _ => none

/-! ## Tiles (R214 to R220) -/

/-- The cluster that homes a band or a witnessed DFN: itself, or the next that is not retired (R221, R569). -/
def State.homeFrom (s : State) : Nat → Nat → Nat
  | 0, c => c
  | k + 1, c => if s.sup.clusterRetired.getD c false then State.homeFrom s k ((c + 1) % 4) else c

/-- The home cluster of band `c`. -/
def State.homeOf (s : State) (c : Nat) : Nat := s.homeFrom 3 c

/-- Tile columns and rows of a panel. -/
def tileGrid (w h : Nat) : Nat × Nat := (ceilDiv w 64, ceilDiv h 32)

/-- Tile columns of band `c`: first and number (R215). -/
def bandOf (cols c : Nat) : Nat × Nat :=
  let w := ceilDiv cols 4
  (w * c, min w (cols - w * c))

/-- The position of a tile in its band's serpentine order (R215). -/
def serpentine (first n tx ty : Nat) : Nat := ty * n + if ty % 2 = 0 then tx - first else n - 1 - (tx - first)

/-- The rays of a tile that are written. -/
def Tile.rays (t : Tile) : Nat := 3 * t.pixels * t.lines

/-- DEGRADED (R238, R255). -/
def Tile.degraded (t : Tile) : Bool := t.rungZero || t.allConcealed

/-- The synthesis tile at a tile index (R214, R218, R220). -/
def State.tileAt (s : State) (w h : Nat) (budgetNs : Int) (m : Frac) (i : Nat) : Tile :=
  let (cols, rows) := tileGrid w h
  let tx := i % cols
  let ty := i / cols
  let band := tx / ceilDiv cols 4
  let (first, n) := bandOf cols band
  let k := serpentine first n tx ty
  let lines := min 32 (h - 32 * ty)
  let pixels := min 64 (w - 64 * tx)
  let home := s.homeOf band
  { witness := false, tx := tx, ty := ty, band := band, pos := k, home := home, cluster := home,
    deadline := dtNs s.time.dt + BitVec.ofInt 32 ((k + 1 : Nat) * budgetNs / (n * rows : Nat)), lines := lines, pixels := pixels,
    est := 3 * pixels * lines * m.num / m.den, since := s.mtNs }

/-! ## Tile contexts (R217) -/

/-- Synthesis tiles in progress. -/
def State.synthTiles (s : State) : List Tile :=
  match s.ray.window with
  | none => []
  | some w => w.tiles

/-- Contexts that tiles of one kind hold in a cluster's fabric. -/
def State.contextsHeld (s : State) (c : Nat) (witness : Bool) : Nat :=
  if witness then sumNat (s.ray.witFrames.map fun f => (f.tiles.filter fun t => t.holds && t.home == c).length)
  else (s.synthTiles.filter fun t => t.holds && t.home == c).length

/-- A context is free in a cluster for a kind; a promoted request may take either share. -/
def State.contextFree (s : State) (c : Nat) (witness promoted : Bool) : Bool :=
  let syn := s.contextsHeld c false
  let wit := s.contextsHeld c true
  decide (syn + wit < 16384) && (promoted || decide (if witness then wit < 128 else syn < 16256))

/-- Deadline order of two tiles (R68, R217): the earlier deadline, then the lower position, then the lower band. -/
def Tile.dueBefore (a b : Tile) : Bool :=
  seqAfter b.deadline a.deadline || (a.deadline == b.deadline &&
    (decide (a.pos < b.pos) || (a.pos == b.pos && decide (a.band < b.band))))

/-- The position of the first tile under an order among those that satisfy a test. -/
def pickTile (good : Tile → Bool) (before : Tile → Tile → Bool) (ts : List Tile) : Option Nat :=
  (List.range ts.length).foldl (fun best i =>
    match ts[i]? with
    | none => best
    | some t =>
      if !good t then best
      else match best with
        | none => some i
        | some b => match ts[b]? with
          | none => some i
          | some u => if before t u then some i else best) none

/-- Change one synthesis tile. -/
def State.updTile (s : State) (i : Nat) (g : Tile → Tile) : State :=
  { s with ray.window := s.ray.window.map fun w => { w with tiles := updAt w.tiles i g } }

/-- Change one witness tile of the frame at index `f`. -/
def State.updWit (s : State) (f i : Nat) (g : Tile → Tile) : State :=
  { s with ray.witFrames := updAt s.ray.witFrames f fun w => { w with tiles := updAt w.tiles i g } }

/-- Queue synthesis tiles of a cluster while contexts of their share are free (R217). -/
def State.fillSynth : Nat → State → Nat → State
  | 0, s, _ => s
  | n + 1, s, c =>
    if !s.contextFree c false false then s
    else match pickTile (fun t => t.state == .unqueued && t.home == c) Tile.dueBefore s.synthTiles with
      | none => s
      | some i => State.fillSynth n (s.updTile i fun t => { t with state := .queued }) c

/-- The first witness tile of a cluster that waits for a context: frame and tile. -/
def State.waitingWit (s : State) (c : Nat) (good : Tile → Bool) : Option (Nat × Nat) :=
  ((List.range s.ray.witFrames.length).filterMap fun f =>
    match s.ray.witFrames[f]? with
    | none => none
    | some w => (pickTile (fun t => t.state == .unqueued && t.home == c && good t) Tile.dueBefore w.tiles).map
        fun i => (f, i)).head?

/-- Queue witness tiles of a cluster while contexts of their share are free (R217). -/
def State.fillWit : Nat → State → Nat → State
  | 0, s, _ => s
  | n + 1, s, c =>
    if !s.contextFree c true false then s
    else match s.waitingWit c fun _ => true with
      | none => s
      | some (f, i) => State.fillWit n (s.updWit f i fun t => { t with state := .queued }) c

/-- A promoted request takes a free context of a cluster, from either share. -/
def State.fillPromoted (s : State) (c : Nat) : State :=
  if !s.contextFree c true true then s
  else match pickTile (fun t => t.state == .unqueued && t.home == c && t.promoted) Tile.dueBefore s.synthTiles with
    | some i => s.updTile i fun t => { t with state := .queued }
    | none => match s.waitingWit c Tile.promoted with
      | some (f, i) => s.updWit f i fun t => { t with state := .queued }
      | none => s

/-- Witness tiles not yet committed. -/
def State.witCount (s : State) : Nat := sumNat (s.ray.witFrames.map fun f => f.tiles.length)

/-- Give the free contexts of a cluster to the tiles that wait for them. -/
def State.fillCluster (s : State) (c : Nat) : State :=
  let s := s.fillPromoted c
  let s := s.fillSynth s.synthTiles.length c
  s.fillWit s.witCount c

/-- Give the free contexts of every cluster away. -/
def State.fillAll (s : State) : State := [0, 1, 2, 3].foldl State.fillCluster s

/-! ## HELD_BY_RAY (R37) -/

/-- Something of the ray engine still needs the picture in slot `k`. -/
def State.rayNeeds (s : State) (k : Nat) : Bool :=
  (s.ray.window.any fun w => w.inp.slot == k) || (s.ray.complete.any fun w => w.inp.slot == k) ||
    s.ray.shownSlot == some k || (s.ray.witFrames.any fun f => f.inp.slot == k)

/-- Clear HELD_BY_RAY where R37 is met, and free the slots that nothing holds any more (R162). -/
def State.sweepHeld (s : State) : State :=
  { s with dec.slots := (List.range s.dec.slots.length).map fun k =>
      let x := s.slot k
      { x with heldByRay := x.heldByRay && s.rayNeeds k } }.sweepSlots

/-- A picture that a dropped window took may be taken again (R37, R161); one that a window re-synthesised is found again by
R29 instead, without the mark (log 120). -/
def State.giveBack (s : State) (slot : Nat) (au : Word) (resynth : Bool) : State :=
  let x := s.slot slot
  if !resynth && x.state == .complete && x.au == au && x.latest && (s.ctx x.ctx).state != .closed then
    s.updSlot slot fun x => { x with outputPending := true }
  else s

/-- Abandon the window in progress: no miss is counted, and it has synthesised nothing (R37). -/
def State.abandonWindow (s : State) : State :=
  match s.ray.window with
  | none => s
  | some w =>
    let s := { s with ray.window := none, ray.lastSynth := w.before,
                      ray.changed := s.ray.changed || w.changedBefore }
    (s.giveBack w.inp.slot w.inp.au w.resynth).sweepHeld

/-- Drop a complete woven frame that has not been presented, with the timing it was made for (R294, log 24). -/
def State.dropComplete (s : State) : State :=
  match s.ray.complete with
  | none => s
  | some w =>
    let s := { s with ray.complete := none, ray.lastSynth := w.before,
                      ray.changed := s.ray.changed || w.changedBefore }
    (s.giveBack w.inp.slot w.inp.au false).sweepHeld

/-! ## The opening -/

/-- The next woven-frame buffer in rotation that is neither presented nor waiting for its flip (R34). -/
def State.freeBuffer (s : State) : Nat :=
  let used (n : Nat) : Bool := (s.ray.presented.any fun w => w.buffer == n) || (s.ray.complete.any fun w => w.buffer == n)
  (([1, 2, 3].map fun k => (s.ray.lastBuffer + k) % 3).find? fun n => !used n).getD 0

/-- The constants of a window for the picture in a slot (R245). -/
def State.synthIn (s : State) (k : Nat) (p : ParamSet) (blob : List Byte) (chanMap : Nat) : SynthIn :=
  let x := s.slot k
  { slot := k, au := x.au, ctx := x.ctx, params := p, concealed := x.concealed, dMin := x.dMin, dMax := x.dMax,
    histCount := x.histCount, matrix := x.matrix, range := x.range, blob := blob, dt16 := s.ray.dt16,
    curve := s.ray.curve, rung := s.ray.rung, chanMap := chanMap }

/-- Start synthesis of the picture in slot `k` (R28, R219, R228, R232). -/
def State.startWindow (s : State) (k : Nat) (resynth : Bool) (t : Timing) (target : Nat) (blob : List Byte)
    (p : ParamSet) : State :=
  let rays := 3 * blobWidth blob * blobHeight blob
  let targetNs := target / 0x100000000
  let budget : Int := (targetNs : Int) - s.mtNs - 100000
  let before := s.ray.lastSynth
  let changedBefore := s.ray.changed
  let s := s.manageRung (rays + s.witnessRays) budget
  let s := s.manageCurve k
  let inp := s.synthIn k p blob t.chanMap
  let (cols, rows) := tileGrid (blobWidth blob) (blobHeight blob)
  let m := s.cost s.ray.rung
  let win : Window :=
    { seq := s.ray.nextSeq, inp := inp, opened := s.mtNs, target := targetNs, buffer := s.freeBuffer,
      tiles := (List.range (cols * rows)).map (s.tileAt (blobWidth blob) (blobHeight blob) budget m),
      resynth := resynth, before := before, changedBefore := changedBefore, driftHeld := s.ray.driftHeld,
      curveFixed := s.isExpert policyDepth, rungFixed := s.isExpert policyQuality }
  let s := s.updSlot k fun x => { x with outputPending := false, heldByRay := true }
  let s := { s with ray.window := some win, ray.nextSeq := s.ray.nextSeq + 1,
                    ray.lastBuffer := s.freeBuffer, ray.lastSynth := some (inp.ctx, inp.au), ray.changed := false,
                    ray.predictedUs := predictUs (rays + s.witnessRays) m s.capacityC,
                    -- with a new picture every block held is of an older one (R210)
                    ray.caches := s.ray.caches.map fun (c : ViewCache) =>
                      if resynth then { blocks := c.blocks.filter fun b => b.block.slot == k,
                                        fills := c.fills.filter fun f => f.witness || f.block.slot == k }
                      else { blocks := [], fills := c.fills.filter (·.witness) } }
  s.fillAll

/-- Windows may open: none is in progress, a frame-start event has come since the last opening, and no sequence of power
loss, shutdown, Dusk or unrecovered fault holds them (R28, R572, R605, R545, R611). -/
def State.mayOpen (s : State) : Bool :=
  s.ray.armed && s.ray.window.isNone && s.pwr.loss.isNone && s.thm.shutdown.isNone && s.pwr.dusk == .awake &&
    !s.sup.fault && s.sup.supState != 2

/-- Cores whose self-test has passed return to dispatch at an opening (R568); a new mask takes effect (R239). -/
def State.returnCores (s : State) : State :=
  let back (n : Nat) : Bool := s.sup.corePassed.getD n false
  { s with sup.coreState := (List.range 96).map fun n => if back n then 0 else s.sup.coreState.getD n 0,
           sup.corePassed := List.replicate 96 false,
           ray.mask := s.ray.nextMask.getD s.ray.mask, ray.nextMask := none }

/-- A new ΔT16 takes effect at an opening; it counts as a change of the ray model (R183). -/
def State.takeDrift (s : State) : State :=
  { s with ray.dt16 := s.ray.dt16Next, ray.changed := s.ray.changed || s.ray.dt16Next != s.ray.dt16 }

/-- SYNTHESIS_WINDOW_OPEN (R28, R29, R138, R183, R200, R213, R239). -/
def State.openWindow (s : State) : State :=
  if !s.mayOpen then s
  else
    match s.dsp.timing, s.nextFrame with
    | some t, some target =>
      let s := { s with ray.armed := false }
      let s := (s.returnCores.activateLoad).takeDrift
      let panel := match s.ray.active with
        | some b => 3 * blobWidth b * blobHeight b
        | none => 0
      let s := s.hostRung (panel + s.witnessRays)
      let s := s.takeCut target
      -- the curve of the host is in place before the picture is chosen: it is a condition of R29
      let fixed := s.ray.nextCurve
      let s := { s with ray.changed := s.ray.changed || (fixed.any fun c => c != s.ray.curve) }
      let pick := s.pickScene target
      let au := match pick with
        | some (k, _) => (s.slot k).au
        | none => 0
      let s := s.hostCurve au
      match pick, s.ray.active with
      | some (k, re), some b =>
        match (s.slot k).params with
        | some p =>
          let s := s.startWindow k re t target b p
          { s with ray.released := false }
        | none => s
      | _, _ => s
    | _, _ => s

/-- SYNTHESIS_WINDOW_OPEN (R28). -/
def execSynthesisWindowOpen (s : State) : Host.Outcome State Fault Refusal := .next s.openWindow

/-! ## Re-prediction (R229) -/

/-- The work of the window that is not yet committed, in rays. -/
def Window.raysLeft (w : Window) : Nat := sumNat ((w.tiles.filter fun t => t.state != .committed).map Tile.rays)

/-- B of a window, ns. -/
def Window.budget (w : Window) : Int := (w.target : Int) - w.opened - 100000

/-- QUALITY_REPREDICT (R229): every 1 ms of MT while a window runs. A window predicted late selects by R228 the rung of the
next opening, the one in force among them. -/
def State.repredict (s : State) : State :=
  if s.mtNs < s.ray.predictNs + 1000000 then s
  else
    let s := { s with ray.predictNs := s.mtNs }
    match s.ray.window with
    | none => s
    | some w =>
      let c := s.capacityC
      let m := s.cost s.ray.rung
      let left := w.raysLeft + s.witnessRays
      let full := 3 * blobWidth w.inp.blob * blobHeight w.inp.blob + s.witnessRays
      let s := { s with ray.predictedUs := predictUs full m c }
      if s.isExpert policyQuality then s
      else if fitsIn left m c (w.opened + w.budget - s.mtNs) then s
      else if fitsIn full m c w.budget then { s with ray.nextRung := none }
      else { s with ray.nextRung := some (s.stepDown full c w.budget s.ray.rung, 0) }

/-- QUALITY_REPREDICT (R229). -/
def execQualityRepredict (s : State) : Host.Outcome State Fault Refusal := .next s.repredict

end Sys2Proof.Machine
end

