-- ==== Sys2Proof/Machine/Cal.lean ====
section
/-!
DEFINITION. Calibration runs and the readings of the THM class (R548 to R559).
-/

namespace Sys2Proof.Machine

/-- Duration of a run of an item, ns (R548); item 3 takes one sample. -/
def calNs : Nat → Nat
  | 0 => 2000000
  | 1 => 1000000
  | 2 => 500000
  | _ => 0

/-- The setting in force of a rail, uV: AVDD, NAVDD, VGH, VGL. -/
def State.railUv (s : State) (i : Nat) : Nat :=
  1000 * (s.pnl.rails.elim 0 fun r => [r.avdd, r.navdd, r.vgh, r.vgl].getD i 0)

/-- A run is rejected (R551): a reading would move by more than 5 degrees C, a rail by more than 2 % of its setting, VCOM by
more than 50 mV, or a measurement falls outside the range of its chain. -/
def State.calRejects (s : State) (m : CalMeasure) : Bool :=
  !m.inRange || m.sensorMoves.any (fun d => decide (80 < d.natAbs)) ||
    ((List.range 4).any fun i => decide (2 * s.railUv i < 100 * (m.railMoves.getD i 0).natAbs)) ||
    decide (50000 < m.vcomMove.natAbs)

/-- VREF_CAL lies within 1.2500 V +- 1 % (R550). -/
def vrefGood (uv : Nat) : Bool := decide (1237500 ≤ uv ∧ uv ≤ 1262500)

/-- XIN can be measured: REF10M is present, or the servo is LOCKED (R550). -/
def State.freqTraced (s : State) : Bool := s.time.refPresent || s.net.servo == .locked

/-- Trigger temperatures as they stand now (R548). -/
def State.calTemps (s : State) (k : Nat) : List (Option Int) :=
  match k with
  | 0 => [s.computeTemp, s.ppdTemp]
  | 3 => [s.panelTemp, none]
  | _ => [s.ppdTemp, none]

/-- A temperature that cannot be taken leaves the trigger of the run before. -/
def keepTrigger (old new : List (Option Int)) : List (Option Int) :=
  [0, 1].map fun i => (new.getD i none).or (old.getD i none)

/-- Data of CALIBRATED: item, RESULT, a signed value, and the flags of data1 (R559). -/
def State.raiseCalibrated (s : State) (k result : Nat) (v : Int) (flags : Nat) : State :=
  s.raise { code := .calibrated, source := 127, data0 := k + 256 * result + 65536 * unsignedOf 16 v, data1 := flags }

/-- What every run leaves: counters, the 24-hour timer, and its part in a THM_CAL_RUN (R551, R552). -/
def State.endCal (s : State) (k result : Nat) (temps : List (Option Int)) : State :=
  let s := s.updItem k fun x =>
    { x with due := false, deferred := false, runs := satInc 0xFFFF x.runs, result := result, lastNs := some s.mtNs,
             trigger := keepTrigger x.trigger temps }
  let s := { s with thm.running := none }
  s.calRunItem k ((if result = 1 then 2 ^ k else 2 ^ (4 + k)) ||| 4096 * b2n (s.calItem k).untraced)

/-- A run of item 0 ends (R550, R551): its trims wait for the sequencer's idle point, and changed trims make items 1 and 2
fall due. -/
def State.endItem0 (s : State) (m : CalMeasure) : State :=
  let traced := vrefGood m.vrefUv
  let bad := s.calRejects m
  let old := s.calItem 0
  let s := { s with thm.vrefUv := m.vrefUv, thm.xinPpb := if s.freqTraced && !bad then m.xinPpb else s.thm.xinPpb }
  let s := s.updItem 0 fun x =>
    { x with untraced := !traced, freqUntraced := !s.freqTraced, waiting := if bad then none else some m.trims }
  let temps := s.calTemps 0
  let s := s.endCal 0 (if bad then 2 else 1) temps
  let s := s.raiseCalibrated 0 (if bad then 2 else 1) ((temps.getD 0 none).getD 0)
    (b2n (!traced) + 2 * b2n (!s.freqTraced))
  if !bad && m.trims != old.trims && !s.isExpert policyCal then (s.makeDue 1).makeDue 2 else s

/-- A run of item 1 or 2 ends: its trims wait for a blanking slot, or apply at once when no timing is in force; its
traceability is that of the last run of item 0 (R548, R550). -/
def State.endItem12 (s : State) (k : Nat) (m : CalMeasure) : State :=
  let bad := s.calRejects m
  let un := (s.calItem 0).untraced
  let s := s.updItem k fun x => { x with untraced := un, waiting := if bad then x.waiting else some m.trims }
  let s := if s.dsp.timing.isNone then s.applyTrims k else s
  let s := if k = 1 then { s with pnl.untraced := un } else s
  let temps := s.calTemps k
  (s.endCal k (if bad then 2 else 1) temps).raiseCalibrated k (if bad then 2 else 1) ((temps.getD 0 none).getD 0) (b2n un)

/-- The value that R192 gives to the drift offset for a panel temperature. -/
def State.driftFor (s : State) (t16 : Int) : Int :=
  match s.ray.active with
  | some b => if blobDrift b && blobSensors b != 0 then t16 - blobTRef b else 0
  | none => 0

/-- A run of item 3 ends (R191 to R193, R551): the drift offset of the next window opening, or held. -/
def State.endItem3 (s : State) : State :=
  let clamped (d : Int) : Nat := 4 * b2n (s.ray.active.any fun b => driftClamped b d)
  match s.panelTemp with
  | none =>
    let s := { s with ray.driftHeld := true }
    let d := if s.ray.active.any fun b => blobDrift b && blobSensors b != 0 then s.ray.dt16Next else 0
    (s.endCal 3 3 [none, none]).raiseCalibrated 3 3 d (clamped d)
  | some t =>
    let d := s.driftFor t
    let s := { s with ray.driftHeld := false, ray.dt16Next := d }
    (s.endCal 3 1 [some t, none]).raiseCalibrated 3 1 d (clamped d)

/-- CALIBRATION_RUN_END (R551): the run in progress ends, and the next item that is due starts. A run of item 1 or 2 whose
panel has gone dark meanwhile is abandoned. -/
def State.calEnd (s : State) (m : CalMeasure) : State :=
  match s.thm.running with
  | none => s
  | some k =>
    if !s.calWorks || decide (s.mtNs < s.thm.runSince + calNs k) then s
    else if !s.calMayRun k then s.abandonCal.kickCal
    else
      (match k with
      | 0 => s.endItem0 m
      | 3 => s.endItem3
      | _ => s.endItem12 k m).kickCal

/-- CALIBRATION_RUN_END (R551). -/
def execCalibrationRunEnd (m : CalMeasure) (s : State) : Host.Outcome State Fault Refusal := .next (s.calEnd m)

/-- 24 hours in ns. -/
def dayNs : Nat := 24 * 3600 * 1000000000

/-- CALIBRATION_DUE (R549): 24 hours of MT have passed since the item last ran, at the basic level. -/
def execCalibrationDue (item : Fin 4) (s : State) : Host.Outcome State Fault Refusal :=
  let past := (s.calItem item.val).lastNs.any fun t => decide (t + dayNs ≤ s.mtNs)
  if past && !s.isExpert policyCal then .next (s.makeDue item.val).kickCal else .next s

/-- The temperature trigger of an item: moved by more than dT_cal since its last run, or, for item 3, the first temperature
that can be taken (R549, R551). -/
def State.triggered (s : State) (k : Nat) : Bool :=
  let x := s.calItem k
  let now := s.calTemps k
  let moved (i : Nat) : Bool := match now.getD i none, x.trigger.getD i none with
    | some a, some b => decide (16 * s.thm.dtCal < (a - b).natAbs)
    | _, _ => false
  moved 0 || moved 1 || (k == 3 && (x.trigger.getD 0 none).isNone && (now.getD 0 none).isSome)

/-- The temperature triggers at a sample (R549, R553). -/
def State.calTriggers (s : State) : State :=
  if s.isExpert policyCal && s.thm.manual then s
  else
    ([0, 1, 2, 3].foldl (fun s k =>
      if !(s.calItem k).due && s.thm.running != some k && s.triggered k then s.makeDue k else s) s).kickCal

/-- The lowest 4 bits of a mask as item numbers. -/
def itemsOf (m : Nat) : List Nat := [0, 1, 2, 3].filter (bitOf m)

/-- THM_CAL_RUN (R552): the items fall due at once. -/
def runThmCalRun (t : Nat) (p : Packet) (s : State) : Answer :=
  let m := p.u8 16
  if m = 0 ∨ 16 ≤ m then refuse .badParam 16
  else if (itemsOf m).any fun k => !(s.calItem k).inUse then refuse .wrongState noField
  else if s.thm.calRun.isSome then refuse .busy noField
  else
    let s := (itemsOf m).foldl (fun s k => (s.makeDue k).updItem k fun x => { x with deferred := false }) s
    let s := s.kickCal
    let off := (itemsOf m).filter fun k => (s.calItem k).deferred
    let d := sumNat (off.map fun k => 2 ^ (8 + k))
    let left := m - sumNat (off.map (2 ^ ·))
    if left = 0 then .accepted s (some (.ok, d))
    else .accepted { s with thm.calRun := some (t, m, left, d) } none

/-- THM_CAL_RUN (R552). -/
def execThmCalRun (p : Packet) (s : State) : Host.Outcome State Fault Refusal :=
  .next (s.issue .thmCalRun runThmCalRun p)

/-- THM_CAL_POLICY (R553). -/
def runThmCalPolicy (_t : Nat) (p : Packet) (s : State) : Answer :=
  let m := p.u8 17
  if p.u8 16 < 1 ∨ 20 < p.u8 16 then refuse .badParam 16
  else if 32 ≤ m then refuse .badParam 17
  else
    let s := s.standDown p policyCal
    let s := { s with thm.dtCal := p.u8 16, thm.manual := bitOf m 4 }
    let s := [0, 1, 2, 3].foldl (fun s k =>
      if bitOf m k then s.updItem k fun x => { x with inUse := true }
      else
        let s := s.updItem k fun x => { x with inUse := false, due := false, deferred := false }
        let s := if s.thm.running = some k then s.abandonCal else s
        s.calRunItem k 0) s
    okay ((if bitOf m 3 then s else { s with ray.dt16Next := 0 }).kickCal)

/-- The calibration schedule is basic again (R553). -/
def State.basicCal (s : State) : State :=
  let s := { s with thm.dtCal := 5, thm.manual := false }
  ([0, 1, 2, 3].foldl (fun s k => s.updItem k fun x => { x with inUse := true }) s).kickCal

/-- THM_RELEASE (R544): both policies of the class return to basic. -/
def runThmRelease (_t : Nat) (p : Packet) (s : State) : Answer :=
  let s := (s.setPolicy policyPower false 1 p.src.ringNo p.tag).setPolicy policyCal false 1 p.src.ringNo p.tag
  okay s.basicPower.basicCal

/-- The calibration word (R558). -/
def State.calWord (s : State) (k : Nat) : Nat :=
  let x := s.calItem k
  x.result + 4 * b2n x.inUse + 8 * b2n x.untraced + 16 * b2n x.freqUntraced + 32 * b2n s.thm.manual +
    64 * b2n (x.due && s.thm.running != some k) + 128 * b2n x.deferred + 65536 * x.runs

/-- The power-loss sequence gates the ray cores and the idle codec cores (R605). -/
def State.lossGates (s : State) (n : Nat) : Bool :=
  s.pwr.loss.isSome && (decide (n < 104) || (decide (108 ≤ n ∧ n < 120) && (s.dec.cores.getD (n - 108) none).isNone))

/-- Clock of an island from 8 to 120, MHz, 0 when gated (R15, R554, R605). -/
def State.islandMhz (s : State) (n : Nat) : Nat :=
  if s.lossGates n then 0
  else if n < 104 then
    let core := n - 8
    if s.coreGated core then 0
    else s.thm.rayMhz.getD (quadOfCore core) 0
  else if n < 108 then 2000
  else if n < 120 then s.thm.codecMhz.getD ((n - 108) / 3) 0
  else s.thm.blitMhz

/-- Milliseconds spent at 8.0 W (R554). -/
def State.floorMs (s : State) : Nat := (s.thm.floorNs + s.thm.floorSince.elim 0 (s.mtNs - ·)) / 1000000

/-- THM_READ (R554). The estimated power of one island is a free value. -/
def runThmRead (_t : Nat) (p : Packet) (s : State) : Answer :=
  let i := p.u8 17
  let bad := refuse .badParam 17
  match p.u8 16 with
  | 0 => if 39 < i then bad else okay s (unsignedOf 32 (s.sensor i).reading) (s.sensorWord i)
  | 1 =>
    if 5 < i then bad
    else okay s (s.domainWord i) (unsignedOf 32 (if i = 5 then s.thm.t16 else s.thm.domTemp.getD i 0))
  | 2 => if i ≠ 0 then bad else okay s s.limitWord s.thm.pEst
  | 3 =>
    if i < 8 ∨ 120 < i then bad
    else
      let (w, s) := s.drawFree
      okay s (s.islandMhz i) w
  | 4 =>
    if 3 < i then bad
    else okay s (s.calWord i) (match (s.calItem i).lastNs with
      | some t => (s.mtNs - t) / 1000000000
      | none => 0xFFFFFFFF)
  | 5 => if i ≠ 0 then bad else okay s s.thm.vrefUv (unsignedOf 32 s.thm.xinPpb)
  | 6 => if i ≠ 0 then bad else okay s s.thm.episodes.toNat s.floorMs
  | _ => refuse .badParam 16

/-- THM_CAL_POLICY (R553). -/
def execThmCalPolicy (p : Packet) (s : State) : Host.Outcome State Fault Refusal :=
  .next (s.issue .thmCalPolicy runThmCalPolicy p)
/-- THM_RELEASE (R544). -/
def execThmRelease (p : Packet) (s : State) : Host.Outcome State Fault Refusal := .next (s.issue .thmRelease runThmRelease p)
/-- THM_READ (R554). -/
def execThmRead (p : Packet) (s : State) : Host.Outcome State Fault Refusal := .next (s.issue .thmRead runThmRead p)

end Sys2Proof.Machine
end

