-- ==== Sys2Proof/Machine/Surface.lean ====
section
/-!
DEFINITION. Surface formats, planes and pixels (R266, R267, R416 to R418), for layers, blits and encode sources.
-/

namespace Sys2Proof.Machine

/-! ## Formats (R266, R418) -/

/-- One plane of a format: bytes of an element, and whether it has half the width and half the height. -/
structure PlaneFmt where
  bytes : Nat
  halfX : Bool
  halfY : Bool
  deriving DecidableEq, Repr

/-- The planes of a format code, none for a code that is not defined. -/
def planesOf : Nat → List PlaneFmt
  | 0x01 | 0x02 | 0x04 | 0x20 => [⟨4, false, false⟩]
  | 0x03 | 0x06 => [⟨2, false, false⟩]
  | 0x05 => [⟨1, false, false⟩]
  | 0x10 => [⟨1, false, false⟩, ⟨2, true, true⟩]
  | 0x11 => [⟨2, false, false⟩, ⟨4, true, true⟩]
  | 0x12 => [⟨1, false, false⟩, ⟨2, true, false⟩]
  | 0x13 => [⟨1, false, false⟩, ⟨1, true, true⟩, ⟨1, true, true⟩]
  | _ => []

/-- A YUV format. -/
def isYuv (f : Nat) : Bool := decide (0x10 ≤ f ∧ f ≤ 0x13)
/-- x and w of rectangles must be even. -/
def evenX (f : Nat) : Bool := isYuv f
/-- y and h of rectangles must be even. -/
def evenY (f : Nat) : Bool := isYuv f && f != 0x12
/-- Address alignment of a format, bytes. -/
def addrAlign (f : Nat) : Nat := if isYuv f || f == 0x20 then 256 else 64
/-- Pitch multiple of plane `i` of a format, bytes. -/
def pitchAlign (f i : Nat) : Nat := if f == 0x13 && i != 0 then 128 else addrAlign f
/-- The greatest pitch. -/
def pitchMax : Nat := 1048576

/-- Width of a plane in elements. -/
def PlaneFmt.width (p : PlaneFmt) (w : Nat) : Nat := if p.halfX then w / 2 else w
/-- Lines of a plane. -/
def PlaneFmt.lines (p : PlaneFmt) (h : Nat) : Nat := if p.halfY then h / 2 else h

/-- The address of an element of a plane. -/
def Planes.elem (s : Planes) (f i x y : Nat) : Nat :=
  s.addrs.getD i 0 + y * s.pitches.getD i 0 + x * ((planesOf f).getD i ⟨0, false, false⟩).bytes

/-- The number stored at an element of a plane. -/
def State.elemAt (s : State) (p : Planes) (f i x y : Nat) : Nat :=
  leNat (s.readAt ⟨true, p.elem f i x y⟩ ((planesOf f).getD i ⟨0, false, false⟩).bytes)

/-! ## Components (R9, R267) -/

/-- A 5-bit component widened. -/
def widen5 (v : Nat) : Nat := v * 32 + v
/-- A 6-bit component widened. -/
def widen6 (v : Nat) : Nat := v * 16 + v / 4

/-- Component `ch` (0 R, 1 G, 2 B, 3 alpha) of a stored RGB pixel, widened to 10 bits. -/
def rgbComp (f v ch : Nat) : Nat :=
  match f, ch with
  | 0x01, c => widen8 (bitsOf v (8 * c) 8)
  | 0x02, 3 => widen8 (bitsOf v 24 8)
  | 0x02, c => widen8 (bitsOf v (8 * (2 - c)) 8)
  | 0x03, 0 => widen5 (bitsOf v 11 5)
  | 0x03, 1 => widen6 (bitsOf v 5 6)
  | 0x03, 2 => widen5 (bitsOf v 0 5)
  | 0x04, 3 => bitsOf v 30 2 * 341
  | 0x04, c => bitsOf v (10 * c) 10
  | 0x05, 3 => widen8 (v % 256)
  | _, 3 => 1023
  | _, _ => 0

/-- Luma, Cb or Cr (0, 1, 2) of a YUV picture at an element of its own plane, widened, from what its planes store. -/
def yuvOf (elem : Nat → Nat → Nat → Nat) (f ch x y : Nat) : Nat :=
  match f with
  | 0x11 => if ch = 0 then elem 0 x y % 1024 else bitsOf (elem 1 x y) (16 * (ch - 1)) 10
  | 0x13 => widen8 (elem ch x y)
  | _ => if ch = 0 then widen8 (elem 0 x y) else widen8 (bitsOf (elem 1 x y) (8 * (ch - 1)) 8)

/-- Luma, Cb or Cr (0, 1, 2) of a YUV surface at an element of its own plane, widened. -/
def State.yuvAt (s : State) (p : Planes) (f ch x y : Nat) : Nat := yuvOf (s.elemAt p f) f ch x y

/-- A 10-bit value narrowed to `n` bits (R428). -/
def narrow (n v : Nat) : Nat := (v * (2 ^ n - 1) + 511) / 1023

/-! ## Checks (R417, R418) -/

/-- Offsets of pitch and address of plane `i` in a packet. -/
structure PlaneOffs where
  pitch : Nat → Nat
  addr : Nat → Nat

/-- The field of the first used plane whose address or pitch breaks the alignments of its format. -/
def planesAligned (f : Nat) (pl : Planes) (o : PlaneOffs) : Option Nat :=
  ((List.range (planesOf f).length).filterMap fun i =>
    if pl.addrs.getD i 0 % addrAlign f ≠ 0 then some (o.addr i)
    else if pl.pitches.getD i 0 % pitchAlign f i ≠ 0 || decide (pitchMax < pl.pitches.getD i 0) then some (o.pitch i)
    else none).head?

/-- The field of the first plane whose pitch is too small for `w` pixels, that is unused and not 0, or used and 0, or that
does not lie with `h` lines in the memory of a function. Addresses are as a packet carries them. -/
def State.planesFit (s : State) (x : Src) (f w h : Nat) (pl : Planes) (o : PlaneOffs) : Option Nat :=
  let fs := planesOf f
  ((List.range 3).filterMap fun i =>
    let a := pl.addrs.getD i 0
    let pitch := pl.pitches.getD i 0
    match fs[i]? with
    | none => if pitch ≠ 0 then some (o.pitch i) else if a ≠ 0 then some (o.addr i) else none
    | some q =>
      let line := q.width w * q.bytes
      if pitch < line || pitch = 0 then some (o.pitch i)
      else if a < 0x8000000000000000 then some (o.addr i)
      else if (s.resolve x a ((q.lines h - 1) * pitch + line)).isNone then some (o.addr i)
      else none).head?

/-- The planes with the addresses of device memory in place of the packet's. -/
def State.absPlanes (s : State) (x : Src) (pl : Planes) : Planes :=
  { pl with addrs := pl.addrs.map fun a => match s.resolve x a 0 with
      | some l => if a = 0 then 0 else l.addr
      | none => 0 }

end Sys2Proof.Machine
end

