-- ==== Sys2Proof/Machine/Layers.lean ====
section
/-!
DEFINITION. What a layer gives at a position, and how layers are blended (R279 to R289).
-/

namespace Sys2Proof.Machine

/-- div1023 of R287. -/
def div1023 (t : Nat) : Nat := (t + 512 + (t + 512) / 1024) / 1024

/-- A position in a layer in 1/64 panel pixel, relative to its top left corner; none where it is not covered (R279). -/
def LayerAttr.place (a : LayerAttr) (full : Bool) (px py : Int) (u v : Int) : Option (Int × Int) :=
  let hs := asr (a.depth * u + 8192) 14
  let vs := if full then clampInt (asr (a.depth * v + 8192) 14) (-64) 64 else 0
  let dx := px - 64 * a.dstX + hs
  let dy := py - 64 * a.dstY + vs
  if -32 ≤ dx ∧ dx < 64 * (a.dstW : Int) - 32 ∧ -32 ≤ dy ∧ dy < 64 * (a.dstH : Int) - 32 then some (dx, dy) else none

/-- A coordinate clamped to a rectangle that starts at `lo` and has `n` samples. -/
def clampTo (i : Int) (lo n : Nat) : Nat := (clampInt i lo (lo + n - 1 : Nat)).toNat

/-! ## Graphic layers (R281) -/

/-- The bilinear sample of a component of a graphic layer. -/
def bilinear (sample : Nat → Nat → Nat) (a : LayerAttr) (dx dy : Int) : Nat :=
  let sx := 64 * (a.srcX : Int) + dx
  let sy := 64 * (a.srcY : Int) + dy
  let fx := (sx % 64).toNat
  let fy := (sy % 64).toNat
  let xa := clampTo (asr sx 6) a.srcX a.srcW
  let xb := clampTo (asr sx 6 + 1) a.srcX a.srcW
  let ya := clampTo (asr sy 6) a.srcY a.srcH
  let yb := clampTo (asr sy 6 + 1) a.srcY a.srcH
  let t := (sample xa ya * (64 - fx) + sample xb ya * fx) * (64 - fy) +
    (sample xa yb * (64 - fx) + sample xb yb * fx) * fy
  (t + 2048) / 4096

/-! ## Video layers (R282 to R284) -/

/-- 2 d^3 K(n / d) for the Keys kernel, d positive (R284). -/
def keys (n : Int) (d : Nat) : Int :=
  let a : Int := (n.natAbs : Nat)
  let e : Int := (d : Nat)
  if a ≤ e then 3 * a * a * a - 5 * a * a * e + 2 * e * e * e
  else if a < 2 * e then -(a * a * a) + 5 * a * a * e - 8 * a * e * e + 4 * e * e * e
  else 0

/-- The unadjusted coefficients of a built-in set at a phase: `taps` taps, stretch `sn / 4`. -/
def keysRow (taps sn ph : Nat) : List Int :=
  (List.range taps).map fun (k : Nat) =>
    let n : Int := 64 * ((k : Int) - (taps / 2 : Nat) + 1) - ph
    rndDiv (1024 * keys n (16 * sn)) (sn * (2 * (16 * sn) ^ 3))

/-- The index of the largest of a list, the lower on a tie. -/
def largest (l : List Int) : Nat :=
  (List.range l.length).foldl (fun b k => if l.getD b 0 < l.getD k 0 then k else b) 0

/-- The sum of a list of integers. -/
def sumInt : List Int → Int
  | [] => 0
  | x :: xs => x + sumInt xs

/-- A built-in set at a phase: the largest tap takes what is missing to 256 (R284). -/
def builtIn (taps sn ph : Nat) : List Int :=
  let row := keysRow taps sn ph
  updAt row (largest row) fun c => c + (256 - sumInt row)

/-- Stretch of the horizontal set in quarters. -/
def LayerAttr.stretch (a : LayerAttr) : Nat := max 4 (min 8 (ceilDiv (4 * a.srcW) a.dstW))

/-- The horizontal taps of a layer at a phase (R284, R286). -/
def LayerView.taps (l : LayerView) (ph : Nat) : List Int :=
  match l.attr.userCoef, l.userH with
  | true, some t => (t.drop (8 * ph)).take 8
  | _, _ => builtIn 8 l.attr.stretch ph

/-- The vertical taps of a layer at a phase. -/
def LayerView.vtaps (l : LayerView) (ph : Nat) : List Int :=
  match l.attr.userCoef, l.userV with
  | true, some t => (t.drop (4 * ph)).take 4
  | _, _ => builtIn 4 4 ph

/-- The filtered value of a plane at a position, within a rectangle of it (R283). -/
def polyphase (l : LayerView) (sample : Nat → Nat → Nat) (px py : Int) (x0 w y0 h : Nat) : Nat :=
  let hc := l.taps (px % 64).toNat
  let vc := l.vtaps (py % 64).toNat
  let iv (k : Nat) : Int :=
    let c := clampTo (asr px 6 - 3 + k) x0 w
    asr (sumInt ((List.range 4).map fun m =>
      vc.getD m 0 * (sample c (clampTo (asr py 6 - 1 + m) y0 h) : Nat)) + 16) 5
  (clampInt (asr (sumInt ((List.range 8).map fun k => hc.getD k 0 * iv k) + 1024) 11) 0 1023).toNat

/-- Luma position of a covered video layer on one axis (R282). -/
def videoPos (d : Int) (src srcW dstW : Nat) : Int := 64 * (src : Int) + ((d + 32) * srcW) / (dstW : Nat) - 32

/-- Channel `ch` (0 R, 1 G, 2 B, 3 alpha) of a video layer (R282, R283). -/
def State.videoSample (s : State) (l : LayerView) (dx dy : Int) (ch : Nat) : Nat :=
  let a := l.attr
  let lx := videoPos dx a.srcX a.srcW a.dstW
  let ly := videoPos dy a.srcY a.srcH a.dstH
  if isYuv a.format then
    if ch = 3 then 1023
    else
      let tall := evenY a.format
      let cx := asr lx 1
      let cy := if tall then asr (ly - 32) 1 else ly
      let luma := polyphase l (s.yuvAt l.surface a.format 0) lx ly a.srcX a.srcW a.srcY a.srcH
      let chroma (c : Nat) := polyphase l (s.yuvAt l.surface a.format c) cx cy (a.srcX / 2) (a.srcW / 2)
        (if tall then a.srcY / 2 else a.srcY) (if tall then a.srcH / 2 else a.srcH)
      yuvChannel (yuvCoef a.matrix a.range) ch luma (chroma 1) (chroma 2)
  else
    polyphase l (fun x y => rgbComp a.format (s.elemAt l.surface a.format 0 x y) ch) lx ly a.srcX a.srcW a.srcY a.srcH

/-! ## Blending (R287, R288) -/

/-- The value of a channel of a layer at a covered position (R281, R283, R288). -/
def State.layerSample (s : State) (video : Bool) (l : LayerView) (dx dy : Int) (ch : Nat) : Nat :=
  if video then s.videoSample l dx dy ch
  else if l.attr.format = 0x05 ∧ ch < 3 then bitsOf l.attr.constColour (10 * ch) 10
  else bilinear (fun x y => rgbComp l.attr.format (s.elemAt l.surface l.attr.format 0 x y) ch) l.attr dx dy

/-- The alpha of a layer from its sampled alpha (R287). -/
def LayerAttr.alpha (a : LayerAttr) (ap : Nat) : Nat :=
  match a.alphaMode with
  | 0 => ap
  | 1 => a.constAlpha
  | _ => div1023 (ap * a.constAlpha)

/-- One layer over a value (R288). -/
def State.blendLayer (s : State) (full : Bool) (px py u v : Int) (ch : Nat) (d : Nat) (n : Nat) (l : LayerView) : Nat :=
  match l.attr.place full px py u v with
  | none => d
  | some (dx, dy) =>
    let a := l.attr.alpha (s.layerSample (decide (n < 2)) l dx dy 3)
    div1023 (s.layerSample (decide (n < 2)) l dx dy ch * a + d * (1023 - a))

/-- Layers from number `n` up over a value; an entry that is none covers nothing. -/
def State.blendLayers (s : State) (full : Bool) (px py u v : Int) (ch : Nat) : Nat → Nat → List (Option LayerView) → Nat
  | _, d, [] => d
  | n, d, none :: ls => State.blendLayers s full px py u v ch (n + 1) d ls
  | n, d, some l :: ls =>
    State.blendLayers s full px py u v ch (n + 1) (s.blendLayer full px py u v ch d n l) ls

/-- What a layer shows while it is SHOWING (R268). -/
def Layer.view (l : Layer) : Option LayerView :=
  match l.attr, l.surface with
  | some a, some p => some ⟨a, p, l.flipBytes, l.userH, l.userV⟩
  | _, _ => none

/-- The layers as composed now. -/
def State.layerViews (s : State) : List (Option LayerView) := s.cmp.layers.map Layer.view

end Sys2Proof.Machine
end

