-- ==== Sys2Proof/Machine/Blt.lean ====
section
/-!
DEFINITION. The blit engine: surface descriptors, command lists, their checks, their order and what an entry writes
(R416 to R435).
-/

namespace Sys2Proof.Machine

/-! ## Descriptors (R416 to R419) -/

/-- A function may write and name a descriptor: a VF those of its grant, the PF all that no VF has (R416). -/
def State.descAllowed (s : State) (f : Func) (i : Nat) : Bool :=
  let inside (g : Grant) : Bool := decide (g.descFirst ≤ i ∧ i < g.descFirst + g.descCount)
  decide (i < 1024) && match f with
    | .pf => !s.fns.any fun x => inside x.grant
    | .vf _ => inside (s.fn f).grant

/-- The planes that descriptor `k` of a BLT_SURFACE_SET carries. -/
def descPlanes (p : Packet) (k : Nat) : Planes :=
  let o := 32 + 64 * k
  ⟨[p.u64 (o + 24), p.u64 (o + 32), p.u64 (o + 40)], [p.u32 (o + 8), p.u32 (o + 12), p.u32 (o + 16)]⟩

/-- Offsets of the plane fields of descriptor `k`. -/
def descOffs (k : Nat) : PlaneOffs := ⟨fun i => 32 + 64 * k + 8 + 4 * i, fun i => 32 + 64 * k + 24 + 8 * i⟩

/-- The first byte of a list of offsets that is not 0. -/
def firstByte (p : Packet) (offs : List Nat) : Option Nat := offs.find? fun o => p.u8 o != 0

/-- Check 0x02 of R419 for descriptor `k`: the field at fault. -/
def descFault (p : Packet) (k : Nat) : Option Nat :=
  let o := 32 + 64 * k
  let f := p.u8 o
  let w := p.u16 (o + 4)
  let h := p.u16 (o + 6)
  if f ≠ 0 ∧ planesOf f = [] then some o
  else if f ≠ 0 ∧ (w = 0 ∨ 16384 < w ∨ (evenX f ∧ w % 2 ≠ 0)) then some (o + 4)
  else if f ≠ 0 ∧ (h = 0 ∨ 16384 < h ∨ (evenY f ∧ h % 2 ≠ 0)) then some (o + 6)
  else firstByte p ([o + 1, o + 2, o + 3] ++ (List.range 4).map (o + 20 + ·) ++ (List.range 16).map (o + 48 + ·))

/-- What a check of the descriptors finds first, over descriptors in order. -/
def firstDesc (count : Nat) (g : Nat → Option Nat) : Option Nat := ((List.range count).filterMap g).head?

/-- BLT_SURFACE_SET (R419). A length that does not match is refused as R419 says (log 62). -/
def runBltSurfaceSet (_t : Nat) (p : Packet) (s : State) : Answer :=
  let first := p.u16 16
  let count := p.u8 18
  let fmt (k : Nat) := p.u8 (32 + 64 * k)
  if count = 0 ∨ 3 < count ∨ p.length.toNat ≠ 8 + 16 * count then refuse .badParam 18 0x01
  else if !(List.range count).all fun k => s.descAllowed p.src.func (first + k) then refuse .badParam 16 0x01
  else match firstDesc count (descFault p) with
  | some off => refuse .badParam off 0x02
  | none => match firstDesc count fun k => planesAligned (fmt k) (descPlanes p k) (descOffs k) with
    | some off => refuse .alignment off 0x03
    | none =>
      match firstDesc count fun k =>
          s.planesFit p.src (fmt k) (p.u16 (32 + 64 * k + 4)) (p.u16 (32 + 64 * k + 6)) (descPlanes p k) (descOffs k) with
      | some off => refuse .badParam off 0x04
      | none =>
        let descOf (k : Nat) : Option SurfaceDesc :=
          if fmt k = 0 then none
          else some { format := fmt k, width := p.u16 (32 + 64 * k + 4), height := p.u16 (32 + 64 * k + 6),
                      planes := s.absPlanes p.src (descPlanes p k) }
        okay ((List.range count).foldl (fun (s : State) k =>
          { s with blt.descs := setAt s.blt.descs (first + k) (descOf k) }) s)

/-! ## Entries (R421) -/

/-- An entry from its 64 bytes. -/
def entryOf (b : List Byte) : BltEntry :=
  { op := fieldAt b 0 1, flags := fieldAt b 1 1, dst := fieldAt b 2 2, src := fieldAt b 4 2, fence := fieldAt b 6 2,
    dstX := fieldAt b 8 2, dstY := fieldAt b 10 2, w := fieldAt b 12 2, h := fieldAt b 14 2, srcX := fieldAt b 16 2,
    srcY := fieldAt b 18 2, alpha := fieldAt b 20 2, value0 := fieldAt b 24 4, value1 := fieldAt b 28 4 }

/-- Descriptor of a number, none when it is empty. -/
def State.desc (s : State) (i : Nat) : Option SurfaceDesc := s.blt.descs.getD i none

/-- The op writes a rectangle. -/
def BltEntry.writes (e : BltEntry) : Bool := decide (1 ≤ e.op ∧ e.op ≤ 4)
/-- The op reads a source. -/
def BltEntry.reads (e : BltEntry) : Bool := decide (2 ≤ e.op ∧ e.op ≤ 4)

/-- FILL values have no bits beyond the stored width (R425). -/
def fillOk (f v0 v1 : Nat) : Bool :=
  match f with
  | 0x10 | 0x12 | 0x13 => decide (v0 < 256 ∧ v1 % 65536 < 256 ∧ v1 / 65536 < 256)
  | 0x11 => decide (v0 < 1024 ∧ v1 % 65536 < 1024 ∧ v1 / 65536 < 1024)
  | 0x03 | 0x06 => decide (v0 < 65536 ∧ v1 = 0)
  | 0x05 => decide (v0 < 256 ∧ v1 = 0)
  | _ => decide (v1 = 0)

/-- Check 0x02 of R423: op, flags, and every field that the op does not use (R421). -/
def State.entryFieldsOk (s : State) (b : List Byte) (e : BltEntry) : Bool :=
  let rect := e.writes
  let dstF := ((s.desc e.dst).map (·.format)).getD 0
  let srcF := ((s.desc e.src).map (·.format)).getD 0
  let mode := e.flags % 4
  let flagsOk := match e.op with
    | 3 => decide (e.flags < 4 ∧ mode < 3)
    | 4 => if srcF = 0 || isYuv srcF then decide (e.flags < 32 ∧ mode = 0) else decide (e.flags = 0)
    | _ => decide (e.flags = 0)
  let alphaOk := if e.op = 3 then (if dstF = 0x04 ∨ dstF = 0 then decide (e.alpha < 1024) else decide (e.alpha < 256))
    else decide (e.alpha = 0)
  let valueOk := if e.op = 1 then dstF = 0 || fillOk dstF e.value0 e.value1
    else decide (e.value0 = 0 ∧ e.value1 = 0)
  decide (e.op ≤ 5) && flagsOk && alphaOk && valueOk &&
    (if rect then decide (1 ≤ e.w ∧ 1 ≤ e.h) else decide (e.dst = 0 ∧ e.dstX = 0 ∧ e.dstY = 0 ∧ e.w = 0 ∧ e.h = 0)) &&
    (e.reads || decide (e.src = 0 ∧ e.srcX = 0 ∧ e.srcY = 0)) && (e.op == 5 || e.fence == 0) &&
    (sliceZ b 22 2).all (· == 0) && (sliceZ b 32 32).all (· == 0)

/-- Formats that CONVERT writes. -/
def convertTo (f : Nat) : Bool := decide (1 ≤ f ∧ f ≤ 4)
/-- Formats that CONVERT reads. -/
def convertFrom (f : Nat) : Bool := decide (1 ≤ f ∧ f ≤ 4) || isYuv f

/-- Check 0x04 of R423: the pair of formats (R422). -/
def pairOk (e : BltEntry) (d : SurfaceDesc) (sf : Nat) : Bool :=
  match e.op with
  | 2 => sf == d.format
  | 3 => sf == d.format && (d.format == 1 || d.format == 2 || d.format == 4)
  | 4 => convertTo d.format && convertFrom sf && sf != d.format &&
      (!isYuv sf || e.flags / 4 % 4 == 1 || e.flags / 4 % 4 == 2)
  | _ => true

/-- A rectangle lies inside a surface. -/
def SurfaceDesc.contains (d : SurfaceDesc) (x y w h : Nat) : Bool := decide (x + w ≤ d.width ∧ y + h ≤ d.height)

/-- A rectangle meets the even coordinates of its surface's format. -/
def SurfaceDesc.evenRect (d : SurfaceDesc) (x y w h : Nat) : Bool :=
  (!evenX d.format || (x % 2 == 0 && w % 2 == 0)) && (!evenY d.format || (y % 2 == 0 && h % 2 == 0))

/-- The span of a rectangle on a plane: first byte, and the byte after the last (R431). -/
def SurfaceDesc.span (d : SurfaceDesc) (i x y w h : Nat) : Nat × Nat :=
  let q := (planesOf d.format).getD i ⟨0, false, false⟩
  let x0 := q.width x
  let y0 := q.lines y
  (d.planes.elem d.format i x0 y0, d.planes.elem d.format i (x0 + q.width w - 1) (y0 + q.lines h - 1) + q.bytes)

/-- The spans of a rectangle on every plane. -/
def SurfaceDesc.spans (d : SurfaceDesc) (x y w h : Nat) : List (Nat × Nat) :=
  (List.range (planesOf d.format).length).map fun i => d.span i x y w h

/-- Some span of one list meets some span of another. -/
def spansMeet (a b : List (Nat × Nat)) : Bool := a.any fun u => b.any fun v => decide (u.1 < v.2 ∧ v.1 < u.2)

/-- Equal format, addresses and pitches (R431). -/
def sharedGeometry (a b : SurfaceDesc) : Bool := a.format == b.format && a.planes == b.planes

/-- Source and destination of an entry overlap (R431). -/
def BltEntry.overlaps (e : BltEntry) (d sd : SurfaceDesc) : Bool :=
  if sharedGeometry d sd then
    decide (e.dstX < e.srcX + e.w ∧ e.srcX < e.dstX + e.w ∧ e.dstY < e.srcY + e.h ∧ e.srcY < e.dstY + e.h)
  else spansMeet (d.spans e.dstX e.dstY e.w e.h) (sd.spans e.srcX e.srcY e.w e.h)

/-- The checks 0x05, 0x06, 0x08 and 0x09 for an entry whose descriptors are known. -/
def rectFault (e : BltEntry) (d : SurfaceDesc) (sd : Option SurfaceDesc) : Option (Status × Nat) :=
  let srcIn := match sd with
    | some x => x.contains e.srcX e.srcY e.w e.h
    | none => true
  let srcEven := match sd with
    | some x => x.evenRect e.srcX e.srcY e.w e.h
    | none => true
  if !d.contains e.dstX e.dstY e.w e.h || !srcIn then some (.badParam, 0x05)
  else if !d.evenRect e.dstX e.dstY e.w e.h || !srcEven then some (.alignment, 0x06)
  else match sd with
    | none => none
    | some x =>
      if e.op = 4 then (if e.overlaps d x then some (.overlapConvert, 0x08) else none)
      else if !sharedGeometry d x && e.overlaps d x then some (.badParam, 0x09)
      else none

/-- The checks of R423 for one entry: status and detail of the first that fails. -/
def State.checkEntry (s : State) (f : Func) (b : List Byte) : Option (Status × Nat) :=
  let e := entryOf b
  if !s.entryFieldsOk b e then some (.badParam, 0x02)
  else if e.op = 5 then (if (fenceIndex f e.fence).isNone then some (.badParam, 0x07) else none)
  else if !e.writes then none
  else
    let sd := if e.reads then s.desc e.src else none
    match s.desc e.dst with
    | none => some (.badParam, 0x03)
    | some d =>
      if !s.descAllowed f e.dst || (e.reads && (!s.descAllowed f e.src || sd.isNone)) then some (.badParam, 0x03)
      else if !pairOk e d ((sd.map (·.format)).getD 0) then some (.badParam, 0x04)
      else rectFault e d sd

/-- The first entry that fails, with its status and detail. -/
def State.checkEntries (s : State) (f : Func) : Nat → List (List Byte) → Option (Nat × Status × Nat)
  | _, [] => none
  | i, b :: bs => match s.checkEntry f b with
    | some (st, d) => some (i, st, d)
    | none => State.checkEntries s f (i + 1) bs

/-- `n` entries of 64 bytes. -/
def cutEntries : Nat → List Byte → List (List Byte)
  | 0, _ => []
  | n + 1, b => b.take 64 :: cutEntries n (b.drop 64)

/-- BLT_RUN (R420, R423). -/
def runBltRun (t : Nat) (p : Packet) (s : State) : Answer :=
  let n := p.u16 16
  let addr := p.u64 24
  if n = 0 ∨ 4096 < n then refuse .badParam 16 0x01
  else if addr % 64 ≠ 0 then refuse .alignment 24 0x01
  else if addr < 0x8000000000000000 then refuse .badParam 24 0x01
  else match s.resolve p.src addr (64 * n) with
  | none => refuse .badParam 24 0x01
  | some l =>
    let bs := cutEntries n (s.readAt l (64 * n))
    match s.checkEntries p.src.func 0 bs with
    | some (i, st, d) => .refused ⟨st, noField, 65536 * i + d⟩
    | none => .started { s with blt.lists := s.blt.lists ++
        [({ ticket := t, owner := p.src.func, entries := bs.map entryOf } : BltList)] } false

/-! ## Order (R433) -/

/-- The spans that an entry writes. -/
def BltEntry.dstSpans (e : BltEntry) : List (Nat × Nat) :=
  match e.writes, e.dstD with
  | true, some d => d.spans e.dstX e.dstY e.w e.h
  | _, _ => []

/-- The spans that an entry reads. -/
def BltEntry.srcSpans (e : BltEntry) : List (Nat × Nat) :=
  match e.reads, e.srcD with
  | true, some d => d.spans e.srcX e.srcY e.w e.h
  | _, _ => []

/-- An earlier entry holds a later one back (R433). -/
def BltEntry.holds (early late : BltEntry) : Bool :=
  early.state != 2 &&
    (spansMeet early.dstSpans late.dstSpans || spansMeet early.dstSpans late.srcSpans ||
      spansMeet early.srcSpans late.dstSpans)

/-- The entries of lists committed before one. -/
def State.earlierEntries (s : State) (order : Nat) : List BltEntry :=
  (s.blt.lists.filter fun l => l.order.any fun o => decide (o < order)).flatMap (·.entries)

/-- Entry `k` of a committed list may start. -/
def State.entryReady (s : State) (l : BltList) (k : Nat) (e : BltEntry) : Bool :=
  let own := l.entries.take k
  if e.op = 5 then own.all fun x => x.state == 2
  else !own.any (fun x => x.holds e) && !(s.earlierEntries (l.order.getD 0)).any fun x => x.holds e

/-- Change list `i`. -/
def State.updList (s : State) (i : Nat) (g : BltList → BltList) : State := { s with blt.lists := updAt s.blt.lists i g }

/-- An entry with copies of the descriptors that it names as they stand now (R424). -/
def State.withDescs (s : State) (e : BltEntry) : BltEntry :=
  { e with dstD := if e.writes then s.desc e.dst else none, srcD := if e.reads then s.desc e.src else none }

/-- List `i` touches bytes that a list started before it and not yet committed is to write, or writes what that list is to
read: blits to overlapping destinations land in submission order (R433). -/
def State.listHeld (s : State) (i : Nat) (l : BltList) : Bool :=
  let own := l.entries.map s.withDescs
  (s.blt.lists.take i).any fun a => a.order.isNone &&
    (a.entries.map s.withDescs).any fun x => own.any fun y => x.holds y

/-- A list commits: it copies every descriptor that it names, and takes its place in the order (R424). -/
def State.commitList (s : State) (i : Nat) (l : BltList) : State :=
  let copy := s.withDescs
  let s := s.commitFlight l.ticket
  { s.updList i fun l => { l with entries := l.entries.map copy, order := some s.blt.nextOrder } with
    blt.nextOrder := s.blt.nextOrder + 1 }

/-- Drop list `i` and answer its packet. -/
def State.endList (s : State) (i : Nat) (st : Status) (r0 r1 : Nat) : State :=
  match s.blt.lists[i]? with
  | none => s
  | some l => { s with blt.lists := s.blt.lists.eraseIdx i }.finish l.ticket st r0 r1

/-- The blit engine runs: it is neither held in reset, nor stopped by an unrecovered fault, nor in Dusk. -/
def State.bltRuns (s : State) : Bool :=
  s.sup.supState != 2 && !s.stopped && s.pwr.dusk != .asleep && !s.pwr.resetLow && !s.pwr.vsenseReset

/-- Mark entry `k` of list `i` running when it may start. -/
def State.startReady (s : State) (i k : Nat) : State :=
  match s.blt.lists[i]? with
  | none => s
  | some l => match l.entries[k]? with
    | none => s
    | some e =>
      if e.state = 0 && s.entryReady l k e then
        s.updList i fun l => { l with entries := updAt l.entries k fun e => { e with state := 1 } }
      else s

/-- BLT_ENTRY_START (R424, R433): the start of the first entry is the list's commit point; lists that touch common bytes commit
in the order in which they started. -/
def State.startEntry (s : State) (i k : Nat) : State :=
  if !s.bltRuns then s
  else match s.blt.lists[i]? with
    | none => s
    | some l =>
      if l.order.isSome then s.startReady i k
      else if k ≠ 0 || s.listHeld i l then s
      else match s.commitRefusal with
        | some st => s.endList i st noField 0
        | none =>
          if s.commitHeld l.ticket then s else
          -- the commit and the start of the first entry are one instant: both happen, or neither
          let s' := (s.commitList i l).startReady i 0
          match s'.blt.lists[i]? with
          | some l' => if (l'.entries.getD 0 (entryOf [])).state = 1 then s' else s
          | none => s

/-! ## Operations (R425 to R428, R432) -/

/-- One element to write: plane, column, row, value. -/
abbrev Elem := Nat × Nat × Nat × Nat

/-- The elements of plane `i` of a rectangle with what `g` gives them by their place in the plane's rectangle. -/
def planeElems (f i x y w h : Nat) (g : Nat → Nat → Nat) : List Elem :=
  let q := (planesOf f).getD i ⟨0, false, false⟩
  (List.range (q.lines h)).flatMap fun r => (List.range (q.width w)).map fun c =>
    (i, q.width x + c, q.lines y + r, g c r)

/-- Store elements. -/
def State.storeElems (s : State) (d : SurfaceDesc) : List Elem → State
  | [] => s
  | (i, x, y, v) :: es =>
    State.storeElems (s.writeAt ⟨true, d.planes.elem d.format i x y⟩
      (leBytes ((planesOf d.format).getD i ⟨0, false, false⟩).bytes v)) d es

/-- The element that FILL stores in plane `i` (R425). -/
def fillValue (f i v0 v1 : Nat) : Nat :=
  let cb := v1 % 65536
  let cr := v1 / 65536
  match i with
  | 0 => v0
  | 1 => match f with
    | 0x11 => cb + 65536 * cr
    | 0x13 => cb
    | _ => cb + 256 * cr
  | _ => cr

/-- div255 of R427. -/
def div255 (t : Nat) : Nat := (t + 128 + (t + 128) / 256) / 256

/-- The 2-bit alpha that a widened one is stored as (R427). -/
def narrowAlpha (a : Nat) : Nat := (3 * a + 511) / 1023

/-- A blended pixel of RGBA8, BGRA8 or RGB10A2 (R427). -/
def blendPixel (f mode const src dst : Nat) : Nat :=
  if f = 0x04 then
    let sa := rgbComp f src 3
    let a := if mode = 0 then sa else if mode = 1 then const else div1023 (sa * const)
    let mix (x y : Nat) := div1023 (x * a + y * (1023 - a))
    let ch (c : Nat) := mix (rgbComp f src c) (rgbComp f dst c)
    ch 0 + 1024 * ch 1 + 1048576 * ch 2 + 1073741824 * narrowAlpha (ch 3)
  else
    let by_ (v c : Nat) := bitsOf v (8 * c) 8
    let sa := by_ src 3
    let a := if mode = 0 then sa else if mode = 1 then const else div255 (sa * const)
    let ch (c : Nat) := div255 (by_ src c * a + by_ dst c * (255 - a))
    ch 0 + 256 * ch 1 + 65536 * ch 2 + 16777216 * ch 3

/-- Horizontal part of the chroma filter of R168. -/
def chromaAcross (c : Nat → Nat) (cw x : Nat) : Nat :=
  let cx := x / 2
  (c cx + c (if x % 2 = 0 then cx else min (cx + 1) (cw - 1)) + 1) / 2

/-- Channel `ch` of a source pixel, widened to 10 bits (R428). -/
def State.convertComp (s : State) (e : BltEntry) (sd : SurfaceDesc) (x y ch : Nat) : Nat :=
  if isYuv sd.format then
    if ch = 3 then 1023
    else
      let at_ (c i j : Nat) := s.yuvAt sd.planes sd.format c i j
      let cw := sd.width / 2
      let up (c : Nat) := if evenY sd.format then chromaUp (at_ c) cw (sd.height / 2) x y
        else chromaAcross (fun i => at_ c i y) cw x
      yuvChannel (yuvCoef (e.flags / 4 % 4) (e.flags / 16 % 2)) ch (at_ 0 x y) (up 1) (up 2)
  else rgbComp sd.format (s.elemAt sd.planes sd.format 0 x y) ch

/-- A pixel of an RGB format from widened components (R428). -/
def packRgb (f r g b a : Nat) : Nat :=
  match f with
  | 0x01 => narrow 8 r + 256 * narrow 8 g + 65536 * narrow 8 b + 16777216 * narrow 8 a
  | 0x02 => narrow 8 b + 256 * narrow 8 g + 65536 * narrow 8 r + 16777216 * narrow 8 a
  | 0x03 => narrow 5 r * 2048 + narrow 6 g * 32 + narrow 5 b
  | _ => r + 1024 * g + 1048576 * b + 1073741824 * narrowAlpha a

/-- What an entry writes, computed from the state before its first write (R432). -/
def State.entryElems (s : State) (e : BltEntry) (d : SurfaceDesc) : List Elem :=
  let planes := List.range (planesOf d.format).length
  match e.op, e.srcD with
  | 1, _ => planes.flatMap fun i => planeElems d.format i e.dstX e.dstY e.w e.h fun _ _ =>
      fillValue d.format i e.value0 e.value1
  | 2, some sd => planes.flatMap fun i =>
      let q := (planesOf d.format).getD i ⟨0, false, false⟩
      planeElems d.format i e.dstX e.dstY e.w e.h fun c r =>
        s.elemAt sd.planes sd.format i (q.width e.srcX + c) (q.lines e.srcY + r)
  | 3, some sd => planeElems d.format 0 e.dstX e.dstY e.w e.h fun c r =>
      blendPixel d.format (e.flags % 4) e.alpha (s.elemAt sd.planes sd.format 0 (e.srcX + c) (e.srcY + r))
        (s.elemAt d.planes d.format 0 (e.dstX + c) (e.dstY + r))
  | 4, some sd => planeElems d.format 0 e.dstX e.dstY e.w e.h fun c r =>
      let v := s.convertComp e sd (e.srcX + c) (e.srcY + r)
      packRgb d.format (v 0) (v 1) (v 2) (v 3)
  | _, _ => []

/-- The effect of a whole entry on memory and fences (R425 to R429); a list whose ring was discarded with its fences signals
none (R671). -/
def State.applyEntry (s : State) (owner : Func) (quiet : Bool) (e : BltEntry) : State :=
  if e.op = 5 then
    match fenceIndex owner e.fence with
    | some i => if quiet then s else s.signalFence i
    | none => s
  else match e.dstD with
    | none => s
    | some d => s.storeElems d (s.entryElems e d)

/-- BLT_ENTRY_COMPLETE (R429): the entry's writes end; the last one completes the list. -/
def State.completeEntry (s : State) (i k : Nat) : State :=
  if !s.bltRuns then s
  else match s.blt.lists[i]? with
    | none => s
    | some l => match l.entries[k]? with
      | none => s
      | some e =>
        if e.state ≠ 1 then s
        else
          let s := (s.requestAll 7 false e.srcSpans).requestAll 7 true e.dstSpans
          let s := s.applyEntry l.owner ((s.flight l.ticket).any (·.noSignal)) e
          let s := s.updList i fun l => { l with entries := updAt l.entries k fun e => { e with state := 2 } }
          if ((s.blt.lists.getD i l).entries.all fun x => x.state == 2) then s.endList i .ok l.entries.length 0 else s

/-- A poisoned word stops a committed list at an entry: its destination may be partly written, here by a free number of its
elements, and no later entry runs (R571). -/
def State.poisonEntry (s : State) (i k : Nat) : State :=
  match s.blt.lists[i]? with
  | none => s
  | some l => match l.entries[k]? with
    | none => s
    | some e =>
      if e.state ≠ 1 then s
      else
        let ran := (l.entries.filter fun x => x.state == 2).length
        let s := match e.dstD with
          | none => s
          | some d =>
            let es := s.entryElems e d
            let (v, s) := s.drawFree
            s.storeElems d (es.take (v % (es.length + 1)))
        s.endList i .hwFault ran k

/-- BLT_SURFACE_SET (R419). A length that does not match is refused as R419 says (log 62). -/
def execBltSurfaceSet (p : Packet) (s : State) : Host.Outcome State Fault Refusal :=
  .next (s.issue .bltSurfaceSet runBltSurfaceSet p)
/-- BLT_RUN (R420). -/
def execBltRun (p : Packet) (s : State) : Host.Outcome State Fault Refusal := .next (s.issue .bltRun runBltRun p)
/-- BLT_ENTRY_START (R433). -/
def execBltEntryStart (list entry : Nat) (s : State) : Host.Outcome State Fault Refusal := .next (s.startEntry list entry)
/-- BLT_ENTRY_COMPLETE (R429). -/
def execBltEntryComplete (list entry : Nat) (s : State) : Host.Outcome State Fault Refusal :=
  .next (s.completeEntry list entry)

end Sys2Proof.Machine
end

