-- ==== Sys2Proof/Machine/Cmp.lean ====
section
/-!
DEFINITION. Layer packets and the latch of pending layer changes (R268 to R278, R285, R286).
-/

namespace Sys2Proof.Machine

/-- Layer `n`. -/
def State.layer (s : State) (n : Nat) : Layer := s.cmp.layers.getD n {}

/-- Change layer `n`. -/
def State.updLayer (s : State) (n : Nat) (g : Layer → Layer) : State := { s with cmp.layers := updAt s.cmp.layers n g }

/-- Something of R320 asks for the base rate. -/
def State.askBase (s : State) : State := { s with dsp.wantBase := s.dsp.wantBase || s.dsp.rate != 0 }

/-- A layer number is in range, inside the grant of a VF, and for the PF in no VF's grant; a layer that a reset VF has not
yet given back is nobody's (R80, R82, R89, R270, log 127). -/
def State.layerAllowed (s : State) (x : Src) (n : Nat) : Bool :=
  decide (n < 8) && !(s.layer n).withdraw &&
    if x.isVf then (s.grantOf x).layers.getLsbD n
    else (allFuncs.drop 1).all fun f => !(s.fn f).grant.layers.getLsbD n

/-! ## CMP_LAYER_SET (R269 to R271, R285) -/

/-- The attributes that a CMP_LAYER_SET carries. -/
def layerAttrOf (p : Packet) : LayerAttr :=
  { userCoef := bitOf (p.u8 17) 0, format := p.u8 18, alphaMode := p.u8 19, dstX := p.int 20 2, dstY := p.int 22 2,
    dstW := p.u16 24, dstH := p.u16 26, srcX := p.u16 28, srcY := p.u16 30, srcW := p.u16 32, srcH := p.u16 34,
    constAlpha := p.u16 36, depth := p.int 38 2, constColour := p.u32 40, matrix := p.u8 44, range := p.u8 45,
    bytes := sliceZ p.body 0 32 }

/-- The format is allowed on the layer's kind (R266). -/
def formatOnLayer (n f : Nat) : Bool :=
  decide (1 ≤ f ∧ f ≤ 4) || (if n < 2 then isYuv f else f == 0x05)

/-- Source lines that a video layer's buffer holds (R285). -/
def bufferLines (srcW : Nat) : Nat := min 32 (65536 / srcW)

/-- The line-buffer limit of R285. -/
def LayerAttr.fitsBuffer (a : LayerAttr) : Bool :=
  decide (6 + 2 * ceilDiv a.srcH a.dstH ≤ bufferLines a.srcW ∧ a.srcH ≤ 8 * a.dstH)

/-- Check 0x03 of R270: the field at fault. -/
def alphaFault (a : LayerAttr) : Option Nat :=
  if 2 < a.alphaMode then some 19
  else if isYuv a.format then
    (if a.matrix ≠ 1 ∧ a.matrix ≠ 2 then some 44 else if 1 < a.range then some 45 else none)
  else if a.matrix ≠ 0 then some 44 else if a.range ≠ 0 then some 45 else none

/-- Check 0x04 of R270: the field at fault. -/
def evenFault (a : LayerAttr) : Option Nat :=
  if evenX a.format ∧ a.srcX % 2 ≠ 0 then some 28
  else if evenY a.format ∧ a.srcY % 2 ≠ 0 then some 30
  else if evenX a.format ∧ a.srcW % 2 ≠ 0 then some 32
  else if evenY a.format ∧ a.srcH % 2 ≠ 0 then some 34
  else none

/-- The sizes that R269 allows, of source and destination: the field at fault. -/
def sizeFault (a : LayerAttr) : Option Nat :=
  if a.dstW = 0 ∨ 16384 < a.dstW then some 24
  else if a.dstH = 0 ∨ 16384 < a.dstH then some 26
  else if a.srcW = 0 then some 32
  else if a.srcH = 0 then some 34
  else none

/-- Checks 0x05 to 0x07 of R270: detail and field. -/
def geometryFault (n : Nat) (a : LayerAttr) : Option (Nat × Nat) :=
  if n < 2 then
    match sizeFault a with
    | some off => some (0x06, off)
    | none =>
      if 8192 < a.srcW ∨ 8 * a.dstW < a.srcW then some (0x06, 32)
      else if !a.fitsBuffer then some (0x07, noField)
      else none
  else
    match sizeFault a with
    | some off => some (0x05, off)
    | none =>
      if 15360 < a.srcW then some (0x05, 32)
      else if 8640 < a.srcH then some (0x05, 34)
      else if a.dstW ≠ a.srcW then some (0x05, 24)
      else if a.dstH ≠ a.srcH then some (0x05, 26)
      else none

/-- Check 0x08 of R270: the field at fault. -/
def valueFault (a : LayerAttr) : Option Nat :=
  if a.depth < -16384 ∨ 16384 < a.depth then some 38
  else if 1023 < a.constAlpha then some 36
  else if 0x3FFFFFFF < a.constColour then some 40
  else none

/-- Check 0x09 of R270: format and source size stay, unless the layer is DISABLED, or READY with no flip pending. -/
def Layer.changeFault (l : Layer) (a : LayerAttr) : Option Nat :=
  let flips := l.flip.any fun f => f.surface.isSome
  if l.attr.isNone || (l.surface.isNone && !flips) then none
  else match l.attrNext.or l.attr with
    | none => none
    | some b =>
      if a.format ≠ b.format then some 18
      else if a.srcW ≠ b.srcW then some 32
      else if a.srcH ≠ b.srcH then some 34
      else none

/-- The checks of R270 in their order. -/
def State.checkLayerSet (s : State) (p : Packet) : Option Refused :=
  let n := p.u8 16
  let a := layerAttrOf p
  let bad (d off : Nat) : Option Refused := some ⟨.badParam, off, d⟩
  if p.u8 17 / 2 ≠ 0 then bad 0 17
  else if !s.layerAllowed p.src n then bad 0x01 16
  else if !formatOnLayer n a.format then bad 0x02 18
  else match alphaFault a with
  | some off => bad 0x03 off
  | none => match evenFault a with
    | some off => some ⟨.alignment, off, 0x04⟩
    | none => match geometryFault n a with
      | some (d, off) => bad d off
      | none => match valueFault a with
        | some off => bad 0x08 off
        | none => ((s.layer n).changeFault a).map fun off => ⟨.wrongState, off, 0x09⟩

/-- CMP_LAYER_SET (R271). -/
def runCmpLayerSet (_t : Nat) (p : Packet) (s : State) : Answer :=
  match s.checkLayerSet p with
  | some r => .refused r
  | none =>
    okay ((s.updLayer (p.u8 16) fun l =>
      { l with attrNext := some (layerAttrOf p), flip := l.flip.map fun f => { f with setAfter := true } }).askBase)

/-! ## CMP_FLIP and CMP_LAYER_OFF (R272 to R276) -/

/-- The planes that a CMP_FLIP carries. -/
def flipPlanes (p : Packet) : Planes := ⟨[p.u64 32, p.u64 40, p.u64 48], [p.u32 20, p.u32 24, p.u32 28]⟩

/-- Offsets of the plane fields of CMP_FLIP. -/
def flipOffs : PlaneOffs := ⟨fun i => 20 + 4 * i, fun i => 32 + 8 * i⟩

/-- A flip or CMP_LAYER_OFF becomes pending; the one before completes with SUPERSEDED (R72, R274, R276). -/
def State.pendFlip (s : State) (n t : Nat) (p : Packet) (surf : Option Planes) : State :=
  let old := (s.layer n).flip
  let s := s.updLayer n fun l => { l with flip := some { ticket := t, surface := surf, bytes := sliceZ p.body 0 40 } }
  let s := match old with
    | some f => s.finish f.ticket .superseded p.tag.toNat p.src.ringNo.toNat
    | none => s
  s.askBase

/-- CMP_FLIP (R273). A layer that is DISABLED, or whose CMP_LAYER_OFF is pending, needs a pending CMP_LAYER_SET (log 27). -/
def runCmpFlip (t : Nat) (p : Packet) (s : State) : Answer :=
  let n := p.u8 16
  let l := s.layer n
  let off := l.flip.any fun f => f.surface.isNone
  if !s.layerAllowed p.src n then refuse .badParam 16
  else if (l.attr.isNone || off) && l.attrNext.isNone then refuse .wrongState 16
  else match l.attrNext.or l.attr with
  | none => refuse .wrongState 16
  | some a =>
    let pl := flipPlanes p
    match planesAligned a.format pl flipOffs with
    | some off => refuse .alignment off
    | none => match s.planesFit p.src a.format (a.srcX + a.srcW) (a.srcY + a.srcH) pl flipOffs with
      | some off => refuse .badParam off
      | none => .started (s.pendFlip n t p (some (s.absPlanes p.src pl))) false

/-- CMP_LAYER_OFF (R275). -/
def runCmpLayerOff (t : Nat) (p : Packet) (s : State) : Answer :=
  let n := p.u8 16
  let l := s.layer n
  if !s.layerAllowed p.src n then refuse .badParam 16
  else if l.attr.isNone ∧ l.attrNext.isNone ∧ l.flip.isNone ∧ l.nextH.isNone ∧ l.nextV.isNone then refuse .wrongState 16
  else .started (s.pendFlip n t p none) false

/-! ## CMP_SCALER_COEF (R286) -/

/-- 16-bit coefficients of a table. -/
def coefsOf (b : List Byte) : List Int := halves b

/-- Every phase of a set with `taps` taps sums to 256. -/
def phasesSum (taps : Nat) (t : List Int) : Bool :=
  (List.range 64).all fun ph => sumInt ((t.drop (taps * ph)).take taps) == 256

/-- CMP_SCALER_COEF (R286). -/
def runCmpScalerCoef (_t : Nat) (p : Packet) (s : State) : Answer :=
  let n := p.u8 16
  let dir := p.u8 17
  let taps := if dir = 0 then 8 else 4
  if 1 < n ∨ s.layerAllowed p.src n = false then refuse .badParam 16
  else if 1 < dir then refuse .badParam 17
  else if p.u64 24 % 4 ≠ 0 then refuse .alignment 24
  else match s.resolve p.src (p.u64 24) (128 * taps) with
  | none => refuse .badParam 24
  | some loc =>
    let t := coefsOf (s.readAt loc (128 * taps))
    if t.any fun c => c < -256 || 511 < c then refuse .badParam noField 0x01
    else if !phasesSum taps t then refuse .badParam noField 0x02
    else okay ((s.updLayer n fun l =>
      if dir = 0 then { l with nextH := some t } else { l with nextV := some t }).askBase)

/-! ## The latch (R31, R271, R274, R275, R278) -/

/-- The layer's state after its pending changes have latched, none of them a flip. -/
def Layer.latchPlain (l : Layer) : Layer :=
  { l with attr := l.attrNext.or l.attr, attrNext := none, userH := l.nextH.or l.userH, nextH := none,
           userV := l.nextV.or l.userV, nextV := none }

/-- The layer's state after a flip has latched with everything else that is pending. -/
def Layer.latchFlip (l : Layer) (f : PendFlip) (dfn psn : Word) : Layer :=
  let r : Release := { ticket := f.ticket, old := l.surface, dfn := dfn, psn := psn }
  match f.surface with
  | some p => { l.latchPlain with surface := some p, flipBytes := f.bytes, flip := none,
                                   releases := l.releases ++ [r] }
  | none =>
    { attr := if f.setAfter then l.attrNext else none, releases := l.releases ++ [r] }

/-- Pending changes of layer `n` latch at a frame-start event; a commit that is refused ends the flip (R73), and one that a
full completion ring holds waits (R49), a CMP_LAYER_OFF with all that is pending. From the start of DEV_DUSK on a pending
flip latches at no frame-start event before Dusk exit (R268, R611). -/
def State.latchLayer (s : State) (n : Nat) : State :=
  let l := s.layer n
  if l.withdraw then s.updLayer n fun l => { releases := l.releases }
  else match l.flip with
  | none => s.updLayer n fun l => l.latchPlain
  | some f =>
    if s.pwr.dusk != .awake then s
    else match s.commitRefusal with
    | some st => (s.updLayer n fun l => { l.latchPlain with flip := none }).finish f.ticket st noField 0
    | none =>
      if s.commitHeld f.ticket then (if f.surface.isSome then s.updLayer n fun l => l.latchPlain else s)
      else (s.commitFlight f.ticket).updLayer n fun l => l.latchFlip f s.dsp.dfn.lo s.dsp.psn.lo

/-- Every layer latches (R278). -/
def State.latchLayers (s : State) : State := (List.range 8).foldl State.latchLayer s

/-- CMP_LAYER_SET (R269). -/
def execCmpLayerSet (p : Packet) (s : State) : Host.Outcome State Fault Refusal :=
  .next (s.issue .cmpLayerSet runCmpLayerSet p)
/-- CMP_FLIP (R272). -/
def execCmpFlip (p : Packet) (s : State) : Host.Outcome State Fault Refusal := .next (s.issue .cmpFlip runCmpFlip p)
/-- CMP_LAYER_OFF (R275). -/
def execCmpLayerOff (p : Packet) (s : State) : Host.Outcome State Fault Refusal :=
  .next (s.issue .cmpLayerOff runCmpLayerOff p)
/-- CMP_SCALER_COEF (R286). -/
def execCmpScalerCoef (p : Packet) (s : State) : Host.Outcome State Fault Refusal :=
  .next (s.issue .cmpScalerCoef runCmpScalerCoef p)

end Sys2Proof.Machine
end

