-- ==== Sys2Proof/Machine/Chain.lean ====
section
/-!
DEFINITION. Niteith evidence records: layout, chain, signing, export and identity (chapter 12).
-/

namespace Sys2Proof.Machine

/-! ## Output rings (R394, R395, R412) -/

/-- Place an entry of a ring whose data area has `d` bytes: how many pad bytes go before it, if the fit rule of R395 lets
it in. -/
def ringFit (d wr rd len : Nat) : Option Nat :=
  let pad := if d < wr + len then d - wr else 0
  let used := (wr + d - rd % d) % d
  if used + pad + len + 16 ≤ d then some pad else none

/-- Write an entry, behind a pad when it would reach past the end, then advance wr (R394). -/
def State.ringWrite (s : State) (ring : Bool × Nat) (d wr pad : Nat) (padBytes entry : List Byte) : State × Nat :=
  let s := if pad = 0 then s else s.writeAt ⟨ring.1, ring.2 + 64 + wr⟩ (sliceZ padBytes 0 (min pad padBytes.length))
  let at_ := if pad = 0 then wr else 0
  let s := s.writeAt ⟨ring.1, ring.2 + 64 + at_⟩ entry
  let wr := (at_ + entry.length) % d
  (s.writeAt ⟨ring.1, ring.2⟩ (leBytes 4 wr), wr)

/-- rd as the host wrote it (R394). -/
def State.ringRd (s : State) (ring : Bool × Nat) : Nat := leNat (s.readAt ⟨ring.1, ring.2 + 8⟩ 4)

/-! ## The chain head (R405) -/

/-- The fields of record 0x120 (R405). -/
structure ChainHead where
  chainId : Nat
  epoch : Nat
  headSeq : Nat
  headDigest : List Byte
  expSeq : Nat
  expDigest : List Byte
  lastDfn : Nat
  sealEt : List Byte
  deriving DecidableEq, Repr

/-- Read record 0x120. -/
def headOf (b : List Byte) : ChainHead :=
  { chainId := fieldAt b 0 4, epoch := fieldAt b 4 2, headSeq := fieldAt b 8 8, headDigest := sliceZ b 16 32,
    expSeq := fieldAt b 48 8, expDigest := sliceZ b 56 32, lastDfn := fieldAt b 88 8, sealEt := sliceZ b 96 12 }

/-- The bytes of record 0x120. -/
def ChainHead.bytes (h : ChainHead) : List Byte :=
  leBytes 4 h.chainId ++ leBytes 2 h.epoch ++ leBytes 2 0 ++ leBytes 8 h.headSeq ++ sliceZ h.headDigest 0 32 ++
    leBytes 8 h.expSeq ++ sliceZ h.expDigest 0 32 ++ leBytes 8 h.lastDfn ++ sliceZ h.sealEt 0 12 ++ leBytes 4 0

/-- The chain head as held in memory. -/
def State.head (s : State) : Option ChainHead := s.nvm.head.map headOf

/-- A new chain before its first record: nothing acknowledged (R409, log 30). -/
def State.newChain (s : State) : ChainHead :=
  let sec := secField s.time.et % 0x100000000
  { chainId := if sec = 0 then 1 else sec, epoch := 0, headSeq := 0, headDigest := List.replicate 32 0,
    expSeq := 2 ^ 64 - 1, expDigest := List.replicate 32 0, lastDfn := 0, sealEt := List.replicate 12 0 }

/-- seq of the next record (R398). -/
def State.nextSeq (s : State) : Nat :=
  match s.head with
  | none => 0
  | some h => h.headSeq + 1

/-- A record has been written since the previous SIGN (R403, R406). -/
def State.unsigned (s : State) : Bool := decide (s.chain.fromSeq < s.nextSeq)

/-- ET in the 12-byte form with a zero fraction (R400, R405). -/
def timeBytes0 (t : Nat) : List Byte := leBytes 4 (nsField t) ++ leBytes 6 (secField t) ++ leBytes 2 0

/-! ## Records (R397 to R402, R408, R409) -/

/-- The 96-byte header of a record (R397). -/
def recHeader (h : ChainHead) (typ flags len seq dfn psn et : Nat) (prev : List Byte) : List Byte :=
  leBytes 4 0x3148544E ++ [byte typ, 1] ++ leBytes 2 flags ++ leBytes 4 len ++ leBytes 4 h.chainId ++ leBytes 8 seq ++
    leBytes 8 dfn ++ leBytes 8 psn ++ leBytes 4 (nsField et) ++ leBytes 6 (secField et) ++ leBytes 2 h.epoch ++
    List.replicate 12 0 ++ sliceZ prev 0 32

/-- ET_UNSET as a header flag (R401). -/
def State.etFlag (s : State) : Nat := 512 * b2n (!s.net.etSet)

/-- Coded CTU rows of a height. -/
def ctuRows (h : Nat) : Nat := ceilDiv h 32

/-- SHA-256 of the layers latched at a witnessed event (R400). -/
def WitPicture.layerDigest (w : WitPicture) : List Byte :=
  sha256 (w.layers.flatMap fun l => match l with
    | none => []
    | some v => v.attr.bytes ++ v.flipBytes)

/-- The body of a FRAME record (R400). -/
def WitPicture.frameBody (w : WitPicture) : List Byte :=
  let t (i : Nat) : List Byte := timeBytes0 (w.stamp.getD i 0)
  let scene := match w.inp with
    | none => leBytes 4 0 ++ [0xFF, 0] ++ leBytes 2 0 ++ leBytes 4 0 ++ leBytes 4 0 ++ leBytes 2 0
    | some i => leBytes 4 i.au.toNat ++ [byte i.ctx, byte i.rung] ++ leBytes 2 i.concealed ++
        leBytes 4 (blobModelId i.blob) ++ leBytes 4 (blobCrc i.blob) ++ leBytes 2 (unsignedOf 16 i.dt16)
  let knots := match w.inp with
    | none => List.replicate 18 0
    | some i => i.curve.flatMap (leBytes 2)
  let shown := sumNat ((List.zipIdx w.layers).map fun l => if l.1.isSome then 2 ^ l.2 else 0)
  let c := w.config
  let dist := if c.eyeZ ≠ 0 then c.eyeZ else match w.blob with
    | some b => blobViewDist b
    | none => 0
  t 0 ++ t 1 ++ t 3 ++ scene ++ leBytes 2 w.skipped ++ sliceZ knots 0 18 ++ leBytes 2 0 ++ leBytes 4 w.lockWord ++
    leBytes 4 w.panelWord ++ leBytes 4 w.missed ++ [byte shown] ++ leBytes 3 0 ++ w.layerDigest ++
    leBytes 2 c.width ++ leBytes 2 c.height ++ leBytes 4 (unsignedOf 32 c.eyeX) ++ leBytes 4 (unsignedOf 32 c.eyeY) ++
    leBytes 4 dist ++ [byte c.profile, byte (ceilDiv (ctuRows c.height) c.sliceRows)] ++ List.replicate 18 0

/-- The body of a SLICE record: R402, its NAL units and the padding. -/
def sliceBody (row rows qp mt sflags : Nat) (nals : List Byte) : List Byte :=
  leBytes 2 row ++ [byte rows, byte qp] ++ leBytes 4 nals.length ++ leBytes 4 (nsField mt) ++
    leBytes 4 (secField mt % 0x100000000) ++ [byte sflags] ++ List.replicate 15 0 ++
    sliceZ nals 0 (roundUp nals.length 16)

/-- The body of a START record (R409). -/
def State.startBody (s : State) (reason : Nat) : List Byte :=
  [byte reason, byte s.fw.major, byte s.fw.minor] ++ List.replicate 13 0 ++ sha256 Config.deviceCert

/-- Records after exp_seq that no longer exist (R408). -/
def lostCount (h : ChainHead) (cause : Nat) : Nat :=
  match cause with
  | 0 => (h.headSeq + 2 ^ 64 - h.expSeq) % 2 ^ 64
  | 3 => 2 ^ 64 - 1
  | _ => 0

/-- The body of a RESUME record (R408). -/
def State.resumeBody (s : State) (h : ChainHead) (cause : Nat) : List Byte :=
  let gap := if !s.net.etSet then 0xFFFFFFFF
    else min 0xFFFFFFFF ((s.time.et - timeOf h.sealEt) / (1000000 * 0x100000000))
  let prevEpoch := if cause = 0 ∨ cause = 3 then (h.epoch + 65535) % 65536 else h.epoch
  [byte cause, 0] ++ leBytes 2 prevEpoch ++ leBytes 4 gap ++ leBytes 8 h.headSeq ++ leBytes 8 h.expSeq ++
    sliceZ h.expDigest 0 32 ++ leBytes 8 (lostCount h cause) ++ leBytes 8 h.lastDfn ++ leBytes 8 0

/-! ## Export (R410 to R412) -/

/-- Records up to the `n`-th in the buffer are acknowledged (R410). -/
def State.ackRecords (s : State) (n : Nat) : State :=
  match s.head, s.chain.records[n - 1]? with
  | some h, some r =>
    if n = 0 then s
    else
      { s with nvm.head := some { h with expSeq := r.seq, expDigest := sha256 r.bytes }.bytes,
               chain.records := s.chain.records.drop n, chain.sent := s.chain.sent - n,
               chain.marks := s.chain.marks.drop n, chain.ackNs := s.mtNs }
  | _, _ => s

/-- The data area of the export ring. -/
def State.exportArea (s : State) : Nat := s.chain.ringSize - 64

/-- Records that the host's rd has passed: it stands at their end or behind (R412). -/
def State.passedRecords (s : State) : Nat :=
  let c := s.chain
  let d := s.exportArea
  let rd := s.ringRd c.ring
  let left (m : Nat) : Nat := (c.wr + d - m % d) % d
  ((c.marks.take c.sent).filter fun m => decide (left rd ≤ left m)).length

/-- The pad of the export ring: a header with type 0 (R412). -/
def State.padRecord (s : State) (n : Nat) : List Byte :=
  match s.head with
  | none => []
  | some h => recHeader h 0 0 n 0 0 0 0 (List.replicate 32 0)

/-- The datagrams of a record (R412). -/
def datagramsFrom (chainId seq total : Nat) : Nat → Nat → List Byte → List (List Byte)
  | 0, _, _ => []
  | n + 1, off, b =>
    let part := b.take 8948
    let more := b.drop 8948
    let flags := b2n (off == 0) + 2 * b2n more.isEmpty
    let d := leBytes 2 0x4E44 ++ [1, byte flags] ++ leBytes 4 chainId ++ leBytes 8 seq ++ leBytes 4 off ++
      leBytes 4 total ++ part
    d :: if more.isEmpty then [] else datagramsFrom chainId seq total n (off + 8948) more

/-- The datagrams of a record of the chain. -/
def recordDatagrams (chainId : Nat) (r : ChainRec) : List (List Byte) :=
  datagramsFrom chainId r.seq r.bytes.length (ceilDiv r.bytes.length 8948) 0 r.bytes

/-- Ethernet address for an IPv4 destination. -/
def macForIp (ip : Nat) : Nat := if 0xE0000000 ≤ ip ∧ ip < 0xF0000000 then groupMac ip else Config.neighbourMac ip

/-- Send one datagram to the export target. -/
def State.exportDatagram (s : State) (port : Nat) (d : List Byte) : State :=
  let c := s.chain
  let udp := udpPacket c.dstPort c.dstPort d
  s.sendFrame port (ethFrame (macForIp c.dstIp) (macOf port) 0x0800 (ipPacket (s.port port).ipv4 c.dstIp 17 64 [] udp))

/-- The target can take records now. -/
def State.exportReady (s : State) : Bool :=
  match s.chain.target with
  | 0 => false
  | 1 => s.pwr.linkUp || s.chain.ring.1
  | t => let q := s.port (t - 2)
    q.mode != 0 && q.link && q.ipv4 != 0

/-- Send the next record to the target: none when it does not fit or cannot be sent (R411, R412). -/
def State.exportOne (s : State) : Option State :=
  match s.chain.records[s.chain.sent]?, s.head with
  | some r, some h =>
    if !s.exportReady then none
    else if s.chain.target = 1 then
      let d := s.exportArea
      match ringFit d s.chain.wr (s.ringRd s.chain.ring) r.bytes.length with
      | none => none
      | some pad =>
        let (s, wr) := s.ringWrite s.chain.ring d s.chain.wr pad (s.padRecord pad) r.bytes
        some { s with chain.wr := wr, chain.sent := s.chain.sent + 1, chain.marks := s.chain.marks ++ [wr] }
    else
      let port := s.chain.target - 2
      let s := (recordDatagrams h.chainId r).foldl (fun s d => s.exportDatagram port d) s
      let s := { s with chain.sent := s.chain.sent + 1, chain.marks := s.chain.marks ++ [0],
                        chain.ackNs := if s.chain.sent = 0 then s.mtNs else s.chain.ackNs }
      some (if s.chain.ack then s else s.ackRecords s.chain.sent)
  | _, _ => none

/-- Send what can be sent. -/
def State.exportAll : Nat → State → State
  | 0, s => s
  | n + 1, s => match s.exportOne with
    | none => s
    | some s => State.exportAll n s

/-- Re-read the host's rd, acknowledge what it has passed, and send what can be sent. -/
def State.exportPump (s : State) : State :=
  let s := if s.chain.target = 1 then s.ackRecords s.passedRecords else s
  s.exportAll s.chain.records.length

/-! ## Appending (R398, R399, R410) -/

/-- Bytes that wait in the chain buffer. -/
def State.chainBytes (s : State) : Nat := sumNat (s.chain.records.map fun r => r.bytes.length)

/-- A record of a length fits the chain buffer (R410). -/
def State.chainRoom (s : State) (len : Nat) : Bool := decide (s.chainBytes + len ≤ 33554432)

/-- The head under which the next record is written: a new chain begins where none exists (R409). -/
def State.headNow (s : State) : ChainHead := (s.head).getD s.newChain

/-- Put a finished record at the end of the chain. -/
def State.putRecord (s : State) (h : ChainHead) (seq : Nat) (bytes : List Byte) : State :=
  let h := { h with headSeq := seq, headDigest := sha256 bytes }
  { s with nvm.head := some h.bytes, chain.records := s.chain.records ++ [⟨seq, bytes⟩] }

/-- Append a record whose every byte is known. -/
def State.appendRecord (s : State) (typ flags dfn psn et : Nat) (body : List Byte) : State :=
  let h := s.headNow
  let seq := s.nextSeq
  let bytes := recHeader h typ flags (96 + body.length) seq dfn psn et h.headDigest ++ body
  s.putRecord (if typ = 2 then { h with lastDfn := dfn } else h) seq bytes

/-- Bytes 0 to 127 of a SIGN record made now (R403). -/
def State.signHead (s : State) (reason : Nat) : List Byte :=
  let h := s.headNow
  recHeader h 4 s.etFlag 192 s.nextSeq s.dsp.dfn.toNat s.dsp.psn.toNat s.time.et h.headDigest ++
    [byte reason] ++ List.replicate 7 0 ++ leBytes 8 s.chain.fromSeq ++ List.replicate 16 0

/-- A signature as its 64 bytes, r then s, big-endian (R403). -/
def signature (m : List Byte) : List Byte := beBytes 32 (Config.signR m) ++ beBytes 32 (Config.signS m)

/-- A SIGN record is complete: it enters the chain, CHAIN_SIGNED is raised, and a WIT_STOP that waited for it completes
(R375, R403, R404). -/
def State.putSign (s : State) (seq reason : Nat) (head : List Byte) : State :=
  let s := s.putRecord s.headNow seq (head ++ signature head)
  let s := { s with chain.fromSeq := seq + 1, chain.signNs := s.mtNs }.raise
    { code := .chainSigned, source := 127, data0 := seq % 0x100000000, data1 := reason }
  if reason != 1 then s
  else match s.wit.stop with
    | none => s
    | some t => { s with wit.stop := none }.finish t .ok 0 0

/-- A chain item may be appended now: no signature for the chain is in progress, and the records of one DFN stay together
(R399). -/
def ChainItem.mayFollow (i : ChainItem) (dfn : Option DWord) : Bool :=
  match dfn with
  | none => true
  | some d => match i with
    | .slice e _ _ _ _ _ => e == d
    | _ => false

/-- Bytes of the record that an item becomes. -/
def ChainItem.size : ChainItem → Nat
  | .frame _ => 256
  | .slice _ _ _ _ body _ => 96 + body.length
  | .sign _ => 192
  | .start _ => 144
  | .resume _ => 176

/-- The periodic SIGN falls due behind the last SLICE of a DFN (R403). -/
def State.signDue (s : State) : Bool := decide (s.chain.signNs + s.chain.signMs * 1000000 ≤ s.mtNs) && s.unsigned

/-- Append one item: the order of the records is that of the items (R38). -/
def State.appendItem (s : State) (i : ChainItem) : State :=
  match i with
  | .frame w =>
    { s with chain.openDfn := some w.dfn }.appendRecord 2 w.flags w.dfn.toNat w.psn.toNat (w.stamp.getD 2 0) w.frameBody
  | .slice dfn psn et flags body last =>
    let s := s.appendRecord 3 flags dfn.toNat psn.toNat et body
    if !last then s
    else
      let s := { s with chain.openDfn := none }
      if s.signDue then { s with chain.items := .sign 0 :: s.chain.items } else s
  | .sign reason => { s with chain.signing := s.chain.signing ++ [.sign s.nextSeq reason (s.signHead reason)] }
  | .start reason =>
    s.appendRecord 1 s.etFlag s.dsp.dfn.toNat s.dsp.psn.toNat s.time.et (s.startBody reason)
  | .resume cause =>
    let h := s.headNow
    let s := s.appendRecord 5 s.etFlag s.dsp.dfn.toNat s.dsp.psn.toNat s.time.et (s.resumeBody h cause)
    s.raise { code := .chainResumed, source := 127, data0 := cause, data1 := lostCount h cause % 0x100000000 }

/-- A SIGN record of the chain is being signed. -/
def State.signingChain (s : State) : Bool :=
  s.chain.signing.any fun j => match j with
    | .sign _ _ _ => true
    | .attest _ _ _ _ => false

/-- Take the first item that may follow out of a list. -/
def takeItem (dfn : Option DWord) : List ChainItem → Option (ChainItem × List ChainItem)
  | [] => none
  | i :: is => if i.mayFollow dfn then some (i, is) else (takeItem dfn is).map fun x => (x.1, i :: x.2)

/-- Append the items that may enter the chain, in their order, while the buffer has room (R399, R410). -/
def State.pumpItems : Nat → State → State
  | 0, s => s
  | n + 1, s =>
    if s.signingChain then s
    else match takeItem s.chain.openDfn s.chain.items with
      | none => s
      | some (i, rest) =>
        if !s.chainRoom i.size then s
        else State.pumpItems n ({ s with chain.items := rest }.appendItem i)

/-- The chain moves on: items enter it, and records leave for the export target. -/
def State.pumpChain (s : State) : State :=
  let s := s.pumpItems (2 * s.chain.items.length + 2)
  let s := s.exportPump
  s.pumpItems (2 * s.chain.items.length + 2)

/-- Hand an item to the chain. -/
def State.pushItem (s : State) (i : ChainItem) : State :=
  { s with chain.items := s.chain.items ++ [i] }.pumpChain

/-- The pending RESUME record comes before the next records (R408). -/
def State.pushResume (s : State) : State :=
  match s.chain.resume, s.head with
  | some c, some _ => { s with chain.resume := none }.pushItem (.resume c)
  | _, _ => { s with chain.resume := none }

/-- Dawn increments epoch, and the next WIT_START resumes the chain (R408, R409). -/
def State.dawnChain (s : State) : State :=
  match s.head with
  | none => s
  | some h =>
    { s with nvm.head := some { h with epoch := (h.epoch + 1) % 65536 }.bytes,
             chain.resume := some (if s.nvm.headStale then 3 else 0), chain.fromSeq := h.headSeq + 1 }

/-! ## Signatures (R404, R414) -/

/-- The job has begun: a SIGN record as soon as it is formed, an attestation with its commit, which forms its 96 bytes from
the nonce (R70, R414). -/
def SignJob.begun : SignJob → Bool
  | .sign _ _ _ => true
  | .attest _ b _ _ => b.length != 32

/-- The job answers the packet with a ticket. -/
def SignJob.answers (t : Nat) : SignJob → Bool
  | .sign _ _ _ => false
  | .attest u _ _ _ => u == t

/-- Bytes 0 to 95 of an attestation (R414). -/
def State.attestBytes (s : State) (nonce : List Byte) : List Byte :=
  let h : ChainHead := (s.head).getD { s.newChain with chainId := 0 }
  nonce ++ leBytes 8 h.headSeq ++ sliceZ h.headDigest 0 32 ++ leBytes 8 s.dsp.dfn.toNat ++
    leBytes 4 h.chainId ++ leBytes 2 h.epoch ++ List.replicate 10 0

/-- A job leaves the queue of signatures. -/
def State.dropJob (s : State) (j : SignJob) : State := { s with chain.signing := s.chain.signing.filter (· != j) }

/-- With no signature in progress the next one begins: an attestation commits (R70), unless its commit is refused, the key
has become unusable (R603), or a full completion ring holds it (R49). -/
def State.startJobs : List SignJob → State → State
  | .attest t b dev addr :: js, s =>
    let j := SignJob.attest t b dev addr
    if j.begun then s
    else match s.commitRefusal with
      | some st => State.startJobs js ((s.dropJob j).finish t st noField 0)
      | none =>
        let full := SignJob.attest t (s.attestBytes b) dev addr
        if s.sup.debugOpen then State.startJobs js ((s.dropJob j).finish t .hwFault noField 0)
        else if s.commitHeld t then State.startJobs js s
        else { s.commitFlight t with chain.signing := s.chain.signing.map fun k => if k == j then full else k }
  | _, s => s

/-- The next signature begins, if none is in progress. -/
def State.startSignature (s : State) : State := State.startJobs s.chain.signing s

/-- The signature in progress is complete (R404), and the next one begins. -/
def State.finishSignature (s : State) : State :=
  match s.chain.signing.find? SignJob.begun with
  | none => s
  | some (.sign seq reason b) => ((s.dropJob (.sign seq reason b)).putSign seq reason b).startSignature
  | some (.attest t b dev addr) =>
    (((s.dropJob (.attest t b dev addr)).writeAt ⟨dev, addr⟩ (b ++ signature b)).finish t .ok 0 0).startSignature

/-- SIGNATURE_COMPLETE (R404): the next item of the chain may follow. -/
def execSignatureComplete (s : State) : Host.Outcome State Fault Refusal :=
  .next (if s.chain.signing.isEmpty then s else s.startSignature.finishSignature.pumpChain)

/-- Every signature in progress completes (R406: signing takes at most 200 us each). -/
def State.finishSignatures : Nat → State → State
  | 0, s => s
  | n + 1, s => if s.chain.signing.isEmpty then s else State.finishSignatures n s.finishSignature

/-- An item that outlives a seal: only records of pictures are dropped. -/
def ChainItem.survives : ChainItem → Bool
  | .frame _ => false
  | .slice _ _ _ _ _ _ => false
  | _ => true

/-- Append the SLICE records of the open DFN that wait, whatever the room (R406). -/
def State.flushOpen : Nat → State → State
  | 0, s => s
  | n + 1, s =>
    match s.chain.openDfn with
    | none => s
    | some _ => match takeItem s.chain.openDfn s.chain.items with
      | none => s
      | some (i, rest) => State.flushOpen n ({ s with chain.items := rest }.appendItem i)

/-- Header flags, PSN and ET that every record of the open DFN carries, read back from its FRAME record (R399, R401). -/
def State.openHeader (s : State) : Nat × Nat × Nat :=
  match s.chain.records.reverse.find? fun r => fieldAt r.bytes 4 1 == 2 with
  | none => (0, 0, 0)
  | some r => (fieldAt r.bytes 6 2, fieldAt r.bytes 32 8,
      fieldAt r.bytes 44 6 * secUnits + fieldAt r.bytes 40 4 * 0x100000000)

/-- The seal of the chain with a SIGN reason: the open DFN ends with a CUT record, a SIGN attests what no SIGN covers yet,
and record 0x120 takes ET (R403, R406, R407, R545). Dusk entry writes its SIGN even when nothing new stands to be covered,
unless a RESUME record has still to come first (R407, R408; log 135). The identity key must be usable. -/
def State.sealChain (s : State) (reason : Nat) : State :=
  let s := s.finishSignatures s.chain.signing.length
  let s := s.flushOpen s.chain.items.length
  let s := match s.chain.openDfn with
    | none => s
    | some d =>
      let (flags, psn, et) := s.openHeader
      { s with chain.openDfn := none }.appendRecord 3 flags d.toNat psn et (sliceBody 0 0 0 s.time.mt 16 [])
  let s := { s with chain.items := s.chain.items.filter ChainItem.survives }
  let owed := s.unsigned || (reason == 3 && s.chain.resume.isNone)
  let s := if owed && s.head.isSome && !s.sup.debugOpen then s.putSign s.nextSeq reason (s.signHead reason) else s
  match s.head with
  | none => s
  | some h => { s with nvm.head := some { h with sealEt := timeBytes0 s.time.et }.bytes }

/-! ## Commands and events -/

/-- WIT_EXPORT (R411): records not yet acknowledged go to the new target from the oldest on; an export ring begins with wr 0
and a header that reads 0 but for the host's rd (R394). Fields of UDP act on nothing with another target (log 135). -/
def runWitExport (_t : Nat) (p : Packet) (s : State) : Answer :=
  let target := p.u8 16
  let size := p.u32 20
  let addr := p.u64 24
  let udp := decide (2 ≤ target)
  if 3 < target then refuse .badParam 16
  else if 1 < p.u8 17 then refuse .badParam 17
  else if p.u16 18 ≠ 0 ∧ (p.u16 18 < 100 ∨ 60000 < p.u16 18) then refuse .badParam 18
  else if target = 1 ∧ (size % 4096 ≠ 0 ∨ size < 65536 ∨ 67108864 < size) then refuse .badParam 20
  else if target ≠ 1 ∧ size ≠ 0 then refuse .badParam 20
  else if target ≠ 1 ∧ addr ≠ 0 then refuse .badParam 24
  else if addr % 4096 ≠ 0 then refuse .alignment 24
  else if udp ∧ (p.u32 32 = 0 ∨ p.u32 32 = 0xFFFFFFFF) then refuse .badParam 32
  else match (if target = 1 then s.resolve p.src addr size else some ⟨false, 0⟩) with
  | none => refuse .badParam 24
  | some l =>
    let s := { s with chain.target := target, chain.ack := bitOf (p.u8 17) 0,
                      chain.signMs := if p.u16 18 = 0 then 1000 else p.u16 18, chain.ringSize := size,
                      chain.ring := (l.dev, l.addr), chain.dstIp := p.u32 32,
                      chain.dstPort := if p.u16 36 = 0 then 47812 else p.u16 36, chain.sent := 0, chain.wr := 0,
                      chain.marks := [], chain.ackNs := s.mtNs }
    let s := if target = 1 then (s.writeAt l (List.replicate 8 0)).writeAt ⟨l.dev, l.addr + 12⟩ (List.replicate 52 0) else s
    okay s.pumpChain

/-- WIT_EXPORT (R411). -/
def execWitExport (p : Packet) (s : State) : Host.Outcome State Fault Refusal := .next (s.issue .witExport runWitExport p)

/-- EXPORT_ACK_RECEIVED (R412). -/
def State.exportAck (s : State) (port : Nat) (b : List Byte) : State :=
  match s.head with
  | none => s
  | some h =>
    let seq := fieldAt b 8 8
    if s.chain.target != port + 2 || b.length != 16 || fieldAt b 0 2 != 0x4E41 || fieldAt b 2 1 != 1 ||
        fieldAt b 3 1 != 0 || fieldAt b 4 4 != h.chainId then s
    else
      let sent := s.chain.records.take s.chain.sent
      let n := (sent.filter fun r => decide (r.seq ≤ seq)).length
      let last := match sent.getLast? with
        | some r => r.seq
        | none => 0
      if sent.isEmpty || decide (last < seq) then s else (s.ackRecords n).pumpChain

/-- EXPORT_ACK_RECEIVED (R412). -/
def execExportAckReceived (port : Port) (payload : List Byte) (s : State) : Host.Outcome State Fault Refusal :=
  .next (s.exportAck (portIdx port) payload)

/-- EXPORT_RESEND_TIMEOUT (R412): 200 ms without an acknowledgement that advances. -/
def execExportResendTimeout (s : State) : Host.Outcome State Fault Refusal :=
  if s.chain.target < 2 || !s.chain.ack || s.chain.sent = 0 || decide (s.mtNs < s.chain.ackNs + 200000000) then .next s
  else .next { s with chain.sent := 0, chain.marks := [], chain.ackNs := s.mtNs }.exportPump

/-- FW_CERT_READ (R413). -/
def runFwCertRead (_t : Nat) (p : Packet) (s : State) : Answer :=
  let cert := ((if p.u8 16 = 0 then Config.deviceCert else Config.caCert)).take 2048
  if 1 < p.u8 16 then refuse .badParam 16
  else if p.u32 20 < 2048 then refuse .badParam 20
  else if p.u64 24 % 4 ≠ 0 then refuse .alignment 24
  else match s.resolve p.src (p.u64 24) (p.u32 20) with
    | none => refuse .badParam 24
    | some l => okay (s.writeAt l cert) cert.length

/-- FW_CERT_READ (R413). -/
def execFwCertRead (p : Packet) (s : State) : Host.Outcome State Fault Refusal :=
  .next (s.issue .fwCertRead runFwCertRead p)

/-- FW_ATTEST (R414): HW_FAULT while the identity key is unusable (R603). It commits with the start of its signature (R70). -/
def runFwAttest (t : Nat) (p : Packet) (s : State) : Answer :=
  if p.u64 48 % 16 ≠ 0 then refuse .alignment 48
  else match s.resolve p.src (p.u64 48) 160 with
    | none => refuse .badParam 48
    | some l =>
      if s.sup.debugOpen then refuse .hwFault noField
      else
        let j : SignJob := .attest t (sliceZ p.body 0 32) l.dev l.addr
        .started { s with chain.signing := s.chain.signing ++ [j] }.startSignature false

/-- FW_ATTEST (R414). -/
def execFwAttest (p : Packet) (s : State) : Host.Outcome State Fault Refusal := .next (s.issue .fwAttest runFwAttest p)

end Sys2Proof.Machine
end

