-- ==== Sys2Proof/Machine/WitView.lean ====
section
/-!
DEFINITION. What the witness shows (R264, R290, R369, R370, R373): the angle of each pixel, its synthesis, composition and
conversion, and the scaling and rotation of encode sources (R380).
-/

namespace Sys2Proof.Machine

/-! ## Eye constants and angles (R370) -/

/-- A normalised eye coordinate. -/
def eyeNorm (e : Int) (dist cone : Nat) : Int := clampInt (rndDiv (2 ^ 30 * e) (dist * cone)) (-(2 ^ 20)) (2 ^ 20)

/-- The effective eye distance. -/
def WitConfig.eyeDist (c : WitConfig) (b : List Byte) : Nat := if c.eyeZ = 0 then blobViewDist b else c.eyeZ

/-- kz. -/
def eyeScale (c : WitConfig) (b : List Byte) : Int :=
  clampInt (rndDiv (2 ^ 16 * blobViewDist b : Nat) (c.eyeDist b)) (2 ^ 14) (2 ^ 18)

/-- A position on the screen in 1/64 of `n` units, for pixel `i` of `m`. -/
def cellAt (n m i : Nat) : Int := ((64 * n * (2 * i + 1) + m) / (2 * m) : Nat) - 32

/-- Along one axis: the tangent of the line of sight and where it crosses the design distance, from twice the offset of the
point from the centre, in 1/64. -/
def sightAt (h64 : Int) (e : Nat) (k en : Int) : Int × Int :=
  let off := asr (h64 * e + 2 ^ 37) 38
  let t := asr (k * (en - off) + 2 ^ 15) 16
  (clampInt t (-16384) 16384, clampInt (off + t) (-16384) 16384)

/-- px64. -/
def WitPicture.px (w : WitPicture) (i : Nat) : Int := cellAt w.timing.hactive w.config.width i
/-- py64. -/
def WitPicture.py (w : WitPicture) (j : Nat) : Int := cellAt w.timing.vactive w.config.height j

/-- uw and ue of a pixel column under a blob. -/
def WitPicture.sightU (w : WitPicture) (b : List Byte) (i : Nat) : Int × Int :=
  sightAt (6 * w.px i + 192 - (192 * w.timing.hactive : Nat)) (euOf b) (eyeScale w.config b)
    (eyeNorm w.config.eyeX (blobViewDist b) (blobConeU b))

/-- vw and ve of a pixel row under a blob; 0 for parallax 0. -/
def WitPicture.sightV (w : WitPicture) (b : List Byte) (j : Nat) : Int × Int :=
  if blobParallax b = 1 then
    sightAt (2 * w.py j + 64 - (64 * w.timing.vactive : Nat)) (evOf b) (eyeScale w.config b)
      (eyeNorm w.config.eyeY (blobViewDist b) (blobConeV b))
  else (0, 0)

/-! ## The witness ray (R264) -/

/-- The ray of a witness pixel. -/
def WitPicture.ray (w : WitPicture) (n : SynthIn) (i j : Nat) : RayStart :=
  { p := rigAt (w.sightU n.blob i).2 (scUSpan n.params.scene),
    q := if n.full then rigAt (w.sightV n.blob j).2 (scVSpan n.params.scene) else n.y 0,
    sx := cellAt (scWidth n.params.scene) w.config.width i, sy := cellAt (scHeight n.params.scene) w.config.height j }

/-- The word of a witness pixel: one search, three channels (R264, R372). -/
def WitPicture.word (w : WitPicture) (n : SynthIn) (a : Anchors) (rungZero : Bool) (i j : Nat) : Nat :=
  let r := w.ray n i j
  let set := (resolveRay n a (if rungZero then 0 else n.rung) r).set
  blendValue n a r 0 set + 1024 * blendValue n a r 1 set + 1048576 * blendValue n a r 2 set

/-- Bytes of a witness buffer (R372). -/
def WitConfig.bufBytes (c : WitConfig) : Nat := wovenPitch c.width * c.height

/-- Address of witness buffer `n`. -/
def WitPicture.addr (w : WitPicture) (n : Nat) : Nat := Config.witnessBase n w.config.bufBytes

/-- A witness tile writes its words (R372). -/
def State.writeWitTile (s : State) (w : WitPicture) (n : SynthIn) (a : Anchors) (buf : Nat) (t : Tile) : State :=
  let pitch := wovenPitch w.config.width
  s.storeLines (w.addr buf + 32 * t.ty * pitch + 256 * t.tx) pitch
    ((List.range t.lines).map fun j => (List.range t.pixels).flatMap fun i =>
      leBytes 4 (w.word n a t.rungZero (64 * t.tx + i) (32 * t.ty + j)))

/-! ## Composition and conversion (R290, R373) -/

/-- The stored value of a channel of a witness pixel; blank_level while no woven frame is presented (R295). -/
def State.witStored (s : State) (w : WitPicture) (buf i j ch : Nat) : Nat :=
  match w.inp with
  | none => w.timing.blank
  | some _ =>
    bitsOf (leNat (s.dmem.readN (w.addr buf + j * wovenPitch w.config.width + i / 64 * 256 + i % 64 * 4) 4)) (10 * ch) 10

/-- The composed value of a channel of a witness pixel (R290). -/
def State.witComposed (s : State) (w : WitPicture) (buf i j ch : Nat) : Nat :=
  let (u, v, full) := match w.blob with
    | none => (0, 0, false)
    | some b => ((w.sightU b i).1, (w.sightV b j).1, blobParallax b == 1)
  s.blendLayers full (w.px i) (w.py j) u v ch 0 (s.witStored w buf i j ch) w.layers

/-- Y, Cb or Cr of composed red, green and blue (R373). -/
def rgbToYuv (comp r g b : Nat) : Nat :=
  let r : Int := r
  let g : Int := g
  let b : Int := b
  (match comp with
   | 0 => clampInt (asr (5965 * r + 20068 * g + 2026 * b + 16384) 15 + 64) 64 940
   | 1 => clampInt (asr (-3288 * r - 11062 * g + 14350 * b + 16384) 15 + 512) 64 960
   | _ => clampInt (asr (14350 * r - 13034 * g - 1316 * b + 16384) 15 + 512) 64 960).toNat

/-- 4:2:0 chroma of a plane of `w` columns and `h` lines (R373). -/
def chromaDown (c : Nat → Nat → Nat) (w h i j : Nat) : Nat :=
  let col (x : Nat) : Nat := min x (w - 1)
  let row (d : Nat) : Nat := min (2 * j + d) (h - 1)
  let line (d : Nat) : Nat := c (col (2 * i - 1)) (row d) + 2 * c (col (2 * i)) (row d) + c (col (2 * i + 1)) (row d)
  (line 0 + line 1 + 4) / 8

/-! ## Encode sources (R378, R380) -/

/-- A source of 4:2:0 samples: luma of `w` columns and `h` lines, chroma of half of each. -/
structure SrcPlanes where
  /-- Luma columns. -/
  w : Nat
  /-- Luma lines. -/
  h : Nat
  /-- Sample of a plane at a column and line. -/
  at_ : Nat → Nat → Nat → Nat

/-- The three planes of a picture whose pixels are red, green and blue. -/
def rgbSource (w h : Nat) (rgb : Nat → Nat → Nat → Nat) : SrcPlanes :=
  let yuv (comp x y : Nat) : Nat := rgbToYuv comp (rgb 0 x y) (rgb 1 x y) (rgb 2 x y)
  { w := w, h := h, at_ := fun p x y => if p = 0 then yuv 0 x y else chromaDown (yuv p) w h x y }

/-- A witness picture as a source. -/
def State.witSource (s : State) (w : WitPicture) (buf : Nat) : SrcPlanes :=
  rgbSource w.config.width w.config.height fun ch i j => s.witComposed w buf i j ch

/-- The number stored at an element of a plane of a source in memory. -/
def State.srcElem (s : State) (e : EncSource) (i x y : Nat) : Nat :=
  let n := ((planesOf e.format).getD i ⟨0, false, false⟩).bytes
  let pl := e.places.getD i (false, 0)
  leNat (s.readAt ⟨pl.1, pl.2 + y * e.pitches.getD i 0 + x * n⟩ n)

/-- A source in memory, relative to its rectangle. -/
def State.memSource (s : State) (e : EncSource) : SrcPlanes :=
  if isYuv e.format then
    { w := e.w, h := e.h, at_ := fun p x y =>
        if p = 0 then yuvOf (s.srcElem e) e.format 0 (e.x + x) (e.y + y)
        else yuvOf (s.srcElem e) e.format p (e.x / 2 + x) (e.y / 2 + y) }
  else rgbSource e.w e.h fun ch x y => rgbComp e.format (s.srcElem e 0 (e.x + x) (e.y + y)) ch

/-- Stretch of an axis in quarters (R380). -/
def stretchOf (r n : Nat) : Nat := max 4 (min 8 (ceilDiv (4 * r) n))

/-- The 8 by 8 tap filter of R380 at a position of a plane of `w` columns and `h` lines. -/
def filter8 (c : Nat → Nat → Nat) (w h snx sny : Nat) (px py : Int) : Nat :=
  let hc := builtIn 8 snx (px % 64).toNat
  let vc := builtIn 8 sny (py % 64).toNat
  let iv (k : Nat) : Int :=
    let x := clampTo (asr px 6 - 3 + k) 0 w
    asr (sumInt ((List.range 8).map fun m => vc.getD m 0 * (c x (clampTo (asr py 6 - 3 + m) 0 h) : Nat)) + 16) 5
  (clampInt (asr (sumInt ((List.range 8).map fun k => hc.getD k 0 * iv k) + 1024) 11) 0 1023).toNat

/-- Where a rotated position lies in the source, in 1/64 pixel (R380). -/
def unrotate (rot w h : Nat) (a b : Int) : Int × Int :=
  match rot with
  | 0 => (a, b)
  | 1 => (b, 64 * ((h : Int) - 1) - a)
  | 2 => (64 * ((w : Int) - 1) - a, 64 * ((h : Int) - 1) - b)
  | _ => (64 * ((w : Int) - 1) - b, a)

/-- A coded sample: plane 0 is luma (R380). -/
def codedSample (g : EncGeom) (rot : Nat) (p : SrcPlanes) (plane i j : Nat) : Nat :=
  let turned := rot % 2 = 1
  let rw := if turned then p.h else p.w
  let rh := if turned then p.w else p.h
  let cx : Nat := if plane = 0 then 64 * i + 32 else 128 * i + 32
  let cy : Nat := if plane = 0 then 64 * j + 32 else 128 * j + 64
  let (x, y) := unrotate rot p.w p.h ((cx * rw / g.width : Nat) - 32) ((cy * rh / g.height : Nat) - 32)
  let snx := stretchOf p.w (if turned then g.height else g.width)
  let sny := stretchOf p.h (if turned then g.width else g.height)
  let v := if plane = 0 then filter8 (p.at_ 0) p.w p.h snx sny x y
    else filter8 (p.at_ plane) (ceilDiv p.w 2) (ceilDiv p.h 2) snx sny (asr x 1) (asr (y - 32) 1)
  if g.profile = 0 then min ((v + 2) / 4) 255 else v

end Sys2Proof.Machine
end

