-- ==== Sys2Proof/Machine/Motion.lean ====
section
/-!
DEFINITION. The coding decisions of the encoder: the modes of a CU and the inter search (R384, R386).

What HEVC itself derives (an intra prediction, a merge or AMVP candidate, a reconstructed sample) and what the manual names
without a formula (the split of a CTU, estimated bits, the weight of a QP) are free values of the encoder's state (log 31).
The interpolation filters are those of the HEVC standard (log 9).
-/

namespace Sys2Proof.Machine

/-- A motion vector, quarter samples. -/
abbrev Mv := Int × Int

/-- What the coding of a row reads. -/
structure CodeEnv where
  /-- Bits of a sample. -/
  depth : Nat
  /-- Padded width. -/
  w : Nat
  /-- Padded height. -/
  h : Nat
  /-- Source sample of a plane, 0 luma; the last column and row repeat (R384). -/
  src : Nat → Nat → Nat → Nat
  /-- States of the rows of each reference that can be read, reference 0 first (R383, R385). -/
  refs : List (List Nat)
  /-- CUs of reference 0. -/
  coloc : List EncCu
  /-- CUs of the previous picture, in paired mode of the one before it (R383). -/
  prev : List EncCu
  /-- Search in force. -/
  search : SearchSet
  /-- QP of the row. -/
  qp : Nat
  /-- IDR picture. -/
  idr : Bool
  /-- The other parameters that the coding depends on. -/
  how : List Nat

/-! ## Samples -/

/-- The HEVC luma interpolation filter of a quarter-sample phase. -/
def lumaTaps : Nat → List Int
  | 0 => [0, 0, 0, 64, 0, 0, 0, 0]
  | 1 => [-1, 4, -10, 58, 17, -5, 1, 0]
  | 2 => [-1, 4, -11, 40, 40, -11, 4, -1]
  | _ => [0, 1, -5, 17, 58, -10, 4, -1]

/-- The sum of eight samples from a position under the taps of a phase. -/
def tapSum (phase : Nat) (f : Int → Int) (x : Int) : Int :=
  sumInt ((List.range 8).map fun k => (lumaTaps phase).getD k 0 * f (x + k - 3))

/-- The luma sample of a reference at a whole position; outside the picture its edge repeats. -/
def CodeEnv.refAt (v : CodeEnv) (ref : Nat) (x y : Int) : Int :=
  (Config.reconSample (v.refs.getD ref []) (clampInt x 0 ((v.w : Int) - 1)).toNat (clampInt y 0 ((v.h : Int) - 1)).toNat : Nat)

/-- The luma prediction of a sample from a reference and a vector, with the HEVC filters. -/
def CodeEnv.predAt (v : CodeEnv) (ref : Nat) (m : Mv) (x y : Nat) : Nat :=
  let line (yy : Int) : Int := asr (tapSum (m.1 % 4).toNat (fun xx => v.refAt ref xx yy) (x + m.1 / 4)) (v.depth - 8)
  let p := asr (tapSum (m.2 % 4).toNat line (y + m.2 / 4)) 6
  (clampInt (asr (p + 2 ^ (13 - v.depth)) (14 - v.depth)) 0 (2 ^ v.depth - 1)).toNat

/-- The positions of a square. -/
def squareOf (x y size : Nat) : List (Nat × Nat) :=
  (List.range size).flatMap fun j => (List.range size).map fun i => (x + i, y + j)

/-- Difference of source and prediction at a position. -/
def CodeEnv.diff (v : CodeEnv) (pred : Nat → Nat → Nat) (x y : Nat) : Int := (v.src 0 x y : Int) - pred x y

/-- Luma SAD of a square. -/
def CodeEnv.sad (v : CodeEnv) (pred : Nat → Nat → Nat) (x y size : Nat) : Nat :=
  sumNat ((squareOf x y size).map fun p => (v.diff pred p.1 p.2).natAbs)

/-- The sum of four numbers with the signs of row `k` of the 4 by 4 Hadamard matrix. -/
def hadamard4 (k : Nat) (f : Nat → Int) : Int :=
  f 0 + (if k % 2 = 0 then f 1 else -f 1) + (if k / 2 = 0 then f 2 else -f 2) + (if k = 0 ∨ k = 3 then f 3 else -f 3)

/-- The SATD of one 4 by 4 block. -/
def CodeEnv.satd4 (v : CodeEnv) (pred : Nat → Nat → Nat) (x y : Nat) : Nat :=
  sumNat ((List.range 4).flatMap fun a => (List.range 4).map fun b =>
    (hadamard4 a fun j => hadamard4 b fun i => v.diff pred (x + i) (y + j)).natAbs)

/-- The SATD of a square: the sum over its 4 by 4 blocks (R384). -/
def CodeEnv.satd (v : CodeEnv) (pred : Nat → Nat → Nat) (x y size : Nat) : Nat :=
  sumNat ((squareOf 0 0 (size / 4)).map fun p => v.satd4 pred (x + 4 * p.1) (y + 4 * p.2))

/-! ## Inter search (R386) -/

/-- The vector of the CU of a list that covers a position. -/
def vectorAt (cus : List EncCu) (x y : Int) : Option Mv :=
  (cus.find? fun (c : EncCu) => decide ((c.x : Int) ≤ x ∧ x < c.x + c.size ∧ (c.y : Int) ≤ y ∧ y < c.y + c.size)).bind
    fun c => c.motion.map fun m => (m.dx, m.dy)

/-- The middle of a list of numbers, the lower of two. -/
def medianOf (xs : List Int) : Int :=
  (xs.find? fun x => decide ((xs.filter (· < x)).length ≤ (xs.length - 1) / 2 ∧
    (xs.length - 1) / 2 < (xs.filter (· ≤ x)).length)).getD 0

/-- The component-wise median of all vectors of a picture, none where it has none. -/
def medianVector (cus : List EncCu) : Option Mv :=
  let ms := cus.filterMap (·.motion)
  if ms.isEmpty then none else some (medianOf (ms.map (·.dx)), medianOf (ms.map (·.dy)))

/-- Candidate `bit` of the search for a CU; none where there is no such CU or it has no vector (log 132). -/
def CodeEnv.candidate (v : CodeEnv) (tok : Nat) (cus : List EncCu) (x y size bit : Nat) : Option Mv :=
  match bit with
  | 0 => some (0, 0)
  | 1 => vectorAt cus ((x : Int) - 1) y
  | 2 => vectorAt cus x ((y : Int) - 1)
  | 3 => vectorAt cus (x + size : Nat) ((y : Int) - 1)
  | 4 => vectorAt cus ((x : Int) - 1) ((y : Int) - 1)
  | 5 => vectorAt v.coloc x y
  | 6 => medianVector v.prev
  | 7 => some (Config.amvpVector tok x y size)
  | _ => none

/-- Vectors are limited to 128 luma samples horizontally and 64 vertically. -/
def limitMv (m : Mv) : Mv := (clampInt m.1 (-512) 512, clampInt m.2 (-256) 256)

/-- A vector lies within the limits. -/
def mvAllowed (m : Mv) : Bool := limitMv m == m

/-- A vector rounded to full samples, within the limits. -/
def fullMv (m : Mv) : Mv := limitMv (4 * ((m.1 + 2) / 4), 4 * ((m.2 + 2) / 4))

/-- The first of a list of vectors with the least cost, together with it. -/
def leastMv (cost : Mv → Nat) : List Mv → Option (Mv × Nat)
  | [] => none
  | m :: ms =>
    match leastMv cost ms with
    | none => some (m, cost m)
    | some b => if cost m ≤ b.2 then some (m, cost m) else some b

/-- The best of a centre and its neighbours in some directions, each `step` quarter samples away: the centre unless another is
better. -/
def bestAround (cost : Mv → Nat) (step : Int) (dirs : List (Int × Int)) (m : Mv) : Mv :=
  ((leastMv cost (m :: (dirs.map fun d => (m.1 + step * d.1, m.2 + step * d.2)).filter mvAllowed)).map (·.1)).getD m

/-- The four neighbours of a diamond. -/
def diamond4 : List (Int × Int) := [(0, -1), (-1, 0), (1, 0), (0, 1)]

/-- The eight neighbours of a position, in raster order. -/
def around8 : List (Int × Int) := [(-1, -1), (0, -1), (1, -1), (-1, 0), (1, 0), (-1, 1), (0, 1), (1, 1)]

/-- The full-sample diamond search: up to `n` steps, each to the best neighbour, until none is better. -/
def diamondSearch (cost : Mv → Nat) : Nat → Mv → Mv
  | 0, m => m
  | n + 1, m =>
    let b := bestAround cost 4 diamond4 m
    if b = m then m else diamondSearch cost n b

/-- The vector that the inter search finds for a CU in one reference: the best enabled candidate, then the three stages. -/
def CodeEnv.searchRef (v : CodeEnv) (tok : Nat) (cus : List EncCu) (x y size ref : Nat) : Mv :=
  let cost (m : Mv) : Nat := v.sad (v.predAt ref m) x y size
  let cands := ((List.range 8).filter fun b => bitOf v.search.cand b).filterMap fun b =>
    (v.candidate tok cus x y size b).map fullMv
  let start := ((leastMv cost cands).map (·.1)).getD (0, 0)
  let full := diamondSearch cost v.search.range start
  let half := if 1 ≤ v.search.subpel then bestAround cost 2 around8 full else full
  if v.search.subpel = 2 then bestAround cost 1 around8 half else half

/-! ## Mode decision (R384) -/

/-- A way to code a CU: its place in the order of the modes, its vector, and its prediction. -/
structure CodeMode where
  /-- 0 planar, 1 DC, 2 to 34 angular, 35 skip, 36 merge, 37 inter. -/
  mode : Nat
  /-- Its vector. -/
  motion : Option CuMotion
  /-- Predicted luma sample at a position. -/
  pred : Nat → Nat → Nat

/-- The modes that a CU tests, in the order of R384. -/
def CodeEnv.modes (v : CodeEnv) (tok : Nat) (cus : List EncCu) (x y size : Nat) : List CodeMode :=
  let intra := (List.range 35).map fun m => CodeMode.mk m none fun i j => Config.intraSample tok m size i j
  let along (k : Nat) (m : CuMotion) : CodeMode := ⟨k, some m, v.predAt m.ref (m.dx, m.dy)⟩
  let merges := (Config.mergeVectors tok x y size).map fun m => CuMotion.mk m.1 m.2.1 m.2.2
  let found := (List.range v.refs.length).map fun k =>
    let m := v.searchRef tok cus x y size k
    CuMotion.mk k m.1 m.2
  if v.idr then intra else intra ++ merges.map (along 35) ++ merges.map (along 36) ++ found.map (along 37)

/-- SATD + lambda(QP) x estimated bits, in units of 2^-8. -/
def CodeEnv.cost (v : CodeEnv) (tok x y size k : Nat) (m : CodeMode) : Nat :=
  256 * v.satd m.pred x y size + Config.lambda v.qp * Config.estimatedBits tok x y size k

/-- The position of the least of a list of numbers: of equal ones the first. -/
def leastAt (xs : List Nat) : Nat := (xs.findIdx? fun x => xs.all fun y => decide (x ≤ y)).getD 0

/-- The CU at a place, in the mode of least cost; a tie goes to the mode listed first. -/
def CodeEnv.decide (v : CodeEnv) (tok : Nat) (cus : List EncCu) (x y size : Nat) : EncCu :=
  let ms := v.modes tok cus x y size
  let best := leastAt (ms.mapIdx fun k m => v.cost tok x y size k m)
  { x := x, y := y, size := size, mode := (ms[best]?).elim 0 (·.mode), motion := (ms[best]?).bind (·.motion) }

/-! ## CTUs -/

/-- An integer as a number. -/
def codeInt (x : Int) : Nat := if 0 ≤ x then 2 * x.toNat else 2 * (-x).toNat - 1

/-- The samples of a square of the source: luma, then chroma. -/
def CodeEnv.samples (v : CodeEnv) (x y size : Nat) : List Nat :=
  (squareOf x y size).map (fun p => v.src 0 p.1 p.2) ++
    [1, 2].flatMap fun k => (squareOf (x / 2) (y / 2) (size / 2)).map fun p => v.src k p.1 p.2

/-- The encoder's state behind a CU coded as decided. -/
def CodeEnv.codeCu (v : CodeEnv) (tok : Nat) (c : EncCu) : Nat :=
  Config.encState [tok] (v.samples c.x c.y c.size) (v.how ++ [c.x, c.y, c.size, c.mode] ++
    c.motion.elim [] fun m => [m.ref, codeInt m.dx, codeInt m.dy])

/-- The encoder's state and the CUs behind a square of a CTU, split down to 8 by 8 where the encoder splits it. -/
def CodeEnv.codeSquare (v : CodeEnv) : Nat → Nat → Nat → Nat → Nat × List EncCu → Nat × List EncCu
  | 0, _, _, _, c => c
  | k + 1, x, y, size, c =>
    if 8 < size ∧ Config.cuSplit c.1 x y size then
      let h := size / 2
      [(x, y), (x + h, y), (x, y + h), (x + h, y + h)].foldl (fun c p => v.codeSquare k p.1 p.2 h c) c
    else
      let u := v.decide c.1 c.2 x y size
      (v.codeCu c.1 u, c.2 ++ [u])

/-- The encoder's state and the CUs behind a CTU. -/
def CodeEnv.codeCtu (v : CodeEnv) (x y : Nat) (c : Nat × List EncCu) : Nat × List EncCu := v.codeSquare 3 x y 32 c

/-- The encoder's state and the CUs behind a CTU coded under R391: skip with merge index 0, or DC intra without a residual. -/
def CodeEnv.lowCtu (v : CodeEnv) (x y : Nat) (c : Nat × List EncCu) : Nat × List EncCu :=
  let m := (Config.mergeVectors c.1 x y 32).head?.map fun m => CuMotion.mk m.1 m.2.1 m.2.2
  let u : EncCu := { x := x, y := y, size := 32, mode := if v.idr then 1 else 35, motion := if v.idr then none else m }
  (Config.encState [c.1] [] (v.how ++ [x, y, 32, u.mode]), c.2 ++ [u])

end Sys2Proof.Machine
end

