-- ==== Sys2Proof/Machine/Enc.lean ====
section
/-!
DEFINITION. Encode sessions: pictures, rate control, coding rows, slices and output rings (R377 to R396).

The bits of a CTU and the NAL units of a slice come from HEVC coding decisions that the manual only bounds: they are free
values of the encoder's state (log 31). Everything that R388 to R395 compute from them is computed here.
-/

namespace Sys2Proof.Machine

/-- Encode session `n`. -/
def State.session (s : State) (n : Nat) : EncSession := s.enc.getD n {}

/-- Change encode session `n`. -/
def State.updSession (s : State) (n : Nat) (g : EncSession → EncSession) : State := { s with enc := updAt s.enc n g }

/-- Change picture `order` of session `n`. -/
def State.updPic (s : State) (n order : Nat) (g : EncPic → EncPic) : State :=
  s.updSession n fun e => { e with pics := e.pics.map fun p => if p.order == order then g p else p }

/-- Picture `order` of session `n`. -/
def State.pic (s : State) (n order : Nat) : Option EncPic := (s.session n).pics.find? fun p => p.order == order

/-! ## Geometry (R382 to R384, R388) -/

/-- CTU rows. -/
def EncGeom.rows (g : EncGeom) : Nat := ctuRows g.height
/-- CTU columns. -/
def EncGeom.cols (g : EncGeom) : Nat := ceilDiv g.width 32
/-- Slices of a picture. -/
def EncGeom.slices (g : EncGeom) : Nat := ceilDiv g.rows g.sliceRows
/-- Paired mode: above 0.5 x 10^9 padded luma samples per second (R382). -/
def EncGeom.paired (g : EncGeom) : Bool := decide (500000000 * 1000 < 1024 * g.rows * g.cols * g.rate)
/-- Reconstruction buffers (R383, R385). -/
def EncGeom.buffers (g : EncGeom) : Nat := g.refs + (if g.paired then 2 else 1)

/-- T_I and T_P (R388). -/
def EncGeom.target (g : EncGeom) (r : RateSet) (idr : Bool) : Nat :=
  let ti := 1000 * g.bitrate * 1000 * g.gop * r.ki / (g.rate * (r.ki + g.gop - 1))
  if idr then ti else ti / r.ki

/-- C (R388). -/
def EncGeom.capOf (g : EncGeom) (r : RateSet) (target : Nat) : Nat :=
  min (r.capf * target / 16) (8 * (g.ring - 64 - 32 * g.slices))

/-- The geometry of the witness: an IDR picture every second and one reference (R384, log 32). -/
def WitConfig.geom (c : WitConfig) : EncGeom :=
  { width := c.width, height := c.height, profile := c.profile, sliceRows := c.sliceRows, wpp := c.wpp, rotation := 0,
    rate := 1000 * c.rate, bitrate := c.bitrate, gop := c.rate, refs := 1, ring := 33554432 }

/-! ## Which row may start (R155, R382, R383) -/

/-- The core that codes a row of a picture now. -/
def State.rowRuns (s : State) (n order : Nat) : Bool :=
  s.dec.cores.any fun c => c == some (.row n order)

/-- The witness buffer of a picture can be read. -/
def State.bufReady (s : State) (p : EncPic) : Bool :=
  match p.buf with
  | none => true
  | some b => let m := (s.wit.bufs.getD b {}).mark
    m == .ready || m == .coding

/-- A SLICE record that waits. -/
def ChainItem.isSlice : ChainItem → Bool
  | .slice _ _ _ _ _ _ => true
  | _ => false

/-- The session waits for room behind a slice (R395, R410). -/
def State.outWaits (s : State) (n : Nat) : Bool :=
  if n = 0 then s.chain.items.any ChainItem.isSlice else !(s.session n).out.isEmpty

/-- The picture that begins now is an IDR picture (R384). -/
def EncSession.wantsIdr (e : EncSession) (p : EncPic) : Bool :=
  p.forceIdr || match e.sinceIdr with
    | none => true
    | some k => decide (p.geom.gop ≤ k + 1)

/-- A row of the picture at position `i` of a session's list may start, as far as the pictures before it go (R383). -/
def rowOrdered (e : EncSession) (i : Nat) (p : EncPic) : Bool :=
  match i with
  | 0 => true
  | 1 => match e.pics[0]? with
    | none => true
    | some q => p.geom.paired && q.begun && !q.cut && !(if p.begun then p.idr else e.wantsIdr p) &&
        decide (min (p.rowBits.length + 4) q.geom.rows ≤ q.rowBits.length)
  | _ => false

/-- A sequence that holds encode work back: sessions 1 to 3 stop at a power-fail warning unless they follow the witness,
and nothing begins in a loss, in Dusk entry or in shutdown but pictures of the witness already taken (R376, R545, R605,
R611). -/
def State.rowAllowed (s : State) (n : Nat) (p : EncPic) : Bool :=
  s.codecWorks && if s.pwr.loss.isSome then decide (p.sliceRow < p.rowBits.length) && p.buf.isSome
    else if n = 0 || p.buf.isSome then true
    else (s.pwr.dusk == .awake && s.thm.shutdown.isNone) || p.begun

/-- The picture of a session whose next row core `core` may take. -/
def State.rowPic (s : State) (core n : Nat) : Option EncPic :=
  let e := s.session n
  if s.outWaits n then none
  else
    ((List.zipIdx e.pics).find? fun x =>
      let p := x.1
      rowOrdered e x.2 p && s.bufReady p && !s.rowRuns n p.order && s.rowAllowed n p &&
        p.banned != some core && decide (p.rowBits.length < p.geom.rows) && !(p.cut && p.sliceRow == p.rowBits.length) &&
        (p.core.all (· == core) || p.sliceRow == p.rowBits.length)).map (·.1)

/-- The coding rows that a core may take, ranked (R155). -/
def State.rowCands (s : State) (core : Nat) : List Cand :=
  (List.range 4).filterMap fun n => (s.rowPic core n).map fun p =>
    { key := (if n = 0 then 1 else 3, n, word p.order), load := 0, place := 0, item := .row n p.order }

/-! ## Beginning a picture (R379, R385, R388 to R390) -/

/-- Bring the QP and the weights of pictures that have ended into force before the next picture begins; in paired mode only
those at least two pictures before it (R383, R389, R390). -/
def EncSession.applyEnded (e : EncSession) (paired : Bool) : EncSession :=
  e.ended.reverse.foldl (fun e d =>
    if d.applied || (paired && decide (e.begun < d.seq + 2)) then e
    else
      let lim (q : Int) : Int := clampInt q e.rate.qpMin e.rate.qpMax
      let mark (x : EncDone) : EncDone := if x.order == d.order then { x with applied := true } else x
      if d.idr then { e with qpI := lim (e.qpI + d.change), wI := d.rowBits, ended := e.ended.map mark }
      else { e with qpP := lim (e.qpP + d.change), wP := d.rowBits, ended := e.ended.map mark }) e

/-- Numbers in falling order. -/
def sortDown : List Nat → List Nat
  | [] => []
  | x :: xs =>
    let s := sortDown xs
    s.filter (x < ·) ++ [x] ++ s.filter (· ≤ x)

/-- The references of a picture that begins: every SHORT picture, newest first, and in paired mode before them the one still in
coding; never more than `refs` of them (R383, R385, log 133). -/
def EncSession.refsFor (e : EncSession) (g : EncGeom) : List Nat :=
  (sortDown ((e.recon.filter fun r => r.1 == .short || r.1 == .coding).map (·.2))).take g.refs

/-- Take a reconstruction buffer for a picture: a FREE one, or the oldest SHORT one (R385). -/
def EncSession.takeRecon (e : EncSession) (order buffers : Nat) (idr : Bool) : EncSession :=
  let rs : List (ReconMark × Nat) := (e.recon ++ List.replicate (buffers - e.recon.length) (ReconMark.free, 0)).map
    fun (r : ReconMark × Nat) => if idr && r.1 == ReconMark.short then (ReconMark.free, 0) else r
  let rs : List (ReconMark × Nat) := if rs.any (fun (r : ReconMark × Nat) => r.1 == ReconMark.free) then rs
    else
      let oldest := (rs.filter fun (r : ReconMark × Nat) => r.1 == ReconMark.short).foldl
        (fun b (r : ReconMark × Nat) => match b with
          | none => some r.2
          | some o => some (min o r.2)) (none : Option Nat)
      rs.map fun (r : ReconMark × Nat) =>
        if r.1 == ReconMark.short && some r.2 == oldest then (ReconMark.free, 0) else r
  match rs.findIdx? (fun (r : ReconMark × Nat) => r.1 == ReconMark.free) with
  | none => { e with recon := rs }
  | some k => { e with recon := rs.set k (.coding, order) }

/-- Bits reserved for each CTU that follows (R391). -/
def EncPic.perCtu (p : EncPic) : Nat := if p.idr then 40 else 8

/-- C lies below the headers and the reserve of all CTUs: every CTU is coded under R391. -/
def EncPic.skipsAll (p : EncPic) : Bool :=
  decide (p.cap < 512 * p.geom.slices + p.perCtu * p.geom.rows * p.geom.cols)

/-- A picture that begins, with everything fixed at its commit (R382, R384, R385, R388 to R391). -/
def EncSession.beginning (e : EncSession) (p : EncPic) : EncPic :=
  let idr := e.wantsIdr p
  let rows := p.geom.rows
  let t := p.geom.target e.rate idr
  let c := p.geom.capOf e.rate t
  let w := if idr then e.wI else e.wP
  let per := if idr then 40 else 8
  { p with begun := true, idr := idr, seq := e.begun, poc := if idr then 0 else (e.sinceIdr.getD 0) + 1,
           rate := e.rate, search := e.search, refs := if idr then [] else e.refsFor p.geom,
           target := t, cap := c, qp := if idr then e.qpI else e.qpP,
           weights := if w.length = rows then w else List.replicate rows 1, index := if p.buf.isSome then p.index else e.nextIndex,
           skipAt := if c < 512 * p.geom.slices + per * rows * p.geom.cols then some (0, 0) else none }

/-- The witness encode has begun to read a buffer (R372). -/
def State.markCoding (s : State) (n : Nat) (p : EncPic) : State :=
  match n, p.buf with
  | 0, some b => { s with wit.bufs := updAt s.wit.bufs b fun (x : WitBuf) => { x with mark := .coding } }
  | _, _ => s

/-- At a size change every w[r] is 1 again (R390). -/
def EncSession.resize (e : EncSession) (p : EncPic) : EncSession :=
  let size := (p.geom.width, p.geom.height)
  if size = e.size then e
  else { e with size := size, wI := [], wP := [], ended := e.ended.map (fun (d : EncDone) => { d with rowBits := [] }) }

/-- Begin a picture: the commit point of its ENC_FRAME (R70, R379). -/
def State.beginPic (s : State) (n : Nat) (p : EncPic) : State :=
  if p.begun then s
  else
    let s := s.updSession n fun e =>
      let e := (e.applyEnded p.geom.paired).resize p
      let q := e.beginning p
      let e := { e with begun := e.begun + 1
                        pics := e.pics.map (fun (x : EncPic) => if x.order == p.order then q else x),
                        sinceIdr := if q.idr then some 0 else e.sinceIdr.map (· + 1),
                        nextIndex := if p.buf.isSome then e.nextIndex else e.nextIndex + 1 }
      e.takeRecon p.order p.geom.buffers q.idr
    let s := s.markCoding n p
    match p.ticket with
    | some t => s.commitFlight t
    | none => s

/-- An ENC_FRAME whose commit is held back ends (R73, R545). -/
def State.dropPic (s : State) (n : Nat) (p : EncPic) (st : Status) : State :=
  let s := s.updSession n fun e => { e with pics := e.pics.filter fun q => q.order != p.order }
  match p.ticket with
  | some t => s.finish t st noField 0
  | none => s

/-- A core starts the next row of a picture (R155). -/
def State.startRow (s : State) (core n order : Nat) : State :=
  match s.pic n order with
  | none => s
  | some p =>
    match (if p.ticket.isSome && !p.begun then s.commitRefusal else none) with
    | some st => s.dropPic n p st
    | none =>
      if !p.begun && p.ticket.any s.commitHeld then s else
      let s := (s.beginPic n p).updPic n order fun p => { p with core := some core, banned := none }
      { s with dec.cores := setAt s.dec.cores core (some (.row n order)) }

/-! ## A coding row (R390, R391) -/

/-- plan(r - 1) (R390). -/
def EncPic.planned (p : EncPic) (r : Nat) : Nat := p.target * sumNat (p.weights.take r) / sumNat p.weights

/-- qp_r (R390). -/
def EncPic.rowQp (p : EncPic) (r : Nat) : Nat :=
  if p.target ≤ p.bits then p.rate.qpMax
  else
    let d := clampInt ((12 * ((p.bits : Int) - p.planned r)) / (p.target : Nat)) (-4) 6
    (clampInt (p.qp + d) p.rate.qpMin p.rate.qpMax).toNat

/-- R: the reserve behind CTU `col` of row `r` (R391). -/
def EncPic.reserve (p : EncPic) (r col : Nat) : Nat :=
  let g := p.geom
  p.perCtu * (g.rows * g.cols - (r * g.cols + col + 1)) + 512 * (g.slices - (r / g.sliceRows + 1))

/-- Where the coding of a row stands: the encoder's state, the CUs of the picture, its bits, and from where CTUs are coded under
R391. -/
structure RowCode where
  /-- The encoder's state. -/
  tok : Nat
  /-- CUs of the picture so far. -/
  cus : List EncCu
  /-- B. -/
  bits : Nat
  /-- Row and column. -/
  skipAt : Option (Nat × Nat)

/-- Code CTUs of row `r` from a column on; one that would bring B + R above C is coded again under R391, with every later CTU. -/
def EncPic.codeCtus (p : EncPic) (v : CodeEnv) (r : Nat) : Nat → Nat → RowCode → RowCode
  | 0, _, c => c
  | n + 1, col, c =>
    let full := v.codeCtu (32 * col) (32 * r) (c.tok, c.cus)
    let bits := c.bits + Config.ctuBits full.1 col
    let low := v.lowCtu (32 * col) (32 * r) (c.tok, c.cus)
    let least := c.bits + min p.perCtu (Config.ctuBits low.1 col)
    match c.skipAt with
    | some k => p.codeCtus v r n (col + 1) ⟨low.1, low.2, least, some k⟩
    | none =>
      if p.cap < bits + p.reserve r col then p.codeCtus v r n (col + 1) ⟨low.1, low.2, least, some (r, col)⟩
      else p.codeCtus v r n (col + 1) ⟨full.1, full.2, bits, none⟩

/-- The states of the rows of picture `order`, and its CUs: of one in coding or of one that has ended. -/
def EncSession.coded (e : EncSession) (order : Nat) : List Nat × List EncCu :=
  match e.pics.find? fun q => q.order == order with
  | some q => (q.tokens, q.cus)
  | none => match e.ended.find? fun d => d.order == order with
    | some d => (d.tokens, d.cus)
    | none => ([], [])

/-- The CUs of the picture that began `n` before a picture (R383). -/
def EncSession.cusBefore (e : EncSession) (p : EncPic) (n : Nat) : List EncCu :=
  if p.seq < n then []
  else match e.pics.find? fun q => q.begun && q.seq + n == p.seq with
    | some q => q.cus
    | none => ((e.ended.find? fun d => d.seq + n == p.seq).map (·.cus)).getD []

/-- The source of a picture. -/
def State.picSource (s : State) (p : EncPic) : SrcPlanes :=
  match p.source, p.buf with
  | some e, _ => s.memSource e
  | none, some b => match (s.wit.bufs.getD b {}).pic with
    | some w => s.witSource w b
    | none => ⟨1, 1, fun _ _ _ => 0⟩
  | none, none => ⟨1, 1, fun _ _ _ => 0⟩

/-- The rotation of a picture: its own, or its tap session's (R377, R378). -/
def EncPic.rotation (p : EncPic) : Nat := match p.source with
  | some e => e.rotation
  | none => p.geom.rotation

/-- The levels of HEVC: 30 times the number, the most luma samples of a picture, and of a second (log 9). -/
def hevcLevels : List (Nat × Nat × Nat) :=
  [(30, 36864, 552960), (60, 122880, 3686400), (63, 245760, 7372800), (90, 552960, 16588800), (93, 983040, 33177600),
   (120, 2228224, 66846720), (123, 2228224, 133693440), (150, 8912896, 267386880), (153, 8912896, 534773760),
   (156, 8912896, 1069547520)]

/-- The lowest level whose limits the coded size and rate meet (R384). -/
def EncGeom.level (g : EncGeom) : Nat :=
  let n := 1024 * g.rows * g.cols
  ((hevcLevels.find? fun l => decide (n ≤ l.2.1 ∧ n * g.rate ≤ 1000 * l.2.2 ∧
    (32 * g.cols) ^ 2 ≤ 8 * l.2.1 ∧ (32 * g.rows) ^ 2 ≤ 8 * l.2.1)).map (·.1)).getD 156

/-- The parameters that a row's coding depends on (R382, R384). -/
def EncPic.how (p : EncPic) (r qp : Nat) : List Nat :=
  [r, qp, b2n p.idr, p.poc, p.geom.width, p.geom.height, p.geom.profile, p.geom.level, p.geom.sliceRows, b2n p.geom.wpp,
    p.refs.length]

/-- Rows of a reference that row `r` can read: down to row r + 3 in paired mode (R383). -/
def EncGeom.reach (g : EncGeom) (r : Nat) : Nat := if g.paired then min (r + 4) g.rows else g.rows

/-- What the coding of row `r` of a picture reads (R383 to R386). -/
def State.codeEnv (s : State) (n : Nat) (p : EncPic) (r qp : Nat) : CodeEnv :=
  let e := s.session n
  let g := p.geom
  let src := s.picSource p
  { depth := if g.profile = 0 then 8 else 10, w := 32 * g.cols, h := 32 * g.rows,
    src := fun k x y =>
      if k = 0 then codedSample g p.rotation src 0 (min x (g.width - 1)) (min y (g.height - 1))
      else codedSample g p.rotation src k (min x (g.width / 2 - 1)) (min y (g.height / 2 - 1)),
    refs := p.refs.map fun o => (e.coded o).1.take (g.reach r),
    coloc := (p.refs.head?.elim [] fun o => (e.coded o).2).filter fun (c : EncCu) => decide (c.y < 32 * g.reach r),
    prev := e.cusBefore p (if g.paired then 2 else 1), search := p.search, qp := qp, idr := p.idr, how := p.how r qp }

/-- The lines of device memory that the coding of a row reads of its source: the CTU row of a witness buffer, or the rectangle of
a picture in device memory (R472, log 134). -/
def State.sourceSpans (s : State) (p : EncPic) (r : Nat) : List (Nat × Nat) :=
  match p.source, p.buf.bind fun b => (s.wit.bufs.getD b {}).pic.map fun w => (b, w) with
  | some e, _ => (List.range (planesOf e.format).length).flatMap fun i =>
      let q := (planesOf e.format).getD i ⟨0, false, false⟩
      let pl := e.places.getD i (false, 0)
      let pitch := e.pitches.getD i 0
      if pl.1 then lineSpans (pl.2 + q.lines e.y * pitch + q.width e.x * q.bytes) pitch (q.width e.w * q.bytes) (q.lines e.h)
      else []
  | none, some (b, w) =>
    let pitch := wovenPitch w.config.width
    lineSpans (w.addr b + 32 * r * pitch) pitch pitch (min 32 (w.config.height - 32 * r))
  | none, none => []

/-- Code one row of a picture: its QP, its bits, its token, and what R391 and R392 note. -/
def State.codeRow (s : State) (n : Nat) (p : EncPic) : EncPic :=
  let r := p.rowBits.length
  let qp := p.rowQp r
  let v := s.codeEnv n p r qp
  let first := decide (r % p.geom.sliceRows = 0)
  let tok := Config.encState (p.tokens.getLast?.toList ++ v.refs.flatten) [] (p.how r qp)
  let b0 := if first then p.bits + min 512 (Config.sliceHeaderBits tok) else p.bits
  let c := p.codeCtus v r p.geom.cols 0 ⟨tok, p.cus, b0, p.skipAt⟩
  { p with bits := c.bits, rowBits := p.rowBits ++ [c.bits - p.bits], rowQps := p.rowQps ++ [qp],
           tokens := p.tokens ++ [c.tok], cus := c.cus, skipAt := c.skipAt, skipTold := p.skipTold || c.skipAt.isSome,
           floorAt := if p.floorAt.isNone && qp = p.rate.qpMax then some r else p.floorAt }

/-- RC_ROWS_AT_FLOOR and RC_ROWS_SKIPPED, once per picture (R392). -/
def State.rateEvents (s : State) (n : Nat) (old new : EncPic) : State :=
  let owner := some (s.session n).owner
  let s := match old.floorAt, new.floorAt with
    | none, some r => s.raise { code := .rcRowsAtFloor, source := 120, data0 := n + 256 * r, data1 := new.index.toNat,
                                owner := owner }
    | _, _ => s
  match new.skipAt with
  | some (r, c) =>
    if new.skipTold && !old.skipTold then
      s.raise { code := .rcRowsSkipped, source := 120, data0 := n + 256 * r + 65536 * c, data1 := new.index.toNat,
                owner := owner }
    else s
  | none => s

/-! ## Slices (R394, R395, R402) -/

/-- The rows of the slice in progress. -/
def EncPic.sliceLen (p : EncPic) : Nat := p.rowBits.length - p.sliceRow

/-- A slice has rows at qpmax. -/
def EncPic.sliceFloor (p : EncPic) : Bool := (p.rowQps.drop p.sliceRow).any (· == p.rate.qpMax)
/-- A slice has CTUs coded under R391. -/
def EncPic.sliceSkipped (p : EncPic) : Bool := p.skipAt.any fun k => decide (k.1 < p.rowBits.length)
/-- The NAL units of the slice in progress. -/
def EncPic.sliceNals (p : EncPic) : List Byte :=
  Config.sliceNals (p.tokens.drop p.sliceRow) (p.how p.sliceRow (p.rowQps.getD p.sliceRow 0))

/-- Write the entries that fit into a session's ring, oldest first (R395). -/
def State.flushOut : Nat → State → Nat → State
  | 0, s, _ => s
  | k + 1, s, n =>
    let e := s.session n
    match e.out, e.geom with
    | o :: rest, some g =>
      let d := g.ring - 64
      match ringFit d e.wr (s.ringRd e.ring) o.entry.length with
      | none => s
      | some pad =>
        let padHead := leBytes 2 0 ++ [byte n, 0] ++ leBytes 4 (pad - 32) ++ List.replicate 24 0
        let (s, wr) := s.ringWrite e.ring d e.wr pad padHead o.entry
        let s := s.updSession n fun e => { e with wr := wr, out := rest }
        let s := match o.done with
          | some (t, i, b) => s.finish t .ok i b
          | none => s
        State.flushOut k s n
    | _, _ => s

/-- ENC_CLOSE completes when nothing of the session is left (R381). -/
def State.closeSession (s : State) (n : Nat) : State :=
  let e := s.session n
  match e.closing with
  | none => s
  | some t => if e.pics.isEmpty && e.out.isEmpty then (s.updSession n fun _ => {}).finish t .ok 0 0 else s

/-- The entry of a slice in an output ring (R394). -/
def State.sliceEntry (s : State) (n : Nat) (p : EncPic) (last : Bool) : List Byte :=
  let nals := p.sliceNals
  let flags := b2n (p.sliceRow == 0) + 2 * b2n last + 4 * b2n p.idr + 8 * b2n p.sliceFloor + 16 * b2n p.sliceSkipped +
    32 * b2n (p.idr && p.sliceRow == 0)
  leBytes 2 1 ++ [byte n, byte flags] ++ leBytes 4 nals.length ++ leBytes 4 p.index.toNat ++ leBytes 2 p.sliceRow ++
    [byte p.sliceLen, byte (p.rowQps.getD p.sliceRow 0)] ++ leBytes 4 (secField s.time.mt % 0x100000000) ++
    leBytes 4 (nsField s.time.mt) ++ List.replicate 8 0 ++ sliceZ nals 0 (roundUp nals.length 16)

/-- The SLICE record of a witness slice (R401, R402). -/
def State.sliceItem (s : State) (w : WitPicture) (p : EncPic) (last cut : Bool) : ChainItem :=
  let sflags := b2n (p.sliceRow == 0) + 2 * b2n last + 4 * b2n p.idr + 8 * b2n (p.idr && p.sliceRow == 0) + 16 * b2n cut
  .slice w.dfn w.psn (w.stamp.getD 2 0) (w.flags + 2 * b2n p.sliceFloor + 4 * b2n p.sliceSkipped)
    (sliceBody p.sliceRow p.sliceLen (p.rowQps.getD p.sliceRow 0) s.time.mt sflags p.sliceNals) (last || cut)

/-- Emit the slice in progress of a picture; `last` when the picture ends with it, `cut` when it ends early. -/
def State.emitSlice (s : State) (n : Nat) (p : EncPic) (last cut : Bool) : State :=
  let bytes := p.bytes + p.sliceNals.length
  let s := s.updPic n p.order fun p => { p with sliceRow := p.rowBits.length, bytes := bytes, core := none }
  if n = 0 then
    match p.buf.bind fun b => (s.wit.bufs.getD b {}).pic with
    | some w => s.pushItem (s.sliceItem w p last cut)
    | none => s
  else
    let done := if last then p.ticket.map fun t => (t, p.index.toNat, bytes) else none
    let s := s.updSession n fun e => { e with out := e.out ++ [{ entry := s.sliceEntry n p last, done := done }] }
    s.flushOut (s.session n).out.length n

/-! ## The end of a picture (R372, R375, R385, R389) -/

/-- Change of the picture QP (R389). -/
def qpChange (a t : Nat) : Int :=
  if 200 * t ≤ 100 * a then 4
  else if 150 * t ≤ 100 * a then 2
  else if 115 * t ≤ 100 * a then 1
  else if 100 * a ≤ 50 * t then -3
  else if 100 * a ≤ 70 * t then -2
  else if 100 * a ≤ 87 * t then -1
  else 0

/-- A session has read the last row of a witness buffer: FREE once every reader has (R372). -/
def State.releaseBuf (s : State) (b n : Nat) : State :=
  { s with wit.bufs := updAt s.wit.bufs b fun (x : WitBuf) =>
    let rs := x.readers.filter (· != n)
    if rs.isEmpty then {} else { x with readers := rs } }

/-- The SIGN of WIT_STOP is already on its way. -/
def State.signStopDue (s : State) : Bool :=
  s.chain.items.any (fun i => i == .sign 1) || s.chain.signing.any fun j => match j with
    | .sign _ r _ => r == 1
    | .attest _ _ _ _ => false

/-- The witness has no picture left: a WIT_STOP that waits gets its SIGN record (R375, R403). -/
def State.witDrained (s : State) : State :=
  if s.wit.stop.isSome && (s.session 0).pics.isEmpty && !s.signStopDue then s.pushItem (.sign 1) else s

/-- A picture leaves its session. A picture cut short counts neither for rate control nor as a reference. -/
def State.endPic (s : State) (n order : Nat) : State :=
  match s.pic n order with
  | none => s
  | some p =>
    let whole := p.rowBits.length == p.geom.rows
    let d : EncDone := { order := order, seq := p.seq, idr := p.idr, change := qpChange p.bits p.target,
                         rowBits := p.rowBits, tokens := p.tokens, cus := p.cus }
    let s := s.updSession n fun e =>
      { e with pics := e.pics.filter fun q => q.order != order,
               recon := e.recon.map fun r => if r.2 == order && r.1 == .coding then
                 (if whole then ReconMark.short else .free, order) else r,
               ended := if whole then (d :: e.ended).take 6 else e.ended }
    let s := match p.buf with
      | some b => s.releaseBuf b n
      | none => s
    let s := if n = 0 then s.witDrained else s
    s.closeSession n

/-- ENCODE_ROW_COMPLETE (R390 to R395): the row that a codec core works on is coded; a finished slice is emitted. -/
def State.endRow (s : State) (core n order : Nat) : State :=
  let s := { s with dec.cores := setAt s.dec.cores core none }
  match s.pic n order with
  | none => s
  | some p =>
    let q := s.codeRow n p
    let s := s.requestAll 6 false (s.sourceSpans p p.rowBits.length)
    let s := (s.updPic n order fun _ => q).rateEvents n p q
    let last := q.rowBits.length == q.geom.rows
    if !last && decide (q.sliceLen < q.geom.sliceRows) then s
    else
      let s := s.emitSlice n q last (q.cut && !last)
      if last || q.cut then s.endPic n order else s

/-- ENCODE_ROW_COMPLETE (R394). -/
def execEncodeRowComplete (core : Fin 12) (s : State) : Host.Outcome State Fault Refusal :=
  match s.dec.cores.getD core.val none with
  | some (.row n order) => .next (s.endRow core.val n order)
  | _ => .next s

/-- ENC_RING_POLL (R395): the device re-reads rd and writes what fits now. Session 0 stands for the export ring (R412). -/
def execEncRingPoll (session : Fin 4) (s : State) : Host.Outcome State Fault Refusal :=
  if session.val = 0 then .next s.pumpChain
  else
    let s := s.flushOut (s.session session.val).out.length session.val
    .next (s.closeSession session.val)

/-- CODEC_ITEM_START (R155, R156): an idle core that is not faulted takes the first ready part or coding row. -/
def State.codecStart (s : State) (core : Nat) : State :=
  if (s.dec.cores.getD core none).isSome || s.coreFaulted core then s
  else
    let s := s.giveSlots
    match pickCand (s.rowCands core ++ if s.partsRun then s.partCands core else []) with
    | none => s
    | some c => match c.item with
      | .part slot ci k => s.startPart core slot ci k
      | .row n order => s.startRow core n order

/-- CODEC_ITEM_START (R155). -/
def execCodecItemStart (core : Fin 12) (s : State) : Host.Outcome State Fault Refusal := .next (s.codecStart core.val)

/-! ## Commands (R377 to R381, R387, R393) -/

/-- Sessions 1 to 3 that a function holds. -/
def State.sessionsOf (s : State) (f : Func) : Nat :=
  ([1, 2, 3].filter fun n => (s.session n).isOpen && (s.session n).owner == f).length

/-- Sessions that VF grants reserve and no VF has opened (R89). -/
def State.reservedSessions (s : State) : Nat :=
  sumNat ((allFuncs.drop 1).map fun f => (s.fn f).grant.sessions - s.sessionsOf f)

/-- A session is there for the function: within its grant, or beyond what grants reserve (R80, R89). -/
def State.sessionRoom (s : State) (p : Packet) : Bool :=
  if p.src.isVf then decide (s.sessionsOf p.src.func < (s.grantOf p.src).sessions)
  else decide (s.reservedSessions < ([1, 2, 3].filter fun n => !(s.session n).isOpen).length)

/-- The field of ENC_OPEN out of its range (R377). -/
def encOpenFault (p : Packet) : Option Nat :=
  let tap := p.u8 16 = 1
  if 1 < p.u8 16 then some 16
  else if p.src.isVf ∧ tap then some 16
  else if 1 < p.u8 17 then some 17
  else if p.u8 18 < 1 ∨ 16 < p.u8 18 then some 18
  else if 8 ≤ p.u8 19 then some 19
  else if !inSteps8 (p.u16 20) then some 20
  else if !inSteps8 (p.u16 22) then some 22
  else if 8294400 < p.u16 20 * p.u16 22 then some 20
  else if (tap ∧ p.u32 24 ≠ 0) ∨ (!tap ∧ (p.u32 24 < 1000 ∨ 120000 < p.u32 24)) then some 24
  else if p.u32 28 < 100 ∨ 200000 < p.u32 28 then some 28
  else if p.u16 32 = 0 then some 32
  else if p.u8 34 < 1 ∨ 4 < p.u8 34 then some 34
  else if p.u32 36 % 4096 ≠ 0 ∨ p.u32 36 < 65536 ∨ 67108864 < p.u32 36 then some 36
  else none
where
  /-- A coded size: a multiple of 8, 64 to 3840. -/
  inSteps8 (n : Nat) : Bool := decide (64 ≤ n ∧ n ≤ 3840 ∧ n % 8 = 0)

/-- ENC_OPEN (R377): the lowest session that is not open. -/
def runEncOpen (_t : Nat) (p : Packet) (s : State) : Answer :=
  let f := p.src.func
  match encOpenFault p with
  | some off => refuse .badParam off
  | none =>
    if p.u64 40 % 4096 ≠ 0 then refuse .alignment 40
    else match s.resolve p.src (p.u64 40) (p.u32 36) with
    | none => refuse .badParam 40
    | some l =>
      if !s.sessionRoom p then refuse .noResource noField
      else match [1, 2, 3].find? fun n => !(s.session n).isOpen with
      | none => refuse .noResource noField
      | some n =>
        let tap := p.u8 16 == 1
        let g : EncGeom :=
          { width := p.u16 20, height := p.u16 22, profile := p.u8 17, sliceRows := p.u8 18, wpp := bitOf (p.u8 19) 0,
            rotation := p.u8 19 / 2, rate := if tap then 1000 * s.wit.config.rate else p.u32 24, bitrate := p.u32 28,
            gop := p.u16 32, refs := p.u8 34, ring := p.u32 36 }
        let s := s.updSession n fun _ =>
          { isOpen := true, owner := f, tap := tap, geom := some g, ring := (l.dev, l.addr) }
        -- the header reads 0 but for rd, which is the host's (R394)
        okay ((s.writeAt l (leBytes 8 0)).writeAt ⟨l.dev, l.addr + 12⟩ (leBytes 52 0)) n

/-- The session that a packet names is open and the function's. -/
def State.ownSession (s : State) (p : Packet) (n : Nat) : Bool :=
  n == 0 || (decide (n < 4) && (s.session n).isOpen && (s.session n).owner == p.src.func)

/-- Formats that ENC_FRAME takes (R378). -/
def encFormat (f : Nat) : Bool := [0x01, 0x02, 0x04, 0x10, 0x11, 0x13].contains f

/-- The planes that an ENC_FRAME carries. -/
def framePlanes (p : Packet) : Planes := ⟨[p.u64 40, p.u64 48, p.u64 56], [p.u32 28, p.u32 32, p.u32 36]⟩

/-- Offsets of the plane fields of ENC_FRAME. -/
def frameOffs : PlaneOffs := ⟨fun i => 28 + 4 * i, fun i => 40 + 8 * i⟩

/-- The field of an ENC_FRAME rectangle that breaks the evenness of its format. -/
def frameEven (p : Packet) : Option Nat :=
  let f := p.u8 17
  if evenX f ∧ p.u16 20 % 2 ≠ 0 then some 20
  else if evenY f ∧ p.u16 22 % 2 ≠ 0 then some 22
  else if evenX f ∧ p.u16 24 % 2 ≠ 0 then some 24
  else if evenY f ∧ p.u16 26 % 2 ≠ 0 then some 26
  else none

/-- The first plane of an ENC_FRAME that is misused or lies outside the function's memory. -/
def State.framePlanesFit (s : State) (p : Packet) : Option Nat :=
  let pl := framePlanes p
  let fs := planesOf (p.u8 17)
  let w := p.u16 20 + p.u16 24
  let h := p.u16 22 + p.u16 26
  ((List.range 3).filterMap fun i =>
    let pitch := pl.pitches.getD i 0
    match fs[i]? with
    | none => if pitch ≠ 0 then some (28 + 4 * i) else if pl.addrs.getD i 0 ≠ 0 then some (40 + 8 * i) else none
    | some q =>
      let line := q.width w * q.bytes
      if pitch < line then some (28 + 4 * i)
      else if (s.resolve p.src (pl.addrs.getD i 0) ((q.lines h - 1) * pitch + line)).isNone then some (40 + 8 * i)
      else none).head?

/-- The rotated rectangle is at most 8 times larger or smaller than the coded size along each axis (R378). -/
def frameScale (g : EncGeom) (rot w h : Nat) : Bool :=
  let rw := if rot % 2 = 1 then h else w
  let rh := if rot % 2 = 1 then w else h
  decide (rw ≤ 8 * g.width ∧ g.width ≤ 8 * rw ∧ rh ≤ 8 * g.height ∧ g.height ≤ 8 * rh)

/-- ENC_FRAME (R378, R379). -/
def runEncFrame (t : Nat) (p : Packet) (s : State) : Answer :=
  let n := p.u8 16
  let e := s.session n
  let rot := p.u8 18 % 4
  if !s.ownSession p n then refuse .badParam 16
  else match e.geom with
  | none => refuse .wrongState 16
  | some g =>
    if n = 0 ∨ e.tap ∨ e.closing.isSome then refuse .wrongState 16
    else if !encFormat (p.u8 17) then refuse .badParam 17
    else if 8 ≤ p.u8 18 then refuse .badParam 18
    else if p.u16 24 = 0 then refuse .badParam 24
    else if p.u16 26 = 0 then refuse .badParam 26
    else match (frameEven p).or (planesAligned (p.u8 17) (framePlanes p) frameOffs) with
    | some off => refuse .alignment off
    | none =>
      if !frameScale g rot (p.u16 24) (p.u16 26) then refuse .badParam 24
      else match s.framePlanesFit p with
      | some off => refuse .badParam off
      | none =>
        let pl := framePlanes p
        let src : EncSource :=
          { format := p.u8 17, rotation := rot, x := p.u16 20, y := p.u16 22, w := p.u16 24, h := p.u16 26,
            pitches := pl.pitches, places := pl.addrs.map fun a => match s.resolve p.src a 0 with
              | some l => (l.dev, l.addr)
              | none => (false, 0) }
        let pic : EncPic := { order := e.nextOrder, ticket := some t, index := 0, source := some src, buf := none,
                              forceIdr := bitOf (p.u8 18) 2, geom := g }
        .started (s.updSession n fun e => { e with pics := e.pics ++ [pic], nextOrder := e.nextOrder + 1 }) false

/-- Pictures of a session that have not begun end: their packets with ABORTED, their buffers released (R381). -/
def State.dropWaiting (s : State) (n : Nat) : State :=
  ((s.session n).pics.filter fun p => !p.begun).foldl (fun s p =>
    let s := s.dropPic n p .aborted
    match p.buf with
    | some b => s.releaseBuf b n
    | none => s) s

/-- ENC_CLOSE (R381). -/
def runEncClose (t : Nat) (p : Packet) (s : State) : Answer :=
  let n := p.u8 16
  if n = 0 ∨ !s.ownSession p n then refuse .badParam 16
  else if (s.session n).closing.isSome then refuse .wrongState 16
  else
    let s := s.dropWaiting n
    -- the packet itself completes once the session is empty
    .started ((s.updSession n fun e => { e with closing := some t }).closeSession n) true

/-- ENC_RATE (R393): new parameters for pictures that commit later; both picture QPs start anew. -/
def runEncRate (_t : Nat) (p : Packet) (s : State) : Answer :=
  let n := p.u8 16
  if 3 < n then refuse .badParam 16
  else if 51 < p.u8 17 then refuse .badParam 17
  else if p.u8 18 < p.u8 17 ∨ 51 < p.u8 18 then refuse .badParam 18
  else if p.u8 19 < 1 ∨ 16 < p.u8 19 then refuse .badParam 19
  else if p.u16 20 < 16 ∨ 255 < p.u16 20 then refuse .badParam 20
  else if p.u8 22 < p.u8 17 ∨ p.u8 18 < p.u8 22 then refuse .badParam 22
  else
    let r : RateSet := { qpMin := p.u8 17, qpMax := p.u8 18, ki := p.u8 19, capf := p.u16 20, qpInit := p.u8 22 }
    okay (s.updSession n fun e => { e with rate := r, qpI := r.qpInit, qpP := r.qpInit + 2,
                                           ended := e.ended.map (fun (d : EncDone) => { d with change := 0 }) })

/-- ENC_SEARCH (R387). -/
def runEncSearch (_t : Nat) (p : Packet) (s : State) : Answer :=
  let n := p.u8 16
  if 3 < n then refuse .badParam 16
  else if p.u8 17 < 1 ∨ 16 < p.u8 17 then refuse .badParam 17
  else if p.u16 18 = 0 then refuse .badParam 18
  else if 2 < p.u8 20 then refuse .badParam 20
  else okay (s.updSession n fun e => { e with search := ⟨p.u8 17, p.u16 18, p.u8 20⟩ })

/-- ENC_OPEN (R377). -/
def execEncOpen (p : Packet) (s : State) : Host.Outcome State Fault Refusal := .next (s.issue .encOpen runEncOpen p)
/-- ENC_FRAME (R378). -/
def execEncFrame (p : Packet) (s : State) : Host.Outcome State Fault Refusal := .next (s.issue .encFrame runEncFrame p)
/-- ENC_CLOSE (R381). -/
def execEncClose (p : Packet) (s : State) : Host.Outcome State Fault Refusal := .next (s.issue .encClose runEncClose p)
/-- ENC_RATE (R393). -/
def execEncRate (p : Packet) (s : State) : Host.Outcome State Fault Refusal := .next (s.issue .encRate runEncRate p)
/-- ENC_SEARCH (R387). -/
def execEncSearch (p : Packet) (s : State) : Host.Outcome State Fault Refusal := .next (s.issue .encSearch runEncSearch p)

end Sys2Proof.Machine
end

