-- ==== Sys2Proof/Machine/Sleep.lean ====
section
/-!
DEFINITION. Dusk itself and the wakes that end it (R546, R611 to R614, R616).
-/

namespace Sys2Proof.Machine

/-- The wake mask of a Dusk entered by shutdown: WAKE_N, PCIe, and EVT_IN0 unless its edge setting is off (R546). -/
def State.shutMask (s : State) : BitVec 3 := if (s.time.evtIn.getD 0 {}).edge = 0 then 3 else 7

/-- The wake mask of the Dusk that is being entered (R546, R610, R616). -/
def State.entryMask (s : State) : BitVec 3 := if s.thm.shutdown.isSome then s.shutMask else s.pwr.wakeAsked

/-- Wake from a Dusk entered by shutdown is held while a junction domain reads 102 degrees C or more (R546). -/
def State.wakeHeld (s : State) : Bool := s.thm.duskByShutdown && [0, 1, 2, 3, 4].any s.domainHolds

/-- A wake that has been seen ends Dusk unless it is held; PM_PME is sent when PME_En is set and PCIe was not the source
(R614). -/
def State.tryWake (s : State) : State :=
  if s.pwr.dusk != .asleep || s.pwr.wakePending == 0 || s.pwr.warn || s.wakeHeld then s
  else
    let pme := s.pwr.pmeEn && !s.pwr.wakePending.getLsbD 1
    { s with pwr.dusk := .waking, pwr.wakeSeen := s.pwr.wakePending, pwr.pmeSent := s.pwr.pmeSent + b2n pme }

/-- A wake source is seen: 0 WAKE_N, 1 PCIe, 2 EVT_IN0. It counts from the start of the entry on (R614, R616). -/
def State.noteWake (s : State) (source : Nat) : State :=
  let mask := if s.pwr.dusk == .asleep then s.pwr.wakeMask else s.entryMask
  let sleeps := s.pwr.dusk != .waking && (s.pwr.dusk != .awake || s.thm.shutdown.isSome)
  if sleeps && mask.getLsbD source then
    { s with pwr.wakePending := s.pwr.wakePending ||| ((1 : BitVec 3) <<< source) }.tryWake
  else s

/-- Put a channel into self-refresh, with every accepted write in the DRAM (R492). -/
def MemChan.sleep (c : MemChan) : MemChan :=
  if c.state == .off || c.state == .faulted then c else { c with state := .selfRefresh, due := false, queue := [] }

/-- The device enters Dusk (R611, R612): memory in self-refresh, islands gated, ray rails at 0.55 V, no frame-start events.
A wake seen during the entry acts at once (R616). -/
def State.enterDusk (s : State) : State :=
  let byShut := s.thm.shutdown.isSome
  let rails := (s.pwr.railMv.zip s.pwr.avsFault).map fun x => if x.2 then x.1 else 550
  { s with pwr.dusk := .asleep, pwr.phase := .dusk, pwr.ready := false, pwr.wakeMask := s.entryMask, pwr.railMv := rails,
           pwr.duskNs := s.mtNs,
           thm.duskByShutdown := byShut, thm.shutdown := none, thm.shutStep := 0, thm.running := none,
           nvm.halted := true, memc.chans := s.memc.chans.map MemChan.sleep,
           dsp.nextGrid := none, dsp.holdUntil := none, ray.armed := false }.tryWake

/-- The entry ends in Dusk once the panel has no discharge left; a power-loss sequence that has taken over a shutdown comes
first (R545, R547, R611). -/
def State.endEntry (s : State) : State :=
  if s.pwr.dusk == .entering && s.pnl.discharge.isNone && s.pwr.loss.isNone then s.enterDusk else s

end Sys2Proof.Machine
end

