-- ==== Sys2Proof/Machine/Pnl.lean ====
section
/-!
DEFINITION. The panel: rails and VCOM, link training, driver configuration, gate timing and discharge (chapter 10).
-/

namespace Sys2Proof.Machine

/-! ## Settings (R330 to R334, R354, R355) -/

/-- Bytes of a rail setting (R330). -/
def railsOf (b : List Byte) : RailSet :=
  ⟨fieldAt b 0 2, fieldAt b 2 2, fieldAt b 4 2, fieldAt b 6 2, fieldAt b 8 2⟩

/-- A value lies in a range and is a multiple of a step. -/
def inSteps (v lo hi step : Nat) : Bool := decide (lo ≤ v ∧ v ≤ hi ∧ v % step = 0)

/-- Offset, in the 16 bytes, of the first field of a rail setting out of its range (R330). -/
def railsFault (r : RailSet) : Option Nat :=
  if !inSteps r.avdd 8000 18000 50 then some 0
  else if !inSteps r.navdd 6000 16000 50 then some 2
  else if !inSteps r.vgh 20000 38000 100 then some 4
  else if !inSteps r.vgl 4000 16000 100 then some 6
  else if !inSteps r.delay 1 100 1 then some 8
  else none

/-- Bytes of a VCOM setting (R332). -/
def vcomOf (b : List Byte) : VcomSet :=
  { codes := (List.range 4).map fun i => fieldAt b (2 * i) 2
    flicker := (List.range 4).map fun i => signedOf 8 (fieldAt b (8 + i) 1) }

/-- Offset, in the 16 bytes, of the first code of a VCOM setting with bits 15:10 set. -/
def vcomFault (v : VcomSet) : Option Nat :=
  ((List.range 4).find? fun i => decide (1024 ≤ v.codes.getD i 0)).map (2 * ·)

/-- Bytes of a gate timing (R354). -/
def gateOf (b : List Byte) : GateSet :=
  ⟨fieldAt b 0 1, fieldAt b 1 1, fieldAt b 2 1, fieldAt b 3 1, signedOf 16 (fieldAt b 4 2), fieldAt b 6 2, fieldAt b 8 2,
    fieldAt b 10 1⟩

/-- Offset, in the 16 bytes, of the first field of a gate timing out of its range; htotal counts while a timing is in
force (R354). -/
def gateFault (t : Option Timing) (g : GateSet) : Option Nat :=
  let h := t.map Timing.htotal
  if !([4, 6, 8, 10, 12].contains g.phases) then some 0
  else if g.lead < 1 ∨ 8 < g.lead then some 1
  else if g.width < 1 ∨ 8 < g.width then some 2
  else if 8 < g.stv2 then some 3
  else if h.any (fun n => decide (2 * g.rise < -(n : Int) ∨ (n : Int) < g.rise)) then some 4
  else if g.gck < 64 || h.any (fun n => decide (4 * n < g.gck)) then some 6
  else if g.grst < 64 || h.any (fun n => decide (n < g.grst)) then some 8
  else if g.grstLine < 1 ∨ 8 < g.grstLine then some 10
  else none

/-- The gate activity fits the refresh (R355). -/
def gateFits (t : Timing) (g : GateSet) : Bool :=
  decide (t.vactive + g.phases + g.grstLine + 1 + g.lead ≤ t.vtotal)

/-- The absolute difference of two settings. -/
def apart (a b : Nat) : Nat := (a - b) + (b - a)

/-- Every rail stays within the change that R331 allows outside OFF and FAULT. -/
def railsNear (a b : RailSet) : Bool :=
  decide (apart a.avdd b.avdd ≤ 500 ∧ apart a.navdd b.navdd ≤ 500 ∧ apart a.vgh b.vgh ≤ 1000 ∧ apart a.vgl b.vgl ≤ 1000)

/-- The panel is without power by choice or by fault. -/
def State.panelDark (s : State) : Bool := s.pnl.mode == .off || s.pnl.mode == .fault

/-- PNL_RAIL_SET (R330, R331). -/
def runPnlRailSet (_t : Nat) (p : Packet) (s : State) : Answer :=
  let r := railsOf p.body
  match railsFault r with
  | some off => refuse .badParam (16 + off) 0x01
  | none =>
    if r.vgh < r.avdd + 4000 then refuse .badParam 20 0x02
    else if s.panelDark then okay { s with pnl.rails := some r, pnl.railsNext := none }
    else match s.pnl.rails with
      | none => okay { s with pnl.rails := some r }
      | some old => if railsNear old r then okay { s with pnl.railsNext := some r } else refuse .wrongState noField 0x03

/-- PNL_VCOM_SET (R332). -/
def runPnlVcomSet (_t : Nat) (p : Packet) (s : State) : Answer :=
  let v := vcomOf p.body
  match vcomFault v with
  | some off => refuse .badParam (16 + off)
  | none => okay { s with pnl.vcom := some v, pnl.vcomDue := true, pnl.flickerDue := true }

/-- The VCOM code of a refresh rate (R329, R332). -/
def State.vcomFor (s : State) (rate : Nat) : Nat :=
  match s.pnl.vcom with
  | none => 0
  | some v => v.codes.getD rate 0

/-- Number of lanes in use as a mask. -/
def laneMask (n : Nat) : Nat := 2 ^ n - 1

/-- Lanes in use. -/
def State.lanesInUse (s : State) : Nat :=
  match s.pnl.link with
  | none => 0
  | some k => k.lanes

/-- A training of R346 starts with the parameters in force; any training before it ends without a report. -/
def State.startTraining (s : State) (ticket : Option Nat) : State :=
  { s with pnl.mode := .training, pnl.train := some { ticket := ticket, since := s.mtNs }, pnl.retrain := none,
           pnl.nTrainings := s.pnl.nTrainings + 1,
           pnl.gamma := s.pnl.gamma.map (fun (g : GammaLoad) => { g with sent := 0 }) }

/-- PNL_GATE_TIMING (R354, R355). -/
def runPnlGateTiming (_t : Nat) (p : Packet) (s : State) : Answer :=
  let g := gateOf p.body
  match gateFault s.dsp.timing g with
  | some off => refuse .badParam (16 + off) 0x01
  | none =>
    if s.dsp.timing.any fun t => !gateFits t g then refuse .badParam noField 0x02
    else if s.rasterRuns then okay { s with pnl.gateNext := some g }
    else okay { s with pnl.gate := some g }

/-- Record 0x110: each part that passes its packet's checks, reserved fields among them, comes into force at Dawn (R334). -/
def State.applyPanelRecord (s : State) (b : List Byte) : State :=
  let r := railsOf b
  let v := vcomOf (b.drop 16)
  let g := gateOf (b.drop 32)
  let zero (o n : Nat) : Bool := (sliceZ b o n).all (· == 0)
  let s := if (railsFault r).isNone && decide (r.avdd + 4000 ≤ r.vgh) && zero 10 6 then { s with pnl.rails := some r } else s
  let s := if (vcomFault v).isNone && zero 28 4 then { s with pnl.vcom := some v } else s
  if (gateFault s.dsp.timing g).isNone && s.dsp.timing.all (gateFits · g) && zero 43 5 then
    { s with pnl.gate := some g }
  else s

/-! ## Discharge (R358 to R364) -/

/-- The status of an operation that a discharge overtakes (R364). -/
def overtaken (reason : Nat) : Status := if reason = 1 ∨ reason = 5 then .powerFail else .wrongState

/-- Panel operations in progress end without effect (R364). -/
def State.endPanelOps (s : State) (reason : Nat) : State :=
  let st := overtaken reason
  let ramp := s.pnl.rampTicket
  let train := s.pnl.train.bind (·.ticket)
  let gamma := s.pnl.gamma.map (·.ticket)
  let s := { s with pnl.rampTicket := none, pnl.train := none, pnl.retrain := none, pnl.gamma := none }
  let s := match ramp with
    | some t => s.outcome t st 0
    | none => s
  let s := match train with
    | some t => s.outcome t st 0
    | none => s
  match gamma with
  | some t => s.finish t st noField 0
  | none => s

/-- A discharge starts, or the reason joins the one that runs (R358, R359). In OFF there is nothing to discharge, and a
panel in FAULT is discharged again for PNL_POWER_OFF only. -/
def State.startDischarge (s : State) (reason : Nat) (toFault : Bool) : State :=
  match s.pnl.discharge with
  | some d => { s with pnl.discharge := some { d with toFault := d.toFault || toFault } }
  | none =>
    if s.pnl.mode == .off || s.pnl.lockout || (s.pnl.mode == .fault && reason != 0) then s
    else
      let s := { s with pnl.mode := .discharging,
                        pnl.discharge := some { reason := reason, since := s.mtNs, from_ := s.pnl.mode, toFault := toFault } }
      s.endPanelOps reason

/-- PNL_POWER_OFF (R360). In lockout the panel-power die has discharged the panel already, and the outcome comes with OFF
(R363, log 129). -/
def runPnlPowerOff (t : Nat) (_p : Packet) (s : State) : Answer :=
  if s.pnl.mode = .off then refuse .wrongState noField
  else if s.pnl.lockout then .accepted { s with pnl.offTickets := s.pnl.offTickets ++ [t] } none
  else
    let s := s.startDischarge 0 false
    .accepted { s with pnl.discharge := s.pnl.discharge.map (fun (d : Discharge) =>
      { d with tickets := d.tickets ++ [t] }) } none

/-! ## Power-on (R335 to R337) -/

/-- The rail that comes at position `k` of the power-on sequence: AVDD, NAVDD, VGL, VGH, as numbers of R365. -/
def rampIndex (k : Nat) : Nat := [0, 1, 3, 2].getD k 0

/-- The power-on sequence begins with AVDD, whose bleed opens (R336). -/
def State.startRamp (s : State) (ticket : Option Nat) : State :=
  { s with pnl.mode := .rampingUp, pnl.rampRail := 0, pnl.rampSince := s.mtNs, pnl.bleeds := setAt s.pnl.bleeds 0 false,
           pnl.rampOn := true, pnl.rampMark := s.mtNs, pnl.rampTicket := ticket, pnl.grstSince := none }

/-- PNL_POWER_ON (R335, R336). -/
def runPnlPowerOn (t : Nat) (_p : Packet) (s : State) : Answer :=
  if !s.panelDark then refuse .wrongState noField 0x01
  else if !s.panelSet then refuse .wrongState noField 0x02
  else if s.dsp.timing.isNone then refuse .wrongState noField 0x03
  else if !s.pnl.vinOk || s.pnl.silent then refuse .wrongState noField 0x04
  else .accepted ({ s with pnl.faulted := List.replicate 4 false, pnl.restore := none }.startRamp (some t)) none

/-- VGH is good: the panel is in RAILS_UP, and GRST is pulsed (R336). A panel that R362 restores goes on to training. -/
def State.railsAreUp (s : State) : State :=
  let us := (s.mtNs - s.pnl.rampSince) / 1000
  let ticket := s.pnl.rampTicket
  let back := s.pnl.restore
  let s := { s with pnl.mode := .railsUp, pnl.rampTicket := none, pnl.grstSince := some s.mtNs }.railsDue
  let s := match ticket with
    | some t => s.outcome t .ok us
    | none => s
  match back with
  | some .railsUp | some .rampingUp => { s with pnl.restore := none }
  | some _ => if s.pnl.link.isSome then { s.startTraining none with pnl.restore := none } else { s with pnl.restore := none }
  | none => s

/-- PANEL_RAIL_STEP (R336): the rail in its ramp becomes good, or the next rail starts after its delay. -/
def State.railStep (s : State) (good : Bool) : State :=
  if s.pnl.mode != .rampingUp then s
  else if s.pnl.rampOn then
    if !good then s
    else
      let k := s.pnl.rampRail
      let s := { s with pnl.good := setAt s.pnl.good (rampIndex k) true, pnl.rampOn := false, pnl.rampRail := k + 1,
                        pnl.rampMark := s.mtNs }
      let s := if k = 0 then
          { s with pnl.vcomOn := true, pnl.vcomCode := s.vcomFor s.dsp.rate, pnl.vcomRate := s.dsp.rate }
        else s
      if k = 3 then s.railsAreUp else s
  else
    let d := match s.pnl.rails with
      | some r => r.delay * 100000
      | none => 0
    if good || s.mtNs < s.pnl.rampMark + d then s
    else { s with pnl.rampOn := true, pnl.rampMark := s.mtNs,
                  pnl.bleeds := setAt s.pnl.bleeds (rampIndex s.pnl.rampRail) false }

/-- PANEL_RAIL_STEP (R336). -/
def execPanelRailStep (good : Bool) (s : State) : Host.Outcome State Fault Refusal := .next (s.railStep good)

/-- In a discharge the converter of rail `rail`, or for rail 4 the VCOM buffer, has not yet been stopped (R358, R363). -/
def State.stillDriven (s : State) (rail : Nat) : Bool :=
  s.pnl.discharge.any fun d => decide (d.stage ≤ [3, 2, 0, 1, 3].getD rail 0)

/-- RAIL_FAULT (R337): rail 0 to 3 as in R365, 4 for VCOM. During power-on the outcome is HW_FAULT. A rail that has fallen
below its limit is good no more, and VCOM is enabled only while AVDD is good (R329, R336). In a discharge the reason joins it,
for a rail that is not yet switched off (R359). -/
def State.railFault (s : State) (rail cause : Nat) : State :=
  if s.panelDark || (s.pnl.mode == .discharging && !s.stillDriven rail) then s
  else
    let s := { s with pnl.faulted := setAt s.pnl.faulted rail true,
                      pnl.good := if cause = 0 then setAt s.pnl.good rail false else s.pnl.good,
                      pnl.vcomOn := s.pnl.vcomOn && !(rail == 0 && cause == 0) }
    let s := s.raise { code := .railFault, source := 7, data0 := rail, data1 := cause }
    let s := match s.pnl.rampTicket with
      | some t => { s with pnl.rampTicket := none }.outcome t .hwFault (256 * rail + cause)
      | none => s
    s.startDischarge 2 true

/-- RAIL_FAULT (R337). -/
def execRailFault (rail cause : Fin 5) (s : State) : Host.Outcome State Fault Refusal :=
  .next (s.railFault rail.val cause.val)

/-! ## Discharge, stage by stage -/

/-- The first slot start after t_s sends DISCHARGE and drives GALL high (R358). -/
def State.beginStages (s : State) (d : Discharge) : State :=
  { s with pnl.discharge := some { d with start := some s.mtNs }, pnl.gallOn := true, dsp.block := .discharge }

/-- DISCHARGE_START (R358). -/
def execDischargeStart (s : State) : Host.Outcome State Fault Refusal :=
  match s.pnl.discharge with
  | none => .next s
  | some d => .next (if d.start.isSome then s else s.beginStages d)

/-- The panel that a power-loss discharge darkened is brought back when the discharge ends or the device resumes with the
supply, VIN_PNL included, standing again (R362, R608). -/
def State.tryRestore (s : State) : State :=
  match s.pnl.restore with
  | none => s
  | some m =>
    if s.pwr.warn || !s.pnl.vinOk || s.pnl.discharge.isSome then s
    else if m == .off || m == .fault || m == .discharging then { s with pnl.restore := none }
    else if s.panelDark && s.panelSet && s.dsp.timing.isSome then s.startRamp none
    else s

/-- The discharge ends: PANEL_DISCHARGED, and the outcomes of the PNL_POWER_OFF packets that awaited it (R358, R360).
A Dusk entry that waited for it goes on. Only a power-loss discharge leaves a panel to restore (R362). -/
def State.endDischarge (s : State) (d : Discharge) (byDie : Bool) : State :=
  let s := { s with pnl.discharge := none, pnl.mode := if d.toFault then .fault else .off, pnl.gallOn := false,
                    pnl.vcomOn := false, pnl.good := List.replicate 4 false, pnl.linkLock := false,
                    pnl.bleeds := List.replicate 4 true, pnl.lastReason := d.reason,
                    pnl.restore := if d.reason = 1 && !d.toFault then s.pnl.restore else none,
                    pnl.nDischarges := if byDie then s.pnl.nDischarges else s.pnl.nDischarges + 1,
                    pnl.nByDie := if byDie then s.pnl.nByDie + 1 else s.pnl.nByDie }
  let s := s.raise { code := .panelDischarged, source := 7, data0 := b2n byDie, data1 := d.reason }
  (d.tickets.foldl (fun s t => s.outcome t .ok 0) s).endEntry

/-- MT offset from the start at which stage `k` of a discharge comes, ns (R358). -/
def stageNs (k : Nat) : Nat := [200000, 650000, 1100000, 1550000, 2000000].getD k 0

/-- DISCHARGE_STEP (R358): a stage whose time has come stops its converter, or ends the discharge. -/
def State.dischargeStep (s : State) : State :=
  match s.pnl.discharge with
  | none => s
  | some d =>
    match d.start with
    | none => s
    | some t0 =>
      if s.mtNs < t0 + stageNs d.stage then s
      else if d.stage = 4 then
        let s := s.endDischarge d false
        if d.reason = 1 then s.tryRestore else s
      else
        let off := [2, 3, 1, 0].getD d.stage 0
        { s with pnl.discharge := some { d with stage := d.stage + 1 }, pnl.good := setAt s.pnl.good off false,
                 pnl.bleeds := setAt s.pnl.bleeds off true,
                 pnl.vcomOn := s.pnl.vcomOn && d.stage != 3 }

/-- DISCHARGE_STEP (R358). -/
def execDischargeStep (s : State) : Host.Outcome State Fault Refusal := .next s.dischargeStep

/-- The steps that an unrecovered fault took over from the power-loss sequence have ended, and every island except 0, 1, 125
and 127 stops (R572, R594). -/
def State.endFaultLoss (s : State) : State :=
  match s.pwr.loss with
  | some l => if l.byFault && l.sealed && l.panelSettled then { s with pwr.loss := none, pwr.phase := .held } else s
  | none => s

/-- POWER_LOSS_DISCHARGE_START (R361): 300 us after the crossing, unless VSENSE stood above the warning level plus
hysteresis for the last 100 us. During an orderly shutdown the reason is 3 and nothing cancels it (R547). -/
def State.powerLossDischarge (s : State) : State :=
  match s.pwr.loss with
  | none => s
  | some l =>
    if l.panelSettled || decide (s.mtNs < l.since + 300000) then s
    else
      let s := { s with pwr.loss := some { l with panelSettled := true } }
      let back := match s.pwr.clearSince with
        | some t => decide (t + 100000 ≤ s.mtNs) && !l.byFault && s.thm.shutdown.isNone
        | none => false
      let s := if back then { s with pnl.restore := none }
        else s.startDischarge (if s.thm.shutdown.isSome then 3 else 1) false
      s.endFaultLoss

/-- POWER_LOSS_DISCHARGE_START (R361). -/
def execPowerLossDischargeStart (s : State) : Host.Outcome State Fault Refusal := .next s.powerLossDischarge

/-- PANEL_LOCKOUT (R363): the panel-power die stops and bleeds everything, and drives GALL high. A panel that was not OFF
stays dark in DISCHARGING until the die leaves lockout. No part of the compute die has a say in it (R14). -/
def State.lockOut (s : State) : State :=
  if s.pnl.lockout then s
  else
    let was := s.pnl.mode
    let d : Discharge := (s.pnl.discharge).getD { reason := 5, since := s.mtNs }
    let s := s.endPanelOps 5
    let s := { s with pnl.lockout := true, pnl.vinOk := false }
    let alive := s.pwr.vddAon && !s.pwr.resetLow && !s.pwr.vsenseReset
    let s := if alive then s.endDischarge { d with toFault := false } true
      else { s with pnl.discharge := none, pnl.lastReason := d.reason, pnl.good := List.replicate 4 false,
                    pnl.bleeds := List.replicate 4 true, pnl.vcomOn := false, pnl.linkLock := false }
    { s with pnl.mode := if was = .off then .off else .discharging, pnl.gallOn := true }

/-- PANEL_LOCKOUT (R363). -/
def execPanelLockout (s : State) : Host.Outcome State Fault Refusal := .next s.lockOut

/-- VIN_PNL stands above 7.5 V: the panel-power die leaves lockout only into OFF (R363), with the outcomes of the PNL_POWER_OFF
packets that came in lockout (R360). Whether it has reached the 9.0 V that a power-on needs (R335) is a free value (log 117). -/
def State.lockRelease (s : State) : State :=
  let (v, s) := s.drawFree
  let s := { s with pnl.vinOk := decide (v % 2 = 1) }
  if !s.pnl.lockout then s
  else
    let ts := s.pnl.offTickets
    ts.foldl (fun s t => s.outcome t .ok 0)
      { s with pnl.lockout := false, pnl.mode := .off, pnl.gallOn := false, pnl.offTickets := [] }

/-- PANEL_LOCKOUT_RELEASE (R363); out of lockout only the level of VIN_PNL is looked at anew (log 129). -/
def execPanelLockoutRelease (s : State) : Host.Outcome State Fault Refusal := .next s.lockRelease

/-! ## Training (R344 to R348, R356) -/

/-- Detail and field of the checks 0x01 to 0x03 of R345, for the 16 bytes of the parameters. -/
def linkChecks (b : List Byte) (t : Option Timing) : Option (Nat × Nat) :=
  match linkFault b with
  | some off => some (0x01, 16 + off)
  | none => match t with
    | none => some (0x02, noField)
    | some t =>
      if !linkWidthOk (linkOf b) t then some (0x02, 16)
      else if !linkRateOk (linkOf b) t then some (0x03, 18)
      else none

/-- Checks 0x04 and 0x05 of R345. -/
def State.trainRefusal (s : State) : Option Refused :=
  if s.pnl.mode != .railsUp && s.pnl.mode != .driving then some ⟨.wrongState, noField, 0x04⟩
  else if s.pnl.train.any fun t => t.ticket.isSome then some ⟨.busy, noField, 0x05⟩
  else none

/-- Training with new parameters in force (R345). -/
def State.trainWith (s : State) (t : Nat) (k : LinkSet) : Answer :=
  .accepted { s.startTraining (some t) with pnl.link := some k, pnl.linkInvalid := false } none

/-- The parameters of the panel profile still pass checks 0x02 and 0x03 of R345. -/
def profileChecks (k : LinkSet) (t : Option Timing) : Option Nat :=
  match t with
  | none => some 0x02
  | some t => if !linkWidthOk k t then some 0x02 else if !linkRateOk k t then some 0x03 else none

/-- PNL_LINK_TRAIN (R344, R345). -/
def runPnlLinkTrain (t : Nat) (p : Packet) (s : State) : Answer :=
  let b := p.body.take 16
  if bitOf (p.u8 17) 5 then
    match s.pnl.profileLink with
    | none => refuse .wrongState noField 0x06
    | some k =>
      if p.u8 16 ≠ 0 ∨ p.u8 17 ≠ 32 ∨ p.u16 18 ≠ 0 ∨ p.num 20 6 ≠ 0 then refuse .wrongState noField 0x06
      else match profileChecks k s.dsp.timing with
        | some d => refuse .badParam noField d
        | none => match s.trainRefusal with
          | some r => .refused r
          | none => s.trainWith t k
  else match linkChecks b s.dsp.timing with
    | some (d, off) => refuse .badParam off d
    | none => match s.trainRefusal with
      | some r => .refused r
      | none => s.trainWith t (linkOf b)

/-- A training ends without success: RAILS_UP, with TIMEOUT for its packet, or LANE_RETRAINED with cause 3 (R346, R348). -/
def State.trainingFails (s : State) : State :=
  match s.pnl.train with
  | none => s
  | some tr =>
    let s := { s with pnl.mode := .railsUp, pnl.train := none }
    match tr.ticket with
    | some t => s.outcome t .timeout 0
    | none =>
      let m := laneMask s.lanesInUse
      s.raise { code := .laneRetrained, source := 122, data0 := m % 0x100000000, data1 := m / 0x100000000 + 3 * 65536 }

/-- TRAINING_TIMEOUT (R346): LINK_LOCK is not high 10 ms after step 1 began, or has been lost and is not high then. -/
def execTrainingTimeout (s : State) : Host.Outcome State Fault Refusal :=
  match s.pnl.train with
  | none => .next s
  | some tr => .next (if (decide (2 < tr.step) && s.pnl.linkLock) || decide (s.mtNs < tr.since + 10000000) then s
      else s.trainingFails)

/-- The image of one register range as a CONFIG transfer for every driver. -/
def smallImage (first : Nat) (vals : List Nat) : DriverImage := ⟨first, vals.flatMap (leBytes 2), 2 ^ 48 - 1⟩

/-- The flicker trims in force as registers (R349). -/
def State.flickerImage (s : State) : DriverImage :=
  smallImage 0x10 (match s.pnl.vcom with
    | none => List.replicate 4 0
    | some v => v.flicker.map fun f => unsignedOf 8 f)

/-- LANE_ID and PPL, with LANE_ID as lane 0 gets it (R349). -/
def State.laneImage (s : State) : DriverImage :=
  smallImage 0 [0, match s.pnl.link, s.dsp.timing with
    | some k, some t => k.ppl t
    | _, _ => 0]

/-- Everything that step 3 of a training sends, in order (R346). -/
def State.trainingImages (s : State) : List DriverImage := s.laneImage :: s.flickerImage :: s.pnl.images

/-- Data blocks of an image: four registers each (R342). -/
def DriverImage.blocks (i : DriverImage) : Nat := ceilDiv i.bytes.length 8

/-- Data blocks of some images. -/
def imageBlocks (is : List DriverImage) : Nat := sumNat (is.map DriverImage.blocks)

/-- TRAINING_STEP (R346): the pattern ends, LINK_LOCK has held high, or the configuration has been sent. DRIVING is entered
at the next frame-start event. -/
def State.trainingStep (s : State) (lockOk : Bool) : State :=
  match s.pnl.train with
  | none => s
  | some tr =>
    match tr.step with
    | 1 => if s.mtNs < tr.since + 200000 then s else { s with pnl.train := some { tr with step := 2 } }
    | 2 => if !lockOk then { s with pnl.linkLock := false }
      else { s with pnl.linkLock := true, pnl.train := some { tr with step := 3 } }
    | 3 => if !lockOk then { s with pnl.linkLock := false }
      else
        let s := { s with pnl.linkLock := true }
        if imageBlocks s.trainingImages ≤ tr.sent then { s with pnl.train := some { tr with step := 4 } } else s
    | _ => s

/-- TRAINING_STEP (R346). -/
def execTrainingStep (lockOk : Bool) (s : State) : Host.Outcome State Fault Refusal := .next (s.trainingStep lockOk)

/-- The step of training that a frame-start event makes: DRIVING (R346, R367, log 28). -/
def State.enterDriving (s : State) : State :=
  match s.pnl.train with
  | none => s
  | some tr =>
    if tr.step != 4 || s.pnl.gateInvalid then s
    else
      let s := { s with pnl.mode := .driving, pnl.train := none }
      match tr.ticket with
      | none => match tr.heals with
        | some (c, u, injected) => s.recovered c u injected
        | none => s
      | some t =>
        let m := laneMask s.lanesInUse
        (s.raise { code := .laneRetrained, source := 122, data0 := m % 0x100000000,
                   data1 := m / 0x100000000 + 2 * 65536 }).outcome t .ok 0

/-! ## Fast retrain (R347, R348) -/

/-- A fast retrain of some lanes starts, or they join the one in progress. A gamma load is sent again (R352). -/
def State.fastRetrain (s : State) (new : Retrain) : State :=
  if s.pnl.mode != .driving then s
  else
    let per (n : Nat) (w : Word) : Word := if bitOf new.lanes n then w + 1 else w
    let r : Retrain := match s.pnl.retrain with
      | some r => { r with lanes := r.lanes ||| new.lanes, injected := r.injected || new.injected, since := s.mtNs }
      | none => { new with since := s.mtNs }
    { s with pnl.retrain := some r, pnl.nRetrains := s.pnl.nRetrains + 1,
             pnl.laneRetrains := s.pnl.laneRetrains.mapIdx per,
             pnl.gamma := s.pnl.gamma.map (fun (g : GammaLoad) => { g with sent := 0 }) }

/-- LINK_LOCK has been low for more than 0.5 us (R347): a class 7 fault of lanes that the manual does not name, so the unit
that FAULT_RECOVERED will carry is a free value (R567, log 36). -/
def State.lockLost (s : State) : State :=
  if s.pnl.mode != .driving then { s with pnl.linkLock := false }
  else
    let (v, s) := s.drawFree
    { s with pnl.linkLock := false, pnl.nLockLow := s.pnl.nLockLow + 1 }.countDetected 7 |>.fastRetrain
      { lanes := laneMask s.lanesInUse, cause := 1, unit := v % s.lanesInUse }

/-- LINK_LOCK_LOSS (R347). -/
def execLinkLockLoss (s : State) : Host.Outcome State Fault Refusal := .next s.lockLost

/-- The device detects a fault of its own on a lane in use (R347, R567). -/
def State.laneFault (s : State) (lane : Nat) (injected : Bool) : State :=
  if s.lanesInUse ≤ lane then s
  else
    let s := { s with pnl.laneFaults := updAt s.pnl.laneFaults lane (· + 1) }
    if s.pnl.mode != .driving then s
    else (s.countDetected 7).fastRetrain { lanes := 2 ^ lane, cause := 0, unit := lane, injected := injected }

/-- LANE_DEVICE_FAULT (R347). -/
def execLaneDeviceFault (lane : Nat) (s : State) : Host.Outcome State Fault Refusal := .next (s.laneFault lane false)

/-- LANE_RETRAINED for a fast retrain (R347, R367, log 28). -/
def State.raiseRetrained (s : State) (r : Retrain) : State :=
  s.raise { code := .laneRetrained, source := 122, data0 := r.lanes % 0x100000000,
            data1 := r.lanes / 0x100000000 + r.cause * 65536 + min r.slots 255 * 0x1000000, injected := r.injected }

/-- The training in progress is the recovery of a fault that fast retrains have not ended (R348, R567). -/
def State.trainingHeals (s : State) (f : Nat × Nat × Bool) : State :=
  { s with pnl.train := s.pnl.train.map (fun (t : Train) => { t with heals := some f }) }

/-- FAST_RETRAIN_END (R347, R348): line packets resume, another fast retrain runs, or after three a full training. -/
def State.endRetrain (s : State) (ok : Bool) : State :=
  match s.pnl.retrain with
  | none => s
  | some r =>
    let s := s.raiseRetrained r
    if ok then { s with pnl.retrain := none, pnl.linkLock := true }.recovered r.cls r.unit r.injected
    else if 2 ≤ r.fails then (s.startTraining none).trainingHeals (r.cls, r.unit, r.injected)
    else { s with pnl.retrain := some { r with fails := r.fails + 1, slots := 0 } }.fastRetrain r

/-- FAST_RETRAIN_END (R347). -/
def execFastRetrainEnd (ok : Bool) (s : State) : Host.Outcome State Fault Refusal := .next (s.endRetrain ok)

/-! ## PNL_GAMMA_LOAD (R351, R352) -/

/-- PNL_GAMMA_LOAD (R351): the device copies the image when the packet starts. -/
def runPnlGammaLoad (t : Nat) (p : Packet) (s : State) : Answer :=
  let first := p.u16 16
  let len := p.u32 20
  let lanes := p.num 32 6
  if len % 8 ≠ 0 then refuse .alignment 20
  else if p.u64 24 % 8 ≠ 0 then refuse .alignment 24
  else if first < 0x100 ∨ 0x1BFF < first then refuse .badParam 16
  else if len < 8 ∨ 65536 < len ∨ 0x1C00 < first + len / 2 then refuse .badParam 20
  else if lanes = 0 ∨ laneMask s.lanesInUse < lanes then refuse .badParam 32
  else match s.resolve p.src (p.u64 24) len with
    | none => refuse .badParam 24
    | some l =>
      if s.pnl.mode != .driving then refuse .wrongState noField
      else if s.pnl.gamma.isSome then refuse .busy noField
      else .started { s with pnl.gamma := some { ticket := t, image := ⟨first, s.readAt l len, lanes⟩ } } false

/-- All of the image has been sent: the load is complete at the frame-start event before the line that applies it. -/
def State.gammaAtFrame (s : State) : State :=
  match s.pnl.gamma with
  | none => s
  | some g =>
    if g.sent < g.image.blocks || g.sent = 0 then s
    else { s with pnl.gamma := none }.finish g.ticket .ok 0 0

/-! ## Configuration windows (R349, R350) -/

/-- Data blocks that one CONFIG packet may carry (R350). -/
def State.configBlocks (s : State) : Nat :=
  match s.pnl.link, s.dsp.timing with
  | some k, some t => min 128 (k.rate * 1000000 * 1000 / (66 * t.vtotal * t.refresh) - 4)
  | _, _ => 0

/-- The CONFIG packet that begins at data block `at_` of some images. A packet carries blocks of one image only, and the last
one of all carries COMMIT. -/
def configAt (n : Nat) : Nat → List DriverImage → Option ConfigPacket
  | _, [] => none
  | at_, i :: is =>
    if i.blocks ≤ at_ then configAt n (at_ - i.blocks) is
    else some { first := i.first + 4 * at_, bytes := (i.bytes.drop (8 * at_)).take (8 * n), lanes := i.lanes,
                commit := is.isEmpty && decide (i.blocks ≤ at_ + n) }

/-- Data blocks of a CONFIG packet. -/
def packetBlocks (c : ConfigPacket) : Nat := ceilDiv c.bytes.length 8

/-- An image that writes gamma registers (R349). -/
def DriverImage.isGamma (i : DriverImage) : Bool := decide (0x1000 < i.first + i.bytes.length / 2)

/-- Send the next packet of a training's configuration. -/
def State.configTraining (s : State) (tr : Train) : State :=
  match configAt s.configBlocks tr.sent s.trainingImages with
  | none => s
  | some c => { s with pnl.config := some c, pnl.train := some { tr with sent := tr.sent + packetBlocks c },
                       -- a gamma image of the profile commits with the training that sends it (R300, R366)
                       pnl.gammaLoaded := s.pnl.gammaLoaded || (c.commit && s.pnl.images.any DriverImage.isGamma),
                       dsp.block := .config }

/-- Send the next packet of a gamma image; the first is the commit point of its load (R352). -/
def State.configGamma (s : State) (g : GammaLoad) : State :=
  match configAt s.configBlocks g.sent [g.image] with
  | none => s
  | some c =>
    let first := !(s.flight g.ticket).any (·.committed)
    match if first then s.commitRefusal else none with
    | some st => { s with pnl.gamma := none }.finish g.ticket st noField 0
    | none =>
      if first && s.commitHeld g.ticket then s else
      let s := if first then
          { s.commitFlight g.ticket with pnl.images := s.pnl.images ++ [g.image], pnl.gammaLoaded := true }
        else s
      { s with pnl.config := some c, pnl.gamma := some { g with sent := g.sent + packetBlocks c }, dsp.block := .config }

/-- A slot of the configuration window: CONFIG when configuration is due, else LATCH (R341, R350). -/
def State.configSlot (s : State) : State :=
  let s := { s with dsp.block := .latch }
  match s.pnl.train with
  | some tr => if tr.step = 3 then s.configTraining tr else s
  | none =>
    if s.pnl.mode != .driving || s.pnl.retrain.isSome then s
    else if s.pnl.flickerDue then
      { s with pnl.flickerDue := false, pnl.config := some ⟨0x10, s.flickerImage.bytes, 2 ^ 48 - 1, true⟩, dsp.block := .config }
    else match s.pnl.gamma with
      | some g => s.configGamma g
      | none => s

/-- The first blanking slot: settings that wait for it take effect (R331, R332, R333). -/
def State.blankSettings (s : State) : State :=
  let s := (s.applyTrims 1).applyTrims 2
  let s := match s.pnl.railsNext with
    | some r => { s with pnl.rails := some r, pnl.railsNext := none }
    | none => s
  if s.pnl.vcomDue then
    { s with pnl.vcomDue := false, pnl.vcomCode := s.vcomFor s.dsp.rate, pnl.vcomRate := s.dsp.rate }
  else s

/-- The first slot that begins after the gate activity of a refresh: the last clock pulse and GRST have ended (R353). -/
def gateEndSlot (t : Timing) (g : GateSet) : Nat :=
  t.vactive + g.phases + max (g.grstLine + 1) (ceilDiv (g.rise + g.gck).toNat t.htotal)

/-- VCOM takes the code of another refresh rate (R333). -/
def State.switchVcom (s : State) (rate : Nat) : State :=
  if s.pnl.vcomOn && s.pnl.vcomRate != rate then { s with pnl.vcomCode := s.vcomFor rate, pnl.vcomRate := rate } else s

/-- The gate activity of a refresh has ended: if it is the last at its rate, VCOM takes the code of the new one. A return to
the base rate that has been asked for comes before a step down (R320, R333). -/
def State.rateSettings (s : State) : State :=
  if s.dsp.rate != 0 && (s.dsp.wantBase || !s.dsp.still) then s.switchVcom 0
  else match s.dsp.rateNext with
    | some r => s.switchVcom r
    | none => s

/-! ## Frame-start events (R333, R346, R352, R355, R356) -/

/-- At the commit of a timing while the panel is TRAINING or DRIVING, the link parameters in force no longer fit (R356). -/
def State.misfits (s : State) (t : Timing) : Bool :=
  (s.pnl.mode == .training || s.pnl.mode == .driving) && s.pnl.link.any fun k =>
    s.dsp.timing.any (fun o => o.hactive != t.hactive) || !linkFits k t

/-- A new timing comes into force: links that did not fit at its commit, and a gate timing that does not fit it, hold the panel
in RAILS_UP (R355, R356). The gate timing is the one that takes effect with the same event, where one waits. -/
def State.panelTiming (s : State) (t : Timing) : State :=
  let live := s.pnl.mode == .training || s.pnl.mode == .driving
  let linkBad := s.pnl.linkMisfit
  let gateBad := (s.pnl.gateNext.or s.pnl.gate).any fun g => !gateFits t g
  let stop := live && (linkBad || gateBad)
  let ticket := s.pnl.train.bind (·.ticket)
  let s := { s with pnl.linkInvalid := s.pnl.linkInvalid || linkBad, pnl.gateInvalid := gateBad, pnl.linkMisfit := false }
  if stop then
    let s : State := { s with pnl.mode := .railsUp, pnl.train := none, pnl.retrain := none }
    match ticket with
    | some n => s.outcome n .wrongState 0x03
    | none => s
  else s

/-- The panel's part of a frame-start event. -/
def State.panelFrame (s : State) : State :=
  let s : State := match s.pnl.gateNext with
    | none => s
    | some g =>
      let cured := s.pnl.gateInvalid && s.dsp.timing.all (gateFits · g)
      let s := { s with pnl.gate := some g, pnl.gateNext := none, pnl.gateInvalid := s.pnl.gateInvalid && !cured }
      if cured && s.pnl.mode == .railsUp && s.pnl.link.isSome && !s.pnl.linkInvalid then s.startTraining none else s
  s.enterDriving.gammaAtFrame

/-! ## PNL_STATUS (R365) -/

/-- PNL_STATUS (R365): measured voltages and currents are free values. -/
def runPnlStatus (_t : Nat) (p : Packet) (s : State) : Answer :=
  let sel := p.u8 16
  let i := p.u8 17
  let n := s.pnl
  if 7 < sel then refuse .badParam 16
  else if (sel = 1 ∧ 3 < i) ∨ (sel = 5 ∧ 47 < i) ∨ (sel ≠ 1 ∧ sel ≠ 5 ∧ i ≠ 0) then refuse .badParam 17
  else match sel with
    | 0 => okay s s.panelWord n.lastReason
    | 1 =>
      let (v, s) := s.drawFree
      let (c, s) := s.drawFree
      okay s v c
    | 2 =>
      let (v, s) := s.drawFree
      okay s n.vcomCode v
    | 3 =>
      let all := laneMask s.lanesInUse
      if n.linkLock then okay s (all % 0x100000000) (all / 0x100000000)
      else
        let (v, s) := s.drawFree
        let m := v &&& all
        okay s (m % 0x100000000) (m / 0x100000000)
    | 4 => okay s n.nRetrains.toNat n.nTrainings.toNat
    | 5 => okay s (n.laneFaults.getD i 0).toNat (n.laneRetrains.getD i 0).toNat
    | 6 => okay s n.nLockLow.toNat n.nRepeats.toNat
    | _ => okay s n.nDischarges.toNat n.nByDie.toNat

/-- PNL_POWER_ON (R335). -/
def execPnlPowerOn (p : Packet) (s : State) : Host.Outcome State Fault Refusal := .next (s.issue .pnlPowerOn runPnlPowerOn p)
/-- PNL_POWER_OFF (R360). -/
def execPnlPowerOff (p : Packet) (s : State) : Host.Outcome State Fault Refusal :=
  .next (s.issue .pnlPowerOff runPnlPowerOff p)
/-- PNL_LINK_TRAIN (R344). -/
def execPnlLinkTrain (p : Packet) (s : State) : Host.Outcome State Fault Refusal :=
  .next (s.issue .pnlLinkTrain runPnlLinkTrain p)
/-- PNL_GAMMA_LOAD (R351). -/
def execPnlGammaLoad (p : Packet) (s : State) : Host.Outcome State Fault Refusal :=
  .next (s.issue .pnlGammaLoad runPnlGammaLoad p)
/-- PNL_STATUS (R365). -/
def execPnlStatus (p : Packet) (s : State) : Host.Outcome State Fault Refusal := .next (s.issue .pnlStatus runPnlStatus p)
/-- PNL_RAIL_SET (R330). -/
def execPnlRailSet (p : Packet) (s : State) : Host.Outcome State Fault Refusal := .next (s.issue .pnlRailSet runPnlRailSet p)
/-- PNL_VCOM_SET (R332). -/
def execPnlVcomSet (p : Packet) (s : State) : Host.Outcome State Fault Refusal := .next (s.issue .pnlVcomSet runPnlVcomSet p)
/-- PNL_GATE_TIMING (R354). -/
def execPnlGateTiming (p : Packet) (s : State) : Host.Outcome State Fault Refusal :=
  .next (s.issue .pnlGateTiming runPnlGateTiming p)

end Sys2Proof.Machine
end

