-- ==== Sys2Proof/Machine/Memc.lean ====
section
/-!
DEFINITION. The memory regulators and classes, ECC regions, and the packets of class MEM (R472 to R481, R484, R489 to R495).
-/

namespace Sys2Proof.Machine

/-! ## The basic regulator policy (R477, R478) -/

/-- Bytes per second that scan-out reads of woven frames (R216, R477). -/
def State.wovenRead (s : State) : Nat :=
  match (s.dsp.timingNext.map (·.1)).or s.dsp.timing with
  | none => 0
  | some t => 256 * ceilDiv t.hactive 64 * t.vactive * t.refresh / 1000

/-- Bytes of the source rectangle of a layer. -/
def LayerAttr.sourceBytes (a : LayerAttr) : Nat :=
  sumNat ((planesOf a.format).map fun p => p.width a.srcW * p.lines a.srcH * p.bytes)

/-- Bytes per second that composition reads: the SHOWING layers' latched attributes (R477). -/
def State.layerRead (s : State) : Nat :=
  let hz := (((s.dsp.timingNext.map (·.1)).or s.dsp.timing).elim 0 fun t => t.refresh)
  sumNat (s.cmp.layers.map fun l => match l.attr, l.surface with
    | some a, some _ => a.sourceBytes * hz / 1000
    | _, _ => 0)

/-- 1.25 times a number of bytes per second in units of 0.25 GB/s, rounded up (R477). -/
def headroom (bps : Nat) : Nat := ceilDiv (5 * bps) 1000000000

/-- The floor of a port's rate (R477). -/
def portFloor (n : Nat) : Nat := if n = 7 ∨ n = 8 then 8 else if n = 9 then 4 else 2

/-- The rate that a port's demand asks for (R477). -/
def State.demand (s : State) (n : Nat) : Nat :=
  match n with
  | 0 => headroom s.wovenRead
  | 1 => headroom s.layerRead
  | _ => max (portFloor n) (headroom (10 * (s.memPort n).moved))

/-- The admission limit less the background clients' 1.0 GB/s, in units of 0.25 GB/s (R478). -/
def State.admission (s : State) : Nat := 544 * s.memc.rate / 10 - 4

/-- Reduce the ports of class 2 to their floors, in port order, until the sum fits (R477, log 35). -/
def cutBulk (limit : Nat) : List (Nat × Nat × Nat) → List (Nat × Nat × Nat) → List (Nat × Nat × Nat)
  | done, [] => done.reverse
  | done, (n, c, r) :: rest =>
    let sum := sumNat ((done ++ (n, c, r) :: rest).map fun x => x.2.2)
    cutBulk limit ((n, c, if c = 2 ∧ limit < sum then portFloor n else r) :: done) rest

/-- Reduce the ports of class 1 in proportion when the sum still does not fit (R477). -/
def cutDeadline (limit : Nat) (l : List (Nat × Nat × Nat)) : List Nat :=
  let sumOf (k : Nat → Bool) : Nat := sumNat ((l.filter fun x => k x.2.1).map fun x => x.2.2)
  let all := sumOf fun _ => true
  let own := sumOf (· == 1)
  let room := limit - (all - own)
  l.map fun x => if x.2.1 = 1 ∧ limit < all then x.2.2 * room / own else x.2.2

/-- The rates of the basic policy (R477). -/
def State.basicRates (s : State) : List Nat :=
  cutDeadline s.admission (cutBulk s.admission [] ((List.range 10).map fun n => (n, (s.memPort n).cls, s.demand n)))

/-- The basic policy sets every port's rate and burst (R477). -/
def State.recomputeRates (s : State) : State :=
  if s.isExpert policyMemory then s
  else
    let rs := s.basicRates
    { s with memc.ports := (List.range 10).map fun n =>
        (s.memPort n).setRate s.mtNs (rs.getD n 0) (if n = 0 then 16384 else 4096) }

/-- The default class of a port (R472). -/
def defaultClass (n : Nat) : Nat := if n < 2 then 0 else if n < 6 ∨ n = 9 then 1 else 2

/-- What a return of the memory policy to basic does (R481): classes, age limits and rates. -/
def State.basicMemory (s : State) : State :=
  { s with memc.ages := [2, 8, 32],
           memc.ports := (List.range 10).map fun n => { s.memPort n with cls := defaultClass n } }.recomputeRates

/-- REGULATOR_RECOMPUTE (R477): every 100 ms the bytes that each port moved in them are taken; the basic policy follows. -/
def State.recompute (s : State) (means : List Nat) : State :=
  if s.mtNs < s.memc.regNs + 100000000 || !s.pwr.ready then s
  else
    { s with memc.regNs := s.mtNs,
             memc.ports := (List.range 10).map fun n => { s.memPort n with moved := means.getD n 0 } }.recomputeRates

/-- REGULATOR_RECOMPUTE (R477). -/
def execRegulatorRecompute (means : List Nat) (s : State) : Host.Outcome State Fault Refusal := .next (s.recompute means)

/-! ## MEM_REGULATOR, MEM_CLASS, MEM_RELEASE, MEM_RETRAIN (R479 to R481, R484) -/

/-- MEM_REGULATOR (R479). -/
def runMemRegulator (_t : Nat) (p : Packet) (s : State) : Answer :=
  let n := p.u8 16
  let rate := p.u16 18
  let burst := p.u16 20
  let rest := sumNat (((List.range 10).filter fun k => k != n).map fun k => (s.memPort k).rate)
  if 9 < n then refuse .badParam 16 0x01
  else if rate < 1 ∨ 1280 < rate then refuse .badParam 18 0x01
  else if burst < 16 then refuse .badParam 20 0x01
  else if s.admission < rest + rate then refuse .badParam noField 0x02
  else if n = 0 ∧ rate * 250000000 * 10 < 11 * s.wovenRead then refuse .wrongState noField 0x03
  else
    let s := s.standDown p policyMemory
    okay { s with memc.ports := updAt s.memc.ports n fun q => q.setRate s.mtNs rate burst }

/-- The field of a MEM_CLASS that fails its check (R480). -/
def memClassFault (p : Packet) : Option Nat :=
  let c (n : Nat) : Nat := p.u8 (16 + n)
  let a (k : Nat) : Nat := p.u16 (28 + 2 * k)
  match (List.range 10).find? fun n => if n < 2 then c n != 0 else c n == 0 || decide (3 < c n) with
  | some n => some (16 + n)
  | none =>
    match (List.range 3).find? fun k => a k == 0 || decide (1000 < a k) with
    | some k => some (28 + 2 * k)
    | none => if a 1 < a 0 then some 30 else if a 2 < a 1 then some 32 else none

/-- MEM_CLASS (R480). -/
def runMemClass (_t : Nat) (p : Packet) (s : State) : Answer :=
  match memClassFault p with
  | some off => refuse .badParam off
  | none =>
    let s := s.standDown p policyMemory
    okay { s with memc.ages := [p.u16 28, p.u16 30, p.u16 32],
                  memc.ports := (List.range 10).map fun n => { s.memPort n with cls := p.u8 (16 + n) } }

/-- MEM_RELEASE (R481). -/
def runMemRelease (_t : Nat) (p : Packet) (s : State) : Answer :=
  okay ((s.setPolicy policyMemory false 1 p.src.ringNo p.tag).basicMemory)

/-- MEM_RETRAIN (R484): the period begins at the next start of a period. -/
def runMemRetrain (_t : Nat) (p : Packet) (s : State) : Answer :=
  if p.u16 16 < 10 ∨ 1000 < p.u16 16 then refuse .badParam 16 else okay { s with memc.retrainNext := some (p.u16 16) }

/-- REQUEST_AGE_LIMIT (R475): waiting requests of classes 1 to 3 become aged. -/
def execRequestAgeLimit (port : Fin 10) (s : State) : Host.Outcome State Fault Refusal :=
  .next (if (s.memPort port.val).cls = 0 || !s.fabricUp then s else s.ageOut port.val)

/-! ## ECC regions (R470, R489 to R491) -/

/-- MiB below ECC region 0. -/
def State.belowRegion0 (s : State) : Nat := s.memc.capacityMib - 256

/-- Two spans of MiB overlap. -/
def overlapMib (a n b m : Nat) : Bool := decide (a < b + m ∧ b < a + n)

/-- A span of MiB meets a region or the ECC reserve, or lies beyond device memory (R491). -/
def State.eccTaken (s : State) (base size : Nat) : Bool :=
  decide (s.memc.capacityMib - 128 < base + size) || s.memc.regions.any fun r => r.any fun x => overlapMib base size x.1 x.2

/-- MiB of data in all regions. -/
def State.eccTotal (s : State) : Nat := sumNat (s.memc.regions.map fun r => r.elim 0 (·.2))

/-- The entries of a memory outside a span: every byte of the span reads 0. -/
def Mem.clearSpan (m : Mem) (a n : Nat) : Mem := m.filter fun c => decide (c.1 < a ∨ a + n ≤ c.1)

/-- MEM_ECC_REGION (R491): a region that is created reads as zero from its commit. -/
def runMemEccRegion (_t : Nat) (p : Packet) (s : State) : Answer :=
  let i := p.u8 16
  let size := p.u32 20
  let addr := p.u64 24 % 0x8000000000000000
  let base := addr / 0x100000
  if size % 64 ≠ 0 then refuse .alignment 20
  else if addr % (64 * 0x100000) ≠ 0 then refuse .alignment 24
  else if i < 1 ∨ 7 < i then refuse .badParam 16
  else if p.u64 24 < 0x8000000000000000 then refuse .badParam 24
  else if size = 0 then okay { s with memc.regions := setAt s.memc.regions i none }
  else if s.eccTaken base size then refuse .badParam 24
  else if 1024 < s.eccTotal + size then refuse .noResource noField
  else if (s.memc.regions.getD i none).isSome then refuse .wrongState noField
  else okay { s with memc.regions := setAt s.memc.regions i (some (base, size)),
                     dmem := s.dmem.clearSpan addr (size * 0x100000) }

/-- Words in all regions. -/
def State.eccWords (s : State) : Nat := s.eccTotal * 0x20000

/-- Device address of word `n`, counted through the regions. -/
def scrubAddr : List (Option (Nat × Nat)) → Nat → Nat
  | [], _ => 0
  | none :: rs, n => scrubAddr rs n
  | some (base, size) :: rs, n =>
    if n < size * 0x20000 then base * 0x100000 + 8 * n else scrubAddr rs (n - size * 0x20000)

/-- ECC_SCRUB_STEP (R489): the scrubber reads the next word of the regions; whether it needed correction is a free value. -/
def State.scrubStep (s : State) : State :=
  if s.eccWords = 0 || !s.pwr.ready || !s.fabricUp then s
  else
    let (x, s) := s.drawFree
    let s := s.request 10 (scrubAddr s.memc.regions s.memc.scrub) 8 false
    { s with memc.scrub := (s.memc.scrub + 1) % s.eccWords,
             memc.nCorrected := if x % 2 = 1 then s.memc.nCorrected + 1 else s.memc.nCorrected }

/-- ECC_SCRUB_STEP (R489). -/
def execEccScrubStep (s : State) : Host.Outcome State Fault Refusal := .next s.scrubStep

/-! ## MEM_STATUS (R493 to R495) -/

/-- The configuration word (R494). -/
def State.memWord (s : State) : Nat :=
  let m := s.memc
  m.trained + 256 * b2n m.fallback + 512 * b2n m.fromRecord + 1024 * b2n m.clamshell + 2048 * b2n m.vddq125 +
    4096 * b2n m.dense + 8192 * b2n m.rejected + 65536 * m.rate

/-- Code of a channel state (R495). -/
def ChanState.code : ChanState → Nat
  | .off => 0
  | .training => 1
  | .ready => 2
  | .pause => 3
  | .errorRetrain => 4
  | .selfRefresh => 5
  | .faulted => 7

/-- The channel word (R495). -/
def MemChan.word (c : MemChan) : Nat := c.state.code + 16 * b2n c.due + 65536 * min c.queue.length 0xFFFF

/-- MEM_STATUS (R493). -/
def runMemStatus (_t : Nat) (p : Packet) (s : State) : Answer :=
  let sel := p.u8 16
  let i := p.u8 17
  let c := s.chan i
  let q := s.memPort i
  if 7 < sel then refuse .badParam 16
  else if [0, 7, 7, 7, 9, 9, 7, 0].getD sel 0 < i then refuse .badParam 17
  else match sel with
    | 0 => okay s s.memWord s.memc.capacityMib
    | 1 => okay s c.word c.nPauses.toNat
    | 2 => okay s c.nRetried.toNat c.nErrors.toNat
    | 3 => okay s c.nDeferred.toNat c.nSkipped.toNat
    | 4 => okay s (10 * q.moved / 250000000) q.rate
    | 5 => okay (s.updMemPort i fun q => { q with longest := 0 }) q.nAged.toNat (min q.longest 0xFFFFFFFF)
    | 6 => let r := (s.memc.regions.getD i none).getD (0, 0)
           okay s r.1 r.2
    | _ => okay s s.memc.nCorrected.toNat s.memc.nBad.toNat

/-- MEM_STATUS (R493). -/
def execMemStatus (p : Packet) (s : State) : Host.Outcome State Fault Refusal := .next (s.issue .memStatus runMemStatus p)
/-- MEM_ECC_REGION (R491). -/
def execMemEccRegion (p : Packet) (s : State) : Host.Outcome State Fault Refusal :=
  .next (s.issue .memEccRegion runMemEccRegion p)
/-- MEM_RELEASE (R481). -/
def execMemRelease (p : Packet) (s : State) : Host.Outcome State Fault Refusal := .next (s.issue .memRelease runMemRelease p)
/-- MEM_REGULATOR (R479). -/
def execMemRegulator (p : Packet) (s : State) : Host.Outcome State Fault Refusal :=
  .next (s.issue .memRegulator runMemRegulator p)
/-- MEM_CLASS (R480). -/
def execMemClass (p : Packet) (s : State) : Host.Outcome State Fault Refusal := .next (s.issue .memClass runMemClass p)
/-- MEM_RETRAIN (R484). -/
def execMemRetrain (p : Packet) (s : State) : Host.Outcome State Fault Refusal := .next (s.issue .memRetrain runMemRetrain p)

end Sys2Proof.Machine
end

