-- ==== Sys2Proof/Machine/RayTiles.lean ====
section
/-!
DEFINITION. Dispatch, stealing, view caches, age promotion and re-issue of ray tiles (R209 to R211, R217, R223 to R225,
R236 to R239, R569).
-/

namespace Sys2Proof.Machine

/-! ## Naming a tile -/

/-- A tile of the window, or of a witnessed DFN. -/
inductive TileRef where
  | synth (i : Nat)
  | wit (f i : Nat)
  deriving DecidableEq, Repr

/-- Every tile in progress with its name. -/
def State.allTiles (s : State) : List (TileRef × Tile) :=
  (List.zipIdx s.synthTiles).map (fun x => (TileRef.synth x.2, x.1)) ++
    (List.zipIdx s.ray.witFrames).flatMap fun w => (List.zipIdx w.1.tiles).map fun x => (TileRef.wit w.2 x.2, x.1)

/-- Change the tile with a name. -/
def State.updRef (s : State) (r : TileRef) (g : Tile → Tile) : State :=
  match r with
  | .synth i => s.updTile i g
  | .wit f i => s.updWit f i g

/-- The tiles that a core holds. -/
def State.tilesOf (s : State) (core : Nat) : List (TileRef × Tile) :=
  s.allTiles.filter fun x => x.2.core == core && (x.2.state == .fetching || x.2.state == .running)

/-! ## Dispatch (R209, R223) -/

/-- The order in which a cluster's queue is served (R223). -/
def Tile.servedBefore (a b : Tile) : Bool :=
  seqAfter b.deadline a.deadline || (a.deadline == b.deadline &&
    (if a.reissued != b.reissued then a.reissued
     else if a.witness != b.witness then a.witness
     else decide (a.pos < b.pos) || (a.pos == b.pos && decide (a.band < b.band))))

/-- The tile that a cluster's queue serves next. -/
def nextServed : List (TileRef × Tile) → Option (TileRef × Tile)
  | [] => none
  | x :: xs => match nextServed xs with
    | none => some x
    | some y => if y.2.servedBefore x.2 then some y else some x

/-- The queued tiles of a cluster. -/
def State.clusterQueue (s : State) (c : Nat) : List (TileRef × Tile) :=
  s.allTiles.filter fun x => x.2.state == .queued && x.2.cluster == c

/-! ## View caches (R210, R211, R225) -/

/-- Blocks of a share: 6 MiB for synthesis, 1 MiB for the witness, 1 MiB for whoever asks first (R211). -/
def shareBlocks (witness : Bool) : Nat := if witness then 2730 else 16384
/-- Blocks of the share that goes to whichever kind asks first. -/
def commonBlocks : Nat := 2730

/-- Blocks that one kind holds in a cache. -/
def ViewCache.held (c : ViewCache) (witness : Bool) : Nat := (c.blocks.filter fun b => b.witness == witness).length

/-- Blocks of the common share that are taken. -/
def ViewCache.commonUsed (c : ViewCache) : Nat :=
  (c.held false - shareBlocks false) + (c.held true - shareBlocks true)

/-- A block is free for a kind; a promoted request takes one from either share. -/
def ViewCache.roomFor (c : ViewCache) (witness promoted : Bool) : Bool :=
  if promoted then decide (c.blocks.length < shareBlocks false + shareBlocks true + commonBlocks)
  else decide (c.held witness < shareBlocks witness) || decide (c.commonUsed < commonBlocks)

/-- Ask a cache for a block: held already, filled at once with what `px` reads, or waiting. -/
def ViewCache.ask (px : CacheBlock → List Nat) (c : ViewCache) (b : CacheBlock) (witness : Bool) (now : Nat) : ViewCache :=
  if c.blocks.any (fun x => x.block == b) || c.fills.any (fun f => f.block == b) then c
  else if c.roomFor witness false then { c with blocks := c.blocks ++ [⟨b, witness, px b⟩] }
  else { c with fills := c.fills ++ [{ block := b, witness := witness, since := now }] }

/-- Serve the fill requests that wait while blocks are free: promoted ones first, then by age (R211). -/
def ViewCache.serve (px : CacheBlock → List Nat) : Nat → ViewCache → ViewCache
  | 0, c => c
  | n + 1, c =>
    let ready (f : Fill) : Bool := c.roomFor f.witness f.promoted
    match (c.fills.find? fun f => f.promoted && ready f).or (c.fills.find? ready) with
    | none => c
    | some f => ViewCache.serve px n
        { blocks := c.blocks ++ [⟨f.block, f.witness, px f.block⟩], fills := c.fills.filter (· != f) }

/-- Drop the oldest `n` blocks of a kind: they fall free (log 25). -/
def dropBlocks (witness : Bool) : Nat → List CacheEntry → List CacheEntry
  | 0, bs => bs
  | _, [] => []
  | n + 1, b :: bs => if b.witness == witness then dropBlocks witness n bs else b :: dropBlocks witness (n + 1) bs

/-- A committed tile lets as many of the oldest blocks of its kind fall free as requests wait (log 25). -/
def ViewCache.release (px : CacheBlock → List Nat) (c : ViewCache) (witness : Bool) : ViewCache :=
  ViewCache.serve px c.fills.length { c with blocks := dropBlocks witness c.fills.length c.blocks }

/-- The apron's margin in pixels and lines, over the three colours; empty at rungs 0 and 1 (R222). -/
def apronOf (w : SynthIn) : Nat × Nat :=
  if w.rung < 2 then (0, 0)
  else
    let ds := [0, 1, 2].flatMap fun c => [lowerOf w.blob c, upperOf w.blob c]
    (ceilDiv (maxNat (ds.map fun d => d.1.natAbs)) 3, maxNat (ds.map fun d => d.2.natAbs))

/-- A rectangle on a colour picture in 1/64 pixel: first and last column, first and last line. -/
structure Span where
  x0 : Int
  x1 : Int
  y0 : Int
  y1 : Int
  deriving DecidableEq, Repr

/-- The places of a synthesis tile's own and apron rays, the apron clipped at the panel edges (R222, R250). -/
def synthSpan (w : SynthIn) (t : Tile) : Span :=
  let (ax, ay) := apronOf w
  { x0 := placeX w (3 * (64 * t.tx - ax)),
    x1 := placeX w (3 * min (64 * t.tx + t.pixels - 1 + ax) (blobWidth w.blob - 1) + 2),
    y0 := placeY w (32 * t.ty - ay), y1 := placeY w (min (32 * t.ty + t.lines - 1 + ay) (blobHeight w.blob - 1)) }

/-- The places of a witness tile's rays (R264). -/
def WitPicture.span (p : WitPicture) (w : SynthIn) (t : Tile) : Span :=
  let a := p.ray w (64 * t.tx) (32 * t.ty)
  let b := p.ray w (64 * t.tx + t.pixels - 1) (32 * t.ty + t.lines - 1)
  { x0 := a.sx, x1 := b.sx, y0 := a.sy, y1 := b.sy }

/-- The rectangle of blocks that a tile's prefetch covers in a view: its footprint, one pixel wider on each side than the
places of its rays, extended by H along the axis of parallax, or along both (R225, R250). -/
def prefetchBlocks (w : SynthIn) (p : Span) (n : Nat) : List CacheBlock :=
  let h : Int := (w.halo : Nat)
  let hy : Int := if w.full then h else 0
  let aw := scWidth w.params.scene
  let ah := scHeight w.params.scene
  let bx0 := onPicture (asr (p.x0 + w.offx n) 6 - 1 - h) aw / 16
  let bx1 := onPicture (asr (p.x1 + w.offx n) 6 + 1 + h) aw / 16
  let by0 := onPicture (asr (p.y0 + w.offy n) 6 - 1 - hy) ah / 4
  let by1 := onPicture (asr (p.y1 + w.offy n) 6 + 1 + hy) ah / 4
  (List.range (by1 + 1 - by0)).flatMap fun j => (List.range (bx1 + 1 - bx0)).map fun i =>
    { slot := w.slot, view := n, bx := bx0 + i, by_ := by0 + j }

/-- The views of a mask. -/
def viewsIn (m : Nat) : List Nat := (List.range 16).filter (bitOf m)

/-- The bytes of device memory that the fill of a block reads: its luma, chroma and depth lines (R166, R210, R472). -/
def State.blockSpans (s : State) (b : CacheBlock) : List (Nat × Nat) :=
  match (s.slot b.slot).params with
  | none => []
  | some p =>
    let k := if scDepthScale p.scene = 0 then 1 else 2
    let base := s.viewAddr b.slot p b.view
    let y := yPitch (scWidth p.scene)
    lineSpans (base + 4 * b.by_ * y + 20 * b.bx) y 20 4 ++
      lineSpans (base + chromaOff p + 2 * b.by_ * y + 20 * b.bx) y 20 2 ++
      lineSpans (base + depthOff p + 4 / k * b.by_ * dPitch (scDepthW p.scene) + 32 / k * b.bx) (dPitch (scDepthW p.scene)) (32 / k) (4 / k)

/-- Ask cluster `c`'s cache for blocks (R211, R225): the ray engine reads those that it does not hold (R472). -/
def State.askBlocks (s : State) (c : Nat) (witness : Bool) (bs : List CacheBlock) : State :=
  let held := s.ray.caches.getD c {}
  let new := bs.filter fun b => !held.blocks.any fun x => x.block == b
  { s.requestAll 2 false (new.flatMap s.blockSpans) with ray.caches := updAt s.ray.caches c fun v => bs.foldl (fun v b => v.ask s.blockPx b witness s.mtNs) v }

/-- A cluster fetches the blocks of a tile for the views that the core's last tile sampled (R225). -/
def State.prefetch (s : State) (c core : Nat) (w : SynthIn) (witness : Bool) (p : Span) : State :=
  s.askBlocks c witness (((viewsIn (s.ray.lastViews.getD core 0)).filter (· < w.views)).flatMap (prefetchBlocks w p))

/-- The witness buffer that a DFN renders into. -/
def State.bufOfDfn (s : State) (d : DWord) : Option Nat :=
  (List.range 3).find? fun b =>
    let x := s.wit.bufs.getD b {}
    x.mark == .rendering && x.pic.any fun w => w.dfn == d

/-- The witness picture of a DFN in rendering. -/
def State.picOfDfn (s : State) (d : DWord) : Option WitPicture :=
  (s.bufOfDfn d).bind fun b => (s.wit.bufs.getD b {}).pic

/-- The constants and the places of the rays of the tile with a name. -/
def State.spanOf (s : State) (r : TileRef) (t : Tile) : Option (SynthIn × Span) :=
  match r with
  | .synth _ => s.ray.window.map fun w => (w.inp, synthSpan w.inp t)
  | .wit f _ => s.ray.witFrames[f]?.bind fun x => (s.picOfDfn x.dfn).map fun p => (x.inp, p.span x.inp t)

/-- The ray engine works: the supervisor has not stopped the islands, and no sequence holds them. -/
def State.rayWorks (s : State) : Bool :=
  s.sup.supState != 2 && !s.stopped && s.pwr.dusk != .asleep && !s.pwr.resetLow && !s.pwr.vsenseReset

/-- TILE_DISPATCH (R223): a core with room takes the tile with the earliest deadline of its cluster's queue. -/
def State.dispatch (s : State) (core : Nat) : State :=
  let held := s.tilesOf core
  if !s.rayWorks || !s.coreOn core || decide (2 ≤ held.length) then s
  else match nextServed (s.clusterQueue (core / 24)) with
    | none => s
    | some (r, t) =>
      let st := if held.any fun x => x.2.state == .running then TileState.fetching else TileState.running
      let s := s.updRef r fun t => { t with state := st, core := core, tStart := dtNs s.time.dt }
      match s.spanOf r t with
      | none => s
      | some (w, p) => s.prefetch (core / 24) core w t.witness p

/-- TILE_DISPATCH (R223). -/
def execTileDispatch (core : Fin 96) (s : State) : Host.Outcome State Fault Refusal := .next (s.dispatch core.val)

/-! ## Stealing (R224) -/

/-- Some core of a cluster is in dispatch. -/
def State.clusterServes (s : State) (c : Nat) : Bool := (List.range 24).any fun i => s.coreOn (24 * c + i)

/-- Some core of a cluster is in dispatch and holds no tile. -/
def State.clusterIdle (s : State) (c : Nat) : Bool :=
  (List.range 24).any fun i => s.coreOn (24 * c + i) && (s.tilesOf (24 * c + i)).isEmpty

/-- The queued synthesis tiles of a cluster. -/
def State.stealable (s : State) (c : Nat) : List (TileRef × Tile) :=
  (s.clusterQueue c).filter fun x => !x.2.witness

/-- The cluster with the most queued tiles, witness tiles among them, the lower number on a tie (R224). -/
def State.victim (s : State) (thief : Nat) : Option Nat :=
  [0, 1, 2, 3].foldl (fun best c =>
    let n := (s.clusterQueue c).length
    if c = thief || n = 0 then best
    else match best with
      | none => some c
      | some b => if (s.clusterQueue b).length < n then some c else some b) none

/-- The `n` tiles at the tail of a list of tiles: those with the latest deadlines. -/
def tailTiles : Nat → List (TileRef × Tile) → List (TileRef × Tile)
  | 0, _ => []
  | n + 1, xs =>
    let last := xs.foldl (fun best x => match best with
      | none => some x
      | some y => if y.2.dueBefore x.2 then some x else some y) (none : Option (TileRef × Tile))
    match last with
    | none => []
    | some x => x :: tailTiles n (xs.filter fun y => y.1 != x.1)

/-- TILE_STEAL (R224). -/
def State.steal (s : State) (thief : Nat) : State :=
  if !s.rayWorks || !s.clusterServes thief || !(s.clusterQueue thief).isEmpty then s
  else match s.victim thief with
    | none => s
    | some v =>
      let all := s.stealable v
      let n := if s.clusterIdle v then min 8 (all.length - 8) else 8
      let taken := tailTiles n all
      let s := taken.foldl (fun s x => s.updRef x.1 fun t => { t with cluster := thief, stolen := true }) s
      { s with ray.nStolen := s.ray.nStolen + word taken.length }

/-- TILE_STEAL (R224). -/
def execTileSteal (cluster : Fin 4) (s : State) : Host.Outcome State Fault Refusal := .next (s.steal cluster.val)

/-! ## Age promotion (R211, R217) -/

/-- Promote the oldest fill request when it has waited more than 20 us. -/
def promoteFill (now : Nat) : List Fill → List Fill
  | [] => []
  | f :: fs => if f.promoted then f :: promoteFill now fs
    else if f.since + 20000 < now then { f with promoted := true } :: fs else f :: fs

/-- VIEW_CACHE_AGE_PROMOTION (R211). -/
def execViewCacheAgePromotion (cluster : Fin 4) (s : State) : Host.Outcome State Fault Refusal :=
  .next { s with ray.caches := updAt s.ray.caches cluster.val fun c =>
    ViewCache.serve s.blockPx c.fills.length { c with fills := promoteFill s.mtNs c.fills } }

/-- A tile has waited more than 50 us for a context. -/
def Tile.waitsLong (t : Tile) (now : Nat) : Bool := decide (t.since + 50000 < now)

/-- TILE_CONTEXT_AGE_PROMOTION (R217). -/
def State.promoteContext (s : State) (c : Nat) : State :=
  match pickTile (fun t => t.state == .unqueued && t.home == c && !t.promoted && t.waitsLong s.mtNs) Tile.dueBefore
      s.synthTiles with
  | some i => (s.updTile i fun t => { t with promoted := true }).fillPromoted c
  | none => match s.waitingWit c fun t => !t.promoted && t.waitsLong s.mtNs with
    | some (f, i) => (s.updWit f i fun t => { t with promoted := true }).fillPromoted c
    | none => s

/-- TILE_CONTEXT_AGE_PROMOTION (R217). -/
def execTileContextAgePromotion (cluster : Fin 4) (s : State) : Host.Outcome State Fault Refusal :=
  .next (s.promoteContext cluster.val)

/-! ## Re-issue (R236 to R238, R569) -/

/-- A tile of a faulted core goes back to its home cluster's queue (R237, R238). -/
def Tile.reissue (t : Tile) : Tile :=
  { t with state := .queued, core := 0xFF, cluster := t.home, reissued := true, reissues := t.reissues + 1,
           rungZero := t.rungZero || decide (4 ≤ t.reissues + 1) }

/-- The uncommitted tiles of a core return to their queues; TILES_REISSUED tells how many (R237, R242). -/
def State.reissueTiles (s : State) (core : Nat) (injected : Bool) : State :=
  let held := s.tilesOf core
  let s := held.foldl (fun s x => s.updRef x.1 Tile.reissue) s
  { s with ray.nReissued := s.ray.nReissued + word held.length,
           ray.nDegraded := s.ray.nDegraded +
             word (held.filter fun (x : TileRef × Tile) => !x.2.degraded && x.2.reissue.degraded).length }.raise
    { code := .tilesReissued, source := islandOfCore core, data0 := core, data1 := held.length, injected := injected }

/-- The home clusters of tiles that have been re-issued a fifth time: their fabrics are at fault (R238, R567). -/
def State.withdrawnHomes (s : State) : List Nat :=
  ((s.allTiles.filter fun x => decide (5 ≤ x.2.reissues) && x.2.state == .queued).map fun x => x.2.home).eraseDups

/-- A tile queued again by a fabric restart (R569): a committed one carries no REISSUED flag and writes what it wrote; the
re-issue count starts anew (log 26). -/
def Tile.restart (home : Nat) (t : Tile) : Tile :=
  { t with state := .unqueued, core := 0xFF, cluster := home, home := home,
           reissued := t.reissued && t.state != .committed, reissues := 0, stolen := false, promoted := false }

/-- Queue again the tiles of a list that are homed on cluster `c`. -/
def restartTiles (c home : Nat) (ts : List Tile) : List Tile := ts.map fun t => if t.home == c then t.restart home else t

/-- Queue again every synthesis tile of the window homed on a fabric and every witness tile homed on it, committed ones
included, in the cluster that homes its band now; the fabric's view cache is empty (R569). -/
def State.restartFabric (s : State) (c : Nat) : State :=
  let home := s.homeFrom 3 c
  let s := { s with ray.window := s.ray.window.map (fun (w : Window) => { w with tiles := restartTiles c home w.tiles }),
                    ray.witFrames := s.ray.witFrames.map (fun (f : WitFrame) =>
                      { f with tiles := restartTiles c home f.tiles }),
                    ray.caches := updAt s.ray.caches c fun _ => {} }
  s.fillAll

end Sys2Proof.Machine
end

