-- ==== Sys2Proof/Machine/Wit.lean ====
section
/-!
DEFINITION. The witness: its commands, the refreshes it takes, what ends it, and the release of replaced surfaces (R274,
R368 to R376, R399 to R401, R406).
-/

namespace Sys2Proof.Machine

/-! ## Commands (R368, R371, R375) -/

/-- The configuration that a WIT_CONFIG carries (R368). -/
def witConfigOf (p : Packet) : WitConfig :=
  { width := p.u16 16, height := p.u16 18, rate := p.u8 20, profile := p.u8 21, sliceRows := p.u8 22,
    wpp := bitOf (p.u8 23) 0, eyeX := p.int 24 4, eyeY := p.int 28 4, eyeZ := p.u32 32,
    bitrate := if p.u32 36 = 0 then 8000 else p.u32 36 }

/-- The field of a WIT_CONFIG out of its range (R368). -/
def witConfigFault (p : Packet) : Option Nat :=
  if p.u16 16 % 8 ≠ 0 ∨ p.u16 16 < 320 ∨ 3840 < p.u16 16 then some 16
  else if p.u16 18 % 8 ≠ 0 ∨ p.u16 18 < 176 ∨ 2160 < p.u16 18 then some 18
  else if p.u8 20 < 1 ∨ 60 < p.u8 20 then some 20
  else if 1 < p.u8 21 then some 21
  else if p.u8 22 < 1 ∨ 16 < p.u8 22 then some 22
  else if 1 < p.u8 23 then some 23
  else if p.u32 32 ≠ 0 ∧ (p.u32 32 < 100 * 65536 ∨ 20000 * 65536 < p.u32 32) then some 32
  else if p.u32 36 ≠ 0 ∧ (p.u32 36 < 100 ∨ 200000 < p.u32 36) then some 36
  else none

/-- WIT_CONFIG (R368, R374). -/
def runWitConfig (_t : Nat) (p : Packet) (s : State) : Answer :=
  match witConfigFault p with
  | some off => refuse .badParam off 0x01
  | none =>
    let c := witConfigOf p
    if 497664000 < c.width * c.height * c.rate then refuse .badParam noField 0x02
    else if s.wit.running then okay { s with wit.next := some c }
    else okay { s with wit.config := c, wit.next := none }

/-- WIT_START (R371, R408, R409). -/
def runWitStart (_t : Nat) (_p : Packet) (s : State) : Answer :=
  if s.wit.running || s.wit.stop.isSome || s.dsp.timing.isNone then refuse .wrongState noField
  else if s.sup.debugOpen then refuse .hwFault noField
  else
    let s := s.pushResume
    let s := s.pushItem (.start (b2n s.head.isNone))
    okay { s with wit.running := true, wit.due := true, wit.since := 0 }

/-- WIT_STOP (R375): it commits at its start and completes behind the last record. -/
def runWitStop (t : Nat) (_p : Packet) (s : State) : Answer :=
  if !s.wit.running then refuse .wrongState noField
  else
    let s := { s with wit.running := false, wit.stop := some t, wit.due := false,
                      wit.config := s.wit.next.getD s.wit.config, wit.next := none }
    .started s.witDrained true

/-- WIT_CONFIG (R368). -/
def execWitConfig (p : Packet) (s : State) : Host.Outcome State Fault Refusal := .next (s.issue .witConfig runWitConfig p)
/-- WIT_START (R371). -/
def execWitStart (p : Packet) (s : State) : Host.Outcome State Fault Refusal := .next (s.issue .witStart runWitStart p)
/-- WIT_STOP (R375). -/
def execWitStop (p : Packet) (s : State) : Host.Outcome State Fault Refusal := .next (s.issue .witStop runWitStop p)

/-! ## Which refreshes are witnessed (R371, R372) -/

/-- The refresh rate of a refresh, mHz. -/
def State.refreshRate (s : State) : Nat :=
  match s.dsp.timing with
  | none => 0
  | some t => if rateHz s.dsp.rate = 0 then t.refresh else 1000 * rateHz s.dsp.rate

/-- The lowest FREE witness buffer. -/
def State.freeWitBuf (s : State) : Option Nat :=
  (List.range 3).find? fun b => (s.wit.bufs.getD b {}).mark == .free

/-- The stream context on air is STALLED (R401). -/
def State.onAirStalled (s : State) : Bool := s.strm.onAir.any fun i => (s.ctx i).state == .stalled

/-- The header flags of a witnessed event that FRAME and SLICE records share (R401). -/
def State.witFlags (s : State) : Nat :=
  let p := s.ray.presented
  b2n s.onAirStalled + 8 * b2n (p.any fun w => w.inp.concealed != 0) + 16 * b2n (p.any (·.degraded)) +
    32 * b2n s.dsp.repeated + 64 * b2n s.dsp.missedNow + 128 * b2n (s.dsp.lockState != .locked) +
    256 * b2n (s.pnl.mode != .driving) + s.etFlag + 1024 * b2n p.isNone

/-- The picture of a witnessed event (R36, R290, R370, R399 to R401). -/
def State.witPicture (s : State) (c : WitConfig) (t : Timing) (idr : Bool) : WitPicture :=
  { config := c, dfn := s.dsp.dfn, psn := s.dsp.psn, stamp := s.dsp.stamp, inp := s.ray.presented.map (·.inp),
    blob := match s.ray.presented with
      | some w => some w.inp.blob
      | none => s.ray.active,
    timing := t, layers := s.layerViews, flags := s.witFlags, skipped := s.wit.skipped,
    missed := (s.ray.nMissed - s.wit.missedAt).toNat, lockWord := s.lockWord, panelWord := s.panelWord, forceIdr := idr }

/-- The witness tiles of a picture (R221). -/
def State.witTiles (s : State) (c : WitConfig) (inp : SynthIn) : List Tile :=
  let cols := ceilDiv c.width 64
  let home := s.homeFrom 3 (s.dsp.dfn.toNat % 4)
  let m := s.cost inp.rung
  (List.range (cols * ceilDiv c.height 32)).map fun i =>
    let tx := i % cols
    let ty := i / cols
    let lines := min 32 (c.height - 32 * ty)
    let pixels := min 64 (c.width - 64 * tx)
    { witness := true, tx := tx, ty := ty, band := home, pos := i, home := home, cluster := home,
      deadline := dtNs s.time.dt, lines := lines, pixels := pixels, est := 3 * pixels * lines * m.num / m.den,
      since := s.mtNs }

/-- Hand a witness picture in buffer `b` to a session (R377). -/
def State.pushWitPic (s : State) (n b : Nat) (g : EncGeom) (idr : Bool) : State :=
  s.updSession n fun e =>
    { e with geom := some g, nextOrder := e.nextOrder + 1, pics := e.pics ++
      [{ order := e.nextOrder, ticket := none, index := s.dsp.dfn.lo, source := none, buf := some b, forceIdr := idr,
         geom := g }] }

/-- Sessions 1 to 3 that tap the witness. -/
def State.openTaps (s : State) : List Nat :=
  [1, 2, 3].filter fun n => (s.session n).isOpen && (s.session n).tap && (s.session n).closing.isNone

/-- A change of these fields begins a new coded sequence (R374). -/
def EncGeom.recodes (a b : EncGeom) : Bool :=
  a.width != b.width || a.height != b.height || a.profile != b.profile || a.sliceRows != b.sliceRows || a.wpp != b.wpp

/-- Take the refresh that begins into buffer `b` (R36, R370 to R374, R408). -/
def State.takePicture (s : State) (b : Nat) (t : Timing) : State :=
  let c := s.wit.next.getD s.wit.config
  let g := c.geom
  let all := s.wit.idrNext
  let idr := all || (s.session 0).geom.any fun o => o.recodes g
  let w := s.witPicture c t idr
  let taps := s.openTaps
  let s := s.pushResume
  let s := s.pushItem (.frame w)
  let s := { s with wit.config := c, wit.next := none, wit.due := false, wit.since := 0, wit.skipped := 0,
                    wit.missedAt := s.ray.nMissed, wit.idrNext := false,
                    wit.bufs := setAt s.wit.bufs b
                      { mark := if w.inp.isSome then .rendering else .ready, pic := some w, readers := 0 :: taps } }
  let s := s.pushWitPic 0 b g idr
  let s := taps.foldl (fun s n => match (s.session n).geom with
    | some g => s.pushWitPic n b { g with rate := 1000 * c.rate } all
    | none => s) s
  match w.inp with
  | none => s
  | some inp =>
    let f : WitFrame := { seq := s.ray.presented.elim 0 (·.seq), dfn := s.dsp.dfn, inp := inp, tiles := s.witTiles c inp }
    { s with ray.witFrames := s.ray.witFrames ++ [f] }.fillAll

/-- The witness's part of a frame-start event (R371, R372). No picture is taken in a power-loss sequence, an orderly shutdown
or Dusk entry (R376, R545, R611). -/
def State.takeWitness (s : State) : State :=
  match s.dsp.timing with
  | none => s
  | some t =>
    if !s.wit.running || s.pwr.loss.isSome || s.thm.shutdown.isSome || s.pwr.dusk != .awake then s
    else
      let since := s.wit.since + 1
      let m := ceilDiv s.refreshRate (1000 * s.wit.config.rate)
      if !s.wit.due && decide (since < m) then { s with wit.since := since }
      else match s.freeWitBuf with
        | some b => s.takePicture b t
        | none => { s with wit.due := true, wit.since := since, wit.skipped := satInc 0xFFFF s.wit.skipped }

/-! ## Endings (R376, R406, R545) -/

/-- Every session that codes the witness. -/
def State.witSessions (s : State) : List Nat :=
  (List.range 4).filter fun n => (s.session n).pics.any fun p => p.buf.isSome

/-- A picture of a session that nothing will code any more leaves it; a WIT_STOP may have waited for it (R375). -/
def State.discardPic (s : State) (n : Nat) (p : EncPic) : State :=
  let s := s.updSession n fun e => { e with pics := e.pics.filter fun q => q.order != p.order }
  let s := match p.buf with
    | some b => s.releaseBuf b n
    | none => s
  if n = 0 then s.witDrained else s

/-- The witness is cut short: pictures in coding end at the slice in progress, the others are dropped (R376). -/
def State.cutWitness (s : State) : State :=
  let s := s.witSessions.foldl (fun s n =>
    ((s.session n).pics.filter fun p => p.buf.isSome && !p.begun).foldl (fun s p => s.discardPic n p) s) s
  let s := { s with enc := s.enc.map (fun (e : EncSession) =>
    { e with pics := e.pics.map (fun (p : EncPic) => if p.buf.isSome then { p with cut := true } else p) }) }
  { s with ray.witFrames := [] }.sweepHeld

/-- Code the rows that are left of the slice in progress. -/
def State.codeRest : Nat → State → Nat → EncPic → EncPic
  | 0, _, _, p => p
  | k + 1, s, n, p =>
    if p.rowBits.length = p.geom.rows || decide (p.geom.sliceRows ≤ p.sliceLen) then p
    else State.codeRest k s n (s.codeRow n p)

/-- A picture that has been cut ends: its slice in progress is finished and emitted (R376, R406). -/
def State.endCut (s : State) (n : Nat) (p : EncPic) : State :=
  if p.sliceLen = 0 && !s.rowRuns n p.order then s.endPic n p.order
  else
    let q := State.codeRest p.geom.sliceRows s n p
    let s := (s.updPic n p.order fun _ => q).rateEvents n p q
    let last := q.rowBits.length == q.geom.rows
    (s.emitSlice n q last (!last)).endPic n p.order

/-- What is still being coded of the witness when the chain is sealed ends now; its cores are idle again (R406). -/
def State.endCuts (s : State) : State :=
  let s := s.witSessions.foldl (fun s n =>
    ((s.session n).pics.filter (·.cut)).foldl (fun s p => s.endCut n p) s) s
  { s with dec.cores := s.dec.cores.map fun c => match c with
    | some (.row n o) => if (s.pic n o).isSome then c else none
    | _ => c }

/-! ## FLIP_SURFACE_RELEASE (R274, R275) -/

/-- A surface is still scanned, or read by the witness of a DFN at which it was latched. -/
def State.surfaceUsed (s : State) (p : Planes) : Bool :=
  s.layerViews.any (fun l => l.any fun v => v.surface == p) ||
    s.wit.bufs.any fun b => b.mark != .free && b.pic.any fun w => w.layers.any fun l => l.any fun v => v.surface == p

/-- The completions of a layer whose replaced surfaces have been released are written, oldest first (R274). -/
def State.releaseSurfaces (s : State) (n : Nat) : State :=
  let rs := (s.layer n).releases
  let busy (r : Release) : Bool := r.old.any s.surfaceUsed
  let s := s.updLayer n fun l => { l with releases := rs.filter busy }
  (rs.filter fun r => !busy r).foldl (fun s r => s.finish r.ticket .ok r.dfn.toNat r.psn.toNat) s

/-- FLIP_SURFACE_RELEASE (R274). -/
def execFlipSurfaceRelease (layer : Fin 8) (s : State) : Host.Outcome State Fault Refusal :=
  .next (s.releaseSurfaces layer.val)

end Sys2Proof.Machine
end

