-- ==== Sys2Proof/Machine/TileCommit.lean ====
section
/-!
DEFINITION. The commit of a ray tile, and what a complete window and a rendered witness picture lead to (R30, R216, R226,
R227, R230, R240 to R242, R263, R372).
-/

namespace Sys2Proof.Machine

/-! ## A complete window -/

/-- Byte 7 of a tile's context (R218). -/
def Tile.flags (t : Tile) : Nat :=
  b2n (t.rungZero || t.allConcealed) + 2 * b2n t.reissued + 4 * b2n t.stolen +
    8 * b2n (decide (t.lines < 32 ∨ t.pixels < 64)) + 16 * b2n t.concealedUsed

/-- The state code of a tile context (R218); a tile without a context has none. -/
def TileState.code : TileState → Nat
  | .unqueued => 0
  | .queued => 1
  | .fetching => 2
  | .running => 3
  | .committed => 4

/-- The 64 bytes of a tile's context: its window's sequence number, its constants, the address of its first output word and
the bytes per output line (R218). -/
def Tile.context (t : Tile) (seq : Word) (w : SynthIn) (base pitch : Nat) : List Byte :=
  leBytes 2 t.tx ++ leBytes 2 t.ty ++
    [byte t.state.code, byte (b2n t.witness), byte w.rung, byte t.flags] ++ leBytes 4 t.deadline.toNat ++
    [byte t.home, byte t.core] ++ leBytes 2 seq.toNat ++ leBytes 8 base ++ leBytes 4 pitch ++ leBytes 2 t.lines ++
    leBytes 2 t.pixels ++ leBytes 2 t.viewMask ++ leBytes 2 t.reissues ++ leBytes 2 w.halo ++ leBytes 2 0 ++
    leBytes 4 t.est ++ leBytes 4 t.cycles ++ leBytes 4 t.tStart.toNat ++ leBytes 4 t.tEnd.toNat ++
    leBytes 4 w.au.toNat ++ leBytes 4 0

/-- The context of a synthesis tile of a window (R216, R218). -/
def State.synthContext (s : State) (w : Window) (t : Tile) : List Byte :=
  let pitch := wovenPitch (blobWidth w.inp.blob)
  t.context w.seq w.inp (s.wovenAddr w.buffer + 32 * t.ty * pitch + 256 * t.tx) pitch

/-- The context of a witness tile: the window is the one that synthesised the frame of its DFN (R218, R372, log 121). -/
def State.witContext (s : State) (f : WitFrame) (t : Tile) : List Byte :=
  match s.bufOfDfn f.dfn, s.picOfDfn f.dfn with
  | some b, some p =>
    let pitch := wovenPitch p.config.width
    t.context f.seq f.inp (p.addr b + 32 * t.ty * pitch + 256 * t.tx) pitch
  | _, _ => []

/-- The sum of cycles / rays over tiles, as a fraction, with how many they are (R227). -/
def tileCosts (ts : List Tile) : Nat × Nat × Nat :=
  let d := ts.foldl (fun d t => Nat.lcm d (max 1 t.rays)) 1
  (sumNat (ts.map fun t => t.cycles * (d / max 1 t.rays)), d, ts.length)

/-- What RAY_STATUS reports of a window that completes now (R240, R241). -/
def State.lastWindow (s : State) (w : Window) : LastWindow :=
  let by_ (c : Nat) : List Tile := w.tiles.filter fun t => t.core / 24 == c
  { au := w.inp.au, concealed := w.inp.concealed, us := (s.mtNs - w.opened) / 1000, budgetUs := w.budget / 1000,
    resynth := w.resynth, late := decide (w.target < s.mtNs), reissued := w.tiles.any (·.reissued),
    degraded := w.tiles.any Tile.degraded, clamped := driftClamped w.inp.blob w.inp.dt16, driftHeld := w.driftHeld,
    curveFixed := w.curveFixed, rungFixed := w.rungFixed, rung := w.inp.rung,
    tiles := w.tiles.map fun t => (fieldAt (s.synthContext w t) 4 4, t.cycles), ran := [0, 1, 2, 3].map fun c => (by_ c).length,
    cycles := [0, 1, 2, 3].map fun c => sumNat ((by_ c).map (·.cycles)) }

/-- A window counts towards a step up: complete within 0.85 B, and no refresh was missed for it (R230). -/
def State.windowGood (s : State) (w : Window) : Bool :=
  !w.missed && decide (100 * ((s.mtNs : Int) - w.opened) ≤ 85 * w.budget)

/-- The last synthesis tile has committed: the woven frame is complete (R30). -/
def State.completeWindow (s : State) (w : Window) : State :=
  let bad := (w.tiles.filter Tile.degraded).length
  let frame : Woven := { seq := w.seq, doneMt := s.time.mt, inp := w.inp, buffer := w.buffer, degraded := decide (0 < bad), before := w.before,
                         changedBefore := w.changedBefore }
  let s := { s with ray.window := none, ray.complete := some frame, ray.last := s.lastWindow w,
                    ray.lastRung := some w.inp.rung,
                    ray.measured := updAt s.ray.measured w.inp.rung fun l => (tileCosts w.tiles :: l).take 8,
                    ray.goodWindows := if s.windowGood w then s.ray.goodWindows + 1 else 0 }
  let s := s.sweepHeld
  if bad = 0 then s else s.raise { code := .tileDegraded, data0 := w.inp.au.toNat, data1 := bad }

/-! ## A committed tile -/

/-- The window whose tiles have all committed becomes a complete woven frame; while a late one still awaits its flip, at the
event that flips that one (R30, R33, R34, log 122). -/
def State.settleWindow (s : State) : State :=
  match s.ray.window with
  | none => s
  | some w =>
    if w.tiles.all (·.state == .committed) && s.ray.complete.isNone then s.completeWindow w else s

/-- The rays of a witness tile. -/
def WitPicture.rays (w : WitPicture) (n : SynthIn) (t : Tile) : List RayStart :=
  (List.range t.lines).flatMap fun j => (List.range t.pixels).map fun i => w.ray n (64 * t.tx + i) (32 * t.ty + j)

/-- What the rays of a witness tile tell of it: view_mask, DEGRADED under R255, CONCEALED_USED (R263, R264). -/
def WitPicture.flagsOf (w : WitPicture) (n : SynthIn) (a : Anchors) (t : Tile) : Nat × Bool × Bool :=
  let rs := (w.rays n t).map (resolveRay n a (if t.rungZero then 0 else n.rung))
  (rs.foldl (fun m r => m ||| r.mask) 0, rs.any (·.allConcealed), rs.any (·.anyConcealed))

/-- The blocks that the rays of a witness tile read (R225). -/
def WitPicture.blocks (w : WitPicture) (n : SynthIn) (a : Anchors) (t : Tile) : List CacheBlock :=
  (w.rays n t).foldl (fun bs r =>
    (rayBlocks n a (if t.rungZero then 0 else n.rung) r).foldl (fun bs b => bs.insert b) bs) []

/-- What a commit writes into a tile's context (R226, R263). -/
def Tile.commit (t : Tile) (cycles : Nat) (now : Word) (flags : Nat × Bool × Bool) : Tile :=
  { t with state := .committed, cycles := cycles, tEnd := now, viewMask := flags.1, allConcealed := flags.2.1,
           concealedUsed := flags.2.2 }

/-- A tile that the commit marks DEGRADED is counted, once (R240). -/
def State.countDegraded (s : State) (t : Tile) (all : Bool) : State :=
  if all && !t.degraded then { s with ray.nDegraded := s.ray.nDegraded + 1 } else s

/-- A tile's context falls free, the core goes on with the tile it fetches, and waiting work takes what is free (R211, R217,
R226). -/
def State.afterCommit (s : State) (core : Nat) (t : Tile) (mask : Nat) : State :=
  let s := (s.tilesOf core).foldl (fun s x =>
    if x.2.state == .fetching then s.updRef x.1 fun t => { t with state := .running } else s) s
  let s := { s with ray.lastViews := setAt s.ray.lastViews core mask,
                    ray.caches := updAt s.ray.caches t.cluster fun c => c.release s.blockPx t.witness }
  s.fillCluster t.home

/-- The ray engine writes the lines of a tile (R216, R472). -/
def State.requestTile (s : State) (base pitch : Nat) (t : Tile) : State :=
  s.requestAll 3 true (lineSpans (base + 32 * t.ty * pitch + 256 * t.tx) pitch (4 * t.pixels) t.lines)

/-- A synthesis tile commits (R226). -/
def State.commitSynth (s : State) (core i cycles : Nat) (t : Tile) (w : Window) : State :=
  let s := s.askBlocks t.cluster false (tileBlocks w.inp (s.anchors t.cluster w.inp) t)
  let a := s.anchors t.cluster w.inp
  let flags := tileFlags w.inp a t.rungZero t
  let s := s.writeTile w.inp a (s.wovenAddr w.buffer) t
  let s := s.requestTile (s.wovenAddr w.buffer) (wovenPitch (blobWidth w.inp.blob)) t
  let s := (s.updTile i fun t => t.commit cycles (dtNs s.time.dt) flags).countDegraded t flags.2.1
  (s.afterCommit core t flags.1).settleWindow

/-- A witness tile commits; with the last one its buffer is READY (R226, R372). -/
def State.commitWit (s : State) (core f i cycles : Nat) (t : Tile) (fr : WitFrame) : State :=
  match s.bufOfDfn fr.dfn, s.picOfDfn fr.dfn with
  | some b, some w =>
    let s := s.askBlocks t.cluster true (w.blocks fr.inp (s.anchors t.cluster fr.inp) t)
    let a := s.anchors t.cluster fr.inp
    let flags := w.flagsOf fr.inp a t
    let s := s.writeWitTile w fr.inp a b t
    let s := s.requestTile (w.addr b) (wovenPitch w.config.width) t
    let s := (s.updWit f i fun t => t.commit cycles (dtNs s.time.dt) flags).countDegraded t flags.2.1
    let s := s.afterCommit core t flags.1
    match s.ray.witFrames[f]? with
    | none => s
    | some fr =>
      if !fr.tiles.all (·.state == .committed) then s
      else { s with ray.witFrames := s.ray.witFrames.eraseIdx f,
                    wit.bufs := updAt s.wit.bufs b fun (x : WitBuf) => { x with mark := .ready } }.sweepHeld
  | _, _ => s

/-- TILE_COMMIT (R226): the tile that the core runs passes its end-of-tile check. -/
def State.tileCommit (s : State) (core cycles : Nat) : State :=
  if !s.rayWorks then s
  else match (s.tilesOf core).find? fun x => x.2.state == .running with
    | none => s
    | some (.synth i, t) => match s.ray.window with
      | none => s
      | some w => s.commitSynth core i cycles t w
    | some (.wit f i, t) => match s.ray.witFrames[f]? with
      | none => s
      | some fr => s.commitWit core f i cycles t fr

/-- TILE_COMMIT (R226). -/
def execTileCommit (core : Fin 96) (cycles : Nat) (s : State) : Host.Outcome State Fault Refusal :=
  .next (s.tileCommit core.val cycles)

end Sys2Proof.Machine
end

