-- ==== Sys2Proof/Machine/Dsp.lean ====
section
/-!
DEFINITION. Display timing, lock sources, Still mode, holdover, the alignment offset and the panel profile: the commands, and
the acquisition and loss of a lock source (R293 to R325, R440, R443).
-/

namespace Sys2Proof.Machine

/-! ## Times and instants (R291, R304, R306) -/

/-- The shortest time between a frame-start event and the first one of an acquired source, 2^-32 ns (R306, R443). -/
def Timing.minSpan (t : Timing) : Nat := t.span (t.htotal * (t.vactive + 16))

/-- Instant `k` of a schedule on NT, 2^-32 ns (R304). -/
def scheduled (t0 refresh k : Nat) : Nat := t0 + k * 0x10000 * 1000000000000 / refresh * 0x10000

/-- The first instant of a schedule that is not before a time on NT. -/
def firstInstant (t0 refresh x : Nat) : Nat :=
  let k := (x - t0) * refresh / (0x100000000 * 1000000000000)
  if x ≤ scheduled t0 refresh k then k else if x ≤ scheduled t0 refresh (k + 1) then k + 1 else k + 2

/-- The value of base `n` when MT was or will be at `mt`, as the increments stand. -/
def State.baseWhen (s : State) (n mt : Nat) : Nat :=
  stepTime (s.baseOf n) (((mt : Int) - s.time.mt) * s.incOf n / (s.time.mtInc : Int))

/-- MT when NT is at `nt`, as the increments stand. -/
def State.mtWhenNt (s : State) (nt : Nat) : Nat :=
  ((s.time.mt : Int) + ((nt : Int) - s.time.nt) * s.time.mtInc / (s.time.ntInc : Int)).toNat

/-- MT of the scheduled instant that comes next. -/
def State.instantMt (s : State) (t : Timing) : Nat := s.mtWhenNt (scheduled s.dsp.lock.t0 t.refresh s.dsp.instant)

/-- The earliest MT at which an acquired source may place its first frame-start event (R306). -/
def State.placeFrom (s : State) (t : Timing) : Nat :=
  match s.dsp.frameMt with
  | none => s.time.mt
  | some f => max s.time.mt (f + t.minSpan)

/-- Choose the scheduled instant that comes next: the first far enough behind the last event (R306, R443). -/
def State.aimInstant (s : State) (t : Timing) : State :=
  { s with dsp.instant := firstInstant s.dsp.lock.t0 t.refresh (s.baseWhen 0 (s.placeFrom t)), dsp.lastEdge := none }

/-! ## DT follows the lock source (R440, R438) -/

/-- Limits of an increment (R438). -/
def incMin : Nat := 0x1FF7CED91
/-- Upper limit of an increment. -/
def incMax : Nat := 0x20083126F
/-- An increment held within R438. -/
def clampInc (v : Nat) : Nat := max incMin (min incMax v)

/-- DT is steered by a measured period (R440, EXTERNAL). -/
def State.steerDt (s : State) (t : Timing) (period : Nat) : State :=
  if period = 0 then s else { s with time.dtInc := clampInc (0x200000000 * t.period / period) }

/-- NT takes an increment; under SCHEDULED, DT takes it too (R440, R441). -/
def State.setNtInc (s : State) (v : Nat) : State :=
  let s := { s with time.ntInc := v }
  if s.dsp.lock.source = 2 then
    let s := { s with time.dtInc := v }
    match s.dsp.timing with
    | some t => if s.dsp.lockState == .locked then { s with dsp.nextGrid := some (s.instantMt t) } else s
    | none => s
  else s

/-! ## Acquisition (R303, R306) -/

/-- The source is acquired: a DSP_LOCK that waits reports OK, but for FREE, which waits for its event. -/
def State.lockAcquired (s : State) : State :=
  let s := { s with dsp.acquired := true }
  match s.dsp.lockWait with
  | some (t, _, _) => { s with dsp.lockWait := none }.outcome t .ok 0
  | none => s

/-- NT can place frames: it is locked at the basic level, or the host owns it (R306). -/
def State.ntReady (s : State) : Bool := s.isExpert policyServo || s.net.servo == .locked

/-- SCHEDULED is acquired as soon as NT is ready (R306). -/
def State.acquireScheduled (s : State) : State :=
  match s.dsp.timing with
  | none => s
  | some t =>
    if s.dsp.lock.source != 2 || s.dsp.acquired || s.dsp.lockState == .locked || !s.ntReady then s
    else (s.aimInstant t).lockAcquired

/-- Acquisition starts for the source in force (R294, R303, R306). -/
def State.restartLock (s : State) : State :=
  let free := s.dsp.lock.source = 0
  let s := { s with dsp.goodEdges := 0, dsp.lastEdge := none, dsp.missedRow := 0, dsp.period := 0, dsp.periods := [],
                    dsp.holdUntil := none, dsp.acquired := free,
                    dsp.lockState := if s.dsp.timing.isNone then .noTiming else if free then .free else .acquiring }
  s.acquireScheduled

/-- LOCK_FREE_RUN with its cause (R308). -/
def State.raiseFreeRun (s : State) (cause : Nat) : State := s.raise { code := .lockFreeRun, source := 121, data0 := cause }

/-- The lock source is lost: holdover, or free running at once with a duration of 0 (R308, R310). -/
def State.loseLock (s : State) : State :=
  let hold := s.dsp.holdSecs
  let s := { s with dsp.holdPeriod := meanOr (s.dsp.timing.elim 0 Timing.period) s.dsp.periods, dsp.lockState := .holdover, dsp.holdUntil := some (s.mtNs + hold * 1000000000), dsp.acquired := false,
                    dsp.goodEdges := 0, dsp.lastEdge := none, dsp.missedRow := 0 }
  let s := s.raise { code := .lockHoldover, source := 121, data0 := s.dsp.lock.source, data1 := hold }
  if hold = 0 then { s with dsp.lockState := .free, dsp.holdUntil := none }.raiseFreeRun 0 else s

/-- PTP_LOST while the servo runs at the basic level loses SCHEDULED (R305). -/
def State.ptpLoses (s : State) : State :=
  if s.dsp.lock.source = 2 && !s.isExpert policyServo && s.dsp.timing.isSome then
    if s.dsp.lockState == .locked then s.loseLock else { s with dsp.acquired := false }
  else s

/-- A step of NT under SCHEDULED: the next event falls at the first instant far enough behind the last one; a step of more
than a period takes the lock state to ACQUIRING (R443). -/
def State.ntStepped (s : State) (amount : Nat) : State :=
  match s.dsp.timing with
  | none => s
  | some t =>
    if s.dsp.lock.source != 2 || !(s.dsp.acquired || s.dsp.lockState == .locked) then s
    else
      let s := s.aimInstant t
      let s := { s with dsp.nextGrid := some (s.instantMt t) }
      if t.period < amount && s.dsp.lockState == .locked then { s with dsp.lockState := .acquiring, dsp.acquired := true }
      else s

/-! ## DSP_TIMING_SET (R293, R294) -/

/-- A DSP_TIMING_SET or a DSP_LOCK awaits its outcome (check 0x06 of R294). -/
def State.dspBusy (s : State) : Bool :=
  s.dsp.lockWait.isSome || s.dsp.timingDue.isSome || s.dsp.timingNext.any fun x => x.2.isSome

/-- The alignment offset set last, in force or not yet (R312). -/
def State.offsetSet (s : State) : Nat := s.dsp.offsetNext.getD s.dsp.offset

/-- An offset fits a timing (R313). -/
def offsetFits (t : Timing) (o : Nat) : Bool := decide (o < t.htotal * (t.vblank - 16))

/-- Device memory holds the three woven-frame buffers of a timing (check 0x05 of R294, log 14). -/
def State.wovenFits (s : State) (t : Timing) : Bool :=
  decide (s.dec.slotCount * s.dec.slotBlocks * 65536 + (s.ownBytes - 3 * s.wovenBytes) + 3 * t.wovenBytes ≤ s.capacity)

/-- A new timing comes into force: the window in progress and a frame not presented are dropped, nothing is presented, and
the lock is acquired anew (R294, log 24). A change of the depth budgets is a condition of R29. The scene picture of the frame
presented last stays HELD_BY_RAY until another woven frame is presented (R37). -/
def State.putTiming (s : State) (t : Timing) (ticket : Option Nat) : State :=
  let old := s.dsp.timing
  let s := s.abandonWindow.dropComplete
  let s := { s with ray.presented := none, dsp.timing := some t, dsp.timingNext := none, dsp.timingDue := ticket,
                    dsp.shown := false, dsp.rateNext := none, dsp.gridCount := 0,
                    ray.changed := s.ray.changed || old.any fun (o : Timing) => o.nb != t.nb || o.fb != t.fb }
  (s.restartLock.panelTiming t).sweepHeld

/-- Commit a timing: it comes into force when the refresh in progress ends, and at once when none runs (R294, log 23). The
link parameters are checked against it now (R356). -/
def State.commitTiming (s : State) (t : Timing) (ticket : Option Nat) : State :=
  let s := { s with pnl.linkMisfit := s.misfits t }
  if s.rasterRuns then { s with dsp.timingNext := some (t, ticket) }.askBase
  else { s.putTiming t ticket with dsp.nextGrid := some s.time.mt }

/-- DSP_TIMING_SET (R294). -/
def runDspTimingSet (t : Nat) (p : Packet) (s : State) : Answer :=
  let b := p.bytesAt 16 24
  match checkTiming b with
  | some (d, some off) => refuse .badParam (16 + off) d
  | some (d, none) => refuse .badParam noField d
  | none =>
    let tm := timingOf b
    if !offsetFits tm s.offsetSet then refuse .wrongState noField 0x04
    else if !s.wovenFits tm then refuse .noResource noField 0x05
    else if s.dspBusy then refuse .busy noField 0x06
    else .accepted ({ s with dsp.timingByHost := true }.commitTiming tm (some t)).recomputeRates none

/-! ## DSP_LOCK (R303) -/

/-- DSP_LOCK (R303). -/
def runDspLock (t : Nat) (p : Packet) (s : State) : Answer :=
  let src := p.u8 16
  if 2 < src then refuse .badParam 16
  else if 3 < p.u8 17 then refuse .badParam 17
  else if (src = 2 ∧ 999999999 < p.u32 20) ∨ (src ≠ 2 ∧ p.u32 20 ≠ 0) then refuse .badParam 20
  else if src ≠ 2 ∧ p.num 24 6 ≠ 0 then refuse .badParam 24
  else if s.dsp.timing.isNone then refuse .wrongState noField
  else if s.dspBusy then refuse .busy noField 0x06
  else
    let prev := s.dsp.lock
    let k : LockSet := { source := src, falling := bitOf (p.u8 17) 0, syncOut := bitOf (p.u8 17) 1,
                         t0 := p.num 24 6 * secUnits + p.u32 20 * 0x100000000 }
    let s := { s with dsp.lock := k }.askBase.restartLock
    let s := if src = 0 then s.raiseFreeRun 1 else s
    if src = 2 && s.dsp.acquired then .accepted s (some (.ok, 0))
    else .accepted { s with dsp.lockWait := some (t, prev, s.mtNs + 2000000000) } none

/-- DSP_LOCK_TIMEOUT (R303): 2 s without acquisition; the previous source is restored. -/
def State.lockTimeout (s : State) : State :=
  match s.dsp.lockWait with
  | none => s
  | some (t, prev, deadline) =>
    if s.mtNs < deadline || s.dsp.lock.source = 0 then s
    else
      let s := { s with dsp.lockWait := none }.outcome t .timeout 0
      { s with dsp.lock := prev }.restartLock.raiseFreeRun 2

/-- DSP_LOCK_TIMEOUT (R303). -/
def execDspLockTimeout (s : State) : Host.Outcome State Fault Refusal := .next s.lockTimeout

/-- HOLDOVER_EXPIRY (R308): the holdover duration ends; the device runs FREE. -/
def execHoldoverExpiry (s : State) : Host.Outcome State Fault Refusal :=
  match s.dsp.holdUntil with
  | none => .next s
  | some t =>
    if s.dsp.lockState != .holdover || decide (s.mtNs < t) then .next s
    else .next ({ s with dsp.lockState := .free, dsp.holdUntil := none }.raiseFreeRun 0)

/-! ## Still mode, offset, holdover (R310, R313, R317, R319) -/

/-- The base rate allows Still mode (R317). -/
def Timing.stillOk (t : Timing) : Bool := t.refresh % 30000 == 0

/-- DSP_STILL (R317). -/
def runDspStill (_t : Nat) (p : Packet) (s : State) : Answer :=
  if 1 < p.u8 16 then refuse .badParam 16
  else if 2 < p.u8 17 then refuse .badParam 17
  else if !s.dsp.timing.any Timing.stillOk then refuse .wrongState noField
  else
    let on := p.u8 16 == 1
    let s := { s with dsp.still := on, dsp.lowest := p.u8 17,
                      dsp.stillSince := if on && !s.dsp.still then s.mtNs else s.dsp.stillSince,
                      -- the refresh never steps below the lowest rate (R319)
                      dsp.rateNext := if on then s.dsp.rateNext.filter fun r => decide (r ≤ p.u8 17 + 1) else none }
    okay (if on then s else s.askBase)

/-- Hz of a STILL_RATE code under the timing in force. -/
def State.hzOf (s : State) (rate : Nat) : Nat :=
  if rateHz rate = 0 then s.dsp.timing.elim 0 fun t => t.refresh / 1000 else rateHz rate

/-- Something will ask the next window to re-synthesise (R29). -/
def State.resynthDue (s : State) : Bool :=
  s.ray.changed || (s.ray.nextRung.any fun r => r.2 == 2 && r.1 != s.ray.rung) ||
    (s.ray.nextCurve.any fun c => c != s.ray.curve) || (s.ray.load.any (·.checked)) || s.ray.dt16Next != s.ray.dt16

/-- Still mode is to return to the base rate at a base-grid instant (R320). -/
def State.baseWanted (s : State) (mt : Nat) : Bool :=
  s.dsp.rate != 0 && (s.dsp.wantBase || !s.dsp.still || (s.pickScene (mt + s.gridPeriod)).isSome ||
    (s.resynthDue && s.ray.lastSynth.isSome))

/-- Time without a new woven frame before Still mode steps down from a rate, ns (R319). -/
def stillWait : Nat → Nat
  | 0 => 1000000000
  | 1 => 2000000000
  | _ => 5000000000

/-- STILL_STEP_DOWN (R319): the step takes effect at the next frame-start event. -/
def State.stillStepDown (s : State) : State :=
  let r := s.dsp.rate
  if !s.dsp.still || !s.dsp.timing.any Timing.stillOk || s.dsp.rateNext.isSome || s.dsp.wantBase ||
      decide (s.dsp.lowest < r) || decide (s.mtNs < s.dsp.stillSince + stillWait r) then s
  else { s with dsp.rateNext := some (r + 1) }

/-- STILL_STEP_DOWN (R319). -/
def execStillStepDown (s : State) : Host.Outcome State Fault Refusal := .next s.stillStepDown

/-- DSP_OFFSET (R313). -/
def runDspOffset (_t : Nat) (p : Packet) (s : State) : Answer :=
  let t := (s.dsp.timingNext.map (·.1)).or s.dsp.timing
  if t.any fun t => !offsetFits t (p.u32 16) then refuse .badParam 16
  else if s.rasterRuns then okay { s with dsp.offsetNext := some (p.u32 16) }
  else okay { s with dsp.offset := p.u32 16, dsp.offsetNext := none }

/-- DSP_HOLDOVER (R310). -/
def runDspHoldover (_t : Nat) (p : Packet) (s : State) : Answer :=
  if 600 < p.u16 16 then refuse .badParam 16 else okay { s with dsp.holdSecs := p.u16 16 }

/-! ## DSP_STATUS (R324) -/

/-- DSP_STATUS (R324): reading the lowest reserves clears them. -/
def runDspStatus (_t : Nat) (p : Packet) (s : State) : Answer :=
  let sel := p.u8 16
  let i := p.u8 17
  let d := s.dsp
  if 8 < sel then refuse .badParam 16
  else if (sel = 3 ∧ 3 < i) ∨ (sel ≠ 3 ∧ i ≠ 0) then refuse .badParam 17
  else match sel with
    | 0 => okay s s.lockWord (d.holdUntil.elim 0 fun t => ceilDiv (t - s.mtNs) 1000000000)
    | 1 => okay s (d.dfn.toNat % 0x100000000) (d.dfn.toNat / 0x100000000)
    | 2 => okay s (d.psn.toNat % 0x100000000) (d.psn.toNat / 0x100000000)
    | 3 => okay s (nsField (d.stamp.getD i 0)) (secField (d.stamp.getD i 0) % 0x100000000)
    | 4 => okay s (d.period / 0x10000000 % 0x100000000) (unsignedOf 32 d.phasePs)
    | 5 => okay s d.nMissedEdges.toNat d.nSpurious.toNat
    | 6 => okay s d.nWoven.toNat d.nLayer.toNat
    | 7 => okay { s with dsp.minWoven := 0xFFFFFFFF, dsp.minLayer := 0xFFFFFFFF } d.minWoven d.minLayer
    | _ => okay s d.nUrgent.toNat d.nCritical.toNat

/-! ## The panel profile (R300 to R302) -/

/-- DSP_PROFILE_STORE (R301): the blob is copied when the packet starts. -/
def runDspProfileStore (t : Nat) (p : Packet) (s : State) : Answer :=
  let len := p.u32 16
  if len % 4 ≠ 0 then refuse .alignment 16
  else if p.u64 24 % 4 ≠ 0 then refuse .alignment 24
  else if len < 68 ∨ 12288 < len then refuse .badParam 16 0x01
  else match s.resolve p.src (p.u64 24) len with
    | none => refuse .badParam 24
    | some l =>
      let blob := s.readAt l len
      let d := checkProfile blob
      if d ≠ 0 then refuse .badParam noField d
      else if s.nvm.ops.any (fun (o : NvmOp) => match o.kind with
        | .profile _ => true
        | _ => false) then refuse .busy noField
      else if s.scanning then refuse .nvmBusy noField
      else .started (s.pushOp (.profile blob) t) false

/-- DSP_PROFILE_READ (R302). -/
def runDspProfileRead (_t : Nat) (p : Packet) (s : State) : Answer :=
  let len := p.u32 16
  if len % 4 ≠ 0 then refuse .alignment 16
  else if p.u64 24 % 4 ≠ 0 then refuse .alignment 24
  else match s.resolve p.src (p.u64 24) len with
    | none => refuse .badParam 24
    | some l =>
      if s.scanning then refuse .nvmBusy noField
      else match s.chosenProfile with
        | none => refuse .wrongState noField
        | some (_, b) =>
          if len < b.length then refuse .badParam 16
          else okay (s.writeAt l b) b.length (profId b)

/-- The chosen panel profile is applied at Dawn, or when the scan of the store ends (R300). -/
def State.applyProfile (s : State) : State :=
  match s.chosenProfile with
  | none => s
  | some (_, b) =>
    let t := timingOf (profTimingBytes b)
    let s := if profTiming b && !s.dsp.timingByHost && s.wovenFits t then s.commitTiming t none else s
    { s with pnl.profileLink := if profLink b then some (linkOf (profLinkBytes b)) else s.pnl.profileLink,
             pnl.images := (if profConfig b then [profConfigImage b] else []) ++
               (if profGamma b then [profGammaImage b] else []) ++ s.pnl.images }

/-- DSP_TIMING_SET (R293). -/
def execDspTimingSet (p : Packet) (s : State) : Host.Outcome State Fault Refusal :=
  .next (s.issue .dspTimingSet runDspTimingSet p)
/-- DSP_LOCK (R303). -/
def execDspLock (p : Packet) (s : State) : Host.Outcome State Fault Refusal := .next (s.issue .dspLock runDspLock p)
/-- DSP_STILL (R317). -/
def execDspStill (p : Packet) (s : State) : Host.Outcome State Fault Refusal := .next (s.issue .dspStill runDspStill p)
/-- DSP_STATUS (R324). -/
def execDspStatus (p : Packet) (s : State) : Host.Outcome State Fault Refusal := .next (s.issue .dspStatus runDspStatus p)
/-- DSP_PROFILE_STORE (R301). -/
def execDspProfileStore (p : Packet) (s : State) : Host.Outcome State Fault Refusal :=
  .next (s.issue .dspProfileStore runDspProfileStore p)
/-- DSP_PROFILE_READ (R302). -/
def execDspProfileRead (p : Packet) (s : State) : Host.Outcome State Fault Refusal :=
  .next (s.issue .dspProfileRead runDspProfileRead p)
/-- DSP_OFFSET (R313). -/
def execDspOffset (p : Packet) (s : State) : Host.Outcome State Fault Refusal := .next (s.issue .dspOffset runDspOffset p)
/-- DSP_HOLDOVER (R310). -/
def execDspHoldover (p : Packet) (s : State) : Host.Outcome State Fault Refusal :=
  .next (s.issue .dspHoldover runDspHoldover p)

end Sys2Proof.Machine
end

