-- ==== Sys2Proof/Machine/Pulses.lean ====
section
/-!
DEFINITION. The pulses of the EVT_OUT pins: where pulse `k` lies and which pulse comes next (R461).
-/

namespace Sys2Proof.Machine

/-- Instant of pulse `k`, 2^-16 ns (R461). -/
def EvtOut.instant (o : EvtOut) (k : Nat) : Nat := o.start + k * o.period

/-- The index of the first pulse at or after a time of the base, 2^-16 ns. -/
def EvtOut.firstFrom (o : EvtOut) (now : Nat) : Nat := if o.period = 0 then 0 else ceilDiv (now - o.start) o.period

/-- Pulses remain to be emitted (R461). -/
def EvtOut.unspent (o : EvtOut) : Bool := o.enable && (o.count == 0 || decide (o.emitted < o.count))

/-- A step of base `n`: the next pulse is the first one behind the last emitted that still lies ahead (R461). -/
def State.aimPulses (s : State) (n : Nat) : State :=
  { s with time.evtOut := s.time.evtOut.map fun o =>
      if o.base == n then { o with next := max o.next (o.firstFrom (s.baseOf n / 0x10000)) } else o }

end Sys2Proof.Machine
end

