-- ==== Sys2Proof/Machine/Time.lean ====
section
/-!
DEFINITION. The PTP servo and the ET slew, and the packets of class TIME (R436 to R464).
-/

namespace Sys2Proof.Machine

/-! ## The servo's states (R454, R455, R457, R462) -/

/-- Code of a servo state (R462). -/
def ServoState.code : ServoState → Nat
  | .disabled => 0
  | .listening => 1
  | .unlocked => 2
  | .locked => 3
  | .holdover => 4
  | .expert => 5

/-- The port that the servo is slave on, if one is named (R450). -/
def State.slavePort (s : State) : Option Nat := if s.net.slave = 0 then none else some (s.net.slave - 1)

/-- An increment adjusted by parts in 10^9 (R454). -/
def adjusted (inc : Nat) (ppb : Int) : Nat := (rndDiv ((inc : Int) * (1000000000 + ppb)) 1000000000).toNat

/-- The conditions under which ET follows the master (R455). -/
def State.etFollows (s : State) : Bool :=
  s.net.etFromPtp && s.net.servo == .locked && s.net.master.any (·.utcValid)

/-- The target of ET: NT less currentUtcOffset (R455). -/
def State.etTarget (s : State) : Nat :=
  stepTime s.time.nt (-((s.net.master.elim 0 fun m => m.utcOffset) * (secUnits : Nat)))

/-- ET at the basic level: stepped once to its target, then slewed until it is within 100 ns; NT's increment otherwise
(R440, R455). -/
def State.steerEt (s : State) : State :=
  if s.isExpert policyServo then s
  else if !s.etFollows then { s with time.etInc := s.time.ntInc, net.etSlewing := false }
  else if !s.net.etSet then
    { s with time.et := s.etTarget, time.etInc := s.time.ntInc, net.etSet := true, net.etSlewing := false }.aimPulses 2
  else
    let err : Int := ((s.etTarget : Int) - s.time.et) / 0x100000000
    if err.natAbs < 100 then { s with time.etInc := s.time.ntInc, net.etSlewing := false }
    else
      let ppb := clampInt (Config.etSlewPpb err) (-200000) 200000
      { s with time.etInc := clampInc (adjusted s.time.ntInc ppb), net.etSlewing := true }

/-- PTP_LOST with its reason and the slave port that has lost its master; a lock source that rests on NT is lost with it
(R305, R464, log 118). -/
def State.raisePtpLost (s : State) (reason port : Nat) : State :=
  (s.raise { code := .ptpLost, source := 126, data0 := reason, data1 := port }).ptpLoses

/-- The servo begins anew on its slave port, having been slave on port `old` (R450). -/
def State.restartServo (s : State) (old : Nat) : State :=
  let was := s.net.servo
  let st : ServoState := if s.isExpert policyServo then .expert else if s.net.slave = 0 then .disabled else .listening
  let s := { s with net.servo := st, net.goodSyncs := 0, net.integ := 0, net.master := none, net.others := [],
                    net.delayT3 := none }
  (if was == .locked then s.raisePtpLost 2 old else s).steerEt

/-- The servo loses its master: NT runs on at its last increment (R454). -/
def State.servoHoldover (s : State) (reason : Nat) : State :=
  if s.net.servo == .locked || s.net.servo == .unlocked then
    ({ s with net.servo := .holdover, net.goodSyncs := 0 }.raisePtpLost reason (s.net.slave - 1)).steerEt
  else s

/-- The servo stands down at an expert packet: its state reads EXPERT, and ET's slew ends (R457). -/
def State.standServoDown (s : State) (p : Packet) : State :=
  if s.isExpert policyServo then s
  else
    let s := if s.net.etSlewing then { s with time.etInc := s.time.ntInc } else s
    { s with net.servo := .expert, net.goodSyncs := 0, net.etSlewing := false }.standDown p policyServo

/-- What a return of the servo's policy to basic does: ET takes NT's increment, MT the nominal one, and the servo resumes
from UNLOCKED (R457). -/
def State.basicServo (s : State) : State :=
  { s with time.etInc := s.time.ntInc, time.mtInc := 0x200000000, net.integ := 0, net.goodSyncs := 0,
           net.servo := if s.net.slave = 0 then .disabled else .unlocked }

/-! ## TIME_READ (R444, R445) -/

/-- The servo word (R462). -/
def State.servoWord (s : State) : Nat :=
  let n := s.net
  n.servo.code + 16 * b2n (n.master.any (·.utcValid)) + 32 * b2n n.etFromPtp + 64 * b2n n.etSet + 128 * b2n n.etSlewing +
    256 * n.domain + 65536 * (n.master.elim 0 fun m => m.clockClass % 256)

/-- The port word (R463). -/
def PortState.word (q : PortState) : Nat :=
  q.mode + 4 * b2n q.link + 8 * b2n q.forward + 16 * b2n q.modAbs + 32 * b2n q.los + 64 * b2n q.txDisable +
    65536 * q.linkDowns

/-- The highest index of each selector of R445. -/
def timeIndexMax (sel : Nat) : Nat := [3, 3, 0, 3, 1, 1, 1, 1, 0].getD sel 0

/-- All four bases as TIME_READ and R651 latch them. -/
def State.bases (s : State) : List Nat := [s.time.nt, s.time.dt, s.time.et, s.time.mt]

/-- TIME_READ (R444). -/
def runTimeRead (_t : Nat) (p : Packet) (s : State) : Answer :=
  let sel := p.u8 16
  let i := p.u8 17
  let addr := p.u64 24
  if 8 < sel then refuse .badParam 16
  else if timeIndexMax sel < i then refuse .badParam 17
  else if sel ≠ 0 ∧ addr ≠ 0 then refuse .badParam 24
  else if addr % 64 ≠ 0 then refuse .alignment 24
  else
    let pin := s.time.evtIn.getD i {}
    let q := s.port i
    match sel with
    | 0 =>
      let v := s.bases.getD i 0
      if addr = 0 then okay s (nsField v) (secField v % 0x100000000)
      else match s.resolve p.src addr 64 with
        | none => refuse .badParam 24
        | some l => okay (s.writeAt l (s.bases.flatMap timeBytes16)) (nsField v) (secField v % 0x100000000)
    | 1 => okay s (nsField pin.capture) (secField pin.capture % 0x100000000)
    | 2 => okay s s.servoWord (unsignedOf 32 (clampInt s.net.offset (-2147483648) 2147483647))
    | 3 => okay s (s.incOf i % 0x100000000) (s.incOf i / 0x100000000)
    | 4 => okay s q.word (unsignedOf 32 q.meanDelay)
    | 5 => okay s q.forwarded.toNat q.dropped.toNat
    | 6 => okay s q.corrected.toNat q.saturated.toNat
    | 7 => okay s q.terminated.toNat q.fcsErrors.toNat
    | _ => okay s s.time.overruns.toNat s.time.pulses.toNat

/-! ## Ports (R446, R447, R464) -/

/-- PORT_LINK (R464). -/
def State.raisePortLink (s : State) (n : Nat) : State :=
  let q := s.port n
  s.raise { code := .portLink, source := 126, data0 := n + 256 * b2n q.link + 512 * q.mode, data1 := q.linkDowns }

/-- A port's link goes down: counted and reported; a servo on it loses its master (R454, R463). -/
def State.linkDown (s : State) (n : Nat) : State :=
  if !(s.port n).link then s
  else
    let s := (s.portFalls n).raisePortLink n
    if s.slavePort = some n then s.servoHoldover 3 else s

/-- A subnet mask is contiguous (R446). -/
def maskOk (m : Nat) : Bool := (List.range 33).any fun k => m == 0x100000000 - 2 ^ k

/-- The field of bytes 16 to 31 of a TIME_PORT_CONFIG that fails its check, as an offset in the packet (R446). -/
def portConfigFault (b : List Byte) : Option Nat :=
  let ip := fieldAt b 4 4
  let mask := fieldAt b 8 4
  let gw := fieldAt b 12 4
  if 1 < fieldAt b 0 1 then some 16
  else if 2 < fieldAt b 1 1 then some 17
  else if 1 < fieldAt b 2 1 then some 18
  else if !maskOk mask then some 24
  else if gw ≠ 0 ∧ gw &&& mask ≠ ip &&& mask then some 28
  else none

/-- Put a port's settings into force; a change of mode takes the link down (R446). -/
def State.setPort (s : State) (n : Nat) (b : List Byte) : State :=
  let mode := fieldAt b 1 1
  let s := if (s.port n).mode ≠ mode then s.linkDown n else s
  s.updPort n fun q =>
    { q with mode := mode, forward := bitOf (fieldAt b 2 1) 0, ipv4 := fieldAt b 4 4, mask := fieldAt b 8 4,
             gateway := fieldAt b 12 4, txDisable := mode == 0 }

/-- TIME_PORT_CONFIG (R446). -/
def runTimePortConfig (t : Nat) (p : Packet) (s : State) : Answer :=
  let b := p.bytesAt 16 16
  match portConfigFault b with
  | some off => refuse .badParam off
  | none =>
    if s.net.ports.any fun q => q.configTicket.isSome then refuse .busy noField
    else
      let n := p.u8 16
      .accepted ((s.setPort n b).updPort n fun q => { q with configTicket := some t }) none

/-- PORT_MODE_READY (R446): the PCS runs in the new mode. -/
def execPortModeReady (port : Port) (s : State) : Host.Outcome State Fault Refusal :=
  let n := portIdx port
  match (s.port n).configTicket with
  | none => .next s
  | some t => .next ((s.updPort n fun q => { q with configTicket := none }).outcome t .ok 0)

/-- PORT_LINK (R464): the PCS link of a port that is not off goes up or down. -/
def execPortLink (port : Port) (up : Bool) (s : State) : Host.Outcome State Fault Refusal :=
  let n := portIdx port
  let q := s.port n
  if !up then .next (s.linkDown n)
  else if q.link || q.mode == 0 || !s.fabricUp then .next s
  else .next ((s.updPort n fun q => { q with link := true }).raisePortLink n)

/-! ## TIME_PTP_CONFIG (R450) -/

/-- The field of bytes 16 to 31 of a TIME_PTP_CONFIG that fails its check (R450). -/
def ptpConfigFault (b : List Byte) : Option Nat :=
  let lp := signedOf 8 (fieldAt b 5 1)
  if 2 < fieldAt b 0 1 then some 16
  else if 2 < fieldAt b 1 1 then some 17
  else if 127 < fieldAt b 2 1 then some 18
  else if 1 < fieldAt b 3 1 then some 19
  else if 1 < fieldAt b 4 1 then some 20
  else if lp < -3 ∨ 5 < lp then some 21
  else none

/-- UDP transport needs an IPv4 address on the slave port (R450). -/
def State.ptpNoAddress (s : State) (b : List Byte) : Bool :=
  fieldAt b 3 1 == 1 && fieldAt b 1 1 != 0 && (s.port (fieldAt b 1 1 - 1)).ipv4 == 0

/-- Put PTP settings into force; the servo restarts (R450). -/
def State.setPtp (s : State) (b : List Byte) : State :=
  { s with net.tcMode := fieldAt b 0 1, net.slave := fieldAt b 1 1, net.domain := fieldAt b 2 1,
           net.transport := fieldAt b 3 1, net.etFromPtp := bitOf (fieldAt b 4 1) 0,
           net.logPdelay := signedOf 8 (fieldAt b 5 1) }.restartServo (s.net.slave - 1)

/-- TIME_PTP_CONFIG (R450). -/
def runTimePtpConfig (_t : Nat) (p : Packet) (s : State) : Answer :=
  let b := p.bytesAt 16 16
  match ptpConfigFault b with
  | some off => refuse .badParam off
  | none => if s.ptpNoAddress b then refuse .wrongState noField else okay (s.setPtp b)

/-- The reserved bytes of a part of record 0x111 hold 0 (R5, R447). -/
def zeroFrom (b : List Byte) (off n : Nat) : Bool := (sliceZ b off n).all (· == 0)

/-- The settings of device record 0x111 take effect part by part; the defaults stand where a part fails (R447). -/
def State.applyNetRecord (s : State) (b : List Byte) : State :=
  if b.length ≠ 48 then s
  else
    let pa := b.take 16
    let pb := (b.drop 16).take 16
    let pt := b.drop 32
    let s := if (portConfigFault pa).isNone && fieldAt pa 0 1 == 0 && zeroFrom pa 3 1 then s.setPort 0 pa else s
    let s := if (portConfigFault pb).isNone && fieldAt pb 0 1 == 1 && zeroFrom pb 3 1 then s.setPort 1 pb else s
    if (ptpConfigFault pt).isNone && zeroFrom pt 6 10 && !s.ptpNoAddress pt then s.setPtp pt else s

/-! ## Bases (R441, R442, R456) -/

/-- TIME_SET_ET (R456). -/
def runTimeSetEt (_t : Nat) (p : Packet) (s : State) : Answer :=
  if 999999999 < p.u32 20 then refuse .badParam 20
  else if s.net.etFromPtp && s.net.servo == .locked then refuse .wrongState noField
  else okay ({ s with time.et := p.time 20, net.etSet := true }.aimPulses 2)

/-- TIME_INCREMENT (R441): the policy stands down, and the increment stands from the next timing-clock cycle. -/
def runTimeIncrement (_t : Nat) (p : Packet) (s : State) : Answer :=
  let v := p.u64 24
  if 3 < p.u8 16 then refuse .badParam 16
  else if v < incMin ∨ incMax < v then refuse .badParam 24
  else
    let s := s.standServoDown p
    match p.u8 16 with
    | 0 => okay ((s.setNtInc v).acquireScheduled)
    | 1 => okay ({ s with time.dtInc := v }.acquireScheduled)
    | 2 => okay ({ s with time.etInc := v }.acquireScheduled)
    | _ => okay ({ s with time.mtInc := v }.acquireScheduled)

/-- Step a base by a signed amount at once; a step of NT moves the frame starts that rest on it (R442, R443). -/
def State.stepBase (s : State) (base : Nat) (d : Int) : State :=
  if base = 0 then ({ s with time.nt := stepTime s.time.nt d }.aimPulses 0).ntStepped d.natAbs
  else { s with time.et := stepTime s.time.et d }.aimPulses 2

/-- TIME_STEP (R442): NT and ET step at once, DT at the next frame-start event. -/
def runTimeStep (_t : Nat) (p : Packet) (s : State) : Answer :=
  let base := p.u8 16
  let amount := p.time 20
  if 2 < base then refuse .badParam 16
  else if 1 < p.u8 17 ∨ (base = 1 ∧ p.u8 17 = 1) then refuse .badParam 17
  else if 999999999 < p.u32 20 then refuse .badParam 20
  else
    let s := (s.standServoDown p).acquireScheduled
    if base = 1 then okay { s with time.dtStep := some (s.time.dtStep.getD 0 + amount) }
    else okay (s.stepBase base (if p.u8 17 = 1 then -(amount : Int) else amount))

/-- TIME_RELEASE (R457): a servo that stands at the expert level returns to basic. -/
def runTimeRelease (_t : Nat) (p : Packet) (s : State) : Answer :=
  if s.isExpert policyServo then okay ((s.setPolicy policyServo false 1 p.src.ringNo p.tag).basicServo) else okay s

/-! ## TIME_EVT_CONFIG (R459) -/

/-- The field of a TIME_EVT_CONFIG that fails its check (R459). -/
def evtConfigFault (p : Packet) : Option Nat :=
  let input := decide (p.u8 16 < 4)
  let period := p.u64 32
  if 7 < p.u8 16 then some 16
  else if 3 < p.u8 17 then some 17
  else if 3 < p.u8 18 then some 18
  else if (input ∧ p.num 20 12 ≠ 0) ∨ 999999999 < p.u32 20 then some 20
  else if (input ∧ period ≠ 0) ∨ (!input ∧ (period < 20 * 65536 ∨ 1000000000000 * 65536 < period)) then some 32
  else if (input ∧ p.u32 40 ≠ 0) ∨ (!input ∧ (p.u32 40 < 10 ∨ period < (p.u32 40 + 10) * 65536)) then some 40
  else if input ∧ p.u32 44 ≠ 0 then some 44
  else none

/-- TIME_EVT_CONFIG (R459): the pin's previous setting is replaced; an output drives its inactive level until its next
pulse (R461). -/
def runTimeEvtConfig (_t : Nat) (p : Packet) (s : State) : Answer :=
  match evtConfigFault p with
  | some off => refuse .badParam off
  | none =>
    let n := p.u8 16
    if n < 4 then
      okay { s with time.evtIn := updAt s.time.evtIn n fun e => { e with base := p.u8 17, edge := p.u8 18 } }
    else
      let o : EvtOut :=
        { base := p.u8 17, enable := bitOf (p.u8 18) 0, activeLow := bitOf (p.u8 18) 1, start := p.time 20 / 0x10000,
          period := p.u64 32, width := p.u32 40, count := p.u32 44, level := bitOf (p.u8 18) 1 }
      let o : EvtOut := { o with next := o.firstFrom (s.baseOf o.base / 0x10000) }
      okay { s with time.evtOut := setAt s.time.evtOut (n - 4) o }

/-- EVT_OUT_PULSE (R461): the base has reached the next pulse's instant. -/
def State.beginPulse (s : State) (n : Nat) : State :=
  let o : EvtOut := s.time.evtOut.getD n {}
  if !o.unspent || o.pulseEnd.isSome || decide (s.baseOf o.base / 0x10000 < o.instant o.next) || !s.pwr.vddAon then s
  else
    let o : EvtOut := { o with level := !o.activeLow, pulseEnd := some (s.time.mt / 0x10000 + o.width * 65536),
                               next := o.next + 1, emitted := o.emitted + 1 }
    { s with time.evtOut := setAt s.time.evtOut n o, time.pulses := s.time.pulses + 1 }

/-- EVT_OUT_PULSE (R461). -/
def execEvtOutPulse (pin : Fin 4) (s : State) : Host.Outcome State Fault Refusal := .next (s.beginPulse pin.val)

/-- EVT_OUT_PULSE_END (R461): the width has elapsed. -/
def State.endPulse (s : State) (n : Nat) : State :=
  let o : EvtOut := s.time.evtOut.getD n {}
  match o.pulseEnd with
  | none => s
  | some t =>
    if s.time.mt / 0x10000 < t then s
    else { s with time.evtOut := setAt s.time.evtOut n { o with level := o.activeLow, pulseEnd := none } }

/-- EVT_OUT_PULSE_END (R461). -/
def execEvtOutPulseEnd (pin : Fin 4) (s : State) : Host.Outcome State Fault Refusal := .next (s.endPulse pin.val)

/-! ## The packets -/

/-- TIME_READ (R444). -/
def execTimeRead (p : Packet) (s : State) : Host.Outcome State Fault Refusal := .next (s.issue .timeRead runTimeRead p)
/-- TIME_PORT_CONFIG (R446). -/
def execTimePortConfig (p : Packet) (s : State) : Host.Outcome State Fault Refusal :=
  .next (s.issue .timePortConfig runTimePortConfig p)
/-- TIME_PTP_CONFIG (R450). -/
def execTimePtpConfig (p : Packet) (s : State) : Host.Outcome State Fault Refusal :=
  .next (s.issue .timePtpConfig runTimePtpConfig p)
/-- TIME_EVT_CONFIG (R459). -/
def execTimeEvtConfig (p : Packet) (s : State) : Host.Outcome State Fault Refusal :=
  .next (s.issue .timeEvtConfig runTimeEvtConfig p)
/-- TIME_SET_ET (R456). -/
def execTimeSetEt (p : Packet) (s : State) : Host.Outcome State Fault Refusal := .next (s.issue .timeSetEt runTimeSetEt p)
/-- TIME_RELEASE (R457). -/
def execTimeRelease (p : Packet) (s : State) : Host.Outcome State Fault Refusal :=
  .next (s.issue .timeRelease runTimeRelease p)
/-- TIME_INCREMENT (R441). -/
def execTimeIncrement (p : Packet) (s : State) : Host.Outcome State Fault Refusal :=
  .next (s.issue .timeIncrement runTimeIncrement p)
/-- TIME_STEP (R442). -/
def execTimeStep (p : Packet) (s : State) : Host.Outcome State Fault Refusal := .next (s.issue .timeStep runTimeStep p)

end Sys2Proof.Machine
end

