-- ==== Sys2Proof/Machine/Policy.lean ====
section
/-!
DEFINITION. The seven policies' returns to the basic level (R61, R62), and the release opcodes of the RAY and NVM classes.
-/

namespace Sys2Proof.Machine

/-- The quality manager is basic again: it resumes from the rung in force with its count at 0, and a rung that a host set
and no opening has taken is dropped (R231). -/
def State.basicQuality (s : State) : State :=
  { s with ray.nextRung := none, ray.goodWindows := 0, ray.released := true }

/-- The depth-budget manager is basic again: it slews from the curve in force (R234). -/
def State.basicDepth (s : State) : State := { s with ray.nextCurve := none }

/-- What the return of a policy to basic does, by its number in R62. -/
def State.basicPolicy (s : State) : Nat → State
  | 0 => s.basicQuality
  | 1 => s.basicDepth
  | 2 => s.basicServo
  | 3 => s.basicMemory
  | 4 => s.basicRefresh
  | 5 => s.basicPower
  | 6 => s.basicCal
  | _ => s

/-- A class is enabled for the expert level on some PF ring or on ring 0x80 (R61). -/
def State.classEnabled (s : State) (cls : Nat) : Bool :=
  s.smb.classes.getLsbD cls || (s.fn .pf).sub.any fun r => r.classes.getLsbD cls

/-- Return policy `k` to basic with a cause (R61, R672). -/
def State.returnPolicy (s : State) (cause : Nat) (ring : Byte) (tag : Half) (k : Nat) : State :=
  if s.isExpert k && !s.classEnabled (policyClass k) then (s.setPolicy k false cause ring tag).basicPolicy k else s

/-- Every policy whose class is now enabled on no ring returns to basic (R61). -/
def State.dropPolicies (s : State) (cause : Nat) (ring : Byte) (tag : Half) : State :=
  [0, 1, 2, 3, 4, 5, 6].foldl (fun s k => s.returnPolicy cause ring tag k) s

/-- RAY_RELEASE (R231). -/
def runRayRelease (_t : Nat) (p : Packet) (s : State) : Answer :=
  let q := s.isExpert policyQuality
  let d := s.isExpert policyDepth
  let s := (s.setPolicy policyQuality false 1 p.src.ringNo p.tag).setPolicy policyDepth false 1 p.src.ringNo p.tag
  let s := if q then s.basicQuality else s
  okay (if d then s.basicDepth else s)

/-- NVM_RELEASE (R520). -/
def runNvmRelease (_t : Nat) (p : Packet) (s : State) : Answer :=
  if s.scanning then refuse .nvmBusy noField else
  okay (s.setPolicy policyRefresh false 1 p.src.ringNo p.tag).basicRefresh

/-- NVM_REFRESH_POLICY (R520): the values hold from the next page of the pass. -/
def runNvmRefreshPolicy (_t : Nat) (p : Packet) (s : State) : Answer :=
  let h := p.u16 16
  if s.scanning then refuse .nvmBusy noField
  else if h < 1 ∨ 720 < h then refuse .badParam 16
  else if p.u8 18 < 1 ∨ 3 < p.u8 18 then refuse .badParam 18
  else if 3 < p.u8 19 then refuse .badParam 19
  else
    let s := s.standDown p policyRefresh
    okay { s with nvm.passHours := h, nvm.margin := p.u8 18, nvm.refreshAll := bitOf (p.u8 19) 0,
                  nvm.noTemp := bitOf (p.u8 19) 1 }

/-- RAY_RELEASE (R231). -/
def execRayRelease (p : Packet) (s : State) : Host.Outcome State Fault Refusal := .next (s.issue .rayRelease runRayRelease p)
/-- NVM_RELEASE (R520). -/
def execNvmRelease (p : Packet) (s : State) : Host.Outcome State Fault Refusal := .next (s.issue .nvmRelease runNvmRelease p)
/-- NVM_REFRESH_POLICY (R520). -/
def execNvmRefreshPolicy (p : Packet) (s : State) : Host.Outcome State Fault Refusal :=
  .next (s.issue .nvmRefreshPolicy runNvmRefreshPolicy p)

end Sys2Proof.Machine
end

