-- ==== Sys2Proof/Machine/Rings.lean ====
section
/-!
DEFINITION. The rings: fetching, the doorbells, enabling and disabling (R41 to R49, R59, R647 to R649, R671).
-/

namespace Sys2Proof.Machine

/-! ## Fetching (R43 to R46) -/

/-- The packet that slots hold (R51). -/
def packetOf (x : Src) (b : List Byte) : Fetched :=
  let len := fieldAt b 2 2
  { opcode := BitVec.ofNat 16 (fieldAt b 0 2),
    pkt := { src := x, length := BitVec.ofNat 16 len, tag := BitVec.ofNat 16 (fieldAt b 4 2),
             flags := byte (fieldAt b 6 1), resv7 := byte (fieldAt b 7 1), waitFence := byte (fieldAt b 8 1),
             signalFence := byte (fieldAt b 9 1), resv10 := BitVec.ofNat 16 (fieldAt b 10 2),
             waitValue := word (fieldAt b 12 4),
             body := if 4 ≤ len ∧ len ≤ 64 then sliceZ b 16 (4 * len - 16) else [] } }

/-- Slots of a submission ring (R42). -/
def SubRing.size (r : SubRing) : Nat := 2 ^ r.sizeLog2.toNat

/-- Slots that the host has handed over and the device has not fetched (R43, R44). -/
def SubRing.waiting (r : SubRing) : Nat := (r.tail + r.size - r.head) % r.size

/-- Slots that a packet with a header length occupies (R45). -/
def slotsOf (len : Nat) : Nat := if 4 ≤ len ∧ len ≤ 64 then ceilDiv len 16 else 1

/-- The packet at the head of a ring and the slots that it takes, once all of them have been handed over (R43, R45). -/
def State.nextPacket (s : State) (f : Func) (n : Fin 16) (r : SubRing) : Option (Fetched × Nat) :=
  let l := s.ringLoc f r.locDev (ringBase r.baseLo r.baseHi) (64 * r.head)
  let want := slotsOf (fieldAt (s.readAt l 4) 2 2)
  let got := min want (r.size - r.head)
  if r.waiting = 0 ∨ r.waiting < got then none
  else some ({ packetOf (.ring f n) (s.readAt l (64 * got)) with wraps := decide (got < want) }, got)

/-- Fetch the packets that a ring holds (R46). -/
def State.fetchLoop : Nat → State → Func → Fin 16 → State
  | 0, s, _, _ => s
  | k + 1, s, f, n =>
    match s.subRing f n.val with
    | none => s
    | some r =>
      match s.nextPacket f n r with
      | none => s
      | some (e, got) =>
        State.fetchLoop k (s.updSub f n.val fun r =>
          { r with fetched := r.fetched ++ [e], head := (r.head + got) % r.size }) f n

/-- The host-memory place of the head write-back word (R41, R647); bit 63 of a host address is dropped (log 126). -/
def SubRing.wbLoc (r : SubRing) : Loc := ⟨false, (ringBase r.wbLo r.wbHi - r.wbLo.toNat % 4) % 0x8000000000000000⟩

/-- Packets are fetched from command-ready on, outside Dusk, by a supervisor that runs; a ring in device memory is not
served once the memory controllers have stopped (R593, R613, R673). -/
def State.fetches (s : State) (r : SubRing) : Bool :=
  r.enable && s.pwr.ready && s.pwr.dusk != .asleep && s.pwr.dusk != .waking && s.sup.supState == 0 &&
    !(s.sup.fault && r.locDev)

/-- Fetch from a ring, and write its head index back when it has moved (R46). -/
def State.fetchRing (s : State) (f : Func) (n : Fin 16) : State :=
  match s.subRing f n.val with
  | none => s
  | some r =>
    if !s.fetches r || r.waiting = 0 then s
    else
      let s' := State.fetchLoop r.waiting s f n
      match s'.subRing f n.val with
      | none => s'
      | some r' => if r'.head = r.head then s' else s'.writeAt r'.wbLoc (leBytes 4 r'.head)

/-- The numbers of a function's rings of one kind. -/
def ringsOf (f : Func) : List (Fin 16) :=
  match f with
  | .pf => List.finRange 16
  | .vf _ => [0, 1]

/-- Fetch from every ring (R593, R613). -/
def State.fetchAll (s : State) : State :=
  allFuncs.foldl (fun s f => (ringsOf f).foldl (fun s n => s.fetchRing f n) s) s

/-! ## Errors (R42, R643) -/

/-- The cause RING_ERROR arises when an ERROR bit becomes set (R643). -/
def State.ringError (s : State) (was : Bool) : State := if was then s else s.raiseCause causeRingError

/-- A submission ring is disabled: its classes return to disabled, and policies with them (R59, R61). -/
def State.closeSub (s : State) (f : Func) (n : Nat) : State :=
  (s.updSub f n fun r => { r with enable := false, classes := 0 }).dropPolicies 3 (byte n) 0

/-- A tail doorbell outside its range disables the ring with RING_FAULT (R44, R672); a VF's error vector is raised (R78). -/
def State.ringFault (s : State) (f : Func) (n : Nat) (value : Word) : State :=
  match s.subRing f n with
  | none => s
  | some r =>
    let s := s.updSub f n fun r => { r with error := true, errCode := 4, enable := false }
    let s := s.ringError r.error
    let s := s.raise { code := .ringFault, ring := byte n, data0 := n, data1 := value.toNat, owner := some f }
    let s := match f with
      | .pf => s
      | .vf _ => s.raiseVector f 3
    s.closeSub f n

/-! ## Doorbells (R44, R48, R648) -/

/-- The tail doorbell of an enabled ring (R44). -/
def State.ringTail (s : State) (f : Func) (n : Fin 16) (value : Word) : State :=
  match s.subRing f n.val with
  | none => s
  | some r =>
    let v := value.toNat % 65536
    if !r.enable then s
    else if r.size ≤ v ∨ r.size ≤ r.waiting + (v + r.size - r.tail) % r.size then s.ringFault f n.val value
    else (s.updSub f n.val fun r => { r with tail := v }).fetchRing f n

/-- A head doorbell value is valid: it lies between the present head and the next entry that the device writes (R48). A full
ring takes every index. -/
def headValid (size head used v : Nat) : Bool :=
  decide (v < size) && (decide (size ≤ used) || decide ((v + size - head) % size ≤ used))

/-- The head doorbell of an enabled completion ring (R48): held completions follow into the entries given back (R49). -/
def State.ringHead (s : State) (f : Func) (n : Nat) (value : Word) : State :=
  match s.cplRing f n with
  | none => s
  | some r =>
    let v := value.toNat % 65536
    if !r.enable then s
    else if headValid r.size r.head r.used v then
      let s := s.updCpl f n fun r => { r with head := v, used := (r.next + r.size - v) % r.size }
      s.releaseHeld r.held.length f n
    else (s.updCpl f n fun r => { r with error := true, errCode := 4 }).ringError r.error

/-- At the first free entry EVENTS_LOST tells how many events were discarded, and the sequence skips by that count (R75). -/
def State.tellLost (s : State) (f : Func) : State :=
  let r := (s.fn f).evt
  if r.lost == 0 || decide (evtSize ≤ r.used) then s
  else
    let e := s.stampEvent { code := .eventsLost, data0 := r.lost.toNat }
    let s := s.updEvt f fun r => { r with lost := 0, seq := r.seq + r.lost }
    (s.deliverEvent f e).logEvent e false

/-- The head doorbell of an event ring (R48, R75). -/
def State.eventHead (s : State) (f : Func) (value : Word) : State :=
  let r := (s.fn f).evt
  let v := value.toNat % 65536
  if !r.enable then s
  else if headValid evtSize r.head r.used v then
    (s.updEvt f fun r => { r with head := v, used := (r.next + evtSize - v) % evtSize }).tellLost f
  else (s.updEvt f fun r => { r with error := true, errCode := 4 }).ringError r.error

/-! ## Enabling and disabling (R42, R79, R649) -/

/-- The vector of a completion or event ring is valid (R79). -/
def vectorOk (f : Func) (target : Nat) : Bool :=
  target == 0xFF || match f with
    | .pf => decide (target ≤ 62)
    | .vf _ => decide (target < 4)

/-- ERR_CODE of an attempt to enable a submission ring, 0 when it succeeds (R42, R649). -/
def State.subEnableError (s : State) (f : Func) (r : SubRing) : BitVec 4 :=
  if r.sizeLog2.toNat < 6 ∨ 16 < r.sizeLog2.toNat then 1
  else if r.baseLo.toNat % 4096 ≠ 0 then 2
  else match s.cplRing f r.target.toNat with
    | none => 3
    | some c => if c.enable then 0 else 5

/-- ERR_CODE of an attempt to enable a completion ring. -/
def cplEnableError (f : Func) (r : CplRing) : BitVec 4 :=
  if r.sizeLog2.toNat < 6 ∨ 16 < r.sizeLog2.toNat then 1
  else if r.baseLo.toNat % 4096 ≠ 0 then 2
  else if vectorOk f r.target.toNat then 0 else 3

/-- ERR_CODE of an attempt to enable an event ring. -/
def evtEnableError (f : Func) (r : EvtRing) : BitVec 4 :=
  if r.baseLo.toNat % 4096 ≠ 0 then 2 else if vectorOk f r.target.toNat then 0 else 3

/-- Fields of a write to +0x08: TARGET, SIZE_LOG2 and LOC_DEV (R647). -/
def ctrlTarget (v : Word) : Byte := byte (v.toNat / 65536)
/-- SIZE_LOG2 of a write to +0x08. -/
def ctrlSize (v : Word) : BitVec 5 := BitVec.ofNat 5 (v.toNat / 256)
/-- LOC_DEV of a write to +0x08. -/
def ctrlDev (v : Word) : Bool := v.getLsbD 1
/-- ENABLE of a write to +0x08. -/
def ctrlEnable (v : Word) : Bool := v.getLsbD 0

/-- A write to +0x08 of a submission ring (R649). Classes that DEV_SET_LEVEL has enabled on it while it was disabled stand
when it is enabled (R59, log 124). -/
def State.subCtrl (s : State) (f : Func) (n : Nat) (v : Word) : State :=
  match s.subRing f n with
  | none => s
  | some r =>
    if r.enable then (if ctrlEnable v then s else s.closeSub f n)
    else
      let r' := { r with target := ctrlTarget v, sizeLog2 := ctrlSize v, locDev := ctrlDev v }
      let e := s.subEnableError f r'
      if !ctrlEnable v then s.updSub f n fun _ => r'
      else if e = 0 then s.updSub f n fun _ => { r' with enable := true, head := 0, tail := 0 }
      else (s.updSub f n fun _ => { r' with error := true, errCode := e }).ringError r.error

/-- An enabled submission ring of the function reports to completion ring `n`. -/
def State.cplNamed (s : State) (f : Func) (n : Nat) : Bool :=
  (s.fn f).sub.any fun r => r.enable && r.target.toNat == n

/-- A write to +0x08 of a completion ring (R649). -/
def State.cplCtrl (s : State) (f : Func) (n : Nat) (v : Word) : State :=
  match s.cplRing f n with
  | none => s
  | some r =>
    if r.enable then
      if ctrlEnable v then s
      else if s.cplNamed f n then (s.updCpl f n fun r => { r with error := true, errCode := 5 }).ringError r.error
      else s.updCpl f n fun r => { r with enable := false, held := [] }
    else
      let r' := { r with target := ctrlTarget v, sizeLog2 := ctrlSize v, locDev := ctrlDev v }
      let e := cplEnableError f r'
      if !ctrlEnable v then s.updCpl f n fun _ => r'
      else if e = 0 then
        s.updCpl f n fun _ => { r' with enable := true, head := 0, next := 0, used := 0, phase := true, held := [] }
      else (s.updCpl f n fun _ => { r' with error := true, errCode := e }).ringError r.error

/-- An event ring enabled after command-ready receives DEVICE_READY as its first entry (R595). -/
def State.firstEvent (s : State) (f : Func) : State :=
  match s.pwr.readyData with
  | none => s
  | some (d0, d1) =>
    if s.pwr.ready then
      s.deliverEvent f (s.stampEvent { code := .deviceReady, data0 := d0.toNat, data1 := d1.toNat })
    else s

/-- A write to +0x08 of an event ring, whose size is fixed (R647, R649). -/
def State.evtCtrl (s : State) (f : Func) (v : Word) : State :=
  let r := (s.fn f).evt
  if r.enable then (if ctrlEnable v then s else s.updEvt f fun r => { r with enable := false })
  else
    let r' := { r with target := ctrlTarget v, locDev := ctrlDev v }
    let e := evtEnableError f r'
    if !ctrlEnable v then s.updEvt f fun _ => r'
    else if e = 0 then
      (s.updEvt f fun _ =>
        { r' with enable := true, head := 0, next := 0, used := 0, phase := true, seq := 0, lost := 0 }).firstEvent f
    else (s.updEvt f fun _ => { r' with error := true, errCode := e }).ringError r.error

/-- A write to +0x08 of a ring. -/
def State.ringCtrl (s : State) (f : Func) (k : RingKind) (n : Nat) (v : Word) : State :=
  match k with
  | .submission => s.subCtrl f n v
  | .completion => s.cplCtrl f n v
  | .event => s.evtCtrl f v

/-! ## Disabling without completions (R671) -/

/-- A packet that started on a ring of a function runs on without a completion; `quiet` stops its fence signal too. -/
def Flight.silence (f : Func) (quiet : Bool) (x : Flight) : Flight :=
  match x.pkt.src with
  | .smbus => x
  | .ring g _ => if g = f then { x with mute := true, noSignal := x.noSignal || quiet } else x

/-- A function's rings are disabled without completions: fetched packets are discarded, started ones run on silently, and
the classes of each ring return to disabled in ring order (R59, R671). -/
def State.silenceFn (s : State) (f : Func) (quiet : Bool) : State :=
  let s := s.updEvt f fun r => { r with enable := false }
  let s := { s with cmd.flights := s.cmd.flights.map (Flight.silence f quiet),
                    cmd.outcomes := s.cmd.outcomes.map (Flight.silence f quiet) }
  let s := (ringsOf f).foldl (fun s n =>
    (s.updSub f n.val fun r => { r with fetched := [] }).closeSub f n.val) s
  s.updFn f fun x => { x with cpl := x.cpl.map fun (r : CplRing) => { r with enable := false, held := [] } }

/-- Every ring of every function is disabled without completions (R592, R653). The event rings go first. -/
def State.silenceAll (s : State) (quiet : Bool) : State :=
  let s := allFuncs.foldl (fun s f => s.updEvt f fun r => { r with enable := false }) s
  allFuncs.foldl (fun s f => s.silenceFn f quiet) s

end Sys2Proof.Machine
end

