-- ==== Sys2Proof/Machine/Cancel.lean ====
section
/-!
DEFINITION. Packets that end before their commit point: DEV_ABORT, grants that shrink, function-level resets (R71, R81, R82,
R89, R592).
-/

namespace Sys2Proof.Machine

/-- What a started packet that has not committed has put into its unit is taken out again (R70, R71). -/
def State.cancelWork (s : State) (t : Nat) : State :=
  let s := { s with
    strm.ctxs := s.strm.ctxs.map fun (c : StreamCtx) => { c with submits := c.submits.filter fun x => x.ticket != t },
    nvm.ops := s.nvm.ops.filter fun (o : NvmOp) => o.ticket != t || o.begun,
    cmp.layers := s.cmp.layers.map fun (l : Layer) => if l.flip.any (fun (x : PendFlip) => x.ticket == t) then { l with flip := none } else l,
    blt.lists := s.blt.lists.filter fun (l : BltList) => l.ticket != t || l.order.isSome,
    pnl.gamma := if s.pnl.gamma.any (fun (x : GammaLoad) => x.ticket == t) then none else s.pnl.gamma,
    ray.load := if s.ray.load.any (fun (x : ModelLoad) => x.ticket == some t) then none else s.ray.load,
    chain.signing := s.chain.signing.filter fun (j : SignJob) => j.begun || !j.answers t }
  let s := { s with enc := s.enc.map fun (e : EncSession) =>
    { e with pics := e.pics.filter fun p => p.ticket != some t || p.begun } }
  if s.pwr.dusk == .draining t then { s with pwr.dusk := .awake } else s

/-- A started packet that has not committed completes with ABORTED (R56, R71). -/
def State.abortFlight (s : State) (t r0 : Nat) : State :=
  match s.flight t with
  | none => s
  | some f => if f.committed then s else (s.cancelWork t).finish t .aborted r0 0

/-- The first element that satisfies a predicate, and the others in their order. -/
def pickOut {α : Type} (good : α → Bool) : List α → Option (α × List α)
  | [] => none
  | x :: xs => if good x then some (x, xs) else (pickOut good xs).map fun r => (r.1, x :: r.2)

/-- Take a fetched packet with a tag out of its ring; the oldest one (R71). -/
def State.dropFetched (s : State) (x : Src) (tag : Half) : Option (Packet × State) :=
  match x with
  | .smbus => match s.smb.waiting with
    | some e => if e.pkt.tag = tag then some (e.pkt, { s with smb.waiting := none }) else none
    | none => none
  | .ring f n => match s.subRing f n.val with
    | none => none
    | some r => (pickOut (fun (e : Fetched) => e.pkt.tag == tag) r.fetched).map fun q =>
        (q.1.pkt, s.updSub f n.val fun r => { r with fetched := q.2 })

/-- The ring that DEV_ABORT names, of the issuing function (R71). -/
def targetRing (p : Packet) : Option Src :=
  let r := p.u8 16
  if h : r < 16 then
    if (ringsOf p.src.func).any (·.val == r) then some (.ring p.src.func ⟨r, h⟩) else none
  else if r = 0x80 ∧ !p.src.isVf then some .smbus else none

/-- DEV_ABORT (R71). The target is older when it has started than when it waits in its ring. -/
def runDevAbort (t : Nat) (p : Packet) (s : State) : Answer :=
  match targetRing p with
  | none => refuse .badParam 16
  | some x =>
    let tag : Half := BitVec.ofNat 16 (p.u16 18)
    match s.cmd.flights.find? fun f => f.pkt.src == x && f.pkt.tag == tag && f.ticket != t with
    | some f => if f.committed then .done .notRunning 0 0 s else okay (s.abortFlight f.ticket p.tag.toNat)
    | none => match s.dropFetched x tag with
      | some (q, s') => okay (s'.complete q .aborted (word p.tag.toNat) 0)
      | none => .done .notRunning 0 0 s

/-- DEV_ABORT (R71). -/
def execDevAbort (p : Packet) (s : State) : Host.Outcome State Fault Refusal := .next (s.issue .devAbort runDevAbort p)

/-! ## Grants (R80, R81, R89) -/

/-- The grant that a DEV_VF_GRANT names. -/
def grantNamed (p : Packet) : Grant :=
  { layers := byte (p.u8 17), streams := p.u8 18, sessions := p.u8 19, descFirst := p.u16 20, descCount := p.u16 22,
    windowMib := p.u32 24, windowBase := p.u64 32 % 0x8000000000000000 }

/-- The first field of a DEV_VF_GRANT out of range (R89, check 1). -/
def State.grantRange (s : State) (p : Packet) : Option Nat :=
  let mib := p.u32 24
  let a := p.u64 32
  if p.u8 16 < 1 ∨ 8 < p.u8 16 then some 16
  else if bitOf (p.u8 17) 0 ∨ bitOf (p.u8 17) 2 then some 17
  else if 1 < p.u8 18 then some 18
  else if 3 < p.u8 19 then some 19
  else if 1023 < p.u16 20 then some 20
  else if 1024 < p.u16 22 ∨ 1024 < p.u16 20 + p.u16 22 then some 22
  else if 512 < mib ∨ mib % 64 ≠ 0 then some 24
  else if mib = 0 then (if a = 0 then none else some 32)
  else if a < 0x8000000000000000 ∨ a % 0x4000000 ≠ 0 ∨ s.capacity < a - 0x8000000000000000 + mib * 0x100000 then some 32
  else none

/-- Two ranges of a start and a count share a member. -/
def rangesMeet (a n b m : Nat) : Bool := decide (0 < n ∧ 0 < m ∧ a < b + m ∧ b < a + n)

/-- The first field of a grant that another VF's grant, ECC region 0, the reserve or the totals rule out (R89, check 2). -/
def State.grantTaken (s : State) (vf : Nat) (g : Grant) : Option Nat :=
  let others := ((allFuncs.drop 1).filter fun f => fnIdx f != vf).map fun f => (s.fn f).grant
  if others.any fun o => o.layers &&& g.layers != 0 then some 17
  else if (List.range 8).any fun n => g.layers.getLsbD n && (s.layer n).withdraw then some 17
  else if 4 < g.streams + sumNat (others.map (·.streams)) then some 18
  else if 3 < g.sessions + sumNat (others.map (·.sessions)) then some 19
  else if others.any fun o => rangesMeet o.descFirst o.descCount g.descFirst g.descCount then some 20
  else if others.any fun o => rangesMeet o.windowBase (o.windowMib * 0x100000) g.windowBase (g.windowMib * 0x100000) then
    some 32
  else if 0 < g.windowMib ∧ s.capacity - 0x10000000 < g.windowBase + g.windowMib * 0x100000 then some 32
  else none

/-- A grant gives up something that the old one held. -/
def Grant.shrinks (old new : Grant) : Bool :=
  old.layers &&& ~~~new.layers != 0 || decide (new.streams < old.streams) || decide (new.sessions < old.sessions) ||
    (decide (0 < old.descCount) && !decide (new.descFirst ≤ old.descFirst ∧
      old.descFirst + old.descCount ≤ new.descFirst + new.descCount)) ||
    (decide (0 < old.windowMib) && !decide (new.windowBase = old.windowBase ∧ old.windowMib ≤ new.windowMib))

/-- The window of a grant moves or shrinks, so that addresses of packets in progress no longer hold. -/
def Grant.movesWindow (old new : Grant) : Bool :=
  decide (0 < old.windowMib) && !decide (new.windowBase = old.windowBase ∧ old.windowMib ≤ new.windowMib)

/-- Close an encode session for its owner: waiting pictures end, and what is being coded runs out with no packet to answer. -/
def State.dropSession (s : State) (n : Nat) : State :=
  let s := s.dropWaiting n
  let s := if (s.session n).closing.isSome then s
    else { s.updSession n fun e => { e with closing := some s.cmd.nextTicket } with
             cmd.nextTicket := s.cmd.nextTicket + 1 }
  s.closeSession n

/-- The packets of a VF that use what a smaller grant takes away (R81): flips of lost layers, blit lists that name lost
descriptors, and every packet when the window moves. Packets of contexts and sessions end with those. -/
def State.lostTickets (s : State) (f : Func) (old new : Grant) : List Nat :=
  let mine := s.cmd.flights.filter fun x => x.pkt.src.func == f && !x.pkt.src == .smbus && !x.committed
  if old.movesWindow new then mine.map (·.ticket)
  else
    let inNew (i : Nat) : Bool := decide (new.descFirst ≤ i ∧ i < new.descFirst + new.descCount)
    let lostLayer (t : Nat) : Bool := (List.range 8).any fun n =>
      old.layers.getLsbD n && !new.layers.getLsbD n && (s.layer n).flip.any fun (x : PendFlip) => x.ticket == t
    let lostList (t : Nat) : Bool := s.blt.lists.any fun l => l.ticket == t &&
      l.entries.any fun e => (e.writes && !inNew e.dst) || (e.reads && !inNew e.src)
    (mine.map (·.ticket)).filter fun t => lostLayer t || lostList t

/-- The contexts of a function, highest number first. -/
def State.ctxsOf (s : State) (f : Func) : List Nat :=
  [3, 2, 1, 0].filter fun i => (s.ctx i).state != .closed && (s.ctx i).owner == f

/-- The encode sessions of a function, highest number first. -/
def State.openSessions (s : State) (f : Func) : List Nat :=
  [3, 2, 1].filter fun n => (s.session n).isOpen && (s.session n).owner == f && (s.session n).closing.isNone

/-- A VF's grant shrinks: its uncompleted packets on what it loses complete with ABORTED, with result0 0, and vector 3 is
raised (R81, log 128).
Contexts and sessions beyond the new grant close, those with the highest numbers first. -/
def State.shrinkGrant (s : State) (f : Func) (old new : Grant) : State :=
  let s := (s.lostTickets f old new).foldl (fun s t => s.abortFlight t 0) s
  let cs := s.ctxsOf f
  let s := (cs.take (cs.length - new.streams)).foldl (fun s i => s.closeCtx i) s
  let es := s.openSessions f
  let s := (es.take (es.length - new.sessions)).foldl (fun s n => s.dropSession n) s
  s.raiseVector f 3

/-- DEV_VF_GRANT (R89). -/
def runDevVfGrant (_t : Nat) (p : Packet) (s : State) : Answer :=
  match s.grantRange p with
  | some o => refuse .badParam o 0x01
  | none =>
    let vf := p.u8 16
    let g := grantNamed p
    match s.grantTaken vf g with
    | some o => refuse .badParam o 0x02
    | none =>
      if s.cmd.vfsEnabled < vf then refuse .wrongState 16
      else
        let f := fnOf vf
        let old := (s.fn f).grant
        let s := s.updFn f fun x => { x with grant := g }
        okay (if old.shrinks g then s.shrinkGrant f old g else s)

/-- DEV_VF_GRANT (R89). -/
def execDevVfGrant (p : Packet) (s : State) : Host.Outcome State Fault Refusal :=
  .next (s.issue .devVfGrant runDevVfGrant p)

/-! ## Function resets (R82, R592) -/

/-- The reset state of a function's rings. The count of interrupts that it has raised stands: it is what the host saw. -/
def FnState.cleared (x : FnState) : FnState :=
  { sub := x.sub.map fun _ => {}, cpl := x.cpl.map fun _ => {}, vectors := x.vectors }

/-- The fence counters of a VF (R66). -/
def zeroFences (n : Nat) (fs : List DWord) : List DWord :=
  (List.range fs.length).map fun i => if 192 + 8 * n ≤ i ∧ i < 200 + 8 * n then 0 else fs.getD i 0

/-- A VF is reset or removed: its rings go without completions, its packets end as its grant does, its fences return to 0,
its resources to the PF, and its layers leave the composition at the next frame-start event; until then no function may
name them (R82, R671, log 127). -/
def State.resetVf (s : State) (n : Fin 8) : State :=
  let f : Func := .vf n
  let g := (s.fn f).grant
  let s := s.silenceFn f true
  let mine := (s.cmd.flights.filter fun x => x.pkt.src.func == f && !x.committed).map (·.ticket)
  let s := mine.foldl (fun s t => s.abortFlight t 0) s
  let s := (s.ctxsOf f).foldl (fun s i => s.closeCtx i) s
  let s := (s.openSessions f).foldl (fun s k => s.dropSession k) s
  let s := (List.range 8).foldl (fun s i =>
    if !g.layers.getLsbD i then s
    else if s.rasterRuns then s.updLayer i fun l => { l with withdraw := true }
    else s.updLayer i fun l => { releases := l.releases }) s
  { s.updFn f fun x => x.cleared with cmd.fences := zeroFences n.val s.cmd.fences }

/-- FUNCTION_LEVEL_RESET (R82), for a VF that SR-IOV has enabled. -/
def execFunctionLevelReset (vf : Fin 8) (s : State) : Host.Outcome State Fault Refusal :=
  .next (if s.pwr.linkUp && decide (vf.val < s.cmd.vfsEnabled) then s.resetVf vf else s)

/-- VFs from number `k` + 1 up are removed. -/
def State.removeVfs (s : State) (k : Nat) : State :=
  (List.finRange 8).foldl (fun s n => if k ≤ n.val && decide (n.val < s.cmd.vfsEnabled) then s.resetVf n else s) s

/-- SR_IOV_VF_ENABLE (R89): VFs beyond the new count are removed under R82. -/
def execSrIovVfEnable (count : Fin 9) (s : State) : Host.Outcome State Fault Refusal :=
  .next (if s.pwr.linkUp then { s.removeVfs count.val with cmd.vfsEnabled := count.val } else s)

end Sys2Proof.Machine
end

