-- ==== Sys2Proof/Machine/RayStatus.lean ====
section
/-!
DEFINITION. The ray engine's own packets but for loading: RAY_STATUS, RAY_SET_RUNG, RAY_SET_DEPTH_CURVE and RAY_CORE_MASK
(R231, R234, R239 to R241). RAY_RELEASE stands with the policies.
-/

namespace Sys2Proof.Machine

/-- RAY_SET_RUNG (R231). -/
def runRaySetRung (_t : Nat) (p : Packet) (s : State) : Answer :=
  let r := p.u8 16
  if 4 < r then refuse .badParam 16
  else okay { s.standDown p policyQuality with ray.nextRung := some (r, 2) }

/-- The nine knots of RAY_SET_DEPTH_CURVE. -/
def knotsOf (p : Packet) : List Nat := (List.range 9).map fun k => p.u16 (16 + 2 * k)

/-- A list never falls. -/
def rising : List Nat → Bool
  | a :: b :: l => decide (a ≤ b) && rising (b :: l)
  | _ => true

/-- RAY_SET_DEPTH_CURVE (R234). -/
def runRaySetDepthCurve (_t : Nat) (p : Packet) (s : State) : Answer :=
  let ks := knotsOf p
  match (List.range 9).find? fun k => decide (4096 ≤ ks.getD k 0) with
  | some k => refuse .badParam (16 + 2 * k)
  | none =>
    if !rising ks then refuse .badParam 16
    else okay { s.standDown p policyDepth with ray.nextCurve := some ks }

/-- RAY_CORE_MASK (R239). -/
def runRayCoreMask (_t : Nat) (p : Packet) (s : State) : Answer :=
  let m := p.num 16 12
  if m = 2 ^ 96 - 1 then refuse .badParam 16 else okay { s with ray.nextMask := some m }

/-- A blob is active that does not fit the timing in force (R206). -/
def State.sizeMismatch (s : State) : Bool :=
  match s.ray.active with
  | none => false
  | some b => !s.blobFits b

/-- The frame status word (R241). -/
def State.frameWord (s : State) : Nat :=
  let l := s.ray.last
  l.concealed * 65536 + b2n s.sizeMismatch * 16384 + b2n s.ray.active.isNone * 8192 + b2n l.resynth * 4096 +
    b2n l.late * 2048 + b2n l.reissued * 1024 + b2n l.degraded * 512 + b2n l.clamped * 256 + b2n l.driftHeld * 128 +
    b2n l.curveFixed * 64 + b2n l.rungFixed * 32 + l.rung

/-- Cores excluded from dispatch: faulted, retired or withheld (R240). -/
def State.excluded (s : State) : Nat :=
  ((List.range 96).filter fun n => s.sup.coreState.getD n 0 != 0 || bitOf s.ray.mask n).length

/-- RAY_STATUS (R240). -/
def runRayStatus (_t : Nat) (p : Packet) (s : State) : Answer :=
  let sel := p.u8 16
  let i := p.u16 18
  let l := s.ray.last
  let limit := match sel with
    | 8 => 5
    | 9 => l.tiles.length
    | 10 => 4
    | _ => 1
  if 10 < sel then refuse .badParam 16
  else if limit ≤ i then refuse .badParam 18
  else
    let id := match s.ray.active with
      | some b => (blobModelId b, blobCrc b)
      | none => (0, 0)
    let knot (k : Nat) := s.ray.curve.getD k 0
    match sel with
    | 0 => okay s s.frameWord l.au.toNat
    | 1 => okay s id.1 id.2
    | 2 => okay s (unsignedOf 32 s.ray.dt16) l.us
    | 3 => okay s s.ray.predictedUs (unsignedOf 32 l.budgetUs)
    | 4 => okay s s.ray.nMissed.toNat s.ray.nRepeats.toNat
    | 5 => okay s s.ray.nDown.toNat s.ray.nUp.toNat
    | 6 => okay s s.ray.nReissued.toNat s.ray.nDegraded.toNat
    | 7 => okay s s.ray.nStolen.toNat s.excluded
    | 8 => okay s (knot (2 * i) + 65536 * (if i = 4 then 0 else knot (2 * i + 1))) (s.ray.gn + 65536 * s.ray.gf)
    | 9 => okay s (l.tiles.getD i (0, 0)).1 (l.tiles.getD i (0, 0)).2
    | _ => okay s (l.ran.getD i 0) (l.cycles.getD i 0 / 1024)

/-- RAY_SET_RUNG (R231). -/
def execRaySetRung (p : Packet) (s : State) : Host.Outcome State Fault Refusal :=
  .next (s.issue .raySetRung runRaySetRung p)

/-- RAY_SET_DEPTH_CURVE (R234). -/
def execRaySetDepthCurve (p : Packet) (s : State) : Host.Outcome State Fault Refusal :=
  .next (s.issue .raySetDepthCurve runRaySetDepthCurve p)

/-- RAY_CORE_MASK (R239). -/
def execRayCoreMask (p : Packet) (s : State) : Host.Outcome State Fault Refusal :=
  .next (s.issue .rayCoreMask runRayCoreMask p)

/-- RAY_STATUS (R240). -/
def execRayStatus (p : Packet) (s : State) : Host.Outcome State Fault Refusal :=
  .next (s.issue .rayStatus runRayStatus p)

end Sys2Proof.Machine
end

