-- ==== Sys2Proof/Machine/Dev.lean ====
section
/-!
DEFINITION. The DEV class but for DEV_ABORT, DEV_VF_GRANT and DEV_DUSK, and FW_VERSION (R60, R84 to R88, R600).
-/

namespace Sys2Proof.Machine

/-! ## Words -/

/-- Phase codes of R594. -/
def DawnPhase.code : DawnPhase → Nat
  | .reset => 0
  | .rom => 1
  | .memTrain => 2
  | .imageLoad => 3
  | .imageCheck => 4
  | .init => 5
  | .ready => 6
  | .pcieBootWait => 7
  | .memFailed => 8
  | .bootFailed => 9
  | .dusk => 10
  | .held => 11

/-- DAWN_PHASE (R593, R594): training starts 2.0 ms after the release of reset. -/
def State.phaseCode (s : State) : Nat :=
  if s.pwr.phase == .rom && decide (s.pwr.dawnNs + 2000000 ≤ s.mtNs) then DawnPhase.memTrain.code else s.pwr.phase.code

/-- The device status word (R640). -/
def State.devWord (s : State) : Nat :=
  s.phaseCode + 32 * b2n s.pwr.ready + 256 * b2n s.pwr.warn + 512 * bitsNat s.pwr.avsFault +
    2048 * b2n s.sup.debugOpen + 8192 * b2n s.sup.fault + 16384 * b2n (s.sup.supState == 2) + 32768 * b2n s.regs.trip +
    65536 * s.memc.failed + 16777216 * s.regs.tripSensor.toNat

/-- The version word (R600). -/
def State.fwWord (s : State) : Nat := s.fw.minor + 256 * s.fw.major + 65536 * min s.fw.security 65535

/-- result1 of FW_VERSION: the stepping "B1" and the boot source (R600). -/
def State.bootWord (s : State) : Nat := 0x3142 + 65536 * s.regs.bootSource

/-- The layers that VFs hold. -/
def State.vfLayers (s : State) : Byte := (allFuncs.drop 1).foldl (fun m f => m ||| (s.fn f).grant.layers) 0

/-- A VF holds a descriptor. -/
def State.vfDesc (s : State) (i : Nat) : Bool :=
  (allFuncs.drop 1).any fun f =>
    let g := (s.fn f).grant
    decide (g.descFirst ≤ i ∧ i < g.descFirst + g.descCount)

/-- What a function may use, as selector 5 of DEV_INFO gives it (R85). -/
def State.resourceWords (s : State) (f : Func) : Nat × Nat :=
  match f with
  | .vf _ =>
    let g := (s.fn f).grant
    (g.layers.toNat + 256 * g.streams + 4096 * g.sessions, g.descFirst + 65536 * g.descCount)
  | .pf =>
    let gs := (allFuncs.drop 1).map fun f => (s.fn f).grant
    let free := (List.range 1024).filter fun i => !s.vfDesc i
    ((~~~s.vfLayers).toNat + 256 * (4 - sumNat (gs.map (·.streams))) + 4096 * (3 - sumNat (gs.map (·.sessions))),
      free.headD 0 + 65536 * free.length)

/-- Both results of DEV_INFO by selector (R85). -/
def State.infoWords (s : State) (f : Func) : Nat → Nat × Nat
  | 0 => (0x55539616, s.fwWord)
  | 1 => (Config.serial.toNat % 0x100000000, Config.serial.toNat / 0x100000000)
  | 2 =>
    let m := beBytes 6 Config.macA
    (leNat (m.take 4), leNat (m.drop 4))
  | 3 => (s.memc.capacityMib, 256)
  | 4 => match f with
    | .pf => (16 + 256 * 16 + 65536 * 64 + 16777216 * 192, s.cmd.vfsEnabled)
    | .vf n => (2 + 256 * 2 + 65536 * 4 + 16777216 * 8, n.val + 1)
  | 5 => s.resourceWords f
  | _ => match f with
    | .pf => (0, s.belowRegion0)
    | .vf _ => ((s.fn f).grant.windowBase / 0x100000, (s.fn f).grant.windowMib)

/-! ## Packets -/

/-- DEV_NOP (R84). -/
def runDevNop (_t : Nat) (_p : Packet) (s : State) : Answer := okay s

/-- DEV_INFO (R85). -/
def runDevInfo (_t : Nat) (p : Packet) (s : State) : Answer :=
  if 6 < p.u8 16 then refuse .badParam 16
  else
    let w := s.infoWords p.src.func (p.u8 16)
    okay s w.1 w.2

/-- Enable or disable classes. -/
def setClasses (old mask : Half) (on : Bool) : Half := if on then old ||| mask else old &&& ~~~mask

/-- DEV_SET_LEVEL (R60). -/
def runDevSetLevel (_t : Nat) (p : Packet) (s : State) : Answer :=
  let r := p.u8 16
  let on := p.u8 17 == 1
  let mask : Half := BitVec.ofNat 16 (p.u16 18)
  if 15 < r ∧ r ≠ 0x80 then refuse .badParam 16
  else if 1 < p.u8 17 then refuse .badParam 17
  else if mask.getLsbD 0 then refuse .badParam 18
  else if p.src ≠ .ring .pf 0 then refuse .wrongState noField
  else
    let s := if r = 0x80 then { s with smb.classes := setClasses s.smb.classes mask on }
      else s.updSub .pf r fun x => { x with classes := setClasses x.classes mask on }
    okay (s.dropPolicies 2 p.src.ringNo p.tag)

/-- DEV_FENCE_READ (R86). -/
def runDevFenceRead (_t : Nat) (p : Packet) (s : State) : Answer :=
  match fenceIndex p.src.func (p.u8 16) with
  | none => refuse .badParam 16
  | some i => okay s ((s.fence i).toNat % 0x100000000) ((s.fence i).toNat / 0x100000000)

/-- A packet that has been fetched and not started waits on a fence (R69). -/
def State.fenceWaited (s : State) (i : Nat) : Bool :=
  let waits (e : Fetched) : Bool := e.pkt.waits && fenceIndex e.pkt.src.func e.pkt.waitFence.toNat == some i
  s.smb.waiting.any waits || s.fns.any fun x => x.sub.any fun r => r.fetched.any waits

/-- DEV_FENCE_SET (R69, R86). -/
def runDevFenceSet (_t : Nat) (p : Packet) (s : State) : Answer :=
  match fenceIndex p.src.func (p.u8 16) with
  | none => refuse .badParam 16
  | some i =>
    if s.fenceWaited i then refuse .busy noField
    else okay { s with cmd.fences := setAt s.cmd.fences i (BitVec.ofNat 64 (p.u64 24)) }

/-- The layer byte of the snapshot (R88, R268). -/
def Layer.statusByte (l : Layer) : Nat :=
  (if l.attr.isNone then 0 else if l.surface.isNone then 1 else 2) + 128 * b2n (l.flip.isSome || l.attrNext.isSome)

/-- The classes with a policy at the expert level (R88). -/
def State.expertClasses (s : State) : Nat :=
  bitsNat ((List.range 16).map fun c => (List.range 7).any fun k => policyClass k == c && s.isExpert k)

/-- The snapshot of R88 for the issuing function: a VF reads 0 where the rule says so. -/
def State.snapshotBytes (s : State) (f : Func) : List Byte :=
  let vf := f != .pf
  let own (i : Nat) : Bool := !vf || ((s.ctx i).state != .closed && (s.ctx i).owner == f)
  let pf (v : Nat) : Nat := if vf then 0 else v
  leBytes 4 s.devWord ++ leBytes 4 0 ++ leBytes 8 s.dsp.dfn.toNat ++ leBytes 8 s.dsp.psn.toNat ++
    timeBytes16 s.time.nt ++ timeBytes16 s.time.mt ++ leBytes 4 s.lockWord ++ leBytes 4 (pf s.panelWord) ++
    leBytes 4 (pf s.frameWord) ++ leBytes 4 (pf s.limitWord) ++ leBytes 4 (pf s.servoWord) ++
    leBytes 4 (pf s.memWord) ++ leBytes 4 (pf s.nvmWord) ++ leBytes 1 (s.strm.onAir.getD 0xFF) ++ leBytes 3 0 ++
    ([0, 1, 2, 3].flatMap fun i => leBytes 4 (if own i then s.ctxStateWord i else 0)) ++
    ((List.range 8).flatMap fun n =>
      leBytes 1 (if !vf || (s.fn f).grant.layers.getLsbD n then (s.layer n).statusByte else 0)) ++
    leBytes 8 (pf s.cmd.committed.toNat) ++ leBytes 2 (pf s.expertClasses) ++ List.replicate 134 0

/-- DEV_STATUS (R87). -/
def runDevStatus (_t : Nat) (p : Packet) (s : State) : Answer :=
  let a := p.u64 24
  let out (s : State) : Answer := okay s s.devWord (s.dsp.dfn.toNat % 0x100000000)
  if a = 0 then out s
  else if a % 64 ≠ 0 then refuse .alignment 24
  else match s.resolve p.src a 256 with
    | none => refuse .badParam 24
    | some l => out (s.writeAt l (s.snapshotBytes p.src.func))

/-- FW_VERSION (R600). -/
def runFwVersion (_t : Nat) (_p : Packet) (s : State) : Answer := okay s s.fwWord s.bootWord

/-- DEV_NOP (R84). -/
def execDevNop (p : Packet) (s : State) : Host.Outcome State Fault Refusal := .next (s.issue .devNop runDevNop p)
/-- DEV_INFO (R85). -/
def execDevInfo (p : Packet) (s : State) : Host.Outcome State Fault Refusal := .next (s.issue .devInfo runDevInfo p)
/-- DEV_SET_LEVEL (R60). -/
def execDevSetLevel (p : Packet) (s : State) : Host.Outcome State Fault Refusal :=
  .next (s.issue .devSetLevel runDevSetLevel p)
/-- DEV_FENCE_READ (R86). -/
def execDevFenceRead (p : Packet) (s : State) : Host.Outcome State Fault Refusal :=
  .next (s.issue .devFenceRead runDevFenceRead p)
/-- DEV_FENCE_SET (R86). -/
def execDevFenceSet (p : Packet) (s : State) : Host.Outcome State Fault Refusal :=
  .next (s.issue .devFenceSet runDevFenceSet p)
/-- DEV_STATUS (R87). -/
def execDevStatus (p : Packet) (s : State) : Host.Outcome State Fault Refusal := .next (s.issue .devStatus runDevStatus p)
/-- FW_VERSION (R600). -/
def execFwVersion (p : Packet) (s : State) : Host.Outcome State Fault Refusal := .next (s.issue .fwVersion runFwVersion p)

end Sys2Proof.Machine
end

