-- ==== Sys2Proof/Machine/Loss.lean ====
section
/-!
DEFINITION. The power-fail warning, the power-loss sequence and the recovery from a dip (R604 to R609, R644, R674).
-/

namespace Sys2Proof.Machine

/-! ## The sequence (R605, R606) -/

/-- Foreground operations that have not committed complete with POWER_FAIL (R515). -/
def State.failOps (s : State) : State :=
  let late := s.nvm.ops.filter fun (o : NvmOp) => !o.begun
  late.foldl (fun s o => s.finish o.ticket .powerFail noField 0)
    { s with nvm.ops := s.nvm.ops.filter fun (o : NvmOp) => o.begun }

/-- A DEV_DUSK that has not committed gives way to the power-loss sequence (R616). -/
def State.dropDusk (s : State) (st : Status) : State :=
  match s.pwr.dusk with
  | .draining t => { s with pwr.dusk := .awake, pwr.wakePending := 0 }.finish t st noField 0
  | _ => s

/-- A crossing joins the sequence that runs (R606). One that began before command-ready and has done its steps runs no
longer: Dawn has gone on, and another crossing runs them again (R674). -/
def State.joinsLoss (s : State) : Bool := s.pwr.loss.any fun l => !(l.inDawn && l.sealed && !s.pwr.ready)

/-- The power-loss sequence starts (R605): what runs stops as its rules say. What an orderly shutdown has sealed and saved
already is not done again (R547). -/
def State.startLoss (s : State) (byFault : Bool) : State :=
  if s.joinsLoss then s
  else
    let l : LossSeq := { since := s.mtNs, inDawn := !s.pwr.ready, sealed := decide (4 ≤ s.thm.shutStep), byFault := byFault,
                         savedRun := s.pwr.loss.any (·.savedRun) }
    let s := { s with pwr.loss := some l,
                      pnl.restore := if s.thm.shutdown.isSome || byFault then none else some s.pnl.mode }
    let s := s.raise { code := .powerWarning, source := 0, data0 := 900 + 10 * s.pwr.level }
    (s.dropDusk .powerFail).failOps.abandonWindow.cutWitness.abandonCal

/-- The device is up enough for a crossing to start the sequence: neither held, nor in Dusk or on its way in or out, nor
stopped by a fault (R590, R616, R674). -/
def State.lossStarts (s : State) : Bool :=
  s.pwr.phase != .reset && s.pwr.phase != .held && !s.sup.fault && s.sup.supState != 2 &&
    (s.pwr.dusk == .awake || (match s.pwr.dusk with
      | .draining _ => true
      | .entering => s.thm.shutdown.isSome
      | _ => false))

/-- The link can be up: the device is powered, out of reset and not held by a trip (R538, R573, R673). -/
def State.linkAlive (s : State) : Bool :=
  s.pwr.vddAon && !s.pwr.resetLow && !s.pwr.vsenseReset &&
    (s.pwr.phase != .held || s.sup.supState == 2 || s.sup.fault)

/-- A warning crossing (R604, R643, R644). While reset holds the device nothing counts it. -/
def State.crossing (s : State) : State :=
  let s := { s with pwr.warn := true, pwr.clearSince := none }
  if !s.linkAlive then s
  else
    let s := { s with pwr.warnCount := satInc 65535 s.pwr.warnCount }.raiseCause causePfWarn
    if s.lossStarts then s.startLoss false else s

/-- A warning level in mV. -/
def levelMv (level : Nat) : Nat := 900 + 10 * level

/-- A new warning level takes effect and is judged at once (R644). -/
def State.putLevel (s : State) (level : Nat) : State :=
  let s := { s with pwr.level := level, pwr.pendingLevel := none }
  if !s.pwr.warn && decide (s.pwr.vsenseMv < levelMv level) then s.crossing else s

/-- WARNING_CROSSING (R605). -/
def execWarningCrossing (vsenseMv : Nat) (s : State) : Host.Outcome State Fault Refusal :=
  .next (if !s.pwr.vddAon || s.pwr.warn || levelMv s.pwr.level ≤ vsenseMv then s
    else { s with pwr.vsenseMv := vsenseMv }.crossing)

/-- POWER_FAIL_WARNING_END (R604, R644): VSENSE passes the warning level plus 20 mV; a level that waits takes effect. -/
def execPowerFailWarningEnd (s : State) : Host.Outcome State Fault Refusal :=
  .next (if !s.pwr.warn then s
    else
      let s := { s with pwr.warn := false, pwr.clearSince := some s.mtNs, pwr.vsenseMv := levelMv s.pwr.level + 20 }
      let s := match s.pwr.pendingLevel with
        | some l => s.putLevel l
        | none => s
      s.tryWake)

/-! ## The seal and the saves (R406, R515, R578) -/

/-- No store that has committed is left to run: a record or raw write runs to its end, a page in flight ends (R515). -/
def State.storesEnded (s : State) : Bool :=
  s.nvm.flight.isNone && !s.nvm.ops.any fun (o : NvmOp) => o.begun && match o.kind with
    | .record .. | .raw .. => true
    | _ => false

/-- Write queued log entries at once, at most `n`. -/
def State.writeLog : Nat → State → State
  | 0, s => s
  | n + 1, s =>
    match s.sup.logQueue with
    | [] => s
    | e :: es =>
      let p := s.logProgram e s.sup.logNextSeq
      State.writeLog n { s.putWords p.1 p.2 with sup.logQueue := es, sup.logNextSeq := s.sup.logNextSeq + 1,
                                                 sup.logWritten := s.sup.logWritten + 1 }

/-- Up to 16 queued log entries are written, and the rest are lost and counted (R578). -/
def State.flushLog (s : State) : State :=
  let s := State.writeLog 16 s
  { s with sup.logQueue := [], sup.logLost := s.sup.logLost + word s.sup.logQueue.length }

/-- POWER_LOSS_SEAL (R406, R515): the cut slice, the SIGN, record 0x120, record 0x121, the log. -/
def State.powerLossSeal (s : State) : State :=
  match s.pwr.loss with
  | none => s
  | some l =>
    if l.sealed || !s.storesEnded then s
    else
      let shut := s.thm.shutdown.isSome
      let s := (s.endCuts.sealChain 2).saveHead.saveRun 0
      let s := if s.nvm.dirReady then s.flushLog else s
      { s with pwr.loss := some { l with sealed := true, savedRun := l.savedRun || s.nvm.loaded },
               nvm.saveUs := word ((s.mtNs - l.since) / 1000),
               thm.shutStep := if shut then max 3 s.thm.shutStep else s.thm.shutStep }.endFaultLoss

/-- POWER_LOSS_SEAL (R406). -/
def execPowerLossSeal (s : State) : Host.Outcome State Fault Refusal := .next s.powerLossSeal

end Sys2Proof.Machine
end

