-- ==== Sys2Proof/Machine/Dusk.lean ====
section
/-!
DEFINITION. Dusk entry, the orderly shutdown, and the recovery from a dip (R545, R547, R608, R610 to R616).
-/

namespace Sys2Proof.Machine

/-! ## DEV_DUSK (R610, R611) -/

/-- A packet that DEV_DUSK waits for is in progress: FW_UPDATE, RAY_MODEL_STORE, DSP_PROFILE_STORE, PNL_GAMMA_LOAD (R610). -/
def State.duskBusy (s : State) : Bool :=
  s.fw.update.isSome || s.pnl.gamma.isSome || s.nvm.ops.any fun o => match o.kind with
    | .model | .profile _ => true
    | _ => false

/-- The packet stays pending through Dusk entry: CMP_FLIP and CMP_LAYER_OFF (R268, R611). -/
def State.flipTicket (s : State) (t : Nat) : Bool :=
  s.cmp.layers.any fun l => l.flip.any fun f => f.ticket == t

/-- Every started done-D packet that has not committed completes with ABORTED, but for the flips that stay pending and the
packet `t` (R611). -/
def State.abortUncommitted (s : State) (t : Nat) : State :=
  let ts := (s.cmd.flights.filter fun f => !f.committed && f.ticket != t && !s.flipTicket f.ticket).map (·.ticket)
  ts.foldl (fun s u => s.abortFlight u 0) s

/-- DEV_DUSK (R610, R611). -/
def runDevDusk (t : Nat) (p : Packet) (s : State) : Answer :=
  let m := p.u8 16
  if m = 0 ∨ 7 < m then refuse .badParam 16
  else if bitOf m 2 ∧ (s.time.evtIn.getD 0 {}).edge = 0 then refuse .wrongState 16
  else if s.duskBusy || s.pwr.dusk != .awake then refuse .busy noField
  else
    let s := { s with pwr.dusk := .draining t, pwr.wakeAsked := BitVec.ofNat 3 m, pwr.wakePending := 0 }
    .started (s.abortUncommitted t).abandonWindow.abandonCal false

/-- DEV_DUSK (R610, R611). -/
def execDevDusk (p : Packet) (s : State) : Host.Outcome State Fault Refusal := .next (s.issue .devDusk runDevDusk p)

/-! ## The end of quiescence (R611) -/

/-- The work that Dusk entry waits for has ended: parts, pictures in coding, blit lists and committed stores (R611). -/
def State.drained (s : State) : Bool :=
  s.dec.cores.all (·.isNone) && s.blt.lists.isEmpty && !(s.enc.any fun e => e.pics.any (·.begun)) && s.storesEnded &&
    !s.nvm.ops.any (·.begun)

/-- A port goes off with TX_DISABLE high (R611). -/
def State.portOff (s : State) (n : Nat) : State := (s.linkDown n).updPort n fun q => { q with txDisable := true }

/-- The ports go off; the servo stops at its last increment (R454, R611). -/
def State.portsOff (s : State) : State := (s.portOff 0).portOff 1

/-- The seal of the chain and the saves (R407, R510, R545). -/
def State.sealAndSave (s : State) (reason cause : Nat) : State := ((s.endCuts.sealChain reason).saveHead).saveRun cause

/-- DUSK_ENTRY_COMPLETE (R611): seal, saves, discharge, ports off, then the commit of DEV_DUSK; a shutdown that has taken the
entry over refuses the commit (R545, R616). -/
def State.duskEntry (s : State) : State :=
  match s.pwr.dusk with
  | .draining t =>
    if !s.drained then s
    else if s.thm.shutdown.isSome then { s with pwr.dusk := .awake }.finish t .busy noField 0
    else if s.commitHeld t then s
    else
      let s := (s.cutWitness.sealAndSave 3 2).startDischarge 4 false
      let s := (s.portsOff.commitFlight t).finish t .ok 0 0
      { s with pwr.dusk := .entering }.endEntry
  | _ => s

/-- DUSK_ENTRY_COMPLETE (R611). -/
def execDuskEntryComplete (s : State) : Host.Outcome State Fault Refusal := .next s.duskEntry

/-! ## The orderly shutdown (R545 to R547) -/

/-- A junction domain has entered SHUTDOWN: the orderly shutdown begins, or waits behind the power-loss sequence (R545,
R547, R616). After the end of quiescence of Dusk entry everything has been sealed and saved. -/
def State.startShutdown (s : State) : State :=
  if s.thm.shutdown.isSome || s.sup.fault || s.pwr.dusk == .asleep || s.pwr.dusk == .waking || (s.pwr.phase != .init && s.pwr.phase != .ready) then s
  else if s.pwr.loss.isSome then { s with thm.shutAfterLoss := true }
  else if s.pwr.dusk == .entering then { s with thm.shutdown := some s.mtNs, thm.shutStep := 4 }
  else { s with thm.shutdown := some s.mtNs, thm.shutStep := 0 }.abandonWindow.abandonCal

/-- Decode parts that still run are stopped: a part that its core gives back waits again (R545, R611). -/
def State.stopCores (s : State) : State :=
  let stop (st : PartState) : PartState := match st with
    | .running => .waiting
    | _ => st
  { s with dec.jobs := s.dec.jobs.map (fun (j : DecodeJob) => { j with comps := j.comps.map (fun (c : CompJob) =>
             { c with parts := c.parts.map (fun (x : Part) => { x with state := stop x.state }) }) }),
           dec.cores := s.dec.cores.map fun c => match c with
             | some (.part ..) => none
             | _ => c }

/-- Rows of pictures that do not end at their slice stand still, and their cores are idle. -/
def State.idleCores (s : State) : State := { s with dec.cores := s.dec.cores.map fun _ => none }

/-- SHUTDOWN_DEADLINE (R545): what still runs is stopped; seal, saves, discharge, and Dusk. Packets that the shutdown stops
complete as at Dusk entry, and a DEV_DUSK with BUSY (R616). -/
def State.shutdownEnds (s : State) : State :=
  match s.thm.shutdown with
  | none => s
  | some t0 =>
    let held := s.pwr.loss.isSome || s.nvm.flight.isSome ||
      !(s.pwr.dusk == .awake || match s.pwr.dusk with
        | .draining _ => true
        | _ => false)
    if held || decide (s.mtNs < t0 + 5000000) then s
    else
      let s := ((s.dropDusk .busy).abortUncommitted s.cmd.nextTicket).stopCores.cutWitness.endCuts.idleCores
      let s := if s.thm.shutStep < 3 then s.sealAndSave 4 1 else s
      let s := ({ s with thm.shutStep := 4 }.startDischarge 3 false).portsOff
      { s with pwr.dusk := .entering }.endEntry

/-- SHUTDOWN_DEADLINE (R545). -/
def execShutdownDeadline (s : State) : Host.Outcome State Fault Refusal := .next s.shutdownEnds

/-! ## The watchdog's action (R653) -/

/-- ACTION 1: every ring is disabled without completions, but their fences signal (R653, R671). -/
def State.wdogRelease (s : State) : State := s.silenceAll false

/-- An action that waited for the device to resume, or for the restart's end, applies (R653). -/
def State.wdogResume (s : State) : State :=
  if s.regs.wdogActionWaits then { s with regs.wdogActionWaits := false }.wdogRelease else s

/-! ## BROWNOUT (R608) -/

/-- Stores of blobs and refreshes that stopped at the page in flight start again from their first step (R208, R301, R515). -/
def State.rerunStores (s : State) : State :=
  let again (o : NvmOp) : NvmOp := match o.kind with
    | .model | .profile _ => { o with done := 0 }
    | _ => o
  { s with nvm.ops := s.nvm.ops.map again,
           nvm.refreshes := s.nvm.refreshes.map (fun (r : Refresh) => { r with done := 0 }) }

/-- A RESUME record with a cause comes first; one of Dawn that no witness has written yet stands (R408). -/
def State.resumeWith (s : State) (cause : Nat) : State :=
  let dawn := s.chain.resume == some 0 || s.chain.resume == some 3
  { s with chain.resume := if dawn then s.chain.resume else some cause, wit.idrNext := true, wit.due := true }

/-- BROWNOUT with the time since the crossing in us and the count of brownouts (R77). -/
def State.raiseBrownout (s : State) (l : LossSeq) : State :=
  s.raise { code := .brownout, source := 0, data0 := (s.mtNs - l.since) / 1000, data1 := s.nvm.run.brownouts }

/-- The dip ends during an orderly shutdown, which goes on to Dusk (R547). -/
def State.brownoutInShutdown (s : State) (l : LossSeq) : State :=
  let run := s.nvm.run
  let s := { s with nvm.run := { run with brownouts := run.brownouts + 1, state := 0x53, cause := 1,
                                          shutdowns := run.shutdowns + b2n (s.thm.shutStep == 3) } }
  let s := (if s.nvm.loaded then s.saveRecord 0x121 2 s.runBytes else s).raiseBrownout l
  { s with pwr.loss := none, thm.shutStep := 4, pnl.restore := none }.endEntry

/-- Work resumes after a dip (R608). -/
def State.resumeWork (s : State) (l : LossSeq) : State :=
  let s := { s with nvm.run.brownouts := s.nvm.run.brownouts + 1 }
  let s := (s.saveRunning.raiseBrownout l)
  let s := ({ s with pwr.loss := none }.resumeWith 1).tryRestore
  let s := (s.rerunStores.kickNvm false).kickCal.pumpChain.wdogResume
  if s.thm.shutAfterLoss then { s with thm.shutAfterLoss := false }.startShutdown else s

/-- The supply stands again: VSENSE has been above the warning level plus 20 mV for 100 us (R608). -/
def State.supplyBack (s : State) : Bool :=
  !s.pwr.warn && s.pwr.clearSince.any fun t => decide (t + 100000 ≤ s.mtNs)

/-- BROWNOUT (R608): the sequence has ended without reset, and the device resumes. -/
def State.brownout (s : State) : State :=
  match s.pwr.loss with
  | none => s
  | some l =>
    if l.inDawn || l.byFault || s.sup.fault || !l.sealed || !l.panelSettled || !s.supplyBack || s.pnl.discharge.isSome then s
    else if s.thm.shutdown.isSome then s.brownoutInShutdown l
    else s.resumeWork l

/-- BROWNOUT (R608). -/
def execBrownout (s : State) : Host.Outcome State Fault Refusal := .next s.brownout

/-! ## Command-ready (R595) -/

/-- DEVICE_READY (R595). -/
def State.raiseReady (s : State) (d0 d1 : Nat) : State :=
  { s with pwr.readyData := some (word d0, word d1) }.raise { code := .deviceReady, data0 := d0, data1 := d1 }

end Sys2Proof.Machine
end

