-- ==== Sys2Proof/Machine/Reset.lean ====
section
/-!
DEFINITION. Supplies and resets: what they leave standing, and the start of Dawn (R439, R538, R539, R590 to R593, R640).
-/

namespace Sys2Proof.Machine

/-! ## What stands while the device is held -/

/-- What island 0 keeps of a sensor: what its comparator last read, and the mask (R533, R538). -/
def Sensor.held (x : Sensor) : Sensor := { comparator := x.comparator, masked := x.masked }

/-- The pins of an SFP module stand. -/
def PortState.held (q : PortState) : PortState := { los := q.los, modAbs := q.modAbs }

/-- An output pin returns to disabled and drives its inactive level (R590). -/
def EvtOut.held (o : EvtOut) : EvtOut := { activeLow := o.activeLow, level := o.activeLow }

/-- What a function keeps: the count of interrupts that the host has seen. -/
def FnState.held (x : FnState) : FnState := x.cleared

/-- Islands 1 to 127 are held in reset: nothing is sealed or saved, a page program in flight is torn, a DT step that waits is
discarded, and only island 0, the flash, the store and the pins stand (R442, R498, R538, R590). -/
def State.hold (s : State) (phase : DawnPhase) : State :=
  let s := s.tearProgram
  let r : State := {}
  { r with
    pending := s.pending, free := s.free, hmem := s.hmem, dmem := s.dmem,
    pwr := { r.pwr with vddAon := s.pwr.vddAon, resetLow := s.pwr.resetLow, vsenseReset := s.pwr.vsenseReset,
                        perst := s.pwr.perst, straps := s.pwr.straps, warn := s.pwr.warn, clearSince := s.pwr.clearSince,
                        vsenseMv := s.pwr.vsenseMv, level := s.pwr.level, phase := phase },
    regs := { r.regs with trip := s.regs.trip, tripSensor := s.regs.tripSensor, tripHeld := s.regs.tripHeld,
                          mboxSeq := s.regs.mboxSeq },
    fns := s.fns.map FnState.held,
    time := { r.time with nt := s.time.nt, dt := s.time.dt, et := s.time.et, mt := s.time.mt, ntInc := s.time.ntInc,
                          dtInc := s.time.dtInc, etInc := s.time.etInc, mtInc := s.time.mtInc,
                          refPresent := s.time.refPresent, refUsed := s.time.refUsed, cycles := s.time.cycles,
                          evtOut := s.time.evtOut.map EvtOut.held },
    net.ports := s.net.ports.map PortState.held,
    nvm.mem := s.nvm.mem, nvm.bad := s.nvm.bad, nvm.soft := s.nvm.soft,
    fw.flash := s.fw.flash, fw.minSecurity := s.fw.minSecurity,
    thm.sensors := s.thm.sensors.map Sensor.held,
    pnl.lockout := s.pnl.lockout, pnl.gallOn := s.pnl.lockout, pnl.vinOk := s.pnl.vinOk,
    pnl.lastReason := if s.pnl.mode == .off then s.pnl.lastReason else 5,
    memc.capacityMib := s.memc.capacityMib }

/-! ## The start of Dawn (R590 to R593, R539) -/

/-- An armed comparator reads 110 degrees C or more (R539). -/
def State.tripHot (s : State) : Bool :=
  (List.range 36).any fun i => !(s.sensor i).masked && decide (1760 ≤ (s.sensor i).comparator)

/-- The warning level is 1.000 V at Dawn, and VSENSE is judged against it; a warning that stands starts the power-loss
sequence of a Dawn in progress (R604, R674). -/
def State.dawnWarning (s : State) : State :=
  let s := { s with pwr.level := 10, pwr.pendingLevel := none }
  if s.pwr.warn then
    if levelMv 10 + 20 < s.pwr.vsenseMv then { s with pwr.warn := false, pwr.clearSince := some s.mtNs }
    else s.startLoss false
  else if s.pwr.vsenseMv < levelMv 10 then s.crossing
  else s

/-- The SMBus address of record 0x100, 0x5C where it gives none (R90, R506). -/
def State.smbAddress (s : State) : Byte :=
  match s.deviceRecord 0x100 with
  | some b => if 0x08 ≤ fieldAt b 0 1 ∧ fieldAt b 0 1 ≤ 0x77 then byte (fieldAt b 0 1) else 0x5C
  | none => 0x5C

/-- Dawn begins (R593): the straps are in force, the boot ROM runs, the refresh journal is replayed, the head of the event log is
found (R575), records 0x100 and 0x112 are resolved (R514); a trip is logged (R539, R577); the PCIe link trains unless PERST_N holds it. ET and MT return to their
owners (R61, R457). -/
def State.beginDawn (s : State) : State :=
  let tripped := s.regs.tripHeld
  let s := { s with
    pwr.phase := .rom, pwr.dawnNs := s.mtNs, pwr.linkUp := !s.pwr.perst, regs.tripHeld := false,
    time.etInc := s.time.ntInc, time.mtInc := 0x200000000,
    nvm.halted := false, nvm.marginNs := s.mtNs,
    thm.sensors := s.thm.sensors.map (fun (x : Sensor) => { x with masked := false }) }
  let s := if tripped then s.raise { code := .thermalTrip, source := 0, data0 := s.regs.tripSensor.toNat } else s
  let s := ((s.replayJournal.findLogHead.resolveRecord 0x100).resolveRecord 0x112)
  { s with smb.address := s.smbAddress }.dawnWarning

/-- Reset is released: the straps are sampled, and Dawn begins unless something else holds the device; after a trip a
comparator that still reads 110 degrees C or more holds it (R539, R589, R591). -/
def State.release (s : State) (straps : Straps) : State :=
  if !s.pwr.vddAon || s.pwr.resetLow || s.pwr.vsenseReset then s
  else
    let s := { s with pwr.straps := straps }
    if s.regs.tripHeld && s.tripHot then { s with pwr.phase := .held } else s.beginDawn

/-! ## RESET_N and VSENSE (R590, R591) -/

/-- RESET_N goes low (R590). -/
def State.resetAssert (s : State) : State :=
  if !s.pwr.vddAon || s.pwr.resetLow then s else { s.hold .reset with pwr.resetLow := true }

/-- RESET_N_ASSERT (R590). -/
def execResetNAssert (s : State) : Host.Outcome State Fault Refusal := .next s.resetAssert

/-- RESET_N_RELEASE (R593). -/
def execResetNRelease (straps : Straps) (s : State) : Host.Outcome State Fault Refusal :=
  .next (if !s.pwr.vddAon || !s.pwr.resetLow then s else { s with pwr.resetLow := false }.release straps)

/-- VSENSE_RESET (R591): VSENSE below 0.900 V acts as RESET_N; below every warning level, it is a warning too. -/
def execVsenseReset (s : State) : Host.Outcome State Fault Refusal :=
  .next (if !s.pwr.vddAon || s.pwr.vsenseReset then s
    else { s.hold .reset with pwr.vsenseReset := true, pwr.vsenseMv := 899, pwr.warn := true, pwr.clearSince := none })

/-- VSENSE_RESET_RELEASE (R591): VSENSE above 0.920 V. -/
def execVsenseResetRelease (straps : Straps) (s : State) : Host.Outcome State Fault Refusal :=
  .next (if !s.pwr.vddAon || !s.pwr.vsenseReset then s
    else { s with pwr.vsenseReset := false, pwr.vsenseMv := 921 }.release straps)

/-! ## VDD_AON (R439, R640) -/

/-- VDD_AON_FALL (R640): the device is unpowered; the time bases stop, and TRIP clears. -/
def execVddAonFall (s : State) : Host.Outcome State Fault Refusal :=
  .next (if !s.pwr.vddAon then s
    else
      let h := s.hold .reset
      { h with pwr := { vddAon := false, perst := h.pwr.perst }, regs := {}, time := { refPresent := h.time.refPresent },
               thm := {}, dmem := [] })

/-- VDD_AON_RISE (R439): the time bases start at zero with the nominal increment; the board holds RESET_N low (R585). -/
def execVddAonRise (s : State) : Host.Outcome State Fault Refusal :=
  .next (if s.pwr.vddAon then s else { s with pwr.vddAon := true, pwr.resetLow := true })

/-! ## PERST_N (R592) -/

/-- PERST_N_ASSERT (R592): the PCIe functions are reset; what the device does for the panel and the witness goes on. -/
def State.perstAssert (s : State) : State :=
  if s.pwr.perst then s
  else
    let s := { s with pwr.perst := true, pwr.linkUp := false, pwr.pmeEn := false, pwr.keptBells := [] }
    let s := { s.silenceAll true with cmd.fences := List.replicate 256 0 }
    let s := { s.removeVfs 0 with cmd.vfsEnabled := 0 }
    { s with fns := s.fns.map FnState.cleared, regs.wdogEnable := false, regs.wdogSecond := false,
             regs.wdogActionWaits := false }

/-- PERST_N_ASSERT (R592). -/
def execPerstNAssert (s : State) : Host.Outcome State Fault Refusal := .next s.perstAssert

/-- PERST_N_RELEASE (R592). -/
def execPerstNRelease (s : State) : Host.Outcome State Fault Refusal :=
  .next (if s.pwr.perst then { s with pwr.perst := false, pwr.linkUp := s.linkAlive } else s)

end Sys2Proof.Machine
end

