-- ==== Sys2Proof/Machine/Faults.lean ====
section
/-!
DEFINITION. Faults: how each class is detected, contained and recovered, and what an unrecovered fault leaves (R237, R560 to
R574).
-/

namespace Sys2Proof.Machine

/-! ## Unrecovered faults (R572) -/

/-- A started packet that has not committed ends without effect. -/
def State.failFlight (s : State) (t : Nat) (st : Status) : State :=
  match s.flight t with
  | none => s
  | some f => if f.committed then s else (s.cancelWork t).finish t st noField 0

/-- The steps of the power-loss sequence run as if the warning had crossed now, or the sequence that runs takes the fault in
(R572). -/
def State.faultLoss (s : State) : State :=
  if s.joinsLoss then
    { s with pwr.loss := s.pwr.loss.map (fun (l : LossSeq) => { l with byFault := true }), pnl.restore := none }
  else s.startLoss true

/-- A fault of a class and unit is unrecovered (R572): the power-loss steps, the log entry, the fault bit, vector 63. Packets
that have started and not committed complete with HW_FAULT. -/
def State.unrecovered (s : State) (cls unit : Nat) : State :=
  if s.sup.fault then s
  else
    let s := s.faultLoss.raiseFree { code := .faultUnrecovered, source := faultSource cls unit }
    let s := { s with sup.fault := true, sup.faultClass := cls, sup.faultUnit := unit, thm.shutdown := none,
                      thm.shutAfterLoss := false, pwr.dusk := .awake }
    let ts := (s.cmd.flights.filter fun f => !f.committed).map (·.ticket)
    ((ts.foldl (fun s t => s.failFlight t .hwFault) s).raiseCause causeFault).endFaultLoss

/-! ## Class 1: the supervisor (R563 to R566, R573) -/

/-- The supervisor itself is unrecovered (R573): island 0 holds the others, the panel-power die discharges the panel, nothing
is sealed, and the registers that R638 keeps alive still answer. -/
def State.supUnrecovered (s : State) : State :=
  let (v, s) := s.drawFree
  let h := s.hold .held
  { h with regs := s.regs, fw := { s.fw with update := none },
           pwr := { h.pwr with linkUp := s.pwr.linkUp, warnCount := s.pwr.warnCount, pendingLevel := s.pwr.pendingLevel,
                               wakeSeen := s.pwr.wakeSeen, avsFault := s.pwr.avsFault },
           memc.failed := s.memc.failed, sup.debugOpen := s.sup.debugOpen, cmd.vfsEnabled := s.cmd.vfsEnabled,
           sup.supState := 2, sup.faultClass := 1, sup.faultUnit := v % 65536 }.raiseCause causeFault

/-- The journal: the entries that are not DONE, each with a copy of its packet and so with its ring, tag and opcode: packets
committed whose end is not yet visible (R563, log 56). -/
def State.journal (s : State) : List Flight := s.cmd.flights.filter (·.committed) ++ s.cmd.outcomes

/-- Number of journal entries that a restart goes through (R564, R583). -/
def State.journalOpen (s : State) : Nat := s.journal.length

/-- The pair restarts (R564): what has committed goes on, what has not is fetched again, and nothing else is touched (R565).
`ns` is the restart time. -/
def State.lockstepRestart (s : State) (ns : Nat) : State :=
  let (v, s) := s.drawFree
  let s := { s.countDetected 1 with
    sup.lastMismatch := some s.mtNs, sup.restarts := s.sup.restarts + 1,
    sup.longestRestart := if s.sup.longestRestart.toNat < ns then word ns else s.sup.longestRestart }
  let s := s.raise { code := .lockstepRestart, source := 1, data0 := s.journalOpen, data1 := ns }
  { s with sup.recovered := updAt s.sup.recovered 1 (· + 1) }.raise
    { code := .faultRecovered, source := 1, data0 := 1 + 65536 * (v % 65536), data1 := ns }

/-- The two cores of a running supervisor disagree; a second mismatch within 1 s is unrecovered (R564, R566). A restart takes
at most 20 us. -/
def State.mismatch (s : State) (ns : Nat) : State :=
  if s.sup.supState != 0 || !s.linkAlive || s.pwr.dusk == .asleep || s.pwr.dusk == .waking then s
  else if s.sup.lastMismatch.any fun t => decide (s.mtNs ≤ t + 1000000000) then (s.countDetected 1).supUnrecovered
  else s.lockstepRestart (min ns 20000)

/-- LOCKSTEP_MISMATCH (R564). -/
def execLockstepMismatch (restartNs : Nat) (s : State) : Host.Outcome State Fault Refusal := .next (s.mismatch restartNs)

/-! ## Class 3: cluster fabric (R569) -/

/-- The fabric of a cluster fails: it returns with an empty view cache and its tiles are queued again; a second fault within
1 s retires the cluster, and with the last cluster the fault is unrecovered (R569, R572). -/
def State.fabricFault (s : State) (c : Nat) (injected : Bool) : State :=
  if !s.rayWorks || !s.fabricUp || s.sup.clusterRetired.getD c true then s
  else
    let again := (s.sup.fabricLast.getD c none).any fun t => decide (s.mtNs ≤ t + 1000000000)
    let s := { s.countDetected 3 with
      sup.fabricFaults := updAt s.sup.fabricFaults c (· + 1), sup.fabricLast := setAt s.sup.fabricLast c (some s.mtNs),
      sup.clusterRetired := setAt s.sup.clusterRetired c again }
    let s := s.restartFabric c
    if s.sup.clusterRetired.all id then s.unrecovered 3 (104 + c) else s.recovered 3 (104 + c) injected

/-- FABRIC_FAULT (R569). -/
def execFabricFault (cluster : Fin 4) (s : State) : Host.Outcome State Fault Refusal :=
  .next (s.fabricFault cluster.val false)

/-! ## Class 2: ray cores (R237, R568) -/

/-- A core is retired until the next Dawn and logged (R568). -/
def State.retireCore (s : State) (core : Nat) (injected : Bool) : State :=
  { s with sup.coreState := setAt s.sup.coreState core 2 }.raiseFree
    { code := .coreRetired, source := islandOfCore core, injected := injected }

/-- A ray core fails: it leaves dispatch, its uncommitted tiles are issued again, and it is tested, or retired at its third
fault; a tile issued a fifth time points at its fabric (R237, R238, R568). -/
def State.rayCoreFault (s : State) (core : Nat) (injected : Bool) : State :=
  if !s.rayWorks || !s.fabricUp || s.sup.coreState.getD core 2 != 0 then s
  else
    let s := { s.countDetected 2 with sup.coreFaults := updAt s.sup.coreFaults core (· + 1),
                                      sup.coreState := setAt s.sup.coreState core 1 }
    let s := s.reissueTiles core injected
    let s := if 3 ≤ (s.sup.coreFaults.getD core 0).toNat then s.retireCore core injected else s
    let s := s.recovered 2 core injected
    s.withdrawnHomes.foldl (fun s c => s.fabricFault c false) s

/-- RAY_CORE_FAULT (R237). -/
def execRayCoreFault (core : Fin 96) (s : State) : Host.Outcome State Fault Refusal :=
  .next (s.rayCoreFault core.val false)

/-- The self-test of an excluded core ends: a core that passes returns at the next window opening, one that fails is retired
(R568). -/
def State.selfTestEnd (s : State) (core : Nat) (pass : Bool) : State :=
  if s.sup.coreState.getD core 0 != 1 || s.sup.corePassed.getD core true || !s.fabricUp then s
  else if pass then { s with sup.corePassed := setAt s.sup.corePassed core true }
  else s.retireCore core false

/-- CORE_SELF_TEST_END (R568). -/
def execCoreSelfTestEnd (core : Fin 96) (pass : Bool) (s : State) : Host.Outcome State Fault Refusal :=
  .next (s.selfTestEnd core.val pass)

/-! ## Class 4: codec cores (R177, R382) -/

/-- A picture codes its slice in progress again from its first row; what it has told stays told (R382, R392, R567). -/
def EncPic.restartSlice (p : EncPic) : EncPic :=
  let keep := p.rowBits.take p.sliceRow
  { p with rowBits := keep, rowQps := p.rowQps.take p.sliceRow, tokens := p.tokens.take p.sliceRow,
           cus := p.cus.filter fun (c : EncCu) => decide (c.y < 32 * p.sliceRow), bits := sumNat keep,
           skipAt := if p.skipsAll then some (0, 0) else p.skipAt.filter fun k => decide (k.1 < p.sliceRow), core := none,
           banned := p.core }

/-- A codec core fails: its part waits for another core to decode it again from its start, or its slice to code it again
(R177, R382). -/
def State.codecCoreFault (s : State) (core : Nat) (injected : Bool) : State :=
  if !s.codecWorks || !s.fabricUp then s
  else
    let item := s.dec.cores.getD core none
    let s := { s.countDetected 4 with dec.cores := setAt s.dec.cores core none }
    let s := match item with
      | none => s
      | some (.part slot comp part) =>
        s.updJob slot (setPart comp part fun p => { p with state := .waiting, banned := some core })
      | some (.row n order) => s.updPic n order EncPic.restartSlice
    s.recovered 4 core injected

/-- CODEC_CORE_FAULT (R567). -/
def execCodecCoreFault (core : Fin 12) (s : State) : Host.Outcome State Fault Refusal :=
  .next (s.codecCoreFault core.val false)

/-! ## Classes 5 and 9: channels and stalled islands (R486, R570) -/

/-- An error retrain of a channel falls due (R486, R487). -/
def MemChan.needRetrain (injected : Bool) (c : MemChan) : MemChan :=
  if c.state == .ready || c.state == .pause then { c with errorDue := true, injected := c.injected || injected } else c

/-- A class 5 fault of a channel that an error retrain answers (R486, R567). -/
def State.channelFault (s : State) (k : Nat) (injected : Bool) : State :=
  (s.countDetected 5).updChan k (MemChan.needRetrain injected)

/-- The network island drops the frames in flight towards a port and counts them (R570). -/
def PortState.dropInFlight (q : PortState) : PortState :=
  { q with dropped := q.dropped + BitVec.ofNat 32 q.outq.length, outq := [], sendEnd := 0 }

/-- A stalled island is reset and restarted (R570). The scan-out, blit, host-interface and store islands go on from the point
where they stood; the network island loses the frames in flight. -/
def State.restartIsland (s : State) (i : Nat) (injected : Bool) : State :=
  if i < 104 then s.rayCoreFault (i - 8) injected
  else if i < 108 then s.fabricFault (i - 104) injected
  else if i < 120 then s.codecCoreFault (i - 108) injected
  else
    let s := s.countDetected 9
    if i = 122 ∧ s.pnl.mode = .driving then
      let (v, s) := s.drawFree
      s.fastRetrain { lanes := laneMask s.lanesInUse, cause := v % 2, cls := 9, unit := 122, injected := injected }
    else if i = 123 ∨ i = 124 then
      let s := { s with memc.stalls := s.memc.stalls.filter (fun x => x.1 != i) ++ [(i, s.mtNs, injected)] }
      (List.range 4).foldl (fun s k => s.updChan (4 * (i - 123) + k) (MemChan.needRetrain injected)) s
    else if i = 126 then
      { s with net.ports := s.net.ports.map PortState.dropInFlight }.recovered 9 i injected
    else s.recovered 9 i injected

/-- An island agent sees its island stall (R570). A core or cluster that is out of service holds no work. -/
def State.islandStall (s : State) (i : Nat) (injected : Bool) : State :=
  let out := (decide (8 ≤ i ∧ i < 104) && s.sup.coreState.getD (i - 8) 2 != 0) ||
    (decide (104 ≤ i ∧ i < 108) && s.sup.clusterRetired.getD (i - 104) true)
  if i < 8 || !s.fabricUp || s.stopped || out then s
  else { s with sup.islandResets := updAt s.sup.islandResets i (· + 1) }.restartIsland i injected

/-- ISLAND_STALL (R570). -/
def execIslandStall (island : Fin 128) (s : State) : Host.Outcome State Fault Refusal :=
  .next (s.islandStall island.val false)

/-! ## Class 10: the management lane (R567, R572) -/

/-- A management-lane frame fails its CRC and is resent; errors within 20 us are of one frame (log 37). After 8 failed resends
the fault is unrecovered. The lane is not named: its number is a free value. -/
def State.dieLinkError (s : State) : State :=
  if !s.fabricUp || s.stopped then s
  else if s.sup.dieLinkNs.any fun t => decide (s.mtNs ≤ t + 20000) then
    if 8 ≤ s.sup.dieLinkResends then
      let (v, s) := s.drawFree
      { s with sup.dieLinkResends := 0, sup.dieLinkNs := none }.unrecovered 10 (v % 65536)
    else { s with sup.dieLinkResends := s.sup.dieLinkResends + 1 }
  else
    let (v, s) := s.drawFree
    let s := { s with sup.dieLinkResends := 1, sup.dieLinkNs := some s.mtNs }
    (s.countDetected 10).recovered 10 (v % 65536) false

/-- DIE_LINK_CRC_ERROR (R567). -/
def execDieLinkCrcError (s : State) : Host.Outcome State Fault Refusal := .next s.dieLinkError

/-! ## Class 6: poisoned words (R490, R571) -/

/-- The owner of a poisoned word is there to read it. -/
def State.owns (s : State) : PoisonOwner → Bool
  | .packet t => s.cmd.flights.any fun f => f.ticket == t && !f.committed
  | .blitEntry l e => (s.blt.lists[l]?.bind fun l => l.entries[e]?).any fun e => e.state == 1
  | .chainRecord => !s.chain.records.isEmpty
  | _ => true

/-- What a poisoned word costs its owner (R571). -/
def State.handlePoison (s : State) : PoisonOwner → State
  | .packet t => s.failFlight t .hwFault
  | .blitEntry l e => s.poisonEntry l e
  | _ => s

/-- A device client reads an uncorrectable word (R571); the unit of a class 6 fault is a free value (log 36). -/
def State.poisonRead (s : State) (o : PoisonOwner) : State :=
  if !s.fabricUp || s.stopped || !s.owns o then s
  else
    let (v, s) := s.drawFree
    let s := s.countDetected 6
    match o with
    | .chainRecord => s.unrecovered 6 (v % 65536)
    | o => (s.handlePoison o).recovered 6 (v % 65536) false

/-- POISONED_READ (R571). -/
def execPoisonedRead (owner : PoisonOwner) (s : State) : Host.Outcome State Fault Refusal := .next (s.poisonRead owner)

end Sys2Proof.Machine
end

