-- ==== Sys2Proof/Machine/Regs.lean ====
section
/-!
DEFINITION. BAR0: the host's registers, the watchdog, the time latch and the mailbox (R636 to R655, R673).
-/

namespace Sys2Proof.Machine

/-! ## Which accesses are answered (R592, R638, R673) -/

/-- A function answers: the PF, and the VFs that SR-IOV has enabled. -/
def State.fnAnswers (s : State) (f : Func) : Bool :=
  s.pwr.linkUp && match f with
    | .pf => true
    | .vf n => decide (n.val < s.cmd.vfsEnabled)

/-- The device is in Dusk, up to its exit. -/
def State.inDusk (s : State) : Bool := s.pwr.dusk == .asleep || s.pwr.dusk == .waking

/-- Only the registers that R638 keeps alive answer: in Dusk, and when the supervisor is unrecovered (R673). -/
def State.regsNarrow (s : State) : Bool := s.inDusk || s.sup.supState == 2

/-- The registers that R638 keeps alive: R639 to R644, power fail, boot, wake, time latch, mailbox. -/
def keptReg (off : Nat) : Bool :=
  decide (off ≤ 0x44) || off == 0x100 || off == 0x110 || off == 0x114 || off == 0x120 ||
    decide (0x200 ≤ off ∧ off < 0x240) || decide (0x400 ≤ off ∧ off < 0x430)

/-- A PF access to a register at an offset has its effect. -/
def State.pfReg (s : State) (off : Nat) : Bool := s.fnAnswers .pf && (keptReg off || !s.regsNarrow)

/-! ## Doorbells (R44, R48, R613, R648) -/

/-- A doorbell takes effect on its ring. -/
def State.ringBell (s : State) (f : Func) (k : RingKind) (n : Fin 16) (v : Word) : State :=
  match k with
  | .submission => s.ringTail f n v
  | .completion => s.ringHead f n.val v
  | .event => s.eventHead f v

/-- The function has this ring. -/
def hasRing (f : Func) (n : Nat) : Bool :=
  match f with
  | .pf => true
  | .vf _ => decide (n < 2)

/-- A doorbell write (R648): kept in Dusk, where it wakes the device (R613); during the entry it takes effect and wakes
afterwards (R616). -/
def State.bell (s : State) (f : Func) (k : RingKind) (n : Fin 16) (v : Word) : State :=
  if !s.fnAnswers f || !hasRing f n.val || s.sup.supState == 2 then s
  else if s.inDusk then
    let b : KeptBell := { func := f, kind := k, ring := n, value := v }
    { s with pwr.keptBells := s.pwr.keptBells ++ [b] }.noteWake 1
  else (s.ringBell f k n v).noteWake 1

/-- SUBMISSION_TAIL_DOORBELL (R44). -/
def execSubmissionTailDoorbell (f : Func) (n : Fin 16) (value : Word) (s : State) : Host.Outcome State Fault Refusal :=
  .next (s.bell f .submission n value)

/-- COMPLETION_HEAD_DOORBELL (R48). -/
def execCompletionHeadDoorbell (f : Func) (n : Fin 16) (value : Word) (s : State) : Host.Outcome State Fault Refusal :=
  .next (s.bell f .completion n value)

/-- EVENT_HEAD_DOORBELL (R48). -/
def execEventHeadDoorbell (f : Func) (value : Word) (s : State) : Host.Outcome State Fault Refusal :=
  .next (s.bell f .event 0 value)

/-! ## Ring registers (R647, R649) -/

/-- A write to +0x08 of a ring takes effect: outside Dusk, with the supervisor not unrecovered. -/
def State.writeCtrl (s : State) (f : Func) (k : RingKind) (n : Nat) (v : Word) : State :=
  if !s.fnAnswers f || !hasRing f n || s.regsNarrow then s else s.ringCtrl f k n v

/-- RING_ENABLE (R649): the write of +0x08 with ENABLE 1. -/
def execRingEnable (f : Func) (k : RingKind) (n : Fin 16) (ctrl : Word) (s : State) : Host.Outcome State Fault Refusal :=
  .next (s.writeCtrl f k n.val (ctrl ||| 1))

/-- RING_DISABLE (R649, R671): the write of +0x08 with ENABLE 0. -/
def execRingDisable (f : Func) (k : RingKind) (n : Fin 16) (ctrl : Word) (s : State) : Host.Outcome State Fault Refusal :=
  .next (s.writeCtrl f k n.val (ctrl &&& ~~~(1 : Word)))

/-- Another register of a submission ring (R647, R649). -/
def SubRing.put (r : SubRing) (reg : Nat) (v : Word) : SubRing :=
  if reg = 0x0C then (if v.getLsbD 0 then { r with error := false, errCode := 0 } else r)
  else if r.enable then r
  else if reg = 0x00 then { r with baseLo := v }
  else if reg = 0x04 then { r with baseHi := v }
  else if reg = 0x10 then { r with wbLo := v &&& ~~~(3 : Word) }
  else if reg = 0x14 then { r with wbHi := v }
  else r

/-- Another register of a completion ring. -/
def CplRing.put (r : CplRing) (reg : Nat) (v : Word) : CplRing :=
  if reg = 0x0C then (if v.getLsbD 0 then { r with error := false, errCode := 0 } else r)
  else if r.enable then r
  else if reg = 0x00 then { r with baseLo := v }
  else if reg = 0x04 then { r with baseHi := v }
  else r

/-- Another register of an event ring. -/
def EvtRing.put (r : EvtRing) (reg : Nat) (v : Word) : EvtRing :=
  if reg = 0x0C then (if v.getLsbD 0 then { r with error := false, errCode := 0 } else r)
  else if r.enable then r
  else if reg = 0x00 then { r with baseLo := v }
  else if reg = 0x04 then { r with baseHi := v }
  else r

/-- The ring register at an offset: kind, ring and offset in its block (R647). -/
def ringReg (off : Nat) : Option (RingKind × Nat × Nat) :=
  if 0x1000 ≤ off ∧ off < 0x1200 then some (.submission, (off - 0x1000) / 0x20, off % 0x20)
  else if 0x1200 ≤ off ∧ off < 0x1400 then some (.completion, (off - 0x1200) / 0x20, off % 0x20)
  else if 0x1400 ≤ off ∧ off < 0x1420 then some (.event, 0, off % 0x20)
  else none

/-- The doorbell at an offset (R648). -/
def bellReg (off : Nat) : Option (RingKind × Fin 16) :=
  if 0x2000 ≤ off ∧ off < 0x2040 then some (.submission, Fin.ofNat 16 ((off - 0x2000) / 4))
  else if 0x2040 ≤ off ∧ off < 0x2080 then some (.completion, Fin.ofNat 16 ((off - 0x2040) / 4))
  else if off = 0x2080 then some (.event, 0)
  else none

/-- A write to a ring register. -/
def State.writeRing (s : State) (f : Func) (k : RingKind) (n reg : Nat) (v : Word) : State :=
  if reg = 0x08 then s.writeCtrl f k n v
  else if !hasRing f n || s.regsNarrow then s
  else match k with
    | .submission => s.updSub f n fun r => r.put reg v
    | .completion => s.updCpl f n fun r => r.put reg v
    | .event => s.updEvt f fun r => r.put reg v

/-! ## TRIP_CLR, PF_CTRL, BOOT_LEN, WAKE_REQ (R641, R644 to R646) -/

/-- A write to DEV_CTRL (R641). -/
def State.clearTrip (s : State) (v : Word) : State :=
  if v.getLsbD 0 && s.pfReg 0x24 then { s with regs.trip := false, regs.tripSensor := 0xFF } else s

/-- TRIP_CLR (R641). -/
def execTripClr (value : Word) (s : State) : Host.Outcome State Fault Refusal := .next (s.clearTrip value)

/-- A write to PF_CTRL (R644): LEVEL above 20 is ignored; during a warning the new level waits for its end. -/
def State.writeLevel (s : State) (v : Word) : State :=
  let l := v.toNat % 32
  if !s.pfReg 0x100 || 20 < l then s
  else if s.pwr.warn then { s with pwr.pendingLevel := some l }
  else s.putLevel l

/-- PF_CTRL_LEVEL_WRITE (R644). -/
def execPfCtrlLevelWrite (value : Word) (s : State) : Host.Outcome State Fault Refusal := .next (s.writeLevel value)

/-- A write to BOOT_LEN (R645). -/
def State.writeBootLen (s : State) (v : Word) : State :=
  let n := v.toNat
  if !s.pfReg 0x110 || s.pwr.phase != .pcieBootWait || n % 4096 != 0 || decide (n < 8192 ∨ 8388608 < n) then s
  else { s with fw.bootLen := n, fw.checking := some 2, pwr.phase := .imageCheck }

/-- BOOT_LEN_WRITE (R645). -/
def execBootLenWrite (value : Word) (s : State) : Host.Outcome State Fault Refusal := .next (s.writeBootLen value)

/-- A write to WAKE (R646): WAKE_REQ counts as a doorbell write. -/
def State.writeWake (s : State) (v : Word) : State := if v.getLsbD 16 && s.pfReg 0x120 then s.noteWake 1 else s

/-- WAKE_REQ (R646). -/
def execWakeReq (value : Word) (s : State) : Host.Outcome State Fault Refusal := .next (s.writeWake value)

/-! ## The watchdog and the heartbeat (R642, R652, R653) -/

/-- A stage of the watchdog of `ms` starts. -/
def State.startWdog (s : State) (ms : Nat) : State :=
  { s with regs.wdogRunPeriod := ms, regs.wdogSecond := false, regs.wdogDeadline := s.mtNs + ms * 1000000 }

/-- A write to 0x0180 (R652). -/
def State.writeWdog (s : State) (v : Word) : State :=
  let on := v.getLsbD 16
  let ms := v.toNat % 65536
  if !s.pfReg 0x180 || (on && decide (ms < 10 ∨ 60000 < ms)) then s
  else
    let was := s.regs.wdogEnable
    let s := { s with regs.wdogAction := v.getLsbD 17, regs.wdogEnable := on, regs.wdogPeriod := ms }
    if on && !was then s.startWdog ms else s

/-- WATCHDOG_CONTROL_WRITE (R652). -/
def execWatchdogControlWrite (value : Word) (s : State) : Host.Outcome State Fault Refusal := .next (s.writeWdog value)

/-- A write to KICK (R652): the kick value restarts the count with the PERIOD in force; another value is counted. -/
def State.writeKick (s : State) (v : Word) : State :=
  if !s.pfReg 0x184 then s
  else if v != 0x4B43494B then { s with regs.wdogBadKicks := satInc 255 s.regs.wdogBadKicks }
  else if s.regs.wdogEnable then s.startWdog s.regs.wdogPeriod
  else s

/-- KICK (R652). -/
def execKick (value : Word) (s : State) : Host.Outcome State Fault Refusal := .next (s.writeKick value)

/-- The running stage has come to 0: the count stops in Dusk (R653). -/
def State.wdogOut (s : State) : Bool := s.regs.wdogEnable && !s.inDusk && decide (s.regs.wdogDeadline ≤ s.mtNs)

/-- WATCHDOG_WARN (R653): the second stage starts. -/
def execWatchdogWarn (s : State) : Host.Outcome State Fault Refusal :=
  .next (if !s.wdogOut || s.regs.wdogSecond then s
    else { s with regs.wdogSecond := true,
                  regs.wdogDeadline := s.regs.wdogDeadline + s.regs.wdogRunPeriod * 1000000 }.raiseCause causeWdogWarn)

/-- The second stage ends (R653); in a power-loss sequence the action waits until the device resumes. -/
def State.wdogExpire (s : State) : State :=
  if !s.wdogOut || !s.regs.wdogSecond then s
  else
    let s := { s with regs.wdogEnable := false, regs.wdogSecond := false,
                      regs.wdogExpiries := satInc 255 s.regs.wdogExpiries }.raiseCause causeWdogExpired
    if !s.regs.wdogAction then s
    else if s.pwr.loss.isSome then { s with regs.wdogActionWaits := true }
    else s.wdogRelease

/-- WATCHDOG_EXPIRY (R653). -/
def execWatchdogExpiry (s : State) : Host.Outcome State Fault Refusal := .next s.wdogExpire

/-- HEARTBEAT_TICK (R642): every 1 ms of MT from command-ready on, while the supervisor runs and outside Dusk. -/
def execHeartbeatTick (s : State) : Host.Outcome State Fault Refusal :=
  .next (if !s.pwr.ready || s.sup.supState != 0 || s.inDusk || decide (s.mtNs < s.regs.heartbeatNs + 1000000) then s
    else { s with regs.heartbeat := s.regs.heartbeat + 1, regs.heartbeatNs := s.regs.heartbeatNs + 1000000 })

/-! ## The mailbox (R654, R655) -/

/-- A mailbox command ends with a result. -/
def State.mboxEnd (s : State) (result : Byte) : State :=
  { s with regs.mboxSeq := s.regs.mboxSeq + 1, regs.mboxResult := result, regs.mboxBusy := false }.raiseCause causeMboxDone

/-- A mailbox command is taken: the link answers and no command is in progress. -/
def State.mboxTakes (s : State) : Bool := s.pfReg 0x400 && !s.regs.mboxBusy

/-- SNAPSHOT's results in DATA0 to DATA5. -/
def State.snapshotData (s : State) : List Word :=
  [word s.devWord, word (nsField s.time.mt), word (secField s.time.mt), s.regs.heartbeat, word s.sup.faultClass,
    word s.sup.faultUnit]

/-- SNAPSHOT (R655). -/
def State.mboxSnapshot (s : State) : State :=
  if !s.mboxTakes then s
  else { s with regs.mboxData := s.snapshotData ++ s.regs.mboxData.drop 6 }.mboxEnd 0

/-- SNAPSHOT (R655). -/
def execSnapshot (s : State) : Host.Outcome State Fault Refusal := .next s.mboxSnapshot

/-- The key of commands 0x10 to 0x12 (R654). -/
def mboxKey : Half := 0x4D42

/-- SUP_RESTART (R655): the restart time is a free value, and so is the result when it leaves the supervisor unrecovered. -/
def State.mboxRestart (s : State) (key : Half) : State :=
  if !s.mboxTakes then s
  else if key != mboxKey then s.mboxEnd 2
  else if s.sup.supState != 0 || s.pwr.phase != .ready then s.mboxEnd 1
  else
    let (v, s) := s.drawFree
    let s := s.mismatch (v % 20001)
    if s.sup.supState = 0 then s.mboxEnd 0
    else
      let (r, s) := s.drawFree
      s.mboxEnd (byte (r % 2))

/-- SUP_RESTART (R655). -/
def execSupRestart (key : Half) (s : State) : Host.Outcome State Fault Refusal := .next (s.mboxRestart key)

/-- The panel-power die discharges the panel at once, as at its lockout, and leaves it OFF (R363, R655). -/
def State.dieOff (s : State) : State :=
  if s.pnl.mode == .off || s.pnl.lockout then s
  else
    let d : Discharge := (s.pnl.discharge).getD { reason := 5, since := s.mtNs }
    (s.endPanelOps 5).endDischarge { d with toFault := false } true

/-- PANEL_OFF (R655). -/
def State.mboxPanelOff (s : State) (key : Half) : State :=
  if !s.mboxTakes then s else if key != mboxKey then s.mboxEnd 2 else s.dieOff.mboxEnd 0

/-- PANEL_OFF (R655). -/
def execPanelOff (key : Half) (s : State) : Host.Outcome State Fault Refusal := .next (s.mboxPanelOff key)

/-- DEVICE_RESET (R655): as RESET_N asserted and released; it never ends as a command. -/
def State.mboxReset (s : State) (key : Half) : State :=
  if !s.mboxTakes then s
  else if key != mboxKey then s.mboxEnd 2
  else (s.hold .reset).release s.pwr.straps

/-- DEVICE_RESET (R655). -/
def execDeviceReset (key : Half) (s : State) : Host.Outcome State Fault Refusal := .next (s.mboxReset key)

/-- A write to the mailbox's command register: KEY and CMD (R654). -/
def State.writeMbox (s : State) (v : Word) : State :=
  let key : Half := v.extractLsb' 16 16
  match v.toNat % 256 with
  | 0x01 => s.mboxSnapshot
  | 0x10 => s.mboxRestart key
  | 0x11 => s.mboxPanelOff key
  | 0x12 => s.mboxReset key
  | _ => if s.mboxTakes then s.mboxEnd 3 else s

/-! ## Any write to BAR0 (R637) -/

/-- A write to a PF register that belongs to no ring. -/
def State.writePf (s : State) (off : Nat) (v : Word) : State :=
  match off with
  | 0x24 => s.clearTrip v
  | 0x40 => if s.pfReg 0x40 then { s with regs.intStatus := s.regs.intStatus &&& ~~~v } else s
  | 0x44 => if s.pfReg 0x44 then { s with regs.intEnable := v &&& 0x7F } else s
  | 0x100 => s.writeLevel v
  | 0x110 => s.writeBootLen v
  | 0x120 => s.writeWake v
  | 0x180 => s.writeWdog v
  | 0x184 => s.writeKick v
  | 0x400 => s.writeMbox v
  | _ => s

/-- REGISTER_WRITE (R637, R647, R648): aligned 4-byte writes only; what an offset does not assign is ignored. -/
def State.writeReg (s : State) (f : Func) (off size : Nat) (v : Word) : State :=
  if size ≠ 4 ∨ off % 4 ≠ 0 ∨ !s.fnAnswers f then s
  else match bellReg off with
    | some (k, n) => s.bell f k n v
    | none => match ringReg off with
      | some (k, n, reg) => s.writeRing f k n reg v
      | none => match f with
        | .pf => s.writePf off v
        | .vf _ => s

/-- REGISTER_WRITE (R637). -/
def execRegisterWrite (f : Func) (offset size : Nat) (value : Word) (s : State) : Host.Outcome State Fault Refusal :=
  .next (s.writeReg f offset size value)

/-! ## Reads (R637 to R655) -/

/-- +0x08 and +0x0C of a ring (R647). -/
def ctrlWord (target size : Nat) (dev enable : Bool) : Nat := b2n enable + 2 * b2n dev + 256 * size + 65536 * target

/-- +0x0C of a ring. -/
def statusWord (enable error : Bool) (code : Nat) : Nat := b2n error + 16 * code + 256 * b2n enable

/-- A register of a submission ring. -/
def SubRing.get (r : SubRing) (reg : Nat) : Nat :=
  match reg with
  | 0x00 => r.baseLo.toNat
  | 0x04 => r.baseHi.toNat
  | 0x08 => ctrlWord r.target.toNat r.sizeLog2.toNat r.locDev r.enable
  | 0x0C => statusWord r.enable r.error r.errCode.toNat
  | 0x10 => r.wbLo.toNat
  | 0x14 => r.wbHi.toNat
  | 0x18 => r.head
  | _ => r.tail

/-- A register of a completion ring. -/
def CplRing.get (r : CplRing) (reg : Nat) : Nat :=
  match reg with
  | 0x00 => r.baseLo.toNat
  | 0x04 => r.baseHi.toNat
  | 0x08 => ctrlWord r.target.toNat r.sizeLog2.toNat r.locDev r.enable
  | 0x0C => statusWord r.enable r.error r.errCode.toNat
  | 0x18 => r.head
  | 0x1C => r.next + 0x80000000 * b2n r.phase
  | _ => 0

/-- A register of an event ring, whose SIZE_LOG2 reads 8. -/
def EvtRing.get (r : EvtRing) (reg : Nat) : Nat :=
  match reg with
  | 0x00 => r.baseLo.toNat
  | 0x04 => r.baseHi.toNat
  | 0x08 => ctrlWord r.target.toNat 8 r.locDev r.enable
  | 0x0C => statusWord r.enable r.error r.errCode.toNat
  | 0x18 => r.head
  | 0x1C => r.next + 0x80000000 * b2n r.phase
  | _ => 0

/-- A ring register of a function. -/
def State.getRing (s : State) (f : Func) (k : RingKind) (n reg : Nat) : Nat :=
  match k with
  | .submission => ((s.subRing f n).map fun r => r.get reg).getD 0
  | .completion => ((s.cplRing f n).map fun r => r.get reg).getD 0
  | .event => (s.fn f).evt.get reg

/-- Milliseconds left in the watchdog's stage. -/
def State.wdogRemain (s : State) : Nat :=
  if s.regs.wdogEnable then ceilDiv (s.regs.wdogDeadline - s.mtNs) 1000000 else 0

/-- A word of the time latch (R651). -/
def State.latchWord (s : State) (off : Nat) : Nat :=
  let t := s.regs.timeLatch.getD (off / 16) 0
  match off % 16 with
  | 0 => nsField t
  | 4 => secField t % 0x100000000
  | 8 => secField t / 0x100000000 + 65536 * fracField t
  | _ => 0

/-- The registers of the PF that belong to no ring, but for the identification registers. -/
def State.getPf (s : State) (off : Nat) : Nat :=
  if 0x200 ≤ off ∧ off < 0x240 then s.latchWord (off - 0x200)
  else if 0x410 ≤ off ∧ off < 0x430 then (s.regs.mboxData.getD ((off - 0x410) / 4) 0).toNat
  else match off with
    | 0x20 => s.devWord
    | 0x28 => s.regs.heartbeat.toNat
    | 0x40 => s.regs.intStatus.toNat
    | 0x44 => s.regs.intEnable.toNat
    | 0x100 => s.pwr.level + 256 * b2n s.pwr.warn + 65536 * s.pwr.warnCount
    | 0x114 => s.regs.bootFailCount + 256 * s.regs.bootLastFail + 65536 * s.regs.bootSource
    | 0x120 => s.pwr.wakeMask.toNat + 256 * s.pwr.wakeSeen.toNat
    | 0x180 => s.regs.wdogPeriod + 65536 * b2n s.regs.wdogEnable + 131072 * b2n s.regs.wdogAction
    | 0x188 => s.wdogRemain + 65536 * s.regs.wdogExpiries + 16777216 * s.regs.wdogBadKicks
    | 0x404 => b2n s.regs.mboxBusy + 256 * s.regs.mboxResult.toNat + 65536 * s.sup.supState + 16777216 * s.regs.mboxSeq.toNat
    | _ => 0

/-- The identification registers (R639). FW_VERSION reads 0 until command-ready. -/
def State.getId (s : State) (f : Func) (off : Nat) : Option Nat :=
  match off with
  | 0x00 => some 0x55539616
  | 0x04 => some 0x3142
  | 0x08 => some (if s.pwr.readyData.isSome then s.fwWord else 0)
  | 0x10 => if f = .pf then some Config.serial.lo.toNat else some 0
  | 0x14 => if f = .pf then some Config.serial.hi.toNat else some 0
  | _ => none

/-- What a read of BAR0 returns (R637, R638, R647). -/
def State.readReg (s : State) (f : Func) (off size : Nat) : Word :=
  if size ≠ 4 ∨ off % 4 ≠ 0 ∨ (s.regsNarrow && !keptReg off) then 0xFFFFFFFF
  else match s.getId f off with
    | some w => word w
    | none => match ringReg off with
      | some (k, n, reg) => if hasRing f n then word (s.getRing f k n reg) else 0
      | none => if f = .pf then word (s.getPf off) else 0

/-- TIME_LATCH_READ (R650, R651): a read of 0x0200 latches the four bases and returns NT's nanoseconds. -/
def State.latchTime (s : State) : State :=
  if !s.pfReg 0x200 then s
  else
    let s := { s with regs.timeLatch := s.bases }
    { s with regs.readData := leBytes 4 (s.readReg .pf 0x200 4).toNat }

/-- TIME_LATCH_READ (R651). -/
def execTimeLatchRead (s : State) : Host.Outcome State Fault Refusal := .next s.latchTime

end Sys2Proof.Machine
end

