-- ==== Sys2Proof/Machine/Bar2.lean ====
section
/-!
DEFINITION. BAR2: the host's window on device memory (R80, R470, R490, R613, R636, R673).
-/

namespace Sys2Proof.Machine

/-- `n` free bytes. -/
def State.freeBytes (s : State) (n : Nat) : List Byte × State :=
  ((List.range n).map fun i => byte (Config.freeNat (s.free + i)), { s with free := s.free + n })

/-- The device address and the length of the window behind a function's BAR2: all device memory for the PF, the first
512 MiB of the granted window for a VF (R80, R636). -/
def State.bar2Window (s : State) (f : Func) : Nat × Nat :=
  match f with
  | .pf => (0, s.capacity)
  | .vf _ => ((s.fn f).grant.windowBase, min 0x20000000 ((s.fn f).grant.windowMib * 0x100000))

/-- BAR2 reads return all ones and writes are discarded: in Dusk and after an unrecovered fault (R613, R673). -/
def State.bar2Shut (s : State) : Bool := s.inDusk || s.sup.fault || s.sup.supState == 2

/-- Byte address at which ECC region 0 begins, below the ECC reserve (R470). -/
def State.region0Base (s : State) : Nat := s.capacity - 0x10000000

/-- Byte address at which the ECC reserve begins (R470). -/
def State.reserveBase (s : State) : Nat := s.capacity - 0x8000000

/-- The bytes of device memory that a host read gets: the reserve reads 0, and what region 0 holds for the supervisor is a
free value (log 39). -/
def State.bar2Bytes (s : State) (a n : Nat) (own : List Byte) : List Byte :=
  (List.range n).map fun i =>
    if s.reserveBase ≤ a + i then 0 else if s.region0Base ≤ a + i then own.getD i 0 else s.dmem.read (a + i)

/-- BAR2_READ (R470): memory that is not yet trained reads free values. -/
def State.bar2Read (s : State) (f : Func) (addr len : Nat) : State :=
  if !s.fnAnswers f then s
  else
    let (base, size) := s.bar2Window f
    if s.bar2Shut || size < addr + len then { s with regs.readData := List.replicate len 0xFF }
    else
      let (own, s) := s.freeBytes len
      if s.memc.trained = 0 then { s with regs.readData := own }
      else { s.request 8 (base + addr) len false with regs.readData := s.bar2Bytes (base + addr) len own }

/-- BAR2_READ (R470). -/
def execBar2Read (f : Func) (addr len : Nat) (s : State) : Host.Outcome State Fault Refusal := .next (s.bar2Read f addr len)

/-- BAR2_WRITE (R470): what would fall in region 0 or in the reserve is discarded and counted. -/
def State.bar2Write (s : State) (f : Func) (addr : Nat) (bytes : List Byte) : State :=
  if !s.fnAnswers f then s
  else if s.inDusk then { s with pwr.duskBar2Writes := s.pwr.duskBar2Writes + 1 }
  else
    let (base, size) := s.bar2Window f
    if s.bar2Shut || decide (size < addr + bytes.length) || s.memc.trained = 0 then s
    else
      let a := base + addr
      let kept := bytes.take (s.region0Base - a)
      let s := { s.request 8 a kept.length true with dmem := s.dmem.writeN a kept }
      if s.region0Base < a + bytes.length then { s with memc.nDiscarded := s.memc.nDiscarded + 1 } else s

/-- BAR2_WRITE (R470). -/
def execBar2Write (f : Func) (addr : Nat) (bytes : List Byte) (s : State) : Host.Outcome State Fault Refusal :=
  .next (s.bar2Write f addr bytes)

end Sys2Proof.Machine
end

