-- ==== Sys2Proof/Machine/Dawn.lean ====
section
/-!
DEFINITION. Dawn from the training of memory to command-ready, and the full scan of the store (R202, R300, R334, R447, R465
to R468, R514, R593 to R600, R674).
-/

namespace Sys2Proof.Machine

/-! ## Memory training (R465 to R468) -/

/-- The memory profile of record 0x112 (R467). -/
structure MemProfile where
  /-- Gb/s per pin. -/
  rate : Nat
  /-- CLAMSHELL. -/
  clamshell : Bool
  /-- VDDQ_125. -/
  vddq125 : Bool
  /-- 16 Gb devices. -/
  dense : Bool
  /-- Output driver code. -/
  drive : Nat
  /-- On-die termination code. -/
  odt : Nat
  deriving DecidableEq, Repr

/-- A record that names a configuration of R465 at a rate of R466, its reserved fields 0; none where it is invalid. -/
def memProfileOf (b : List Byte) : Option MemProfile :=
  let p : MemProfile :=
    { rate := fieldAt b 0 1, clamshell := bitOf (fieldAt b 1 1) 0, vddq125 := bitOf (fieldAt b 1 1) 1,
      dense := fieldAt b 2 1 == 1, drive := fieldAt b 3 1, odt := fieldAt b 4 1 }
  let inRange := decide (12 ≤ p.rate ∧ p.rate ≤ 20 ∧ fieldAt b 1 1 < 4 ∧ fieldAt b 2 1 < 2 ∧ p.drive < 4 ∧ p.odt < 4) &&
    allZero (sliceZ b 5 11)
  if b.length == 16 && inRange && (p.clamshell || p.dense) && (!p.vddq125 || decide (p.rate ≤ 16)) then some p else none

/-- The devices fitted are of 16 Gb (R465). -/
def memDense (m : MemTraining) : Bool := m.gib16 || !m.clamshell

/-- The configuration fitted is one of R465. -/
def memFits (m : MemTraining) : Bool := !m.gib16 || m.clamshell

/-- A rate that retraining at 2 Gb/s less, down to 12 Gb/s, reaches from another (R468). -/
def rateReached (wanted rate : Nat) : Bool :=
  decide (12 ≤ rate ∧ rate ≤ wanted) && (rate == 12 || (wanted - rate) % 2 == 0)

/-- What the host learns of the memory fitted, whatever training finds (R467, R494). -/
def State.detectMemory (s : State) (m : MemTraining) (bad : Bool) : State :=
  { s with memc.capacityMib := if m.gib16 then 16384 else 8192, memc.dense := memDense m,
           memc.clamshell := m.clamshell, memc.rejected := bad }

/-- The header of slot A or B, or of the PCIe image at device address 0 (R596 to R598). -/
def State.imageAt (s : State) (k off n : Nat) : List Byte :=
  if k = 2 then s.dmem.readN off n else s.fw.flash.readN (k * 0x800000 + off) n

/-- The slot whose header Dawn reads first: the one with the greater seq, slot A when they are equal (R597). -/
def State.firstSlot (s : State) : Nat :=
  if seqAfter (word (leNat (s.imageAt 1 16 4))) (word (leNat (s.imageAt 0 16 4))) then 1 else 0

/-- With memory trained, Dawn reads the image that the straps name (R589, R597, R598). -/
def State.loadImage (s : State) : State :=
  if s.pwr.straps.boot = 1 then { s with pwr.phase := .pcieBootWait }
  else { s with pwr.phase := .imageLoad, fw.checking := some s.firstSlot }

/-- MEMORY_TRAINING_DONE (R467, R468): memory reads as never written, ECC region 0 stands below the reserve, and the periods
of the memory controllers begin. A failure stops Dawn. -/
def State.memoryTrained (s : State) (m : MemTraining) : State :=
  if s.pwr.phase != .rom then s
  else
    let rec112 := s.deviceRecord 0x112
    let prof : Option MemProfile := (rec112.bind memProfileOf).filter fun p => p.dense == memDense m && p.clamshell == m.clamshell
    let s := s.detectMemory m (rec112.isSome && prof.isNone)
    let wanted := prof.elim 12 (·.rate)
    let lost := m.failed.toNat
    if !memFits m || lost ≠ 0 then
      { s with pwr.phase := .memFailed, memc.failed := lost,
               memc.chans := (List.range 8).map fun k => if bitOf lost k then { state := .faulted } else {} }
    else if !rateReached wanted m.rate then s
    else
      { s with dmem := [],
               memc.rate := m.rate, memc.fallback := m.rate != wanted, memc.fromRecord := prof.isSome,
               memc.vddq125 := prof.any (fun (p : MemProfile) => p.vddq125), memc.drive := prof.elim 0 (·.drive), memc.odt := prof.elim 0 (·.odt),
               memc.trained := 0xFF, memc.chans := List.replicate 8 { state := .ready }, memc.periodNs := s.mtNs,
               memc.regNs := s.mtNs,
               memc.regions := some (s.memc.capacityMib - 256, 128) :: List.replicate 7 none }.loadImage

/-- MEMORY_TRAINING_DONE (R468). -/
def execMemoryTrainingDone (m : MemTraining) (s : State) : Host.Outcome State Fault Refusal := .next (s.memoryTrained m)

/-! ## Images (R596 to R598) -/

/-- The header is correct but for its signature (R596, R597). -/
def imageHeaderOk (h : List Byte) : Bool :=
  let len := fieldAt h 12 4
  leNat (h.take 4) == 0x31574655 && fieldAt h 4 1 == 1 && fieldAt h 7 1 == 0 && len % 4096 == 0 &&
    decide (4096 ≤ len ∧ len ≤ 8384512) && allZero (sliceZ h 20 12) && allZero (sliceZ h 128 3968)

/-- LAST_FAIL of an image, 0 for a valid one: 1 header, 5 length, 2 signature, 3 body digest, 4 security version (R597,
R645). `len` is the length that came with the image, header included. -/
def imageFault (h body : List Byte) (len : Option Nat) (minSecurity : Nat) : Nat :=
  if !imageHeaderOk h then 1
  else if len.any (· != fieldAt h 12 4 + 4096) then 5
  else if !Config.firmwareSigned (h.take 64) (sliceZ h 64 32) (sliceZ h 96 32) then 2
  else if sha256 body != sliceZ h 32 32 then 3
  else if fieldAt h 8 4 < minSecurity then 4
  else 0

/-- What checking an image finds. -/
def State.checkImage (s : State) (k : Nat) : Nat :=
  let h := s.imageAt k 0 4096
  imageFault h (s.imageAt k 4096 (min (fieldAt h 12 4) 8384512)) (if k = 2 then some s.fw.bootLen else none) s.fw.minSecurity

/-- Resolve the records that Dawn needs and the blob copies, load the volatile-held ones, and build the directory (R510,
R514). -/
def State.readStore (s : State) : State :=
  let s := ((s.resolveRecord 0x110).resolveRecord 0x111).loadVolatile.resolveCopies
  { s with nvm.dirReady := true }

/-- The firmware of an image starts (R593): the supervisor runs, calibration items 0 and 3 fall due (R549), and in immediate
mode the store is read (R514). -/
def State.startFirmware (s : State) (k : Nat) : State :=
  let h := s.imageAt k 0 64
  let s := { s with pwr.phase := .init, fw.checking := none, fw.major := fieldAt h 5 1, fw.minor := fieldAt h 6 1,
                    fw.security := fieldAt h 8 4, regs.bootSource := k, sup.supState := 0 }
  let s := if s.pwr.straps.nvmScan then s else s.readStore
  ((s.makeDue 0).makeDue 3).kickCal

/-- A PCIe image fails its check (R598). -/
def State.bootFails (s : State) (code : Nat) : State :=
  { s with pwr.phase := .pcieBootWait, fw.checking := none, regs.bootLastFail := code,
           regs.bootFailCount := satInc 255 s.regs.bootFailCount }

/-- A slot is invalid: the other one is tried, or Dawn waits for the host, or stops (R597). -/
def State.slotFails (s : State) (k : Nat) : State :=
  let s := { s with fw.invalid := s.fw.invalid ++ [k] }
  if !s.fw.invalid.contains (1 - k) then { s with fw.checking := some (1 - k) }
  else { s with fw.checking := none, pwr.phase := if s.pwr.straps.boot = 0 then .pcieBootWait else .bootFailed }

/-- IMAGE_CHECK_DONE (R597, R598). -/
def State.imageChecked (s : State) : State :=
  match s.fw.checking with
  | none => s
  | some k =>
    if s.pwr.phase != .imageLoad && s.pwr.phase != .imageCheck then s
    else
      let code := s.checkImage k
      if code = 0 then s.startFirmware k
      else if k = 2 then s.bootFails code
      else s.slotFails k

/-- IMAGE_CHECK_DONE (R597). -/
def execImageCheckDone (s : State) : Host.Outcome State Fault Refusal := .next s.imageChecked

/-! ## Command-ready (R593, R595, R674) -/

/-- The settings that the store holds take effect: ports and PTP, the panel profile, rails, VCOM and gate timing, the ray
model, and the chain head (R202, R300, R334, R408, R447). -/
def State.applyStore (s : State) : State :=
  let s := match s.deviceRecord 0x111 with
    | some b => s.applyNetRecord b
    | none => s
  let s := s.applyProfile
  let s := match s.deviceRecord 0x110 with
    | some b => if b.length = 48 then s.applyPanelRecord b else s
    | none => s
  s.loadModelAtDawn.dawnChain

/-- Dawn may reach command-ready: no warning, no sequence that still runs, and no orderly shutdown (R545, R674). -/
def State.mayBeReady (s : State) : Bool :=
  s.pwr.phase == .init && !s.pwr.warn && s.pwr.loss.all (fun l => l.sealed) && s.thm.shutdown.isNone &&
    s.pwr.dusk == .awake && s.sup.supState == 0 && !s.sup.fault

/-- AUTH_EVENT of each slot that proved invalid; its data are free values (R597, log 8). -/
def State.tellInvalid (s : State) : State :=
  s.fw.invalid.foldl (fun s _ => s.raiseFree { code := .authEvent }) s

/-- What firmware sets up by command-ready: the store's settings or the full scan, regulators, clocks, timers (R477, R514,
R541, R642), and the minimum security version (R599). -/
def State.dawnSettings (s : State) : State :=
  let s := if s.pwr.straps.nvmScan then { s with nvm.scan := 1, nvm.scanNs := s.mtNs } else s.applyStore
  let s := { s with fw.minSecurity := max s.fw.minSecurity s.fw.security, regs.heartbeatNs := s.mtNs,
                    memc.regNs := s.mtNs, ray.predictNs := s.mtNs }
  s.recomputeRates.setClocks

/-- A dip during Dawn counts as a brownout when its sequence saved record 0x121 (R674). -/
def State.lateBrownout (s : State) (l : LossSeq) : State :=
  if l.savedRun then { s with nvm.run.brownouts := s.nvm.run.brownouts + 1 }.saveRunning.raiseBrownout l else s

/-- A panel-power die without its supply has not answered on the die link by command-ready: its sensors are unusable, and the
panel stays off (R628, log 137). -/
def State.hearPanelDie (s : State) : State :=
  { s with pnl.silent := s.pnl.lockout,
           thm.sensors := (List.range 40).map fun i => { s.sensor i with silent := decide (32 ≤ i) && s.pnl.lockout } }

/-- COMMAND_READY (R593, R674). -/
def State.commandReady (s : State) : State :=
  if !s.mayBeReady then s
  else
    let loss := s.pwr.loss
    let s := { s with pwr.phase := .ready, pwr.ready := true, pwr.loss := none }.hearPanelDie.dawnSettings.tellInvalid
    let s := s.raiseReady 0 0
    let s := match loss with
      | some l => s.lateBrownout l
      | none => s
    (s.kickNvm false).fetchAll.kickCal

/-- COMMAND_READY (R593). -/
def execCommandReady (s : State) : Host.Outcome State Fault Refusal := .next s.commandReady

/-! ## The full scan (R514) -/

/-- Pages that hold a word of a list, each once, in ascending order. -/
def pagesWith (l : List Nat) : List Nat := (List.range 16384).filter fun p => l.any fun w => w / 8 == p

/-- The scan reads a page that holds uncorrectable words (R519). -/
def State.scanBad (s : State) (page : Nat) : State := s.raiseBad page (pageMask s.nvm.bad page)

/-- The scan refreshes a page that needed correction (R516). -/
def State.scanWeak (s : State) (page : Nat) : State :=
  { s.planRefresh page 0 with nvm.nCorrected := s.nvm.nCorrected + word (popCount8 (pageMask s.nvm.soft page)) }

/-- NVM_SCAN_END (R514): every frame is resolved, the records and blobs take effect, and weak pages are refreshed. -/
def State.scanEnd (s : State) : State :=
  if !s.scanning || s.nvm.halted || s.pwr.loss.isSome then s
  else
    let s := s.resolveFrames (List.range 256)
    let ids := ((List.range 256).filterMap fun f => (s.frameRecord f).map fun x => x.2.id).eraseDups
    let s := (ids.foldl (fun s id => s.resolveRecord id) s).readStore
    let s := { s with nvm.scan := 2, nvm.scanUs := word ((s.mtNs - s.nvm.scanNs) / 1000) }
    let s := (pagesWith s.nvm.bad).foldl (fun s p => s.scanBad p) s
    let s := (pagesWith s.nvm.soft).foldl (fun s p => s.scanWeak p) s
    (s.applyStore.kickNvm false).kickCal

/-- NVM_SCAN_END (R514). -/
def execNvmScanEnd (s : State) : Host.Outcome State Fault Refusal := .next s.scanEnd

end Sys2Proof.Machine
end

