-- ==== Sys2Proof/Machine/Evt.lean ====
section
/-!
DEFINITION. The EVT class: reading the log, the counters, masks and injected faults (R575, R579 to R582).
-/

namespace Sys2Proof.Machine

/-! ## EVT_LOG_READ (R575, R579) -/

/-- The entry of the log at the place of a seq, when it is whole and has that seq (R575). -/
def State.logEntryAt (s : State) (seq : Nat) : Option (List Byte) :=
  (s.wholeLogEntry (seq % 1536)).filter fun b => fieldAt b 4 4 == seq

/-- The whole entries held, oldest first, with their seq. -/
def State.logHeld (s : State) : List (Nat × List Byte) :=
  let next := s.sup.logNextSeq.toNat
  let first := next - 1536
  (List.range (next - first)).filterMap fun i => (s.logEntryAt (first + i)).map fun b => (first + i, b)

/-- EVT_LOG_READ (R579). With nothing held, the seq of the newest entry is a free value. -/
def runEvtLogRead (_t : Nat) (p : Packet) (s : State) : Answer :=
  let from_ := p.u32 16
  let count := p.u16 20
  let addr := p.u64 24
  if addr % 32 ≠ 0 then refuse .alignment 24
  else if count = 0 ∨ 1536 < count then refuse .badParam 20
  else if s.scanning then refuse .nvmBusy noField
  else
    let held := s.logHeld
    let want := (held.filter fun e => from_ == 0xFFFFFFFF || decide (from_ ≤ e.1)).take count
    match s.resolve p.src addr (32 * want.length) with
    | none => refuse .badParam 24
    | some l =>
      let s := s.writeAt l (want.flatMap (·.2))
      match held.getLast? with
      | some e => okay s want.length e.1
      | none =>
        let (v, s) := s.drawFree
        okay s want.length v

/-! ## EVT_COUNTERS (R580) -/

/-- The index of a selector of EVT_COUNTERS is in range. -/
def counterIndexOk (sel i : Nat) : Bool :=
  match sel with
  | 0 => decide (1 ≤ i ∧ i ≤ 10)
  | 1 => decide (i < 128)
  | 2 => decide (i < 96)
  | 3 => decide (i < 4)
  | _ => i == 0

/-- The two words of a selector of EVT_COUNTERS. -/
def State.counterWords (s : State) (sel i : Nat) : Nat × Nat :=
  let u := s.sup
  match sel with
  | 0 => ((u.detected.getD i 0).toNat, (u.recovered.getD i 0).toNat)
  | 1 => ((u.stretched.getD i 0).toNat, (u.islandResets.getD i 0).toNat)
  | 2 => ((u.coreFaults.getD i 0).toNat, u.coreState.getD i 0)
  | 3 => ((u.fabricFaults.getD i 0).toNat, b2n (u.clusterRetired.getD i false))
  | 4 => (u.restarts.toNat, u.longestRestart.toNat)
  | _ => (u.logWritten.toNat, u.logLost.toNat)

/-- EVT_COUNTERS (R580). -/
def runEvtCounters (_t : Nat) (p : Packet) (s : State) : Answer :=
  let sel := p.u8 16
  let i := p.u16 17
  if 5 < sel then refuse .badParam 16
  else if !counterIndexOk sel i then refuse .badParam 17
  else
    let (a, b) := s.counterWords sel i
    okay s a b

/-! ## EVT_MASK (R581) -/

/-- A code that EVT_MASK may name: one of R77, of a severity below 3, and not COMMAND_OUTCOME (R581). -/
def maskable (n : Nat) : Bool :=
  match EventCode.ofNumber n with
  | some c => decide (c.severity < 3) && c != .commandOutcome
  | none => false

/-- Mask or unmask a code in a set of codes. -/
def setMask (on : Bool) (c : Half) (cs : List Half) : List Half :=
  if on then c :: cs.filter (· != c) else cs.filter (· != c)

/-- EVT_MASK (R581): it acts on the issuing function's event ring, or on the sideband for ring 0x80. -/
def runEvtMask (_t : Nat) (p : Packet) (s : State) : Answer :=
  let n := p.u16 16
  let v := p.u8 18
  if !maskable n then refuse .badParam 16
  else if 1 < v then refuse .badParam 18
  else
    let c : Half := BitVec.ofNat 16 n
    match p.src with
    | .smbus => okay { s with smb.masked := setMask (v == 1) c s.smb.masked }
    | .ring f _ => okay (s.updEvt f fun r => { r with masked := setMask (v == 1) c r.masked })

/-! ## EVT_INJECT (R574, R582) -/

/-- A unit that a class of EVT_INJECT may name (R582). -/
def injectUnitOk (cls u : Nat) : Bool :=
  match cls with
  | 2 => decide (u < 96)
  | 3 => decide (104 ≤ u ∧ u < 108)
  | 4 => decide (u < 12)
  | 5 => decide (u < 8)
  | 7 => decide (u < 48)
  | 9 => decide (8 ≤ u ∧ u < 128)
  | _ => false

/-- A unit already faulted or retired (R582). -/
def State.unitOut (s : State) (cls u : Nat) : Bool :=
  match cls with
  | 2 => s.sup.coreState.getD u 0 != 0
  | 3 => s.sup.clusterRetired.getD (u - 104) false
  | 5 => (s.memc.chans.getD u {}).state == .faulted
  | 9 => (decide (u < 104) && s.sup.coreState.getD (u - 8) 0 != 0) ||
    (decide (104 ≤ u ∧ u < 108) && s.sup.clusterRetired.getD (u - 104) false)
  | _ => false

/-- A recovery is in progress: a fast retrain, an error retrain, or a memory island that restarts (R574). -/
def State.recovering (s : State) : Bool :=
  s.pnl.retrain.isSome || !s.memc.stalls.isEmpty ||
    (s.memc.chans.any fun (c : MemChan) => c.errorDue || c.state == .errorRetrain)

/-- The injected fault takes the path of its class (R582). -/
def State.inject (s : State) (cls u : Nat) : State :=
  match cls with
  | 2 => s.rayCoreFault u true
  | 3 => s.fabricFault (u - 104) true
  | 4 => s.codecCoreFault u true
  | 5 => s.channelFault u true
  | 7 => s.laneFault u true
  | _ => s.islandStall u true

/-- EVT_INJECT (R582): it has committed when the fault acts, so that its own status stands (R574). -/
def runEvtInject (t : Nat) (p : Packet) (s : State) : Answer :=
  let cls := p.u8 16
  let u := p.u16 17
  if !(cls == 2 || cls == 3 || cls == 4 || cls == 5 || cls == 7 || cls == 9) then refuse .badParam 16
  else if !injectUnitOk cls u then refuse .badParam 17
  else if s.unitOut cls u then refuse .wrongState 17
  else if s.recovering then refuse .busy noField
  else okay ((s.dropFlight t).inject cls u)

/-- EVT_LOG_READ (R579). -/
def execEvtLogRead (p : Packet) (s : State) : Host.Outcome State Fault Refusal :=
  .next (s.issue .evtLogRead runEvtLogRead p)

/-- EVT_COUNTERS (R580). -/
def execEvtCounters (p : Packet) (s : State) : Host.Outcome State Fault Refusal :=
  .next (s.issue .evtCounters runEvtCounters p)

/-- EVT_MASK (R581). -/
def execEvtMask (p : Packet) (s : State) : Host.Outcome State Fault Refusal := .next (s.issue .evtMask runEvtMask p)

/-- EVT_INJECT (R582). -/
def execEvtInject (p : Packet) (s : State) : Host.Outcome State Fault Refusal :=
  .next (s.issue .evtInject runEvtInject p)

end Sys2Proof.Machine
end

