-- ==== Sys2Proof/Machine/Frame.lean ====
section
/-!
DEFINITION. Frame-start events: what places them and what they carry (R30 to R36, R291, R294, R304 to R312, R318 to R323,
R442, R663).
-/

namespace Sys2Proof.Machine

/-! ## What a frame-start event carries -/

/-- A TIME_STEP of DT that waits applies before the event is latched (R442). -/
def State.applyDtStep (s : State) : State :=
  match s.time.dtStep with
  | none => s
  | some d => { s with time.dt := wrapTime (s.time.dt + d), time.dtStep := none }.aimPulses 1

/-- A timing that has committed comes into force (R294): this event is the one behind which a source is acquired (R306). -/
def State.swapTiming (s : State) (mt : Nat) : State :=
  match s.dsp.timingNext with
  | none => s
  | some (t, ticket) =>
    { { s with dsp.frameMt := some mt }.putTiming t ticket with dsp.nextGrid := some (mt + t.period) }

/-- The refresh rate of the refresh that begins, with STILL_RATE when it changes (R318 to R320), and the VCOM code of that
rate where the gate activity before has not brought it (R333). -/
def State.takeRate (s : State) (base : Bool) : State :=
  let old := s.dsp.rate
  let new := if base then 0 else s.dsp.rateNext.getD old
  let s := { s with dsp.rate := new, dsp.rateNext := none, dsp.wantBase := false }.switchVcom new
  if new = old then s
  else
    { s with dsp.stillSince := s.mtNs }.raise
      { code := .stillRate, source := 121, data0 := s.hzOf new, data1 := s.hzOf old }

/-- The complete woven frame that an event at this instant flips in: not one that has become complete in the same cycle of the
timing clock, which R30 puts behind the event (log 123). -/
def State.flippable (s : State) : Option Woven := s.ray.complete.filter fun w => decide (w.doneMt < s.time.mt)

/-- A complete woven frame is flipped in and presented; a repeated one may count as a miss (R30 to R33, R122, R230, R240). -/
def State.flipWoven (s : State) : State :=
  let s := { s with dsp.repeated := false, dsp.missedNow := false }
  match s.flippable with
  | some w =>
    { s with ray.complete := none, ray.presented := some w, ray.shownSlot := some w.inp.slot, dsp.psn := s.dsp.psn + 1,
             dsp.shown := true, dsp.stillSince := s.mtNs }.settleWindow
  | none =>
    if s.ray.presented.isNone then s
    else match (if s.dsp.rate = 0 && !s.onAirStalled && s.strm.onAir.isSome then s.ray.window else none) with
    | none => { s with dsp.repeated := true, ray.nRepeats := s.ray.nRepeats + 1 }
    | some w =>
      { s with dsp.repeated := true, dsp.missedNow := true, ray.nMissed := s.ray.nMissed + 1, ray.goodWindows := 0,
               ray.window := some { w with missed := true } }.raise
        { code := .flipMissed, source := 121, data0 := s.dsp.dfn.toNat % 0x100000000,
          data1 := (w.tiles.filter fun (t : Tile) => t.state != TileState.committed).length }

/-- The difference in pixel clocks between the refresh that ends at `mt` and a nominal one (R306). -/
def State.refreshDiff (s : State) (t : Timing) (mt : Nat) : Int :=
  match s.dsp.frameMt with
  | none => 0
  | some f => if t.period = 0 then 0 else rndDiv (((mt : Int) - f - t.period) * t.clocks) t.period

/-- An acquired source places its first frame-start event (R306, R309, R440). -/
def State.placeLock (s : State) (t : Timing) (mt : Nat) : State :=
  let src := s.dsp.lock.source
  let diff := s.refreshDiff t mt
  let s := { s with dsp.acquired := false, dsp.lockState := if src = 0 then .free else .locked, dsp.holdUntil := none,
                    dsp.missedRow := 0 }
  let s := match src with
    | 1 => s.steerDt t s.dsp.period
    | 2 => { s with time.dtInc := s.time.ntInc }
    | _ => s
  s.raise { code := .lockAcquired, source := 121, data0 := src, data1 := unsignedOf 32 diff }

/-- Outcomes that a frame-start event settles: DSP_TIMING_SET, and DSP_LOCK to FREE (R294, R303). -/
def State.frameOutcomes (s : State) : State :=
  let s := match s.dsp.timingDue with
    | none => s
    | some t => { s with dsp.timingDue := none }.outcome t .ok s.dsp.dfn.lo.toNat
  match s.dsp.lockWait with
  | some (t, _, _) => if s.dsp.lock.source = 0 then { s with dsp.lockWait := none }.outcome t .ok 0 else s
  | none => s

/-- The time-stamp of the event at MT `mt` (R35, R323): a scheduled event carries its instant on NT itself. -/
def State.takeStamp (s : State) (mt : Nat) (nt : Option Nat) : State :=
  { s with dsp.stamp := nt.getD (s.baseWhen 0 mt) :: [1, 2, 3].map fun n => s.baseWhen n mt, dsp.frameMt := some mt }

/-- The slot in which a refresh begins: active line 0 comes the offset behind the event, and slots of the tail of the refresh
before lie between them (R311, R341). -/
def State.eventSlot (s : State) : Int := -((s.dsp.offset / (s.dsp.timing.elim 1 Timing.htotal) : Nat) : Int)

/-- A frame-start event, stamped with MT `mt`, and with an instant on NT where one places it; `placed` when an acquired source
may place its first one with it, which the event of a new timing never is (R306). The panel state does not enter it (R327). -/
def State.frameStart (s : State) (mt : Nat) (nt : Option Nat) (placed base : Bool) : State :=
  let placed := placed && s.dsp.timingNext.isNone
  let s := (s.applyDtStep).swapTiming mt
  let s := { s with dsp.dfn := s.dsp.dfn + 1, dsp.gridCount := 0,
                    dsp.offset := s.dsp.offsetNext.getD s.dsp.offset, dsp.offsetNext := none,
                    time.refUsed := s.time.refPresent,
                    dsp.syncPulses := if s.dsp.lock.syncOut then s.dsp.syncPulses + 1 else s.dsp.syncPulses }
  let s := { s with dsp.slot := s.eventSlot }
  let s := (s.takeRate base).flipWoven
  let s := match s.dsp.timing with
    | some t => if placed && s.dsp.acquired then s.placeLock t mt else s
    | none => s
  let s := s.takeStamp mt nt
  let s := s.latchLayers
  let s := { s with ray.armed := true }.panelFrame
  let s := s.takeWitness.sweepHeld
  s.frameOutcomes

/-- An instant of the base grid at MT `mt`: in Still mode it carries a frame-start event only when one is due (R318). -/
def State.gridInstant (s : State) (mt : Nat) (nt : Option Nat) (placed : Bool) : State :=
  let base := s.baseWanted mt
  if placed || base || s.dsp.timingNext.isSome || decide (s.stillStep ≤ s.dsp.gridCount + 1) then s.frameStart mt nt placed base
  else { s with dsp.gridCount := s.dsp.gridCount + 1 }

/-! ## SYNC_IN_EDGE (R305, R306, R308, R440) -/

/-- Half the window in which an edge is accepted: 2 us in 2^-32 ns. -/
def edgeWindow : Nat := 2000 * 0x100000000

/-- An edge inside its window places the next base-grid instant (R305). -/
def State.acceptEdge (s : State) (t : Timing) (edge grid : Nat) : State :=
  let fresh := match s.dsp.lastEdge with
    | some l => if s.dsp.missedRow = 0 then some (edge - l) else none
    | none => none
  let s := { s with dsp.phasePs := ((edge : Int) - grid) * 1000 / 0x100000000, dsp.missedRow := 0, dsp.lastEdge := some edge,
                    dsp.period := fresh.getD s.dsp.period, dsp.periods := (fresh.toList ++ s.dsp.periods).take 16 }
  let s := (s.steerDt t s.gridPeriod)
  { s with dsp.nextGrid := some (edge + s.gridPeriod) }.gridInstant edge none false

/-- Edges in a row after one more edge: four whose three intervals lie within 500 ppm of the nominal period acquire the
source (R306). -/
def State.countEdge (s : State) (t : Timing) (edge : Nat) : State :=
  let good := match s.dsp.lastEdge with
    | some l => decide (2000 * ((edge - l - t.period) + (t.period - (edge - l))) ≤ t.period)
    | none => false
  let interval := edge - s.dsp.lastEdge.getD edge
  let s := { s with dsp.lastEdge := some edge, dsp.goodEdges := if good then s.dsp.goodEdges + 1 else 1,
                    dsp.period := if good then interval else s.dsp.period,
                    dsp.periods := if good then (interval :: s.dsp.periods).take 16 else [] }
  if 4 ≤ s.dsp.goodEdges then (if s.dsp.acquired then s else s.lockAcquired) else { s with dsp.acquired := false }

/-- An edge of a source that is not yet locked (R306, R309). -/
def State.acquireEdge (s : State) (t : Timing) (edge : Nat) : State :=
  let s := s.countEdge t edge
  if !s.dsp.acquired then s
  else
    let s := { s with dsp.nextGrid := some (edge + s.dsp.period) }
    let far := match s.dsp.frameMt with
      | none => true
      | some f => decide (f + t.minSpan ≤ edge)
    if far then s.gridInstant edge none true else s

/-- SYNC_IN_EDGE (R305): an active edge, `sub` units of 2^-32 ns behind the last timing-clock cycle. -/
def State.syncEdge (s : State) (sub : Nat) : State :=
  match s.dsp.timing, s.dsp.nextGrid with
  | some t, some g =>
    let edge := s.time.mt + sub % s.time.mtInc
    if s.dsp.lock.source != 1 || !s.fabricUp then s
    else if s.dsp.lockState != .locked then s.acquireEdge t edge
    else if edge - g ≤ edgeWindow ∧ g - edge ≤ edgeWindow then s.acceptEdge t edge g
    else { s with dsp.nSpurious := s.dsp.nSpurious + 1 }
  | _, _ => s

/-- SYNC_IN_EDGE (R305). -/
def execSyncInEdge (sub : Nat) (s : State) : Host.Outcome State Fault Refusal := .next (s.syncEdge sub)

/-! ## MISSED_EDGE (R305, R308) -/

/-- MISSED_EDGE (R305): the predicted instant has passed with no edge; the third in a row loses the source. -/
def State.missEdge (s : State) : State :=
  match s.dsp.timing, s.dsp.nextGrid with
  | some _, some g =>
    if s.dsp.lock.source != 1 || !(s.dsp.lockState == .locked || s.dsp.acquired) || decide (s.time.mt < g) ||
        !s.fabricUp then s
    else
      let s := { s with dsp.nMissedEdges := s.dsp.nMissedEdges + 1, dsp.missedRow := s.dsp.missedRow + 1 }
      let s := if 3 ≤ s.dsp.missedRow then s.loseLock else s
      { s with dsp.nextGrid := some (g + s.gridPeriod) }.gridInstant g none false
  | _, _ => s

/-- MISSED_EDGE (R305). -/
def execMissedEdge (s : State) : Host.Outcome State Fault Refusal := .next s.missEdge

/-! ## SCHEDULED_INSTANT (R304, R306, R443) -/

/-- SCHEDULED_INSTANT (R304): NT has reached the instant. -/
def State.scheduledInstant (s : State) : State :=
  match s.dsp.timing with
  | none => s
  | some t =>
    let nt := scheduled s.dsp.lock.t0 t.refresh s.dsp.instant
    if s.dsp.lock.source != 2 || !(s.dsp.lockState == .locked || s.dsp.acquired) || decide (s.time.nt < nt) ||
        !s.fabricUp || !s.rasterRuns then s
    else
      let mt := s.mtWhenNt nt
      let fresh := s.dsp.lastEdge.map (mt - ·)
      let s := { s with dsp.instant := s.dsp.instant + 1, dsp.lastEdge := some mt, dsp.period := fresh.getD s.dsp.period,
                        dsp.periods := (fresh.toList ++ s.dsp.periods).take 16 }
      { s with dsp.nextGrid := some (s.instantMt t) }.gridInstant mt (some nt) s.dsp.acquired

/-- SCHEDULED_INSTANT (R304). -/
def execScheduledInstant (s : State) : Host.Outcome State Fault Refusal := .next s.scheduledInstant

/-! ## FREE_RUN_PERIOD (R304, R306, R308) -/

/-- Frame-start events follow the nominal or the holdover period at the instant `g`: no acquired source will place the next
one. -/
def State.freeDriven (s : State) (t : Timing) (g : Nat) : Bool :=
  if s.dsp.lock.source = 0 then true
  else if s.dsp.lockState == .locked then false
  else if s.dsp.acquired then s.dsp.lock.source = 2 && decide (g + t.minSpan ≤ s.instantMt t)
  else true

/-- FREE_RUN_PERIOD (R304): the period has elapsed. -/
def State.freeRun (s : State) : State :=
  match s.dsp.timing, s.dsp.nextGrid with
  | some t, some g =>
    if s.time.mt < g || !s.fabricUp then s
    else
      let s := s.acquireScheduled
      if !s.freeDriven t g then s
      else { s with dsp.nextGrid := some (g + s.gridPeriod) }.gridInstant g none (s.dsp.lock.source = 0 && s.dsp.acquired)
  | _, _ => s

/-- FREE_RUN_PERIOD (R304). -/
def execFreeRunPeriod (s : State) : Host.Outcome State Fault Refusal := .next s.freeRun

/-- REF10M_PRESENCE_CHANGE (R663): the timing clock switches at the next frame-start event. -/
def execRef10mPresenceChange (present : Bool) (s : State) : Host.Outcome State Fault Refusal :=
  .next { s with time.refPresent := present }

end Sys2Proof.Machine
end

