-- ==== Sys2Proof/Machine/Fw.lean ====
section
/-!
DEFINITION. FW_UPDATE and FW_DEBUG_UNLOCK (R601, R603).
-/

namespace Sys2Proof.Machine

/-- The slot that the device did not boot from; slot B after a PCIe boot (R601). -/
def State.spareSlot (s : State) : Nat := if s.regs.bootSource = 1 then 0 else 1

/-- FW_UPDATE (R601): the passed check commits it, and the erase of the header sector makes the slot invalid. -/
def runFwUpdate (t : Nat) (p : Packet) (s : State) : Answer :=
  let len := p.u32 16
  let a := p.u64 24
  if 8388608 < len ∨ len % 4096 ≠ 0 then refuse .badParam 16
  else if a % 4 ≠ 0 then refuse .alignment 24
  else match s.resolve p.src a len with
  | none => refuse .badParam 24
  | some l =>
    let h := s.readAt l (min len 4096)
    if len ≠ fieldAt h 12 4 + 4096 then refuse .badParam 16
    else if s.pwr.straps.boot = 1 then refuse .wrongState noField
    else if s.fw.update.isSome || s.pwr.dusk != .awake then refuse .busy noField
    else
      let img := s.readAt l len
      if imageFault h (img.drop 4096) none s.fw.minSecurity ≠ 0 then refuse .authFailed noField
      else
        let k := s.spareSlot
        .started { s with fw.update := some (t, k, img), fw.flash := s.fw.flash.clearSpan (k * 0x800000) 4096 } true

/-- FW_UPDATE_READBACK_DONE (R601): the slot holds the image, its header programmed last. -/
def State.updateDone (s : State) : State :=
  match s.fw.update with
  | none => s
  | some (t, k, img) =>
    if s.pwr.loss.isSome || s.sup.fault || s.sup.supState != 0 then s
    else
      let s := { s with fw.update := none, fw.flash := s.fw.flash.writeN (k * 0x800000) img }
      (s.finish t .ok k 0).raiseFree { code := .fwUpdated }

/-- FW_UPDATE_READBACK_DONE (R601). -/
def execFwUpdateReadbackDone (s : State) : Host.Outcome State Fault Refusal := .next s.updateDone

/-- FW_DEBUG_UNLOCK (R603). -/
def runFwDebugUnlock (_t : Nat) (p : Packet) (s : State) : Answer :=
  let len := p.u32 16
  let a := p.u64 24
  if 1024 < len then refuse .badParam 16
  else if a % 4 ≠ 0 then refuse .alignment 24
  else match s.resolve p.src a len with
  | none => refuse .badParam 24
  | some l => match Config.debugCredential (s.readAt l len) with
    | none => refuse .authFailed noField
    | some (serial, notAfter) =>
      if serial ≠ Config.serial then refuse .authFailed noField
      else if !s.net.etSet || decide (notAfter < secField s.time.et) || s.wit.running ||
          s.wit.stop.isSome then refuse .wrongState noField
      else okay { s with sup.debugOpen := true }

/-- FW_UPDATE (R601). -/
def execFwUpdate (p : Packet) (s : State) : Host.Outcome State Fault Refusal := .next (s.issue .fwUpdate runFwUpdate p)
/-- FW_DEBUG_UNLOCK (R603). -/
def execFwDebugUnlock (p : Packet) (s : State) : Host.Outcome State Fault Refusal :=
  .next (s.issue .fwDebugUnlock runFwDebugUnlock p)

end Sys2Proof.Machine
end

