-- ==== Sys2Proof/Machine/MemLink.lean ====
section
/-!
DEFINITION. Retraining of the memory channels and link errors (R315, R482 to R488).
-/

namespace Sys2Proof.Machine

/-! ## Periodic pauses (R482 to R484) -/

/-- The retraining period in progress at this moment; a period that the host has set begins with the next one (R484). -/
def State.rollPeriod (s : State) : State :=
  let old := s.memc.retrainMs * 1000000
  if s.mtNs < s.memc.periodNs + old then s
  else
    let ms := s.memc.retrainNext.getD s.memc.retrainMs
    let start := s.memc.periodNs + old
    let n := (s.mtNs - start) / (ms * 1000000)
    { s with memc.retrainMs := ms, memc.retrainNext := none, memc.periodNs := start + n * (ms * 1000000),
             memc.period := s.memc.period + 1 + n }

/-- Port 0 or port 1 holds an urgent or critical request (R315, R483). -/
def State.memUrgent (s : State) : Bool :=
  s.dsp.wovenBuf.urgent || s.dsp.wovenBuf.critical || s.dsp.layerBufs.any fun (b : LineBuf) => b.urgent || b.critical

/-- Some channel is in a pause or an error retrain (R483). -/
def State.retraining (s : State) : Bool :=
  s.memc.chans.any fun (c : MemChan) => c.state == .pause || c.state == .errorRetrain

/-- A pause may not start (R483, R487). -/
def State.pauseBlocked (s : State) : Bool :=
  s.memUrgent || s.retraining || s.memc.chans.any fun (c : MemChan) => c.errorDue

/-- A channel serves requests or is about to. -/
def MemChan.live (c : MemChan) : Bool := c.state == .ready || c.state == .pause || c.state == .errorRetrain

/-- The memory controllers run. -/
def State.memRuns (s : State) : Bool := s.fabricUp && !s.stopped

/-- A pause starts (R482). -/
def MemChan.beginPause (now : Nat) (c : MemChan) : MemChan := { c with state := .pause, due := false, since := now }

/-- A pause is put off (R483). -/
def MemChan.defer (c : MemChan) : MemChan := { c with due := true, nDeferred := c.nDeferred + 1 }

/-- RETRAIN_PAUSE_DUE (R482, R483): one that was still put off is skipped and counted. -/
def State.pauseDue (s : State) (k : Nat) : State :=
  let s := s.rollPeriod
  let c := s.chan k
  let due := s.memc.periodNs + k * s.memc.retrainMs * 125000
  if !s.memRuns || !c.live || c.round == some s.memc.period || s.mtNs < due then s
  else
    let s := s.updChan k fun c => { c with round := some s.memc.period, nSkipped := c.nSkipped + word (b2n c.due) }
    if s.pauseBlocked then s.updChan k MemChan.defer else s.updChan k (MemChan.beginPause s.mtNs)

/-- RETRAIN_PAUSE_DUE (R482). -/
def execRetrainPauseDue (ch : Fin 8) (s : State) : Host.Outcome State Fault Refusal := .next (s.pauseDue ch.val)

/-- RETRAIN_PAUSE_START (R483). -/
def State.pauseStart (s : State) (k : Nat) : State :=
  let c := s.chan k
  if !s.memRuns || !c.due || c.state != .ready || s.pauseBlocked then s else s.updChan k (MemChan.beginPause s.mtNs)

/-- RETRAIN_PAUSE_START (R483). -/
def execRetrainPauseStart (ch : Fin 8) (s : State) : Host.Outcome State Fault Refusal := .next (s.pauseStart ch.val)

/-- RETRAIN_PAUSE_END (R482): what has waited is served. -/
def State.pauseEnd (s : State) (k : Nat) : State :=
  if (s.chan k).state != .pause then s
  else (s.updChan k fun c => { c with state := .ready, nPauses := c.nPauses + 1 }).runChan k

/-- RETRAIN_PAUSE_END (R482). -/
def execRetrainPauseEnd (ch : Fin 8) (s : State) : Host.Outcome State Fault Refusal := .next (s.pauseEnd ch.val)

/-! ## Link errors (R485, R486, R488) -/

/-- MEM_RETRIED, at most once every 10 ms for a channel (R488). -/
def State.tellRetries (s : State) (k : Nat) : State :=
  let c := s.chan k
  if c.toldNs.any fun t => decide (s.mtNs < t + 10000000) then s
  else
    (s.updChan k fun c => { c with toldNs := some s.mtNs, untold := 0 }).raise
      { code := .memRetried, source := 123 + k / 4, data0 := k, data1 := c.untold }

/-- A transfer is retried and counted (R485). -/
def MemChan.retry (c : MemChan) : MemChan := { c with nRetried := c.nRetried + 1, untold := c.untold + 1 }

/-- Transfers that failed within the last `span` ns. -/
def MemChan.failures (c : MemChan) (now span : Nat) : Nat := (c.recent.filter fun t => decide (now ≤ t + span)).length

/-- LINK_CRC_FAIL (R485, R486). The command does not say which transfer failed: where five failures lie within the 0.2 us that
four retries take, whether they are one transfer's is a free value (log 38). -/
def State.crcFail (s : State) (k : Nat) : State :=
  let c := s.chan k
  if !s.memRuns || c.state != .ready || c.errorDue then s
  else
    let now := s.mtNs
    let (v, s) := s.drawFree
    let s := (s.countDetected 5).updChan k fun c =>
      { c with recent := c.recent.filter (fun t => decide (now ≤ t + 1000)) ++ [now] }
    let c := s.chan k
    if 5 ≤ c.failures now 200 ∧ v % 2 = 1 then s.updChan k (MemChan.needRetrain false)
    else
      let s := (s.updChan k MemChan.retry).tellRetries k
      if 8 < c.failures now 1000 then s.updChan k (MemChan.needRetrain false) else s.recovered 5 k false

/-- LINK_CRC_FAIL (R485): reads are reissued and writes resent alike. -/
def execLinkCrcFail (ch : Fin 8) (_write : Bool) (s : State) : Host.Outcome State Fault Refusal :=
  .next (s.crcFail ch.val)

/-! ## Error retrains (R486, R487) -/

/-- ERROR_RETRAIN_START (R487): once no channel is in a pause or an error retrain. -/
def State.errorStart (s : State) (k : Nat) : State :=
  let c := s.chan k
  if !s.memRuns || !c.errorDue || c.state != .ready || s.retraining then s
  else s.updChan k fun c => { c with state := .errorRetrain, errorDue := false, since := s.mtNs, nErrors := c.nErrors + 1 }

/-- ERROR_RETRAIN_START (R487). -/
def execErrorRetrainStart (ch : Fin 8) (s : State) : Host.Outcome State Fault Refusal := .next (s.errorStart ch.val)

/-- A retrained channel serves again, and its fault, or the stall of its island, is recovered (R486, R567, R570). -/
def State.retrained (s : State) (k : Nat) (injected : Bool) : State :=
  let s := (s.updChan k fun c => { c with state := .ready, errorFails := 0, injected := false, recent := [] }).runChan k
  let i := 123 + k / 4
  match s.memc.stalls.find? fun x => x.1 == i with
  | none => s.recovered 5 k injected
  | some (_, _, inj) =>
    let mine := (List.range 4).map fun n => s.chan (4 * (k / 4) + n)
    if mine.any fun (c : MemChan) => c.errorDue || c.state == .errorRetrain then s
    else { s with memc.stalls := s.memc.stalls.filter fun x => x.1 != i }.recovered 9 i inj

/-- ERROR_RETRAIN_END (R486): after two failures in succession the channel is faulted, which is unrecovered (R572). -/
def State.errorEnd (s : State) (k : Nat) (ok : Bool) : State :=
  let c := s.chan k
  if c.state != .errorRetrain then s
  else
    let s := s.raise { code := .memRetrained, source := 123 + k / 4, data0 := k,
                       data1 := if ok then s.mtNs - c.since else 0xFFFFFFFF, injected := c.injected }
    if ok then s.retrained k c.injected
    else if c.errorFails = 0 then
      s.updChan k fun c => { c with state := .ready, errorDue := true, errorFails := 1 }
    else
      let s := { s with memc.failed := s.memc.failed ||| 2 ^ k }.updChan k fun c => { c with state := .faulted, errorFails := 2 }
      s.unrecovered 5 k

/-- ERROR_RETRAIN_END (R486). -/
def execErrorRetrainEnd (ch : Fin 8) (ok : Bool) (s : State) : Host.Outcome State Fault Refusal :=
  .next (s.errorEnd ch.val ok)

end Sys2Proof.Machine
end

