-- ==== Sys2Proof/Machine/Servo.lean ====
section
/-!
DEFINITION. The messages of the PTP servo (R450, R453, R454, R455). Layouts of PTP messages come from IEEE 1588-2019, which
the manual names (log 12). The Announce comparison is that of its data set comparison algorithm (log 33).
-/

namespace Sys2Proof.Machine

/-! ## PTP messages -/

/-- Clock identity: the MAC address with FF-FE in its middle (log 12). -/
def clockIdentity (mac : Nat) : List Byte := beBytes 3 (mac / 0x1000000) ++ [0xFF, 0xFE] ++ beBytes 3 (mac % 0x1000000)

/-- Port identity of port `n`: 10 bytes. -/
def portIdentity (n : Nat) : List Byte := clockIdentity Config.macA ++ beBytes 2 (n + 1)

/-- A time-stamp of a PTP message, from units of 2^-16 ns: seconds in 6 bytes and nanoseconds in 4. -/
def ptpStamp (t : Nat) : List Byte := beBytes 6 (t / 65536 / 1000000000) ++ beBytes 4 (t / 65536 % 1000000000)

/-- A PTP message of version 2: type, domain, flags, correction in 2^-16 ns, sequence, logMessageInterval, body. -/
def ptpMessage (n typ domain : Nat) (corr : Int) (seq log : Nat) (body : List Byte) : List Byte :=
  [byte typ, 2] ++ beBytes 2 (34 + body.length) ++ [byte domain, 0] ++ beBytes 2 0 ++ beBytes 8 (unsignedOf 64 corr) ++
    beBytes 4 0 ++ portIdentity n ++ beBytes 2 seq ++ [byte (typ % 16), byte log] ++ body

/-- A PTP event message leaves a port, over UDP or Ethernet; `peer` selects the peer-delay addresses. -/
def State.sendPtp (s : State) (n : Nat) (udp peer : Bool) (stamp : OutStamp) (m : List Byte) : State :=
  if udp then
    let dst := if peer then 0xE000006B else 0xE0000181
    let ip := ipPacket (s.port n).ipv4 dst 17 1 [] (udpPacket 319 319 m)
    s.sendStamped n 1 stamp (ethFrame (groupMac dst) (macOf n) 0x0800 ip)
  else s.sendStamped n 1 stamp (ethFrame (if peer then 0x0180C200000E else 0x011B19000000) (macOf n) 0x88F7 m)

/-! ## The best master (R454) -/

/-- Two numbers in turn: less, or undecided. -/
def firstLess : List (Nat × Nat) → Bool
  | [] => false
  | (a, b) :: rest => decide (a < b) || (a == b && firstLess rest)

/-- One Announce is better than another: the data set comparison of IEEE 1588-2019 for a slave-only clock. -/
def betterMaster (a b : PtpAnnounce) : Bool :=
  firstLess [(a.priority1, b.priority1), (a.clockClass, b.clockClass), (a.accuracy, b.accuracy), (a.variance, b.variance),
    (a.priority2, b.priority2), (a.grandmaster, b.grandmaster), (a.steps, b.steps), (a.sender, b.sender)]

/-- The best of a list of masters. -/
def bestMaster : List PtpAnnounce → Option PtpAnnounce
  | [] => none
  | a :: as => match bestMaster as with
    | none => some a
    | some b => if betterMaster b a then some b else some a

/-- The servo listens to messages of a domain on a port over a transport. -/
def State.servoHears (s : State) (port : Port) (domain transport : Nat) : Bool :=
  s.slavePort == some (portIdx port) && domain == s.net.domain && transport == s.net.transport && (s.port (portIdx port)).link &&
    (s.port (portIdx port)).mode != 0 && s.fabricUp

/-- The best master of those heard is selected; the others are kept. -/
def State.selectMaster (s : State) (ms : List PtpAnnounce) : State :=
  match bestMaster ms with
  | none => { s with net.master := none, net.others := [] }
  | some m => { s with net.master := some m, net.others := ms.filter fun a => a.sender != m.sender }

/-- PTP_ANNOUNCE_RECEIVED (R454). -/
def State.announce (s : State) (m : PtpAnnounce) : State :=
  if !s.servoHears m.port m.domain m.transport then s
  else
    let s := s.selectMaster (m :: (s.net.others ++ s.net.master.toList).filter fun a => a.sender != m.sender)
    s.steerEt

/-- PTP_ANNOUNCE_RECEIVED (R454). -/
def execPtpAnnounceReceived (m : PtpAnnounce) (s : State) : Host.Outcome State Fault Refusal := .next (s.announce m)

/-! ## Syncs (R454) -/

/-- The Sync interval in ns. -/
def syncInterval (log : Int) : Nat :=
  max 1 (if 0 ≤ log then 1000000000 * 2 ^ log.toNat else 1000000000 / 2 ^ (-log).toNat)

/-- The delay of the slave port's path, 1/16 ns: meanLinkDelay in P2P, the measured path otherwise (R454). -/
def State.pathDelayNow (s : State) (n : Nat) : Int :=
  if s.net.tcMode = 2 then (s.port n).meanDelay else s.net.pathDelay

/-- One term of the servo, limited to 500,000 ppb (R454). -/
def servoTerm (integ off : Int) (k ival : Nat) : Int :=
  clampInt (integ - off * 1000000000 / ((k * ival : Nat) : Int)) (-500000) 500000

/-- The servo acts on the offset of one Sync (R454). -/
def State.servoStep (s : State) (off : Int) (ival : Nat) : State :=
  if s.net.servo != .locked && decide (10000 < off.natAbs) then
    let d := -off * (0x100000000 : Nat)
    let s := { s with time.nt := stepTime s.time.nt d, net.integ := 0, net.goodSyncs := 0, net.nSteps := s.net.nSteps + 1 }
    (s.aimPulses 0).ntStepped d.natAbs
  else
    let integ := servoTerm s.net.integ off 64 ival
    let adj := servoTerm integ off 8 ival
    let s := { s with net.integ := integ, net.goodSyncs := if off.natAbs < 100 then s.net.goodSyncs + 1 else 0 }
    let s := s.setNtInc (adjusted 0x200000000 adj)
    if s.net.servo != .locked && decide (16 ≤ s.net.goodSyncs) then
      let s := { s with net.servo := .locked }.raise
        { code := .ptpLocked, source := 126, data0 := unsignedOf 32 off,
          data1 := s.net.slave - 1 + 256 * (s.net.master.elim 0 fun m => m.clockClass % 256) }
      s.acquireScheduled
    else s

/-- PTP_SYNC_RECEIVED (R454): a Sync from the selected master; its ingress time-stamp is NT at this moment (R453). -/
def State.sync (s : State) (m : PtpSync) : State :=
  let n := portIdx m.port
  if !s.servoHears m.port m.domain m.transport || !s.net.master.any fun a => a.sender == m.sender then s
  else
    let span : Int := (s.time.nt / 0x10000 : Nat) - (m.origin : Int) - m.correction
    let off := (span - s.pathDelayNow n * 4096) / 65536
    let s := { s with net.syncSpan := span, net.offset := off, net.lastSync := s.mtNs }
    if s.isExpert policyServo then s
    else
      let s := if s.net.servo == .locked then s else { s with net.servo := .unlocked }
      (s.servoStep off (syncInterval m.logInterval)).steerEt

/-- PTP_SYNC_RECEIVED (R454). -/
def execPtpSyncReceived (m : PtpSync) (s : State) : Host.Outcome State Fault Refusal := .next (s.sync m)

/-! ## Path measurement (R450, R454) -/

/-- 2 to a signed power in ns. -/
def logNs (log : Int) : Nat := syncInterval log

/-- DELAY_REQ_INTERVAL (R454): in E2E the servo sends a Delay_Req at the interval that the master states. -/
def State.delayReq (s : State) : State :=
  match s.slavePort with
  | none => s
  | some n =>
    if s.net.tcMode = 2 || s.net.master.isNone || decide (s.mtNs < s.net.delayDue) || !(s.port n).link || !s.fabricUp then s
    else
      let seq := (s.net.delaySeq + 1) % 65536
      let s := { s with net.delaySeq := seq, net.delayT3 := none, net.delayDue := s.mtNs + logNs s.net.delayLog }
      s.sendPtp n (s.net.transport == 1) false .delayReq (ptpMessage n 1 s.net.domain 0 seq 0x7F (ptpStamp 0))

/-- DELAY_REQ_INTERVAL (R454). -/
def execDelayReqInterval (s : State) : Host.Outcome State Fault Refusal := .next s.delayReq

/-- DELAY_RESP_RECEIVED (R454): completes an E2E measurement: half of both spans. -/
def State.delayResp (s : State) (m : PtpDelayResp) : State :=
  match s.net.delayT3 with
  | none => s
  | some t3 =>
    if !s.servoHears m.port m.domain m.transport || m.seq != s.net.delaySeq || !s.net.master.any fun a => a.sender == m.sender then s
    else
      let back : Int := (m.received : Int) - m.correction - t3
      { s with net.delayT3 := none, net.delayLog := m.logInterval, net.pathDelay := (s.net.syncSpan + back) / 2 / 4096 }

/-- DELAY_RESP_RECEIVED (R454). -/
def execDelayRespReceived (m : PtpDelayResp) (s : State) : Host.Outcome State Fault Refusal := .next (s.delayResp m)

/-- PDELAY_REQ_INTERVAL (R450): in P2P each port sends Pdelay_Req every 2^log_pdelay s. -/
def State.pdelayReq (s : State) (n : Nat) : State :=
  let q := s.port n
  if s.net.tcMode ≠ 2 || !q.link || q.mode == 0 || decide (s.mtNs < q.pdelayDue) || !s.fabricUp then s
  else
    let seq := (q.pdelaySeq + 1) % 65536
    let s := s.updPort n fun q =>
      { q with pdelaySeq := seq, pdelayT1 := none, pdelayResp := none, pdelayDue := s.mtNs + logNs s.net.logPdelay }
    s.sendPtp n (s.net.transport == 1) true .pdelayReq (ptpMessage n 2 s.net.domain 0 seq 0x7F (ptpStamp 0 ++ List.replicate 10 0))

/-- PDELAY_REQ_INTERVAL (R450). -/
def execPdelayReqInterval (port : Port) (s : State) : Host.Outcome State Fault Refusal := .next (s.pdelayReq (portIdx port))

/-! ## Loss of the master (R454) -/

/-- PTP_SYNC_TIMEOUT (R454): 3 s without a Sync (reason 0), the announce-receipt timeout (1) or the link down (2). At the
announce-receipt timeout another master, if one is heard, takes over. -/
def State.ptpTimeout (s : State) (reason : Nat) : State :=
  if s.isExpert policyServo || s.net.slave == 0 then s
  else match reason with
    | 0 => if s.mtNs < s.net.lastSync + 3000000000 then s else s.servoHoldover 0
    | 1 =>
      if s.net.master.isNone then s
      else
        let s := s.selectMaster s.net.others
        if s.net.master.isNone then s.servoHoldover 1 else s
    | _ => if (s.slavePort.any fun n => (s.port n).link) then s else s.servoHoldover 3

/-- PTP_SYNC_TIMEOUT (R454). -/
def execPtpSyncTimeout (reason : Fin 3) (s : State) : Host.Outcome State Fault Refusal := .next (s.ptpTimeout reason.val)

end Sys2Proof.Machine
end

