-- ==== Sys2Proof/Machine/Net.lean ====
section
/-!
DEFINITION. Frames at the ports: termination, local answers and forwarding (R448 to R450). Local
delivery of Talvy datagrams, evidence acknowledgements and servo messages are commands of their own (log 34).
-/

namespace Sys2Proof.Machine

/-! ## What a frame carries -/

/-- The frame is a peer-delay message: Pdelay_Req, Pdelay_Resp or Pdelay_Resp_Follow_Up. -/
def isPeerDelay (f : List Byte) : Bool := (ptpAt f).any fun x => [2, 3, 0xA].contains (ptpType f x.1)

/-- ARP request: opcode 1 for an IPv4 address. -/
def arpRequestFor (f : List Byte) : Option Nat :=
  let b := ethBody f
  if innerType f = 0x0806 ∧ beNat (sliceZ b 6 2) = 1 then some (beNat (sliceZ b 24 4)) else none

/-! ## Forwarding (R448, R449) -/

/-- The PTP message that a mode discards: Delay_Req in P2P (R450). -/
def State.tcDiscards (s : State) (f : List Byte) : Bool :=
  s.net.tcMode == 2 && (ptpAt f).any fun x => ptpType f x.1 == 1

/-- Forward a frame to the other port: cut-through, or through the buffer of the direction (R449). Sizes count the FCS
(log 34). -/
def State.forwardFrame (s : State) (n : Nat) (x : EthFrame) : State :=
  let q := s.port n
  let o := s.port (1 - n)
  if !q.forward || !o.link || o.mode == 0 then s
  else if s.tcDiscards x.bytes then s.updPort n fun q => { q with discarded := q.discarded + 1 }
  else if 9022 < x.bytes.length + 4 then s
  else
    let through := q.mode == o.mode && s.egressIdle (1 - n)
    if !through && !x.fcsOk then s
    else if !through && decide (262144 < s.bufferUsed (1 - n) + x.bytes.length + 4) then
      s.updPort n fun q => { q with dropped := q.dropped + 1 }
    else
      let event := (ptpAt x.bytes).any fun y => decide (ptpType x.bytes y.1 < 4)
      (s.updPort n fun q => { q with forwarded := q.forwarded + 1 }).queueOut (1 - n)
        ⟨if event then 0 else 2, x.bytes, !x.fcsOk, .transit n x.raw s.time.cycles⟩

/-! ## Local answers (R446, R448) -/

/-- Answer an ARP request for the port's address. -/
def State.answerArp (s : State) (n : Nat) (f : List Byte) : State :=
  let b := ethBody f
  let q := s.port n
  if q.ipv4 ≠ 0 && arpRequestFor f == some q.ipv4 then
    let body := beBytes 2 1 ++ beBytes 2 0x0800 ++ [6, 4] ++ beBytes 2 2 ++ beBytes 6 (macOf n) ++ beBytes 4 q.ipv4 ++
      sliceZ b 8 6 ++ sliceZ b 14 4
    s.sendFrame n (ethFrame (ethSrc f) (macOf n) 0x0806 body)
  else s

/-- The frame is an ICMPv4 echo request to the port's address. -/
def State.isEcho (s : State) (n : Nat) (f : List Byte) : Bool :=
  let b := ethBody f
  isWholeIp f && ipProto b == 1 && ipDst b == (s.port n).ipv4 && fieldAt (ipBody b) 0 1 == 8

/-- Answer an ICMPv4 echo request to the port's address. -/
def State.answerEcho (s : State) (n : Nat) (f : List Byte) : State :=
  let b := ethBody f
  if s.isEcho n f && (s.port n).ipv4 != 0 then
    let m (c : Nat) : List Byte := [0, 0] ++ beBytes 2 c ++ (ipBody b).drop 4
    s.sendFrame n (ethFrame (ethSrc f) (macOf n) 0x0800 (ipPacket (ipDst b) (ipSrc b) 1 64 [] (m (inetSum (m 0)))))
  else s

/-- Answer an IGMP query with reports (R141): a general query, whose group address is 0, for every group joined on the port, a
query for one group for that group where it is joined. -/
def State.answerIgmp (s : State) (n : Nat) (f : List Byte) : State :=
  let b := ethBody f
  if isWholeIp f && ipProto b == 2 && fieldAt (ipBody b) 0 1 == 0x11 then
    let asked := beNat (sliceZ (ipBody b) 4 4)
    let gs := (s.strm.ctxs.filter fun c => c.state != .closed && c.source == n + 1 && c.group != 0 &&
      (asked == 0 || c.group == asked)).map (·.group)
    gs.eraseDups.foldl (fun s g => s.sendIgmp n igmpReport g) s
  else s

/-! ## Peer delay (R450) -/

/-- A port answers a Pdelay_Req over the transport that carried it; the turnaround, scaled as a residence time, is added to
the correctionField as the answer leaves (log 34). -/
def State.answerPdelay (s : State) (n at_ raw : Nat) (udp : Bool) (f : List Byte) : State :=
  let body := ptpStamp 0 ++ sliceZ f (at_ + 20) 10
  s.sendPtp n udp true (.answer raw s.time.cycles) (ptpMessage n 3 (fieldAt f (at_ + 4) 1) (ptpCorrection f at_)
    (beNat (sliceZ f (at_ + 30) 2)) 0x7F body)

/-- A valid measurement of a port's link, 1/16 ns; the last 8 are kept. -/
def State.putDelay (s : State) (n : Nat) (twice : Int) : State :=
  s.updPort n fun q => { q with linkDelays := (twice / 2 / 4096 :: q.linkDelays).take 8, pdelayT1 := none, pdelayResp := none }

/-- A time-stamp of a PTP message at an offset, 2^-16 ns. -/
def stampAt (f : List Byte) (off : Nat) : Nat :=
  (beNat (sliceZ f off 6) * 1000000000 + beNat (sliceZ f (off + 6) 4)) * 65536

/-- The message answers the port's own last Pdelay_Req. -/
def State.isOurPdelay (s : State) (n at_ : Nat) (f : List Byte) : Bool :=
  sliceZ f (at_ + 44) 10 == portIdentity n && beNat (sliceZ f (at_ + 30) 2) == (s.port n).pdelaySeq

/-- A port takes a peer-delay message (R450). -/
def State.peerDelay (s : State) (n at_ raw : Nat) (udp : Bool) (f : List Byte) : State :=
  match ptpType f at_, (s.port n).pdelayT1 with
  | 2, _ => s.answerPdelay n at_ raw udp f
  | 3, some t1 =>
    let t4 : Nat := s.time.nt / 0x10000
    if !s.isOurPdelay n at_ f then s
    else if bitOf (fieldAt f (at_ + 6) 1) 1 then
      s.updPort n fun q => { q with pdelayResp := some (stampAt f (at_ + 34), ((t4 : Int) - ptpCorrection f at_).toNat) }
    else s.putDelay n ((t4 : Int) - t1 - ptpCorrection f at_)
  | 0xA, some t1 =>
    match (s.port n).pdelayResp with
    | none => s
    | some (t2, t4) =>
      if !s.isOurPdelay n at_ f then s
      else s.putDelay n ((t4 : Int) - t1 - ((stampAt f (at_ + 34) : Int) - t2) - ptpCorrection f at_)
  | _, _ => s

/-! ## FRAME_RECEIVED (R448) -/

/-- What a port does with a frame (R448). -/
inductive FrameFate where
  | toPort | discard | peerDelay | control | pass
  deriving DecidableEq, Repr

/-- The frame holds ARP, ICMPv4 echo or IPv4 UDP. -/
def localKind (f : List Byte) : Bool :=
  innerType f == 0x0806 || (innerType f == 0x0800 && (ipProto (ethBody f) == 17 ||
    (ipProto (ethBody f) == 1 && [0, 8].contains (fieldAt (ipBody (ethBody f)) 0 1))))

/-- The fate of a frame at port `n` (R448, R450). -/
def State.frameFate (s : State) (n : Nat) (f : List Byte) : FrameFate :=
  if s.net.tcMode == 2 && isPeerDelay f then .peerDelay
  else if ethDst f = macOf n then
    if (vlanId f).all (· == 0) && localKind f then .toPort else .discard
  else if innerType f = 0x8808 ∨
      (0x0180C2000000 ≤ ethDst f ∧ ethDst f ≤ 0x0180C200000F ∧ ethDst f ≠ 0x0180C200000E) then .control
  else .pass

/-- FRAME_RECEIVED (R448). -/
def State.frame (s : State) (n : Nat) (x : EthFrame) : State :=
  let q := s.port n
  if q.mode = 0 || !q.link || !s.fabricUp then s
  else
    let f := x.bytes
    let s := if x.fcsOk then s else s.updPort n fun q => { q with fcsErrors := q.fcsErrors + 1 }
    let took (s : State) : State := s.updPort n fun q => { q with terminated := q.terminated + 1 }
    match s.frameFate n f with
    | .toPort => if x.fcsOk then ((took s).answerArp n f).answerEcho n f else s
    | .discard => if x.fcsOk then s.updPort n fun q => { q with discarded := q.discarded + 1 } else s
    | .peerDelay =>
      match ptpAt f with
      | some (at_, udp) => if x.fcsOk then (took s).peerDelay n at_ x.raw udp f else s
      | none => s
    | .control => if x.fcsOk then took s else s
    | .pass =>
      let s := s.forwardFrame n x
      if !x.fcsOk then s
      else if ethDst f = 0xFFFFFFFFFFFF then s.answerArp n f
      else s.answerIgmp n f

/-- FRAME_RECEIVED (R448). -/
def execFrameReceived (port : Port) (f : EthFrame) (s : State) : Host.Outcome State Fault Refusal :=
  .next (s.frame (portIdx port) f)

end Sys2Proof.Machine
end

