-- ==== Sys2Proof/Machine/Packets.lean ====
section
/-!
DEFINITION. The packet at the front of a ring starts (R45, R52, R54, R63 to R65, R91).
-/

namespace Sys2Proof.Machine

/-- The rules of an opcode (R58). -/
def runOp : Op → Nat → Packet → State → Answer
  | .devNop => runDevNop
  | .devInfo => runDevInfo
  | .devAbort => runDevAbort
  | .devSetLevel => runDevSetLevel
  | .devFenceRead => runDevFenceRead
  | .devVfGrant => runDevVfGrant
  | .devStatus => runDevStatus
  | .devDusk => runDevDusk
  | .devFenceSet => runDevFenceSet
  | .strmOpen => runStrmOpen
  | .strmSubmit => runStrmSubmit
  | .strmCut => runStrmCut
  | .strmClose => runStrmClose
  | .strmStatus => runStrmStatus
  | .strmTimeouts => runStrmTimeouts
  | .strmFilter => runStrmFilter
  | .decPoolSize => runDecPoolSize
  | .decStatus => runDecStatus
  | .decAssign => runDecAssign
  | .decColour => runDecColour
  | .rayModelLoad => runRayModelLoad
  | .rayModelStore => runRayModelStore
  | .rayStatus => runRayStatus
  | .rayRelease => runRayRelease
  | .raySetRung => runRaySetRung
  | .raySetDepthCurve => runRaySetDepthCurve
  | .rayCoreMask => runRayCoreMask
  | .cmpLayerSet => runCmpLayerSet
  | .cmpFlip => runCmpFlip
  | .cmpLayerOff => runCmpLayerOff
  | .cmpScalerCoef => runCmpScalerCoef
  | .dspTimingSet => runDspTimingSet
  | .dspLock => runDspLock
  | .dspStill => runDspStill
  | .dspStatus => runDspStatus
  | .dspProfileStore => runDspProfileStore
  | .dspProfileRead => runDspProfileRead
  | .dspOffset => runDspOffset
  | .dspHoldover => runDspHoldover
  | .pnlPowerOn => runPnlPowerOn
  | .pnlPowerOff => runPnlPowerOff
  | .pnlLinkTrain => runPnlLinkTrain
  | .pnlGammaLoad => runPnlGammaLoad
  | .pnlStatus => runPnlStatus
  | .pnlRailSet => runPnlRailSet
  | .pnlVcomSet => runPnlVcomSet
  | .pnlGateTiming => runPnlGateTiming
  | .witConfig => runWitConfig
  | .witStart => runWitStart
  | .witStop => runWitStop
  | .witExport => runWitExport
  | .encOpen => runEncOpen
  | .encFrame => runEncFrame
  | .encClose => runEncClose
  | .encRate => runEncRate
  | .encSearch => runEncSearch
  | .bltSurfaceSet => runBltSurfaceSet
  | .bltRun => runBltRun
  | .timeRead => runTimeRead
  | .timePortConfig => runTimePortConfig
  | .timePtpConfig => runTimePtpConfig
  | .timeEvtConfig => runTimeEvtConfig
  | .timeSetEt => runTimeSetEt
  | .timeRelease => runTimeRelease
  | .timeIncrement => runTimeIncrement
  | .timeStep => runTimeStep
  | .memStatus => runMemStatus
  | .memEccRegion => runMemEccRegion
  | .memRelease => runMemRelease
  | .memRegulator => runMemRegulator
  | .memClass => runMemClass
  | .memRetrain => runMemRetrain
  | .nvmRecordRead => runNvmRecordRead
  | .nvmRecordStore => runNvmRecordStore
  | .nvmRawRead => runNvmRawRead
  | .nvmRawWrite => runNvmRawWrite
  | .nvmStatus => runNvmStatus
  | .nvmRelease => runNvmRelease
  | .nvmRefreshPolicy => runNvmRefreshPolicy
  | .thmRead => runThmRead
  | .thmCalRun => runThmCalRun
  | .thmRelease => runThmRelease
  | .thmLimits => runThmLimits
  | .thmThresholds => runThmThresholds
  | .thmCalPolicy => runThmCalPolicy
  | .evtLogRead => runEvtLogRead
  | .evtCounters => runEvtCounters
  | .evtMask => runEvtMask
  | .evtInject => runEvtInject
  | .fwVersion => runFwVersion
  | .fwUpdate => runFwUpdate
  | .fwCertRead => runFwCertRead
  | .fwAttest => runFwAttest
  | .fwDebugUnlock => runFwDebugUnlock

/-- Take the front packet out of its ring. -/
def State.dropFront (s : State) (x : Src) : State :=
  match x with
  | .smbus => { s with smb.waiting := none }
  | .ring f n => s.updSub f n.val fun r => { r with fetched := r.fetched.tail }

/-- A packet starts: one that would run past the last slot of its ring, or whose byte count does not fit its length, completes
with BAD_LENGTH; one of an undefined opcode with BAD_OPCODE (R45, R52, R91, log 7). -/
def State.startPacket (s : State) (e : Fetched) : State :=
  if e.wraps then s.settle e.pkt (.refused ⟨.badLength, 2, 0⟩)
  else match Op.ofCode e.opcode.toNat with
    | some o => s.begin_ o (runOp o) e.pkt
    | none => s.settle e.pkt (.refused ((checkLength e.pkt).getD ⟨.badOpcode, 0, 0⟩))

/-- PACKET_START (R64, R65): the packet at the front of its ring starts once it may and the round has come to the ring. -/
def State.startFront (s : State) (x : Src) : State :=
  match s.queued x with
  | [] => s
  | e :: _ => if s.canStart e.pkt then ((s.dropFront x).serve x).startPacket e else s

/-- PACKET_START (R64). -/
def execPacketStart (src : Src) (s : State) : Host.Outcome State Fault Refusal := .next (s.startFront src)

end Sys2Proof.Machine
end

