-- ==== Sys2Proof/Machine/Pins.lean ====
section
/-!
DEFINITION. EVT_IN, the wake sources, and droop detectors (R17, R460, R464, R614).
-/

namespace Sys2Proof.Machine

/-- The edge that a pin's setting selects: 0 off, 1 rising, 2 falling, 3 both (R459). -/
def EvtIn.selects (e : EvtIn) (rising : Bool) : Bool := e.edge == 3 || e.edge == (if rising then 1 else 2)

/-- data0 and data1 of EVT_CAPTURED (R464). -/
def captureWords (n base t : Nat) (rising : Bool) : Nat × Nat :=
  (nsField t, secField t % 0x1000000 + 0x1000000 * n + 0x4000000 * base + 0x10000000 * b2n rising)

/-- An edge captures the base of its pin, or counts as an overrun within 100 ns of the previous capture; in Dusk the latest
capture of a pin waits for the exit (R460). -/
def State.capture (s : State) (n : Nat) (rising : Bool) : State :=
  let e := s.time.evtIn.getD n {}
  if e.lastNs.any fun t => decide (s.mtNs < t + 100) then { s with time.overruns := s.time.overruns + 1 }
  else
    let t := s.baseOf e.base
    let (a, b) := captureWords n e.base t rising
    let kept := if s.inDusk then some (word a, word b) else none
    let s := { s with time.evtIn := updAt s.time.evtIn n fun e =>
      { e with capture := t, lastNs := some s.mtNs, kept := kept } }
    if s.inDusk then s else s.raise { code := .evtCaptured, source := 0, data0 := a, data1 := b }

/-- EVT_IN_EDGE (R460): a selected edge is captured, and one on EVT_IN0 wakes (R614). -/
def State.evtEdge (s : State) (n : Nat) (rising : Bool) : State :=
  if !s.pwr.vddAon || !(s.time.evtIn.getD n {}).selects rising then s
  else
    let s := s.capture n rising
    if n = 0 then s.noteWake 2 else s

/-- EVT_IN_EDGE (R460). -/
def execEvtInEdge (pin : Fin 4) (rising : Bool) (s : State) : Host.Outcome State Fault Refusal :=
  .next (s.evtEdge pin.val rising)

/-- WAKE_N_ASSERT (R614). -/
def execWakeNAssert (s : State) : Host.Outcome State Fault Refusal := .next (if s.pwr.vddAon then s.noteWake 0 else s)

/-- PMCSR_D0_WRITE (R614). -/
def execPmcsrD0Write (s : State) : Host.Outcome State Fault Refusal := .next (if s.pwr.linkUp then s.noteWake 1 else s)

/-- The clock of an island runs: island 0 has power, the others are neither held nor stopped, and behind an unrecovered fault
islands 1, 125 and 127 go on (R572). -/
def State.islandRuns (s : State) (i : Nat) : Bool :=
  s.pwr.vddAon && (i == 0 || s.fabricUp ||
    (s.stopped && !s.pwr.resetLow && !s.pwr.vsenseReset && (i == 1 || i == 125 || i == 127)))

/-- CLOCK_STRETCH (R17): the island agent counts the stretched cycles; those of the last 1 ms count against the effective clock
(R227). -/
def State.stretch (s : State) (i cycles : Nat) : State :=
  if !s.islandRuns i then s
  else
    let now := s.mtNs
    { s with sup.stretched := updAt s.sup.stretched i (· + word cycles),
             sup.recentStretch := (s.sup.recentStretch.filter fun x => decide (now < x.2.1 + 1000000)) ++ [(i, now, cycles)] }

/-- CLOCK_STRETCH (R17). -/
def execClockStretch (island : Fin 128) (cycles : Nat) (s : State) : Host.Outcome State Fault Refusal :=
  .next (s.stretch island.val cycles)

end Sys2Proof.Machine
end

