-- ==== Sys2Proof/Machine/Scan.lean ====
section
/-!
DEFINITION. A slot of the raster: watermarks, underflow, the composed line, configuration and blanking (R288, R295, R314,
R316, R331 to R333, R341, R342, R350).
-/

namespace Sys2Proof.Machine

/-! ## Watermarks (R314) -/

/-- A buffer's escalations at a reserve: an escalation ends 2.0 us above its watermark. -/
def LineBuf.at_ (b : LineBuf) (ns : Nat) : LineBuf :=
  { urgent := if ns < 8000 then true else b.urgent && decide (ns < 10000),
    critical := if ns < 4000 then true else b.critical && decide (ns < 6000) }

/-- Count the escalations that begin. -/
def State.countEscalations (s : State) (old new : LineBuf) : State :=
  { s with dsp.nUrgent := if new.urgent && !old.urgent then s.dsp.nUrgent + 1 else s.dsp.nUrgent,
           dsp.nCritical := if new.critical && !old.critical then s.dsp.nCritical + 1 else s.dsp.nCritical }

/-- The reserve of the woven-frame line buffer at a slot. -/
def State.noteWoven (s : State) (ns : Nat) : State :=
  let new := s.dsp.wovenBuf.at_ ns
  { s.countEscalations s.dsp.wovenBuf new with dsp.wovenBuf := new, dsp.minWoven := min s.dsp.minWoven ns }

/-- The reserve of layer `n`'s buffer at a slot. -/
def State.noteLayer (s : State) (n ns : Nat) : State :=
  let old := s.dsp.layerBufs.getD n {}
  let new := old.at_ ns
  { s.countEscalations old new with dsp.layerBufs := setAt s.dsp.layerBufs n new, dsp.minLayer := min s.dsp.minLayer ns }

/-- The reserves of every buffer that scan-out reads at a slot. -/
def State.noteReserves (s : State) (wovenNs : Nat) (layerNs : List Nat) : State :=
  let s := if s.ray.presented.isSome then s.noteWoven wovenNs else { s with dsp.wovenBuf := {} }
  (List.range 8).foldl (fun s n =>
    match (s.layer n).view, layerNs[n]? with
    | some _, some ns => s.noteLayer n ns
    | _, _ => { s with dsp.layerBufs := setAt s.dsp.layerBufs n {} }) s

/-! ## The composed line (R280, R288, R295) -/

/-- The stored value of a subpixel of the scanned woven frame; blank_level while none is presented. -/
def State.wovenValue (s : State) (t : Timing) (x c y : Nat) : Nat :=
  match s.ray.presented with
  | none => t.blank
  | some w =>
    bitsOf (leNat (s.dmem.readN (s.wovenAddr w.buffer + y * wovenPitch t.hactive + x / 64 * 256 + x % 64 * 4) 4)) (10 * c) 10

/-- The blob and dT16 that give the angles of panel subpixels (R280). -/
def State.angleBlob (s : State) : Option (List Byte × Int) :=
  match s.ray.presented with
  | some w => some (w.inp.blob, w.inp.dt16)
  | none => s.ray.active.map fun b => (b, s.ray.dt16)

/-- The value sent for a subpixel of line `y`, with the layers that have their samples (R288). -/
def State.sentValue (s : State) (t : Timing) (layers : List (Option LayerView)) (x c y : Nat) : Nat :=
  let (u, v, full) := match s.angleBlob with
    | none => (0, 0, false)
    | some (b, d) => (angleU b d (3 * x + c) y, angleV b d (3 * x + c) y, blobParallax b == 1)
  s.blendLayers full (64 * x : Nat) (64 * y : Nat) u v (bitsOf t.chanMap (2 * c) 2) 0 (s.wovenValue t x c y) layers

/-- A composed line: subpixels in the order of pixel and then stripe position. -/
def State.composeLine (s : State) (t : Timing) (layers : List (Option LayerView)) (y : Nat) : List Nat :=
  (List.range t.hactive).flatMap fun x => [0, 1, 2].map fun c => s.sentValue t layers x c y

/-! ## Slots (R341) -/

/-- The layers whose buffers have samples for the line; the others are not covered on it (R316). -/
def State.readyLayers (s : State) (layerNs : List Nat) : List (Option LayerView) :=
  s.layerViews.mapIdx fun n l => if layerNs.getD n 1 = 0 then none else l

/-- A SHOWING layer lacks samples for the line (R316). -/
def State.layersShort (s : State) (layerNs : List Nat) : Nat :=
  ((List.zipIdx s.layerViews).filter fun l => l.1.isSome && layerNs.getD l.2 1 == 0).length

/-- The source lines of a layer that composition reads for line `y`: the one it scales to, and the one behind it, on each plane
(R281, R283, log 134). -/
def LayerView.lineReads (l : LayerView) (y : Nat) : List (Nat × Nat) :=
  let a := l.attr
  let row : Int := (y : Int) - a.dstY
  let at_ := min (a.srcH - 1) (row.toNat * a.srcH / a.dstH)
  if row < 0 ∨ (a.dstH : Int) ≤ row then []
  else (List.range (planesOf a.format).length).flatMap fun i =>
    let q := (planesOf a.format).getD i ⟨0, false, false⟩
    lineSpans (l.surface.elem a.format i (q.width a.srcX) (q.lines (a.srcY + at_))) (l.surface.pitches.getD i 0)
      (q.width a.srcW * q.bytes) (min 2 (q.lines a.srcH))

/-- Scan-out and composition read what a line needs from memory (R472). -/
def State.fetchLine (s : State) (t : Timing) (y : Nat) : State :=
  let s := match s.ray.presented with
    | none => s
    | some w => s.request 0 (s.wovenAddr w.buffer + y * wovenPitch t.hactive) (wovenPitch t.hactive) false
  s.requestAll 1 false ((s.layerViews.filterMap id).flatMap fun l => l.lineReads y)

/-- The slot of active line `y`: LINE_START with the composed line, or LINE_REPEAT under R316 or R347. -/
def State.activeSlot (s : State) (t : Timing) (y wovenNs : Nat) (layerNs : List Nat) : State :=
  let empty := s.ray.presented.isSome && wovenNs == 0
  let s := s.fetchLine t y
  let s := { s with dsp.nWoven := if empty then s.dsp.nWoven + 1 else s.dsp.nWoven,
                    dsp.nLayer := s.dsp.nLayer + word (s.layersShort layerNs) }
  if s.pnl.mode != .driving then { s with dsp.block := .latch }
  else match s.pnl.retrain with
    | some r => { s with dsp.block := .lineRepeat, pnl.nRepeats := s.pnl.nRepeats + 1,
                         pnl.retrain := some { r with slots := r.slots + 1 } }
    | none =>
      if empty then { s with dsp.block := .lineRepeat }
      else { s with dsp.block := .lineStart, dsp.line := s.composeLine t (s.readyLayers layerNs) y }

/-- A blanking slot: settings at the first, configuration in the window, LATCH behind it; the VCOM code of a new rate once the
gate activity has ended (R333). -/
def State.blankingSlot (s : State) (t : Timing) (n : Nat) : State :=
  let s := if n = t.vactive then s.blankSettings else s
  let s := if n = (s.pnl.gate.elim t.vactive fun g => gateEndSlot t g) then s.rateSettings else s
  if n < t.vactive + 16 then s.configSlot else { s with dsp.block := .latch }

/-- MT at which a slot begins: pixel clocks of the refresh behind its event, at the rate that fits the base grid in force
(R291, R304, R311, R341). -/
def State.slotMt (s : State) (t : Timing) (n : Int) : Nat :=
  (s.dsp.frameMt).getD 0 + ((s.dsp.offset : Int) + n * t.htotal).toNat * s.gridPeriod / t.clocks

/-- What the lanes carry in a slot of a discharge: DISCHARGE at its first one, IDLE blocks behind it (R326, R358). -/
def State.dischargeSlot (s : State) (d : Discharge) : State :=
  if d.start.isNone then s.beginStages d else { s with dsp.block := .latch }

/-- SCANOUT_LINE_SLOT (R341): the next slot begins, with the reserve of the woven buffer and of each layer buffer in ns.
Slots before active line 0 carry LATCH. A discharge stops every line packet (R358). -/
def State.lineSlot (s : State) (wovenNs : Nat) (layerNs : List Nat) : State :=
  match s.dsp.timing with
  | none => s
  | some t =>
    if !s.rasterRuns || !s.fabricUp || s.dsp.frameMt.isNone then s
    else
      let n := s.dsp.slot
      if s.time.mt < s.slotMt t n then s
      else
        let s := { s with dsp.slot := n + 1 }.noteReserves wovenNs layerNs
        match s.pnl.discharge with
        | some d => s.dischargeSlot d
        | none =>
          if n < 0 then { s with dsp.block := .latch }
          else if n < t.vactive then s.activeSlot t n.toNat wovenNs layerNs
          else s.blankingSlot t n.toNat

/-- SCANOUT_LINE_SLOT (R341). -/
def execScanoutLineSlot (wovenNs : Nat) (layerNs : List Nat) (s : State) : Host.Outcome State Fault Refusal :=
  .next (s.lineSlot wovenNs layerNs)

end Sys2Proof.Machine
end

