-- ==== Sys2Proof/Machine/Sensors.lean ====
section
/-!
DEFINITION. Sensor samples, the domain states, and the hardware trip (R528 to R538, R545 to R547).
-/

namespace Sys2Proof.Machine

/-- The measurement sequencer of island 127 runs (R528, R538, R572). -/
def State.sequencerRuns (s : State) : Bool :=
  s.linkAlive && s.sup.supState != 2 && s.pwr.dusk != .asleep && s.pwr.dusk != .waking &&
    (s.pwr.phase == .init || s.pwr.phase == .ready || s.pwr.phase == .dusk || s.sup.fault)

/-- A sensor takes a sample of the sequencer: the mask of its comparator follows from the samples before (R538). -/
def Sensor.take (x : Sensor) : SensorSample → Sensor
  | .reading r => { x with reading := r, comparator := r, absent := false, masked := x.cause != 0 }
  | .absent => { x with absent := true, masked := x.cause != 0 }

/-- What the step test of the next cycle compares with (R532). -/
def Sensor.keep (x : Sensor) : Sensor := { x with previous := if x.absent then none else some x.reading }

/-- The usable sensors of a domain next to sensor `i` in its ring: the nearest in each direction (R529, R532). -/
def ringNeighbours (use : List Nat) (i : Nat) : List Nat :=
  match use.findIdx? (· == i) with
  | some k => [use.getD ((k + use.length - 1) % use.length) i, use.getD ((k + 1) % use.length) i]
  | none => []

/-- The tests of R532 in order, for a usable sensor of a domain whose usable sensors are `use`: the cause, 0 when it passes. -/
def State.sensorCause (s : State) (use : List Nat) (i : Nat) : Nat :=
  let r := (s.sensor i).reading
  let far (j : Nat) : Bool := decide (240 < (r - (s.sensor j).reading).natAbs)
  if r < -880 ∨ 2400 < r then 1
  else if (s.sensor i).previous.any fun p => decide (320 < (r - p).natAbs) then 2
  else if 3 ≤ use.length ∧ (ringNeighbours use i).all far = true then 3
  else 0

/-- Change a sensor. -/
def State.updSensor (s : State) (i : Nat) (g : Sensor → Sensor) : State :=
  { s with thm.sensors := updAt s.thm.sensors i g }

/-- The sensors of a domain are judged on the usable set at the sample's start; each one ruled broken raises SENSOR_BROKEN
(R532, R533, R559). -/
def State.judgeDomain (s : State) (d : Nat) : State :=
  let use := (domainSensors d).filter fun i => (s.sensor i).usable
  let bad := use.filterMap fun i => let c := s.sensorCause use i; if c = 0 then none else some (i, c)
  let s := bad.foldl (fun s x => s.updSensor x.1 fun y => { y with cause := x.2 }) s
  let none_ := !(domainSensors d).any fun i => (s.sensor i).usable
  bad.foldl (fun s x => s.raise { code := .sensorBroken, source := 127, data0 := x.1, data1 := x.2 + 256 * b2n none_ }) s

/-- A state is entered at its threshold and left below the threshold less the hysteresis, degrees C (R535). -/
def heldAt (was : Bool) (t : Int) (thr hyst : Nat) : Bool :=
  if (16 * thr : Nat) ≤ t then true else if t < ((16 * (thr - hyst) : Nat) : Int) then false else was

/-- A junction domain is judged at a sample (R535, R545). -/
def State.domainState (s : State) (d : Nat) : State :=
  let t := s.domainTemp d
  let was := s.thm.domHeld.getD d 0
  let w := heldAt (bitOf was 0) t s.thm.warnAt s.thm.warnHyst
  let h := heldAt (bitOf was 1) t s.thm.thrAt s.thm.thrHyst
  let x := heldAt (bitOf was 2) t 112 10
  let s := { s with thm.domTemp := setAt s.thm.domTemp d t, thm.domHeld := setAt s.thm.domHeld d (bitsNat [w, h, x]) }
  let s := if w != bitOf was 0 then
      s.raise { code := .thermalWarning, source := 127, data0 := d + 256 * b2n (!w), data1 := unsignedOf 32 t }
    else s
  if x && !bitOf was 2 then
    (s.raise { code := .thermalShutdown, source := 127, data0 := d, data1 := unsignedOf 32 t }).startShutdown
  else s

/-- SENSOR_SAMPLE_CYCLE (R528): trims that wait take effect, every sensor is sampled and judged, and what rests on the
temperatures follows. -/
def State.sampleCycle (s : State) (readings : List SensorSample) : State :=
  if !s.sequencerRuns then s
  else
    let s := s.applyTrims 0
    let s := { s with thm.sensors :=
      (List.range 40).map fun i => (s.sensor i).take (readings.getD i .absent) }
    let s := [0, 1, 2, 3, 4, 5].foldl (fun s d => s.judgeDomain d) s
    let s := [0, 1, 2, 3, 4].foldl (fun s d => s.domainState d) s
    let s := { s with thm.t16 := s.panelTemp.getD s.thm.t16, thm.sensors := s.thm.sensors.map Sensor.keep }
    s.judgeLadder.calTriggers

/-- SENSOR_SAMPLE_CYCLE (R528). -/
def execSensorSampleCycle (readings : List SensorSample) (s : State) : Host.Outcome State Fault Refusal :=
  .next (s.sampleCycle readings)

/-- A comparator takes a reading of island 0's own sampling. -/
def Sensor.compare (x : Sensor) : SensorSample → Sensor
  | .reading r => { x with comparator := r, masked := x.masked || x.cause != 0 }
  | .absent => { x with masked := x.masked || x.cause != 0 }

/-- ISLAND0_SENSOR_SAMPLE (R538, R546): while the sequencer is held or in Dusk, island 0 feeds the comparators of TS0 to
TS35; a wake that was held acts once its condition is met. -/
def execIsland0SensorSample (readings : List SensorSample) (s : State) : Host.Outcome State Fault Refusal :=
  if s.sequencerRuns || !s.pwr.vddAon then .next s
  else
    let s := { s with thm.sensors := (List.range 40).map fun i =>
      if i < 36 then (s.sensor i).compare (readings.getD i .absent) else s.sensor i }
    .next s.tryWake

/-- A comparator acts on 120 to 150 degrees C (R538). -/
def Sensor.trips (x : Sensor) : Bool := !x.masked && decide (1920 ≤ x.comparator ∧ x.comparator ≤ 2400)

/-- HARDWARE_TRIP (R538): islands 1 to 127 are held at once, the panel discharges as at its lockout, TRIP is latched. -/
def State.trip (s : State) (i : Nat) : State :=
  if !s.pwr.vddAon || s.regs.tripHeld || 36 ≤ i || !(s.sensor i).trips then s
  else
    let h := s.hold (if s.pwr.resetLow || s.pwr.vsenseReset then .reset else .held)
    { h with regs.trip := true, regs.tripSensor := byte i, regs.tripHeld := true }

/-- HARDWARE_TRIP (R538). -/
def execHardwareTrip (sensor : Fin 40) (s : State) : Host.Outcome State Fault Refusal := .next (s.trip sensor.val)

end Sys2Proof.Machine
end

