-- ==== Sys2Proof/Machine/Smb.lean ====
section
/-!
DEFINITION. The SMBus sideband: ring 0x80 (R90 to R93, R613).
-/

namespace Sys2Proof.Machine

/-- The sideband answers: from command-ready on and outside Dusk (R593, R613). -/
def State.smbAnswers (s : State) : Bool := s.takes .smbus && (s.fabricUp || s.sup.fault)

/-- A packet is outstanding: it has not completed, or its completion has not been read (R91). -/
def State.smbBusy (s : State) : Bool := s.smb.outstanding || !s.smb.completions.isEmpty

/-- Nothing waits to be read any more: SMB_ALERT_N is released (R92). -/
def State.smbSettle (s : State) : State :=
  { s with smb.alert := s.smb.alert && (!s.smb.completions.isEmpty || !s.smb.events.isEmpty) }

/-- The packet of a block write. A byte count outside 16 to 64, not a multiple of 4 or not 4 x length makes it complete with
BAD_LENGTH (R91, log 40). -/
def smbPacket (bytes : List Byte) : Fetched :=
  let n := bytes.length
  let e := packetOf .smbus bytes
  { e with wraps := n < 16 || 64 < n || n % 4 != 0 || n != 4 * fieldAt bytes 2 2 }

/-- SMB_PACKET_WRITE (R90, R91): refused by a NACK, or discarded and counted for a wrong PEC, or held to start. -/
def State.smbWrite (s : State) (bytes : List Byte) (pecOk : Bool) : State :=
  if !s.smbAnswers || s.smbBusy then { s with smb.nacked := true }
  else if !pecOk then { s with smb.nacked := false, smb.pecErrors := s.smb.pecErrors + 1 }
  else { s.enqueue .smbus (smbPacket bytes) with smb.nacked := false }

/-- SMB_PACKET_WRITE (R91). -/
def execSmbPacketWrite (bytes : List Byte) (pecOk : Bool) (s : State) : Host.Outcome State Fault Refusal :=
  .next (s.smbWrite bytes pecOk)

/-- SMB_COMPLETION_READ (R90, R92): the oldest unread completion; the phase bit reads 0. -/
def State.smbReadCompletion (s : State) : State :=
  if !s.smbAnswers then { s with smb.nacked := true }
  else
    match s.smb.completions with
    | [] => { s with smb.nacked := false, smb.readData := [] }
    | c :: cs => { s with smb.nacked := false, smb.readData := completionBytes c false, smb.completions := cs,
                          smb.outstanding := s.smb.outstanding && !cs.isEmpty }.smbSettle

/-- SMB_COMPLETION_READ (R90). -/
def execSmbCompletionRead (s : State) : Host.Outcome State Fault Refusal := .next s.smbReadCompletion

/-- Once an entry is free, EVENTS_LOST tells what was discarded, and the sequence skips by that count (R75, R92). -/
def State.smbTellLost (s : State) : State :=
  if s.smb.lost == 0 then s
  else
    let e := s.stampEvent { code := .eventsLost, data0 := s.smb.lost.toNat }
    let s := { s with smb.seq := s.smb.seq + s.smb.lost, smb.lost := 0 }
    (s.deliverSideband e).logEvent e false

/-- SMB_EVENT_READ (R90, R92): the oldest unread event. -/
def State.smbReadEvent (s : State) : State :=
  if !s.smbAnswers then { s with smb.nacked := true }
  else
    match s.smb.events with
    | [] => { s with smb.nacked := false, smb.readData := [] }
    | (q, e) :: es =>
      { s with smb.nacked := false, smb.readData := eventBytes e false q, smb.events := es }.smbSettle.smbTellLost

/-- SMB_EVENT_READ (R90). -/
def execSmbEventRead (s : State) : Host.Outcome State Fault Refusal := .next s.smbReadEvent

/-- SMB_STATUS_READ (R90). -/
def State.smbReadStatus (s : State) : State :=
  if !s.smbAnswers then { s with smb.nacked := true }
  else
    let b := bitsNat [!s.smb.completions.isEmpty, !s.smb.events.isEmpty, s.smbBusy]
    { s with smb.nacked := false, smb.readData := [byte b] }

/-- SMB_STATUS_READ (R90). -/
def execSmbStatusRead (s : State) : Host.Outcome State Fault Refusal := .next s.smbReadStatus

/-- SMB_ALERT_RESPONSE (R92): SMB_ALERT_N is released until the next arrival. -/
def execSmbAlertResponse (s : State) : Host.Outcome State Fault Refusal :=
  .next (if s.smbAnswers then { s with smb.alert := false, smb.nacked := false } else s)

end Sys2Proof.Machine
end

