-- ==== Sys2Proof/Machine/Wake.lean ====
section
/-!
DEFINITION. Dusk exit (R460, R492, R595, R613, R615).
-/

namespace Sys2Proof.Machine

/-! ## Dusk exit (R615) -/

/-- A channel leaves self-refresh; the retraining pause that it runs has ended (R492, R615). -/
def MemChan.awaken (c : MemChan) : MemChan :=
  if c.state == .selfRefresh then { c with state := .ready, round := none, nPauses := c.nPauses + 1 } else c

/-- The servo goes on from UNLOCKED; one that the host owns stays with it (R454, R615). -/
def State.servoWakes (s : State) : State :=
  if s.net.servo == .disabled || s.net.servo == .expert then s
  else { s with net.servo := .unlocked, net.goodSyncs := 0, net.integ := 0 }

/-- Ports return to the settings in force: a port with a mode has TX_DISABLE low (R463, R615). -/
def State.portsWake (s : State) : State :=
  { s with net.ports := s.net.ports.map fun (q : PortState) => { q with txDisable := q.mode == 0 } }

/-- Lock is acquired anew from here (R306, R615). -/
def State.lockWakes (s : State) : State :=
  if s.dsp.timing.isNone then s
  else { s with dsp.nextGrid := some s.time.mt, dsp.rate := 0, dsp.rateNext := none, dsp.gridCount := 0 }.restartLock

/-- Captures kept in Dusk are told (R460). -/
def State.tellCaptures (s : State) : State :=
  let kept := (List.range 4).filterMap fun n => (s.time.evtIn.getD n {}).kept.map fun k => (n, k)
  let s := { s with time.evtIn := s.time.evtIn.map fun (e : EvtIn) => { e with kept := none } }
  kept.foldl (fun s x => s.raise { code := .evtCaptured, data0 := x.2.1.toNat, data1 := x.2.2.toNat }) s

/-- Doorbells written in Dusk take effect, oldest first (R613). -/
def State.replayBells (s : State) : State :=
  let bells := s.pwr.keptBells
  bells.foldl (fun s (b : KeptBell) => match b.kind with
    | .submission => s.ringTail b.func b.ring b.value
    | .completion => s.ringHead b.func b.ring.val b.value
    | .event => s.eventHead b.func b.value) { s with pwr.keptBells := [] }

/-- The watchdog starts again at PERIOD in its stage (R653). -/
def State.wdogWakes (s : State) : State :=
  { s with regs.wdogDeadline := s.mtNs + s.regs.wdogRunPeriod * 1000000, regs.heartbeatNs := s.mtNs }

/-- What stood still in Dusk goes on. -/
def State.duskOver (s : State) : State :=
  let chans := s.memc.chans.map MemChan.awaken
  { s with pwr.dusk := .awake, pwr.phase := .ready, pwr.ready := true, pwr.wakeMask := 0, pwr.wakeAsked := 0,
           pwr.wakePending := 0, nvm.halted := false, nvm.runSince := s.nvm.runSince + (s.mtNs - s.pwr.duskNs),
           memc.chans := chans, memc.periodNs := s.mtNs, thm.duskByShutdown := false, thm.shutAfterLoss := false,
           thm.sensors := s.thm.sensors.map (fun (x : Sensor) => { x with previous := none }) }

/-- DUSK_EXIT_READY (R615): memory, supervisor and settings are back, and commits resume. A shutdown that came before
command-ready has left the settings of Dawn to this moment. -/
def State.duskExit (s : State) : State :=
  if s.pwr.dusk != .waking || s.pwr.warn then s
  else
    let seen := s.pwr.wakeSeen.toNat
    let s := s.duskOver.saveRunning.resumeWith 2
    let s := s.portsWake.servoWakes.lockWakes.setClocks.wdogWakes
    let s := if s.pwr.readyData.isNone then s.dawnSettings.tellInvalid else s
    let s := ((s.rerunStores.kickNvm false).raiseReady 1 seen).tellCaptures
    s.replayBells.fetchAll.kickCal.pumpChain

/-- DUSK_EXIT_READY (R615). -/
def execDuskExitReady (s : State) : Host.Outcome State Fault Refusal := .next s.duskExit

end Sys2Proof.Machine
end

