-- ==== Sys2Proof/Machine/Dispatch.lean ====
section
/-! DEFINITION. The meaning of each command: one direct call per row of the table of operations and events. -/

namespace Sys2Proof.Machine

/-- A command's effect on everything but the queue. -/
def exec (i : Instr) (s : State) : Host.Outcome State Fault Refusal :=
  match i with
  | .devNop p => Sys2Proof.Machine.execDevNop p s
  | .devInfo p => Sys2Proof.Machine.execDevInfo p s
  | .devAbort p => Sys2Proof.Machine.execDevAbort p s
  | .devSetLevel p => Sys2Proof.Machine.execDevSetLevel p s
  | .devFenceRead p => Sys2Proof.Machine.execDevFenceRead p s
  | .devVfGrant p => Sys2Proof.Machine.execDevVfGrant p s
  | .devStatus p => Sys2Proof.Machine.execDevStatus p s
  | .devDusk p => Sys2Proof.Machine.execDevDusk p s
  | .devFenceSet p => Sys2Proof.Machine.execDevFenceSet p s
  | .strmOpen p => Sys2Proof.Machine.execStrmOpen p s
  | .strmSubmit p => Sys2Proof.Machine.execStrmSubmit p s
  | .strmCut p => Sys2Proof.Machine.execStrmCut p s
  | .strmClose p => Sys2Proof.Machine.execStrmClose p s
  | .strmStatus p => Sys2Proof.Machine.execStrmStatus p s
  | .strmTimeouts p => Sys2Proof.Machine.execStrmTimeouts p s
  | .strmFilter p => Sys2Proof.Machine.execStrmFilter p s
  | .decPoolSize p => Sys2Proof.Machine.execDecPoolSize p s
  | .decStatus p => Sys2Proof.Machine.execDecStatus p s
  | .decAssign p => Sys2Proof.Machine.execDecAssign p s
  | .decColour p => Sys2Proof.Machine.execDecColour p s
  | .rayModelLoad p => Sys2Proof.Machine.execRayModelLoad p s
  | .rayModelStore p => Sys2Proof.Machine.execRayModelStore p s
  | .rayStatus p => Sys2Proof.Machine.execRayStatus p s
  | .rayRelease p => Sys2Proof.Machine.execRayRelease p s
  | .raySetRung p => Sys2Proof.Machine.execRaySetRung p s
  | .raySetDepthCurve p => Sys2Proof.Machine.execRaySetDepthCurve p s
  | .rayCoreMask p => Sys2Proof.Machine.execRayCoreMask p s
  | .cmpLayerSet p => Sys2Proof.Machine.execCmpLayerSet p s
  | .cmpFlip p => Sys2Proof.Machine.execCmpFlip p s
  | .cmpLayerOff p => Sys2Proof.Machine.execCmpLayerOff p s
  | .cmpScalerCoef p => Sys2Proof.Machine.execCmpScalerCoef p s
  | .dspTimingSet p => Sys2Proof.Machine.execDspTimingSet p s
  | .dspLock p => Sys2Proof.Machine.execDspLock p s
  | .dspStill p => Sys2Proof.Machine.execDspStill p s
  | .dspStatus p => Sys2Proof.Machine.execDspStatus p s
  | .dspProfileStore p => Sys2Proof.Machine.execDspProfileStore p s
  | .dspProfileRead p => Sys2Proof.Machine.execDspProfileRead p s
  | .dspOffset p => Sys2Proof.Machine.execDspOffset p s
  | .dspHoldover p => Sys2Proof.Machine.execDspHoldover p s
  | .pnlPowerOn p => Sys2Proof.Machine.execPnlPowerOn p s
  | .pnlPowerOff p => Sys2Proof.Machine.execPnlPowerOff p s
  | .pnlLinkTrain p => Sys2Proof.Machine.execPnlLinkTrain p s
  | .pnlGammaLoad p => Sys2Proof.Machine.execPnlGammaLoad p s
  | .pnlStatus p => Sys2Proof.Machine.execPnlStatus p s
  | .pnlRailSet p => Sys2Proof.Machine.execPnlRailSet p s
  | .pnlVcomSet p => Sys2Proof.Machine.execPnlVcomSet p s
  | .pnlGateTiming p => Sys2Proof.Machine.execPnlGateTiming p s
  | .witConfig p => Sys2Proof.Machine.execWitConfig p s
  | .witStart p => Sys2Proof.Machine.execWitStart p s
  | .witStop p => Sys2Proof.Machine.execWitStop p s
  | .witExport p => Sys2Proof.Machine.execWitExport p s
  | .encOpen p => Sys2Proof.Machine.execEncOpen p s
  | .encFrame p => Sys2Proof.Machine.execEncFrame p s
  | .encClose p => Sys2Proof.Machine.execEncClose p s
  | .encRate p => Sys2Proof.Machine.execEncRate p s
  | .encSearch p => Sys2Proof.Machine.execEncSearch p s
  | .bltSurfaceSet p => Sys2Proof.Machine.execBltSurfaceSet p s
  | .bltRun p => Sys2Proof.Machine.execBltRun p s
  | .timeRead p => Sys2Proof.Machine.execTimeRead p s
  | .timePortConfig p => Sys2Proof.Machine.execTimePortConfig p s
  | .timePtpConfig p => Sys2Proof.Machine.execTimePtpConfig p s
  | .timeEvtConfig p => Sys2Proof.Machine.execTimeEvtConfig p s
  | .timeSetEt p => Sys2Proof.Machine.execTimeSetEt p s
  | .timeRelease p => Sys2Proof.Machine.execTimeRelease p s
  | .timeIncrement p => Sys2Proof.Machine.execTimeIncrement p s
  | .timeStep p => Sys2Proof.Machine.execTimeStep p s
  | .memStatus p => Sys2Proof.Machine.execMemStatus p s
  | .memEccRegion p => Sys2Proof.Machine.execMemEccRegion p s
  | .memRelease p => Sys2Proof.Machine.execMemRelease p s
  | .memRegulator p => Sys2Proof.Machine.execMemRegulator p s
  | .memClass p => Sys2Proof.Machine.execMemClass p s
  | .memRetrain p => Sys2Proof.Machine.execMemRetrain p s
  | .nvmRecordRead p => Sys2Proof.Machine.execNvmRecordRead p s
  | .nvmRecordStore p => Sys2Proof.Machine.execNvmRecordStore p s
  | .nvmRawRead p => Sys2Proof.Machine.execNvmRawRead p s
  | .nvmRawWrite p => Sys2Proof.Machine.execNvmRawWrite p s
  | .nvmStatus p => Sys2Proof.Machine.execNvmStatus p s
  | .nvmRelease p => Sys2Proof.Machine.execNvmRelease p s
  | .nvmRefreshPolicy p => Sys2Proof.Machine.execNvmRefreshPolicy p s
  | .thmRead p => Sys2Proof.Machine.execThmRead p s
  | .thmCalRun p => Sys2Proof.Machine.execThmCalRun p s
  | .thmRelease p => Sys2Proof.Machine.execThmRelease p s
  | .thmLimits p => Sys2Proof.Machine.execThmLimits p s
  | .thmThresholds p => Sys2Proof.Machine.execThmThresholds p s
  | .thmCalPolicy p => Sys2Proof.Machine.execThmCalPolicy p s
  | .evtLogRead p => Sys2Proof.Machine.execEvtLogRead p s
  | .evtCounters p => Sys2Proof.Machine.execEvtCounters p s
  | .evtMask p => Sys2Proof.Machine.execEvtMask p s
  | .evtInject p => Sys2Proof.Machine.execEvtInject p s
  | .fwVersion p => Sys2Proof.Machine.execFwVersion p s
  | .fwUpdate p => Sys2Proof.Machine.execFwUpdate p s
  | .fwCertRead p => Sys2Proof.Machine.execFwCertRead p s
  | .fwAttest p => Sys2Proof.Machine.execFwAttest p s
  | .fwDebugUnlock p => Sys2Proof.Machine.execFwDebugUnlock p s
  | .submissionTailDoorbell f n value => Sys2Proof.Machine.execSubmissionTailDoorbell f n value s
  | .completionHeadDoorbell f n value => Sys2Proof.Machine.execCompletionHeadDoorbell f n value s
  | .eventHeadDoorbell f value => Sys2Proof.Machine.execEventHeadDoorbell f value s
  | .ringEnable f k n ctrl => Sys2Proof.Machine.execRingEnable f k n ctrl s
  | .ringDisable f k n ctrl => Sys2Proof.Machine.execRingDisable f k n ctrl s
  | .packetStart src => Sys2Proof.Machine.execPacketStart src s
  | .registerWrite f offset size value => Sys2Proof.Machine.execRegisterWrite f offset size value s
  | .tripClr value => Sys2Proof.Machine.execTripClr value s
  | .pfCtrlLevelWrite value => Sys2Proof.Machine.execPfCtrlLevelWrite value s
  | .bootLenWrite value => Sys2Proof.Machine.execBootLenWrite value s
  | .wakeReq value => Sys2Proof.Machine.execWakeReq value s
  | .watchdogControlWrite value => Sys2Proof.Machine.execWatchdogControlWrite value s
  | .kick value => Sys2Proof.Machine.execKick value s
  | .timeLatchRead => Sys2Proof.Machine.execTimeLatchRead s
  | .snapshot => Sys2Proof.Machine.execSnapshot s
  | .supRestart key => Sys2Proof.Machine.execSupRestart key s
  | .panelOff key => Sys2Proof.Machine.execPanelOff key s
  | .deviceReset key => Sys2Proof.Machine.execDeviceReset key s
  | .bar2Read f addr len => Sys2Proof.Machine.execBar2Read f addr len s
  | .bar2Write f addr bytes => Sys2Proof.Machine.execBar2Write f addr bytes s
  | .smbPacketWrite bytes pecOk => Sys2Proof.Machine.execSmbPacketWrite bytes pecOk s
  | .smbCompletionRead => Sys2Proof.Machine.execSmbCompletionRead s
  | .smbEventRead => Sys2Proof.Machine.execSmbEventRead s
  | .smbStatusRead => Sys2Proof.Machine.execSmbStatusRead s
  | .smbAlertResponse => Sys2Proof.Machine.execSmbAlertResponse s
  | .heartbeatTick => Sys2Proof.Machine.execHeartbeatTick s
  | .watchdogWarn => Sys2Proof.Machine.execWatchdogWarn s
  | .watchdogExpiry => Sys2Proof.Machine.execWatchdogExpiry s
  | .datagramReceived port d => Sys2Proof.Machine.execDatagramReceived port d s
  | .strmSubmitBufferRead ctx => Sys2Proof.Machine.execStrmSubmitBufferRead ctx s
  | .fragmentGapExpiry ctx au => Sys2Proof.Machine.execFragmentGapExpiry ctx au s
  | .stallTimerExpiry ctx => Sys2Proof.Machine.execStallTimerExpiry ctx s
  | .contextFallsBehind ctx => Sys2Proof.Machine.execContextFallsBehind ctx s
  | .codecItemStart core => Sys2Proof.Machine.execCodecItemStart core s
  | .partComplete core => Sys2Proof.Machine.execPartComplete core s
  | .syncInEdge sub => Sys2Proof.Machine.execSyncInEdge sub s
  | .missedEdge => Sys2Proof.Machine.execMissedEdge s
  | .scheduledInstant => Sys2Proof.Machine.execScheduledInstant s
  | .freeRunPeriod => Sys2Proof.Machine.execFreeRunPeriod s
  | .holdoverExpiry => Sys2Proof.Machine.execHoldoverExpiry s
  | .dspLockTimeout => Sys2Proof.Machine.execDspLockTimeout s
  | .stillStepDown => Sys2Proof.Machine.execStillStepDown s
  | .synthesisWindowOpen => Sys2Proof.Machine.execSynthesisWindowOpen s
  | .rayModelChecksDone => Sys2Proof.Machine.execRayModelChecksDone s
  | .tileDispatch core => Sys2Proof.Machine.execTileDispatch core s
  | .tileSteal cluster => Sys2Proof.Machine.execTileSteal cluster s
  | .tileCommit core cycles => Sys2Proof.Machine.execTileCommit core cycles s
  | .qualityRepredict => Sys2Proof.Machine.execQualityRepredict s
  | .viewCacheAgePromotion cluster => Sys2Proof.Machine.execViewCacheAgePromotion cluster s
  | .tileContextAgePromotion cluster => Sys2Proof.Machine.execTileContextAgePromotion cluster s
  | .encodeRowComplete core => Sys2Proof.Machine.execEncodeRowComplete core s
  | .encRingPoll session => Sys2Proof.Machine.execEncRingPoll session s
  | .signatureComplete => Sys2Proof.Machine.execSignatureComplete s
  | .flipSurfaceRelease layer => Sys2Proof.Machine.execFlipSurfaceRelease layer s
  | .exportAckReceived port payload => Sys2Proof.Machine.execExportAckReceived port payload s
  | .exportResendTimeout => Sys2Proof.Machine.execExportResendTimeout s
  | .bltEntryStart list entry => Sys2Proof.Machine.execBltEntryStart list entry s
  | .bltEntryComplete list entry => Sys2Proof.Machine.execBltEntryComplete list entry s
  | .scanoutLineSlot wovenNs layerNs => Sys2Proof.Machine.execScanoutLineSlot wovenNs layerNs s
  | .panelRailStep good => Sys2Proof.Machine.execPanelRailStep good s
  | .railFault rail cause => Sys2Proof.Machine.execRailFault rail cause s
  | .trainingStep lockOk => Sys2Proof.Machine.execTrainingStep lockOk s
  | .trainingTimeout => Sys2Proof.Machine.execTrainingTimeout s
  | .linkLockLoss => Sys2Proof.Machine.execLinkLockLoss s
  | .laneDeviceFault lane => Sys2Proof.Machine.execLaneDeviceFault lane s
  | .fastRetrainEnd ok => Sys2Proof.Machine.execFastRetrainEnd ok s
  | .dischargeStart => Sys2Proof.Machine.execDischargeStart s
  | .dischargeStep => Sys2Proof.Machine.execDischargeStep s
  | .powerLossDischargeStart => Sys2Proof.Machine.execPowerLossDischargeStart s
  | .panelLockout => Sys2Proof.Machine.execPanelLockout s
  | .panelLockoutRelease => Sys2Proof.Machine.execPanelLockoutRelease s
  | .retrainPauseDue ch => Sys2Proof.Machine.execRetrainPauseDue ch s
  | .retrainPauseStart ch => Sys2Proof.Machine.execRetrainPauseStart ch s
  | .retrainPauseEnd ch => Sys2Proof.Machine.execRetrainPauseEnd ch s
  | .linkCrcFail ch write => Sys2Proof.Machine.execLinkCrcFail ch write s
  | .errorRetrainStart ch => Sys2Proof.Machine.execErrorRetrainStart ch s
  | .errorRetrainEnd ch ok => Sys2Proof.Machine.execErrorRetrainEnd ch ok s
  | .requestAgeLimit port => Sys2Proof.Machine.execRequestAgeLimit port s
  | .regulatorRecompute means => Sys2Proof.Machine.execRegulatorRecompute means s
  | .eccScrubStep => Sys2Proof.Machine.execEccScrubStep s
  | .poisonedRead owner => Sys2Proof.Machine.execPoisonedRead owner s
  | .nvmPageProgramDone verifyOk => Sys2Proof.Machine.execNvmPageProgramDone verifyOk s
  | .marginReadStep weak corrected bad => Sys2Proof.Machine.execMarginReadStep weak corrected bad s
  | .nvmScanEnd => Sys2Proof.Machine.execNvmScanEnd s
  | .sensorSampleCycle readings => Sys2Proof.Machine.execSensorSampleCycle readings s
  | .shutdownDeadline => Sys2Proof.Machine.execShutdownDeadline s
  | .island0SensorSample readings => Sys2Proof.Machine.execIsland0SensorSample readings s
  | .hardwareTrip sensor => Sys2Proof.Machine.execHardwareTrip sensor s
  | .ladderStep => Sys2Proof.Machine.execLadderStep s
  | .powerLimitTick pEst => Sys2Proof.Machine.execPowerLimitTick pEst s
  | .calibrationDue item => Sys2Proof.Machine.execCalibrationDue item s
  | .calibrationRunEnd m => Sys2Proof.Machine.execCalibrationRunEnd m s
  | .avsRegulatorFault south => Sys2Proof.Machine.execAvsRegulatorFault south s
  | .lockstepMismatch restartNs => Sys2Proof.Machine.execLockstepMismatch restartNs s
  | .rayCoreFault core => Sys2Proof.Machine.execRayCoreFault core s
  | .coreSelfTestEnd core pass => Sys2Proof.Machine.execCoreSelfTestEnd core pass s
  | .fabricFault cluster => Sys2Proof.Machine.execFabricFault cluster s
  | .codecCoreFault core => Sys2Proof.Machine.execCodecCoreFault core s
  | .islandStall island => Sys2Proof.Machine.execIslandStall island s
  | .dieLinkCrcError => Sys2Proof.Machine.execDieLinkCrcError s
  | .frameReceived port f => Sys2Proof.Machine.execFrameReceived port f s
  | .ptpSyncReceived m => Sys2Proof.Machine.execPtpSyncReceived m s
  | .ptpAnnounceReceived m => Sys2Proof.Machine.execPtpAnnounceReceived m s
  | .delayRespReceived m => Sys2Proof.Machine.execDelayRespReceived m s
  | .delayReqInterval => Sys2Proof.Machine.execDelayReqInterval s
  | .pdelayReqInterval port => Sys2Proof.Machine.execPdelayReqInterval port s
  | .ptpSyncTimeout reason => Sys2Proof.Machine.execPtpSyncTimeout reason s
  | .portLink port up => Sys2Proof.Machine.execPortLink port up s
  | .portModeReady port => Sys2Proof.Machine.execPortModeReady port s
  | .evtInEdge pin rising => Sys2Proof.Machine.execEvtInEdge pin rising s
  | .evtOutPulse pin => Sys2Proof.Machine.execEvtOutPulse pin s
  | .evtOutPulseEnd pin => Sys2Proof.Machine.execEvtOutPulseEnd pin s
  | .ref10mPresenceChange present => Sys2Proof.Machine.execRef10mPresenceChange present s
  | .vddAonRise => Sys2Proof.Machine.execVddAonRise s
  | .resetNAssert => Sys2Proof.Machine.execResetNAssert s
  | .resetNRelease straps => Sys2Proof.Machine.execResetNRelease straps s
  | .vsenseReset => Sys2Proof.Machine.execVsenseReset s
  | .vsenseResetRelease straps => Sys2Proof.Machine.execVsenseResetRelease straps s
  | .memoryTrainingDone m => Sys2Proof.Machine.execMemoryTrainingDone m s
  | .imageCheckDone => Sys2Proof.Machine.execImageCheckDone s
  | .commandReady => Sys2Proof.Machine.execCommandReady s
  | .warningCrossing vsenseMv => Sys2Proof.Machine.execWarningCrossing vsenseMv s
  | .powerLossSeal => Sys2Proof.Machine.execPowerLossSeal s
  | .brownout => Sys2Proof.Machine.execBrownout s
  | .perstNAssert => Sys2Proof.Machine.execPerstNAssert s
  | .perstNRelease => Sys2Proof.Machine.execPerstNRelease s
  | .wakeNAssert => Sys2Proof.Machine.execWakeNAssert s
  | .pmcsrD0Write => Sys2Proof.Machine.execPmcsrD0Write s
  | .duskEntryComplete => Sys2Proof.Machine.execDuskEntryComplete s
  | .duskExitReady => Sys2Proof.Machine.execDuskExitReady s
  | .fwUpdateReadbackDone => Sys2Proof.Machine.execFwUpdateReadbackDone s
  | .powerFailWarningEnd => Sys2Proof.Machine.execPowerFailWarningEnd s
  | .functionLevelReset vf => Sys2Proof.Machine.execFunctionLevelReset vf s
  | .srIovVfEnable count => Sys2Proof.Machine.execSrIovVfEnable count s
  | .vddAonFall => Sys2Proof.Machine.execVddAonFall s
  | .clockStretch island cycles => Sys2Proof.Machine.execClockStretch island cycles s

end Sys2Proof.Machine
end

