-- ==== Sys2Proof/Machine/Tick.lean ====
section
/-!
DEFINITION. The timing clock (R436 to R439), and what goes by its cycles: the ports' egress (R449) and the end of an ET slew
(R455).
-/

namespace Sys2Proof.Machine

/-- One period of the 500 MHz timing clock: each base advances by its increment (R437). -/
def State.advance (s : State) : State :=
  { s with time.nt := wrapTime (s.time.nt + s.time.ntInc), time.dt := wrapTime (s.time.dt + s.time.dtInc),
           time.et := wrapTime (s.time.et + s.time.etInc), time.mt := wrapTime (s.time.mt + s.time.mtInc),
           time.cycles := s.time.cycles + 1 }

/-- A slew of ET ends as soon as ET is within 100 ns of its target (R455). -/
def State.watchSlew (s : State) : State := if s.net.etSlewing then s.steerEt else s

/-- One cycle of the timing clock; without VDD_AON the bases stand (R437, R439, R640). -/
def State.tick (s : State) : State :=
  if s.pwr.vddAon then ((s.advance.watchSlew).drainPort 0).drainPort 1 else s

end Sys2Proof.Machine
end

