-- ==== Sys2Proof/WellFormed.lean ====
section
/-!
DEFINITION. Which commands are well formed: their operands name rings, ports, lanes and sensors that the device has, and bytes as
many as their bus or their frame carries. The machine answers ill-formed commands too; no board or host can make one.
-/

namespace Sys2Proof

/-- The function has a ring of the number: 16 of each kind for the PF, 2 for a VF, one event ring each (R41, R74). -/
def Func.has (f : Func) (k : RingKind) (n : Fin 16) : Bool :=
  match k with
  | .event => n.val == 0
  | _ => match f with
    | .pf => true
    | .vf _ => decide (n.val < 2)

/-- The ring exists. -/
def Src.wf : Src → Bool
  | .ring f n => f.has .submission n
  | .smbus => true

/-- The packet is on a ring that exists, and has as many bytes behind its header as its length says, where that length is one
of R51; ring 0x80 carries at most 16 words (R90). -/
def Packet.wf (p : Packet) : Bool :=
  let n := p.length.toNat
  p.src.wf && p.body.length == (if 4 ≤ n ∧ n ≤ 64 then 4 * n - 16 else 0) && (p.src != .smbus || decide (n ≤ 16))

/-- A UDP datagram's addresses, port and payload fit their fields. -/
def Datagram.wf (d : Datagram) : Bool :=
  decide (d.srcIp < 2 ^ 32 ∧ d.dstIp < 2 ^ 32 ∧ d.dstPort < 2 ^ 16 ∧ d.payload.length ≤ 65507)

/-- An Ethernet frame has at least its header. -/
def EthFrame.wf (f : EthFrame) : Bool := decide (14 ≤ f.bytes.length)

/-- A training reaches a rate of R466, or none. -/
def MemTraining.wf (m : MemTraining) : Bool := m.rate == 0 || decide (12 ≤ m.rate ∧ m.rate ≤ 20)

/-- A time of a PTP message fits the 96 bits of R436. -/
def ptpTimeOk (t : Nat) : Bool := decide (t < 10 ^ 9 * 2 ^ 64)

/-- A Sync's origin time fits its field. -/
def PtpSync.wf (m : PtpSync) : Bool := ptpTimeOk m.origin && decide (m.domain < 256 ∧ m.transport < 2)

/-- An Announce's fields fit theirs. -/
def PtpAnnounce.wf (m : PtpAnnounce) : Bool :=
  decide (m.domain < 256 ∧ m.transport < 2 ∧ m.priority1 < 256 ∧ m.clockClass < 256 ∧ m.accuracy < 256 ∧ m.variance < 65536 ∧
    m.priority2 < 256 ∧ m.steps < 65536)

/-- A Delay_Resp's fields fit theirs. -/
def PtpDelayResp.wf (m : PtpDelayResp) : Bool := ptpTimeOk m.received && decide (m.domain < 256 ∧ m.transport < 2 ∧ m.seq < 65536)

/-- One sample for each of the 40 sensors. -/
def samplesOk (rs : List SensorSample) : Bool := rs.length == 40

/-- The access sizes of a BAR0 write. -/
def sizeOk (n : Nat) : Bool := n == 1 || n == 2 || n == 4 || n == 8

/-- The command is well formed. -/
def Instr.wf : Instr → Bool
  | .devNop p
  | .devInfo p
  | .devAbort p
  | .devSetLevel p
  | .devFenceRead p
  | .devVfGrant p
  | .devStatus p
  | .devDusk p
  | .devFenceSet p
  | .strmOpen p
  | .strmSubmit p
  | .strmCut p
  | .strmClose p
  | .strmStatus p
  | .strmTimeouts p
  | .strmFilter p
  | .decPoolSize p
  | .decStatus p
  | .decAssign p
  | .decColour p
  | .rayModelLoad p
  | .rayModelStore p
  | .rayStatus p
  | .rayRelease p
  | .raySetRung p
  | .raySetDepthCurve p
  | .rayCoreMask p
  | .cmpLayerSet p
  | .cmpFlip p
  | .cmpLayerOff p
  | .cmpScalerCoef p
  | .dspTimingSet p
  | .dspLock p
  | .dspStill p
  | .dspStatus p
  | .dspProfileStore p
  | .dspProfileRead p
  | .dspOffset p
  | .dspHoldover p
  | .pnlPowerOn p
  | .pnlPowerOff p
  | .pnlLinkTrain p
  | .pnlGammaLoad p
  | .pnlStatus p
  | .pnlRailSet p
  | .pnlVcomSet p
  | .pnlGateTiming p
  | .witConfig p
  | .witStart p
  | .witStop p
  | .witExport p
  | .encOpen p
  | .encFrame p
  | .encClose p
  | .encRate p
  | .encSearch p
  | .bltSurfaceSet p
  | .bltRun p
  | .timeRead p
  | .timePortConfig p
  | .timePtpConfig p
  | .timeEvtConfig p
  | .timeSetEt p
  | .timeRelease p
  | .timeIncrement p
  | .timeStep p
  | .memStatus p
  | .memEccRegion p
  | .memRelease p
  | .memRegulator p
  | .memClass p
  | .memRetrain p
  | .nvmRecordRead p
  | .nvmRecordStore p
  | .nvmRawRead p
  | .nvmRawWrite p
  | .nvmStatus p
  | .nvmRelease p
  | .nvmRefreshPolicy p
  | .thmRead p
  | .thmCalRun p
  | .thmRelease p
  | .thmLimits p
  | .thmThresholds p
  | .thmCalPolicy p
  | .evtLogRead p
  | .evtCounters p
  | .evtMask p
  | .evtInject p
  | .fwVersion p
  | .fwUpdate p
  | .fwCertRead p
  | .fwAttest p
  | .fwDebugUnlock p => p.wf
  | .submissionTailDoorbell f n _ => f.has .submission n
  | .completionHeadDoorbell f n _ => f.has .completion n
  | .ringEnable f k n ctrl => f.has k n && ctrl.getLsbD 0
  | .ringDisable f k n ctrl => f.has k n && !ctrl.getLsbD 0
  | .packetStart src => src.wf
  | .registerWrite _ _ size _ => sizeOk size
  | .bar2Read _ _ len => decide (0 < len ∧ len ≤ 4096)
  | .bar2Write _ _ bytes => decide (0 < bytes.length ∧ bytes.length ≤ 4096)
  | .smbPacketWrite bytes _ => decide (bytes.length ≤ 255)
  | .datagramReceived _ d => d.wf
  | .exportAckReceived _ payload => decide (payload.length ≤ 65507)
  | .scanoutLineSlot _ layerNs => layerNs.length == 8
  | .laneDeviceFault lane => decide (lane < 48)
  | .regulatorRecompute means => means.length == 10
  | .sensorSampleCycle readings => samplesOk readings
  | .island0SensorSample readings => samplesOk readings
  | .hardwareTrip sensor => decide (sensor.val < 36)
  | .frameReceived _ f => f.wf
  | .ptpSyncReceived m => m.wf
  | .ptpAnnounceReceived m => m.wf
  | .delayRespReceived m => m.wf
  | .memoryTrainingDone m => m.wf
  | .eventHeadDoorbell _ _
  | .tripClr _
  | .pfCtrlLevelWrite _
  | .bootLenWrite _
  | .wakeReq _
  | .watchdogControlWrite _
  | .kick _
  | .timeLatchRead
  | .snapshot
  | .supRestart _
  | .panelOff _
  | .deviceReset _
  | .smbCompletionRead
  | .smbEventRead
  | .smbStatusRead
  | .smbAlertResponse
  | .heartbeatTick
  | .watchdogWarn
  | .watchdogExpiry
  | .strmSubmitBufferRead _
  | .fragmentGapExpiry _ _
  | .stallTimerExpiry _
  | .contextFallsBehind _
  | .codecItemStart _
  | .partComplete _
  | .syncInEdge _
  | .missedEdge
  | .scheduledInstant
  | .freeRunPeriod
  | .holdoverExpiry
  | .dspLockTimeout
  | .stillStepDown
  | .synthesisWindowOpen
  | .rayModelChecksDone
  | .tileDispatch _
  | .tileSteal _
  | .tileCommit _ _
  | .qualityRepredict
  | .viewCacheAgePromotion _
  | .tileContextAgePromotion _
  | .encodeRowComplete _
  | .encRingPoll _
  | .signatureComplete
  | .flipSurfaceRelease _
  | .exportResendTimeout
  | .bltEntryStart _ _
  | .bltEntryComplete _ _
  | .panelRailStep _
  | .railFault _ _
  | .trainingStep _
  | .trainingTimeout
  | .linkLockLoss
  | .fastRetrainEnd _
  | .dischargeStart
  | .dischargeStep
  | .powerLossDischargeStart
  | .panelLockout
  | .panelLockoutRelease
  | .retrainPauseDue _
  | .retrainPauseStart _
  | .retrainPauseEnd _
  | .linkCrcFail _ _
  | .errorRetrainStart _
  | .errorRetrainEnd _ _
  | .requestAgeLimit _
  | .eccScrubStep
  | .poisonedRead _
  | .nvmPageProgramDone _
  | .marginReadStep _ _ _
  | .nvmScanEnd
  | .shutdownDeadline
  | .ladderStep
  | .powerLimitTick _
  | .calibrationDue _
  | .calibrationRunEnd _
  | .avsRegulatorFault _
  | .lockstepMismatch _
  | .rayCoreFault _
  | .coreSelfTestEnd _ _
  | .fabricFault _
  | .codecCoreFault _
  | .islandStall _
  | .dieLinkCrcError
  | .delayReqInterval
  | .pdelayReqInterval _
  | .ptpSyncTimeout _
  | .portLink _ _
  | .portModeReady _
  | .evtInEdge _ _
  | .evtOutPulse _
  | .evtOutPulseEnd _
  | .ref10mPresenceChange _
  | .vddAonRise
  | .resetNAssert
  | .resetNRelease _
  | .vsenseReset
  | .vsenseResetRelease _
  | .imageCheckDone
  | .commandReady
  | .warningCrossing _
  | .powerLossSeal
  | .brownout
  | .perstNAssert
  | .perstNRelease
  | .wakeNAssert
  | .pmcsrD0Write
  | .duskEntryComplete
  | .duskExitReady
  | .fwUpdateReadbackDone
  | .powerFailWarningEnd
  | .functionLevelReset _
  | .srIovVfEnable _
  | .vddAonFall
  | .clockStretch _ _ => true

end Sys2Proof
end

