-- ==== Sys2Proof/Safety.lean ====
section
/-!
DEFINITION. What a run is, and what counts as safe in it: no command stops the block, what the state holds keeps its form, and time
goes on.
-/

namespace Sys2Proof.Machine

/-- States that steps reach from a state. -/
inductive Reaches : State → State → Prop where
  /-- No step. -/
  | refl (s : State) : Reaches s s
  /-- One step more. -/
  | next {s t u : State} (h : Reaches s t) (e : step t = .next u) : Reaches s u

/-- The block never stops: a step from the state has a next state. -/
def State.Runs (s : State) : Prop := ∃ t, step s = .next t

/-- A command is put at the front of the queue, as a sender does. -/
def State.push (s : State) (c : Instr) : State := { s with pending := c :: s.pending }

/-- The four memories keep their canonical form: addresses rise and no entry holds what an unlisted address reads as. -/
abbrev State.MemWf (s : State) : Prop :=
  s.hmem.wf = true ∧ s.dmem.wf = true ∧ s.nvm.mem.wf = true ∧ s.fw.flash.wf = true

/-- An increment lies in the range of R438. -/
def incOk (n : Nat) : Bool := decide (0x1FF7CED91 ≤ n ∧ n ≤ 0x20083126F)

/-- The increments of NT, DT, ET and MT lie in the range of R438. -/
abbrev State.IncOk (s : State) : Prop :=
  incOk s.time.ntInc = true ∧ incOk s.time.dtInc = true ∧ incOk s.time.etInc = true ∧ incOk s.time.mtInc = true

/-! ## Frames -/

/-- The parts of State. -/
inductive Piece where
  | pending | free | hmem | dmem | pwr | regs | fns | cmd | smb | time | net | sup | strm | dec | ray | cmp | blt | wit | enc
  | chain | dsp | pnl | nvm | fw | thm | memc
  deriving DecidableEq, Repr

/-- A part is the same in two states. -/
def Piece.same (s t : State) : Piece → Prop
  | .pending => t.pending = s.pending
  | .free => t.free = s.free
  | .hmem => t.hmem = s.hmem
  | .dmem => t.dmem = s.dmem
  | .pwr => t.pwr = s.pwr
  | .regs => t.regs = s.regs
  | .fns => t.fns = s.fns
  | .cmd => t.cmd = s.cmd
  | .smb => t.smb = s.smb
  | .time => t.time = s.time
  | .net => t.net = s.net
  | .sup => t.sup = s.sup
  | .strm => t.strm = s.strm
  | .dec => t.dec = s.dec
  | .ray => t.ray = s.ray
  | .cmp => t.cmp = s.cmp
  | .blt => t.blt = s.blt
  | .wit => t.wit = s.wit
  | .enc => t.enc = s.enc
  | .chain => t.chain = s.chain
  | .dsp => t.dsp = s.dsp
  | .pnl => t.pnl = s.pnl
  | .nvm => t.nvm = s.nvm
  | .fw => t.fw = s.fw
  | .thm => t.thm = s.thm
  | .memc => t.memc = s.memc

/-- Two states agree on every part but those of a list. -/
structure AgreeBut (ps : List Piece) (s t : State) : Prop where
  /-- Each other part is the same. -/
  same : ∀ x, x ∉ ps → x.same s t

/-- The byte at an address of host memory or of device memory. -/
def State.byteAt (s : State) (dev : Bool) (a : Nat) : Byte := if dev then s.dmem.read a else s.hmem.read a

/-- An address lies in one of some ranges of bytes, each a place and a length. -/
abbrev inRanges (ws : List (Loc × Nat)) (dev : Bool) (a : Nat) : Prop :=
  ∃ w ∈ ws, w.1.dev = dev ∧ w.1.addr ≤ a ∧ a < w.1.addr + w.2

/-- Every byte of host memory and of device memory outside some ranges reads as before. -/
def MemBut (ws : List (Loc × Nat)) (s t : State) : Prop :=
  ∀ dev a, ¬ inRanges ws dev a → t.byteAt dev a = s.byteAt dev a

/-! ## Packets -/

/-- A packet of an opcode starts at once: its ring is enabled and has nothing queued, the device serves it, its waits hold, and no
check of its header refuses it (R45, R52, R54, R64). -/
abbrev State.Starts (s : State) (o : Op) (p : Packet) : Prop :=
  s.takes p.src = true ∧ (p.src = .smbus → s.smb.outstanding = false) ∧ s.queued p.src = [] ∧ s.canStart p = true ∧
    checkHeader s o p = none ∧ s.thermalLimited o p = false

/-- The state in which a packet that starts runs: its ring has been served, and ring 0x80 has it outstanding (R65, R91). -/
def State.sent (s : State) (p : Packet) : State :=
  (if p.src = .smbus then { s with smb.outstanding := true } else s).serve p.src

/-- What every packet that starts and completes leaves in the journal beside its own effect: it is counted in the total order, and no
flight of it is left; `c` is what its effect makes of fences, policies and grants (R63, R88). -/
def Counted (s : State) (c : CmdState) (u : State) : Prop :=
  u.cmd = { c with served := u.cmd.served, committed := s.cmd.committed + 1, nextTicket := s.cmd.nextTicket + 1,
                   flights := s.cmd.flights.filter fun f => f.ticket != s.cmd.nextTicket }

/-- The packet ends as `Counted` says with its ring served, and changes nothing at the sideband but the mark that one of ring 0x80 is
outstanding. -/
def Ended (p : Packet) (s : State) (c : CmdState) (u : State) : Prop :=
  Counted s c u ∧ u.cmd.served = some p.src ∧ u.smb = (s.sent p).smb

/-- The command's whole effect is done at its start: the next state is `u` with the completion of the packet put to it, and `u` has the
effect. -/
def DoneAs (i : Instr) (p : Packet) (s : State) (st : Status) (r0 r1 : Nat) (eff : State → Prop) : Prop :=
  ∃ u, exec i s = .next (u.complete p st (word r0) (word r1)) ∧ eff u

/-- The command is accepted as a request: the next state is `u` with the completion ACCEPTED put to it, `u` has the effect, and one
outcome more is awaited (R58, R76). -/
def AcceptedAs (i : Instr) (p : Packet) (s : State) (eff : State → Prop) : Prop :=
  ∃ u, exec i s = .next (u.complete p .accepted 0 0) ∧ u.cmd.committed = s.cmd.committed + 1 ∧
    u.cmd.outcomes.length = s.cmd.outcomes.length + 1 ∧ (∀ f ∈ s.cmd.outcomes, f ∈ u.cmd.outcomes) ∧ eff u

/-- The command is handed to its unit and completes later: the next state has the effect, and the packet stands in the journal,
committed or not (R58, R70, R563). -/
def BegunAs (i : Instr) (p : Packet) (s : State) (committed : Bool) (eff : State → Prop) : Prop :=
  ∃ u, exec i s = .next u ∧ u.cmd.nextTicket = s.cmd.nextTicket + 1 ∧
    (∃ f ∈ u.cmd.flights, f.ticket = s.cmd.nextTicket ∧ f.pkt = p ∧ f.committed = committed) ∧
    u.cmd.committed = s.cmd.committed + (if committed then 1 else 0) ∧ eff u

/-- The command is refused: nothing but its completion with the status and both results, and AUTH_EVENT where it is AUTH_FAILED (R56, R77). -/
def RefusedAs (i : Instr) (p : Packet) (s : State) (st : Status) (r0 r1 : Nat) : Prop :=
  exec i s = .next (((s.sent p).complete p st (word r0) (word r1)).authEvent p st)

/-- The command that is a packet of an opcode. -/
def opInstr : Op → Packet → Instr
  | .devNop => .devNop
  | .devInfo => .devInfo
  | .devAbort => .devAbort
  | .devSetLevel => .devSetLevel
  | .devFenceRead => .devFenceRead
  | .devVfGrant => .devVfGrant
  | .devStatus => .devStatus
  | .devDusk => .devDusk
  | .devFenceSet => .devFenceSet
  | .strmOpen => .strmOpen
  | .strmSubmit => .strmSubmit
  | .strmCut => .strmCut
  | .strmClose => .strmClose
  | .strmStatus => .strmStatus
  | .strmTimeouts => .strmTimeouts
  | .strmFilter => .strmFilter
  | .decPoolSize => .decPoolSize
  | .decStatus => .decStatus
  | .decAssign => .decAssign
  | .decColour => .decColour
  | .rayModelLoad => .rayModelLoad
  | .rayModelStore => .rayModelStore
  | .rayStatus => .rayStatus
  | .rayRelease => .rayRelease
  | .raySetRung => .raySetRung
  | .raySetDepthCurve => .raySetDepthCurve
  | .rayCoreMask => .rayCoreMask
  | .cmpLayerSet => .cmpLayerSet
  | .cmpFlip => .cmpFlip
  | .cmpLayerOff => .cmpLayerOff
  | .cmpScalerCoef => .cmpScalerCoef
  | .dspTimingSet => .dspTimingSet
  | .dspLock => .dspLock
  | .dspStill => .dspStill
  | .dspStatus => .dspStatus
  | .dspProfileStore => .dspProfileStore
  | .dspProfileRead => .dspProfileRead
  | .dspOffset => .dspOffset
  | .dspHoldover => .dspHoldover
  | .pnlPowerOn => .pnlPowerOn
  | .pnlPowerOff => .pnlPowerOff
  | .pnlLinkTrain => .pnlLinkTrain
  | .pnlGammaLoad => .pnlGammaLoad
  | .pnlStatus => .pnlStatus
  | .pnlRailSet => .pnlRailSet
  | .pnlVcomSet => .pnlVcomSet
  | .pnlGateTiming => .pnlGateTiming
  | .witConfig => .witConfig
  | .witStart => .witStart
  | .witStop => .witStop
  | .witExport => .witExport
  | .encOpen => .encOpen
  | .encFrame => .encFrame
  | .encClose => .encClose
  | .encRate => .encRate
  | .encSearch => .encSearch
  | .bltSurfaceSet => .bltSurfaceSet
  | .bltRun => .bltRun
  | .timeRead => .timeRead
  | .timePortConfig => .timePortConfig
  | .timePtpConfig => .timePtpConfig
  | .timeEvtConfig => .timeEvtConfig
  | .timeSetEt => .timeSetEt
  | .timeRelease => .timeRelease
  | .timeIncrement => .timeIncrement
  | .timeStep => .timeStep
  | .memStatus => .memStatus
  | .memEccRegion => .memEccRegion
  | .memRelease => .memRelease
  | .memRegulator => .memRegulator
  | .memClass => .memClass
  | .memRetrain => .memRetrain
  | .nvmRecordRead => .nvmRecordRead
  | .nvmRecordStore => .nvmRecordStore
  | .nvmRawRead => .nvmRawRead
  | .nvmRawWrite => .nvmRawWrite
  | .nvmStatus => .nvmStatus
  | .nvmRelease => .nvmRelease
  | .nvmRefreshPolicy => .nvmRefreshPolicy
  | .thmRead => .thmRead
  | .thmCalRun => .thmCalRun
  | .thmRelease => .thmRelease
  | .thmLimits => .thmLimits
  | .thmThresholds => .thmThresholds
  | .thmCalPolicy => .thmCalPolicy
  | .evtLogRead => .evtLogRead
  | .evtCounters => .evtCounters
  | .evtMask => .evtMask
  | .evtInject => .evtInject
  | .fwVersion => .fwVersion
  | .fwUpdate => .fwUpdate
  | .fwCertRead => .fwCertRead
  | .fwAttest => .fwAttest
  | .fwDebugUnlock => .fwDebugUnlock

/-- Where the completion entry of a packet on a ring goes: the next entry of the completion ring that its submission ring names,
if that ring takes it now (R47 to R49). -/
def State.entryPlace (s : State) : Src → List (Loc × Nat)
  | .smbus => []
  | .ring f n => match s.subRing f n.val with
    | none => []
    | some r => match s.cplRing f r.target.toNat with
      | none => []
      | some c => [(s.ringLoc f c.locDev (ringBase c.baseLo c.baseHi) (16 * c.next), 16)]

/-- Where the next event of a function goes (R74). -/
def State.eventPlace (s : State) (f : Func) : Loc × Nat :=
  let r := (s.fn f).evt
  (s.ringLoc f r.locDev (ringBase r.baseLo r.baseHi) (32 * r.next), 32)

/-- Where the next event of each function goes (R74). -/
def State.eventPlaces (s : State) : List (Loc × Nat) := allFuncs.map s.eventPlace

/-- The bytes of the event rings of all functions (R74). -/
def State.eventRings (s : State) : List (Loc × Nat) :=
  allFuncs.map fun f =>
    let r := (s.fn f).evt
    (s.ringLoc f r.locDev (ringBase r.baseLo r.baseHi) 0, 32 * evtSize)

/-! ## Pulses -/

/-- Each output pin that follows base `b` takes as its next pulse the first one, behind those emitted, that still lies ahead on that base as
it stands in `t`; every other pin, and all else of each pin, is as in `s` (R461). -/
def PulsesAimed (b : Nat) (s t : State) : Prop :=
  t.time.evtOut.length = s.time.evtOut.length ∧ ∀ (i : Nat) (o : EvtOut), s.time.evtOut[i]? = some o → ∃ k, o.next ≤ k ∧
    t.time.evtOut[i]? = some { o with next := if o.base = b then k else o.next } ∧
    (o.base = b → 0 < o.period → t.baseOf b / 0x10000 ≤ o.start + k * o.period ∧
      ∀ j, o.next ≤ j → j < k → o.start + j * o.period < t.baseOf b / 0x10000)

/-! ## Resets -/

/-- What a hold of islands 1 to 127 in reset leaves of a state: the bases and the raw count run on with their increments, memory, flash and
a store with no page program in flight stand, the output pins drive their inactive levels, and every unit is as right after reset (R439,
R538, R590, R640). -/
def State.HeldFrom (s t : State) : Prop :=
  t.pending = s.pending ∧ t.hmem = s.hmem ∧ t.dmem = s.dmem ∧ t.pwr.ready = false ∧ t.pwr.loss = none ∧ t.pwr.dusk = .awake ∧
    t.pwr.linkUp = false ∧
    t.time = { nt := s.time.nt, dt := s.time.dt, et := s.time.et, mt := s.time.mt, ntInc := s.time.ntInc, dtInc := s.time.dtInc,
               etInc := s.time.etInc, mtInc := s.time.mtInc, refPresent := s.time.refPresent, refUsed := s.time.refUsed,
               cycles := s.time.cycles, evtOut := s.time.evtOut.map EvtOut.held } ∧
    t.net = { ports := s.net.ports.map PortState.held } ∧ t.fns = s.fns.map FnState.held ∧ t.sup = {} ∧
    t.cmd = {} ∧ t.smb = {} ∧ t.strm = {} ∧ t.dec = {} ∧ t.ray = {} ∧ t.cmp = {} ∧ t.blt = {} ∧ t.wit = {} ∧
    t.enc = List.replicate 4 {} ∧ t.chain = {} ∧ t.dsp = {} ∧ t.pnl.mode = .off ∧ t.pnl.good = List.replicate 4 false ∧
    t.pnl.vcomOn = false ∧ t.pnl.link = none ∧ t.fw.flash = s.fw.flash ∧
    (s.nvm.flight = none → t.nvm.mem = s.nvm.mem ∧ t.nvm.bad = s.nvm.bad ∧ t.nvm.soft = s.nvm.soft)

end Sys2Proof.Machine
end

