-- ==== Sys2Proof/Certificates/Slice0/Obligations.lean ====
section
/-!
DEFINITION. The statements about the block, one definition each: what every command does and leaves alone, and what every step keeps.
Where a clause rests on a choice of the model, the docstring names its entry in notes/assumptions.
-/

open Sys2Proof Sys2Proof.Machine

/-- A step takes the command at the front of the queue and is its meaning on the state with the queue's rest.
Choices of the model on which clauses rest: log 1. It speaks of the form of the model, and no rule states it. -/
def Obligations.StepRunsFront : Prop := ∀ (s : State) (c : Instr) (rest : List Instr),
  step { s with pending := c :: rest } = exec c { s with pending := rest }

/-- With no command waiting the timing clock ticks (the model's choice, log 1): each base advances by its increment and wraps at 2^48 s, and a cycle
is counted; a port whose last frame has left begins the next one that waits, and a slew of ET goes on; nothing else changes. Without VDD_AON
nothing changes at all (R437, R439, R449, R455, R640). -/
def Obligations.StepTicks : Prop := ∀ (s : State), s.pending = [] →
  (s.pwr.vddAon = false → step s = .next s) ∧
  (s.pwr.vddAon = true → ∃ t, step s = .next t ∧ AgreeBut [.time, .net] s t ∧
    t.time = { s.time with
      nt := t.time.nt, dt := t.time.dt, et := t.time.et, mt := t.time.mt, cycles := s.time.cycles + 1
      etInc := t.time.etInc, evtOut := t.time.evtOut } ∧
    (∀ k < 4, k ≠ 2 → t.baseOf k = (s.baseOf k + s.incOf k) % (0x1000000000000 * 1000000000 * 0x100000000)) ∧
    (s.net.etSlewing = false → t.time.etInc = s.time.etInc ∧ t.time.evtOut = s.time.evtOut ∧
      t.time.et = (s.time.et + s.time.etInc) % (0x1000000000000 * 1000000000 * 0x100000000) ∧ t.net.etSlewing = false ∧
      ((∀ q ∈ s.net.ports, q.outq = []) → t.net = s.net)) ∧
    (∀ n < 2, (s.port n).mode ≠ 0 → (s.port n).link = true → (s.port n).sendEnd ≤ s.time.cycles + 1 →
      ∀ f, nextOut (s.port n).outq = some f → (t.port n).outq = (s.port n).outq.erase f ∧
      (f.stamp = .plain → (t.port n).lastSent = f.bytes ∧ (t.port n).lastBad = f.bad ∧
        (t.port n).sendEnd = s.time.cycles + 1 + wireCycles (s.port n).mode f.bytes.length)) ∧
    ∀ n, (s.port n).mode = 0 ∨ (s.port n).link = false ∨ s.time.cycles + 1 < (s.port n).sendEnd → (t.port n).outq = (s.port n).outq)

/-- No command stops the block, in any state, and none touches the queue of those that wait; so a step always has a next state.
It speaks of the form of the model, and no rule states it. -/
def Obligations.NeverStops : Prop :=
  (∀ (c : Instr) (s : State), ∃ t, exec c s = .next t ∧ t.pending = s.pending) ∧ ∀ s : State, s.Runs

/-- The memories are in canonical form right after reset, and every increment lies in its range (R438).
Choices of the model on which clauses rest: log 3. It speaks of the form of the model, and no rule states it. -/
def Obligations.InvariantsAtReset : Prop := State.reset.MemWf ∧ State.reset.IncOk

/-- Every step keeps the canonical form of host memory, device memory, the store and the flash.
Choices of the model on which clauses rest: log 3. It speaks of the form of the model, and no rule states it. -/
def Obligations.MemoryCanonical : Prop := ∀ (s t : State), s.MemWf → step s = .next t → t.MemWf

/-- The increment of every base lies between 0x1_FF7C_ED91 and 0x2_0083_126F: TIME_INCREMENT refuses a value outside that range, and no
step, of a policy of the device or of a command, leaves one outside it (R438). -/
def Obligations.IncrementsInRange : Prop :=
  (∀ (s t : State), s.IncOk → step s = .next t → t.IncOk) ∧
  ∀ (s : State) (p : Packet), s.Starts .timeIncrement p → p.u8 16 ≤ 3 →
    p.u64 24 < 0x1FF7CED91 ∨ 0x20083126F < p.u64 24 → RefusedAs (.timeIncrement p) p s .badParam 24 0

/-- Right after reset: RESET_N low, the device not command-ready and in phase RESET, no link and no ring enabled, every class at basic, every fence
and time base 0 with nominal increments, nothing queued and no fault, the log empty, no port up and nothing waiting to leave one, every lane off,
and no picture, window, layer, session or record (R42, R59, R66, R437, R439, R446, R593, R594, R640).
Choices of the model on which clauses rest: log 2, log 3, log 5. -/
def Obligations.ResetState : Prop :=
  State.reset.pending = [] ∧ State.reset.pwr.vddAon = true ∧ State.reset.pwr.resetLow = true ∧ State.reset.pwr.ready = false ∧
  State.reset.phaseCode = 0 ∧ State.reset.pwr.linkUp = false ∧ State.reset.devWord = 0xFF000000 ∧
  State.reset.fns.length = 9 ∧
  (∀ x ∈ State.reset.fns, x.evt.enable = false ∧ x.evt.masked = [] ∧ (∀ r ∈ x.sub, r.enable = false ∧ r.classes = 0 ∧ r.fetched = []) ∧
    ∀ r ∈ x.cpl, r.enable = false ∧ r.held = []) ∧
  State.reset.cmd.fences = List.replicate 256 0 ∧ State.reset.cmd.flights = [] ∧ State.reset.cmd.outcomes = [] ∧
  State.reset.cmd.vfsEnabled = 0 ∧ State.reset.cmd.served = none ∧
  (∀ k < 4, State.reset.baseOf k = 0 ∧ State.reset.incOf k = 0x200000000) ∧ State.reset.time.cycles = 0 ∧
  (∀ q ∈ State.reset.net.ports, q.mode = 0 ∧ q.link = false ∧ q.outq = [] ∧ q.txDisable = true) ∧
  State.reset.hmem = [] ∧ State.reset.dmem = [] ∧ State.reset.sup.fault = false ∧ State.reset.sup.logQueue = [] ∧
  State.reset.ray.window = none ∧ State.reset.ray.complete = none ∧ State.reset.ray.presented = none ∧ State.reset.pnl.mode = .off ∧
  State.reset.dsp.timing = none ∧ (∀ l ∈ State.reset.cmp.layers, l.attr = none ∧ l.flip = none) ∧
  (∀ x ∈ State.reset.dec.slots, x.state = .free) ∧ State.reset.blt.lists = [] ∧ State.reset.chain.records = []

/-- A completion. Where its ring is enabled and not full it is written at the next entry: tag, status, ring number, phase and the two results,
and the ring moves on; its vector is raised where IRQ is set or the status is 0x0100 or above. A full ring, or one that still holds some, holds it,
a disabled ring takes none, and QUIET writes nothing for OK; neither raises anything. Ring 0x80 keeps it and asserts SMB_ALERT_N
(R47, R49, R54, R55, R78, R92, R673).
Choices of the model on which clauses rest: log 83. -/
def Obligations.Completions : Prop := ∀ (s : State) (p : Packet) (st : Status) (r0 r1 : Word), p.signals = false →
  (∀ f n r c, p.src = .ring f n → s.subRing f n.val = some r → s.cplRing f r.target.toNat = some c → (p.quiet = true → st ≠ .ok) →
    (c.enable = true → c.used < 2 ^ c.sizeLog2.toNat → c.held = [] → (c.locDev = false ∨ s.stopped = false) →
      (let t := s.complete p st r0 r1
       AgreeBut [.fns] (s.writeAt (s.ringLoc f c.locDev (c.baseHi.toNat * 0x100000000 + c.baseLo.toNat) (16 * c.next))
        (leBytes 2 p.tag.toNat ++ leBytes 2 st.code.toNat ++ [byte n.val, byte (b2n c.phase)] ++ leBytes 2 0 ++ leBytes 4 r0.toNat ++
          leBytes 4 r1.toNat)) t ∧
       t.fns = s.fns.modify (fnIdx f) fun x => { x with
         cpl := x.cpl.set r.target.toNat { c with
           next := (c.next + 1) % 2 ^ c.sizeLog2.toNat, used := c.used + 1,
           phase := if (c.next + 1) % 2 ^ c.sizeLog2.toNat = 0 then !c.phase else c.phase }
         vectors := if p.irq = true ∨ 0x100 ≤ st.code.toNat then
           x.vectors.modify (if c.target = 0xFF then r.target.toNat + 1 else c.target.toNat) (· + 1) else x.vectors })) ∧
    (c.enable = true → (2 ^ c.sizeLog2.toNat ≤ c.used ∨ c.held ≠ []) → (c.locDev = false ∨ s.stopped = false) →
      s.complete p st r0 r1 = s.updCpl f r.target.toNat fun y => { y with
        held := y.held ++ [{ ring := byte n.val, tag := p.tag, status := st.code, result0 := r0, result1 := r1,
                             irq := p.irq || decide (0x100 ≤ st.code.toNat) }] }) ∧
    (c.enable = false ∨ (c.locDev = true ∧ s.stopped = true) → s.complete p st r0 r1 = s)) ∧
  (∀ f n, p.src = .ring f n → p.quiet = true → s.complete p .ok r0 r1 = s) ∧
  (p.src = .smbus → (p.quiet = true → st ≠ .ok) →
    s.complete p st r0 r1 = { s with
      smb.completions := s.smb.completions ++ [{ ring := 0x80, tag := p.tag, status := st.code, result0 := r0, result1 := r1,
                                                 irq := p.irq || decide (0x100 ≤ st.code.toNat) }]
      smb.alert := true }) ∧
  (p.src = .smbus → p.quiet = true → s.complete p .ok r0 r1 = { s with smb.outstanding := false })

/-- A completion with a status of 0x0100 or above raises the completion ring's vector when it is written, whether or not IRQ is set; one
that is not written, because QUIET suppresses it, or because its ring is full or disabled, raises nothing (R55). -/
def Obligations.CompletionVectors : Prop := ∀ (s : State) (p : Packet) (st : Status) (r0 r1 : Word) (f : Func) (n : Fin 16) (r : SubRing)
    (c : CplRing), p.src = .ring f n → s.subRing f n.val = some r → s.cplRing f r.target.toNat = some c →
  (c.enable = true → c.used < 2 ^ c.sizeLog2.toNat → c.held = [] → (c.locDev = false ∨ s.stopped = false) → 0x100 ≤ st.code.toNat →
    ((s.complete p st r0 r1).fn f).vectors =
      (s.fn f).vectors.modify (if c.target = 0xFF then r.target.toNat + 1 else c.target.toNat) (· + 1)) ∧
  ((p.quiet = true ∧ st = .ok) ∨ c.enable = false ∨ 2 ^ c.sizeLog2.toNat ≤ c.used ∨ c.held ≠ [] ∨ (c.locDev = true ∧ s.stopped = true) →
    ∀ g, ((s.complete p st r0 r1).fn g).vectors = (s.fn g).vectors)

/-- An event. Where the event ring is enabled, does not mask its code and is not full, the event is written at the next entry with the ring's
count and the time of MT, and the ring's vector is raised; a full ring counts it; a masked code or a disabled ring takes nothing. A head doorbell that
frees an entry writes EVENTS_LOST with the count, and the sequence skips by it (R74, R75, R78).
Choices of the model on which clauses rest: log 51, log 83. -/
def Obligations.Events : Prop := ∀ (s : State) (f : Func) (r : EvtRing), (s.fn f).evt = r →
  (∀ e : EventRec, r.enable = true → e.code ∉ r.masked → (r.locDev = false ∨ s.stopped = false) → r.used < 256 →
    (let t := s.deliverEvent f e
     AgreeBut [.fns] (s.writeAt (s.eventPlace f).1
      (leBytes 2 e.code.toNat ++ [e.severity, byte (b2n r.phase)] ++ leBytes 4 r.seq.toNat ++ leBytes 4 e.mtSec.toNat ++
        leBytes 4 e.mtNs.toNat ++ leBytes 2 e.source.toNat ++ leBytes 2 e.tag.toNat ++ [e.ring, 0, 0, 0] ++
        leBytes 4 e.data0.toNat ++ leBytes 4 e.data1.toNat)) t ∧
     t.fns = s.fns.modify (fnIdx f) fun x => { x with
       evt := { r with
         next := (r.next + 1) % 256, used := r.used + 1, seq := r.seq + 1,
         phase := if (r.next + 1) % 256 = 0 then !r.phase else r.phase }
       vectors := x.vectors.modify (if r.target = 0xFF then 0 else r.target.toNat) (· + 1) })) ∧
  (∀ e : EventRec, r.enable = true → e.code ∉ r.masked → (r.locDev = false ∨ s.stopped = false) → 256 ≤ r.used →
    s.deliverEvent f e = s.updEvt f fun r => { r with lost := r.lost + 1 }) ∧
  (∀ e : EventRec, r.enable = false ∨ e.code ∈ r.masked ∨ (r.locDev = true ∧ s.stopped = true) → s.deliverEvent f e = s) ∧
  (∀ e : Event, s.stampEvent e = { code := e.code.code, severity := byte e.code.severity,
                                   mtSec := BitVec.ofNat 32 (s.time.mt / 1000000000 / 0x100000000 % 0x1000000000000),
                                   mtNs := BitVec.ofNat 32 (s.time.mt / 0x100000000 % 1000000000),
                                   source := BitVec.ofNat 16 e.source, tag := e.tag, ring := e.ring,
                                   data0 := BitVec.ofNat 32 e.data0, data1 := BitVec.ofNat 32 e.data1 }) ∧
  (∀ v : Word, s.fnAnswers f = true → s.sup.supState ≠ 2 → s.inDusk = false → s.pwr.dusk = .awake → s.thm.shutdown = none →
    (r.locDev = false ∨ s.stopped = false) → r.enable = true → r.lost ≠ 0 → EventCode.eventsLost.code ∉ r.masked →
    headValid 256 r.head r.used (v.toNat % 65536) = true → hasRing f 0 = true →
    ∃ t, exec (.eventHeadDoorbell f v) s = .next t ∧ AgreeBut [.fns, .sup] (s.writeAt (s.eventPlace f).1
      (leBytes 2 0x0102 ++ [2, byte (b2n r.phase)] ++ leBytes 4 (r.seq + r.lost).toNat ++ leBytes 4 (secField s.time.mt) ++
        leBytes 4 (nsField s.time.mt) ++ leBytes 2 0xFFFF ++ [0, 0, 0xFF, 0, 0, 0] ++ leBytes 4 r.lost.toNat ++ leBytes 4 0)) t ∧
      (t.fn f).evt = { r with
        head := v.toNat % 65536, used := (r.next + 256 - v.toNat % 65536) % 256 + 1, next := (r.next + 1) % 256, lost := 0,
        seq := r.seq + r.lost + 1, phase := if (r.next + 1) % 256 = 0 then !r.phase else r.phase })

/-- A signal adds 1 to its counter, and to no other, when the packet completes, whatever the status and whether or not QUIET suppresses
the entry; it happens before the entry is written: the rest of the completion is that of the same packet without SIGNAL_FENCE in the state with
the signal made (R67). -/
def Obligations.FenceSignals : Prop := ∀ (s : State) (p : Packet) (st : Status) (r0 r1 : Word) (i : Nat), p.signals = true →
  fenceIndex p.src.func p.signalFence.toNat = some i →
  (i < s.cmd.fences.length → (s.complete p st r0 r1).fence i = s.fence i + 1) ∧
  (∀ j, j ≠ i → (s.complete p st r0 r1).fence j = s.fence j) ∧
  s.complete p st r0 r1 =
    ({ s with cmd.fences := s.cmd.fences.set i (s.fence i + 1) } : State).complete { p with flags := p.flags &&& 0xF7 } st r0 r1

/-- What every packet meets before its opcode's own rules, whatever its opcode: a ring that is disabled, and ring 0x80 with a packet outstanding,
carry none; one that waits for a fence which the signed comparison of R68 does not find reached, for earlier packets of its ring, for its
completion ring, for its turn, or behind another, is held in its ring; then a length outside 4 to 64, an opcode that a VF may not use, an expert opcode
whose class is not enabled, header bits that must be 0, a fence index outside the function's range, a length that is not the opcode's, reserved
parameter bytes and, after an unrecovered fault, what no longer commits are refused with their status and the offset of the field at fault; else the
opcode's rules run (R5, R45, R49 to R54, R59, R64 to R66, R68, R83, R93, R572).
Choices of the model on which clauses rest: log 7. -/
def Obligations.HeaderChecks : Prop := ∀ (s : State) (o : Op) (p : Packet),
  (s.takes p.src = false ∨ (p.src = .smbus ∧ s.smb.outstanding = true) → exec (opInstr o p) s = .next s) ∧
  (s.takes p.src = true → (p.src = .smbus → s.smb.outstanding = false) → s.queued p.src ≠ [] ∨ s.canStart p = false →
    exec (opInstr o p) s = .next ((if p.src = .smbus then { s with smb.outstanding := true } else s).enqueue p.src
      { opcode := BitVec.ofNat 16 o.info.code, pkt := p })) ∧
  (s.canStart p = true ↔ s.serving = true ∧ s.cplBlocked p.src = false ∧ s.hasTurn p.src = true ∧
    (p.fenceBefore = true → ∀ f ∈ s.cmd.flights, f.pkt.src ≠ p.src) ∧
    ∀ i, p.waits = true → p.src ≠ .smbus → fenceIndex p.src.func p.waitFence.toNat = some i →
      0 ≤ (BitVec.setWidth 32 (s.fence i) - p.waitValue).toInt) ∧
  (s.takes p.src = true → (p.src = .smbus → s.smb.outstanding = false) → s.queued p.src = [] → s.canStart p = true →
    (p.length.toNat < 4 ∨ 64 < p.length.toNat → RefusedAs (opInstr o p) p s .badLength 2 0) ∧
    (4 ≤ p.length.toNat → p.length.toNat ≤ 64 →
      (∀ n k, p.src = .ring (.vf n) k → o.info.vf = false ∨ o.info.expert = true →
        RefusedAs (opInstr o p) p s .badOpcode 0 0) ∧
      (p.src.isVf = false → o.info.expert = true → (s.classesOf p.src).getLsbD o.cls = false →
        RefusedAs (opInstr o p) p s .expertLocked 0 0) ∧
      ((p.src.isVf = true → o.info.vf = true ∧ o.info.expert = false) →
       (p.src.isVf = false → o.info.expert = true → (s.classesOf p.src).getLsbD o.cls = true) →
        (32 ≤ p.flags.toNat → RefusedAs (opInstr o p) p s .badParam 6 0) ∧
        (p.flags.toNat < 32 → p.resv7 ≠ 0 → RefusedAs (opInstr o p) p s .badParam 7 0) ∧
        (p.flags.toNat < 32 → p.resv7 = 0 → p.resv10 ≠ 0 →
          RefusedAs (opInstr o p) p s .badParam (if p.resv10.toNat % 256 ≠ 0 then 10 else 11) 0) ∧
        (p.flags.toNat < 32 → p.resv7 = 0 → p.resv10 = 0 →
          (p.src = .smbus → p.signals = true ∨ p.waits = true ∨ p.irq = true → RefusedAs (opInstr o p) p s .badParam 6 0) ∧
          (p.src ≠ .smbus → p.waits = true →
            fenceIndex p.src.func p.waitFence.toNat = none → RefusedAs (opInstr o p) p s .badParam 8 0) ∧
          (p.src ≠ .smbus → (p.waits = true → (fenceIndex p.src.func p.waitFence.toNat).isSome) → p.signals = true →
            fenceIndex p.src.func p.signalFence.toNat = none → RefusedAs (opInstr o p) p s .badParam 9 0) ∧
          ((p.src = .smbus → p.signals = false ∧ p.waits = false ∧ p.irq = false) →
           (p.waits = true → (fenceIndex p.src.func p.waitFence.toNat).isSome) →
           (p.signals = true → (fenceIndex p.src.func p.signalFence.toNat).isSome) →
            ((∃ n, o.info.length = some n ∧ n ≠ p.length.toNat) → RefusedAs (opInstr o p) p s .badLength 2 0) ∧
            (∀ off, (∀ n, o.info.length = some n → n = p.length.toNat) →
              firstReserved (namedIn o p) 16 (p.body.take (4 * p.length.toNat - 16)) = some off →
              RefusedAs (opInstr o p) p s .badParam off 0) ∧
            ((∀ n, o.info.length = some n → n = p.length.toNat) → p.src ≠ .smbus →
              firstReserved (namedIn o p) 16 (p.body.take (4 * p.length.toNat - 16)) = none → s.sup.fault = true →
              o ∉ [Op.devInfo, .devStatus, .evtLogRead, .evtCounters, .fwVersion, .fwCertRead] →
              RefusedAs (opInstr o p) p s .hwFault noField 0))))) ∧
    (checkHeader s o p = none →
      exec (opInstr o p) s = .next ((s.sent p).settle p ((s.sent p).judgeStart o p
        (runOp o s.cmd.nextTicket p ((s.sent p).putFlight o p false))))))

/-- DEV_NOP, DEV_INFO, DEV_FENCE_READ, DEV_STATUS and FW_VERSION report their words and change nothing; DEV_STATUS with an address
stores its snapshot there, and no other byte (R84 to R88, R600).
Choices of the model on which clauses rest: log 86. -/
def Obligations.DevReports : Prop := ∀ (s : State) (p : Packet),
  (s.Starts .devNop p → DoneAs (.devNop p) p s .ok 0 0 fun u => Ended p s s.cmd u ∧ AgreeBut [.cmd, .smb] s u) ∧
  (s.Starts .devInfo p → p.u8 16 ≤ 6 →
    DoneAs (.devInfo p) p s .ok (s.infoWords p.src.func (p.u8 16)).1 (s.infoWords p.src.func (p.u8 16)).2
      fun u => Ended p s s.cmd u ∧ AgreeBut [.cmd, .smb] s u) ∧
  (s.Starts .fwVersion p → DoneAs (.fwVersion p) p s .ok s.fwWord s.bootWord fun u =>
    Ended p s s.cmd u ∧ AgreeBut [.cmd, .smb] s u) ∧
  (∀ i, s.Starts .devFenceRead p → fenceIndex p.src.func (p.u8 16) = some i →
    DoneAs (.devFenceRead p) p s .ok ((s.fence i).toNat % 0x100000000) ((s.fence i).toNat / 0x100000000)
      fun u => Ended p s s.cmd u ∧ AgreeBut [.cmd, .smb] s u) ∧
  (s.Starts .devStatus p → p.u64 24 = 0 →
    DoneAs (.devStatus p) p s .ok s.devWord (s.dsp.dfn.toNat % 0x100000000)
      fun u => Ended p s s.cmd u ∧ AgreeBut [.cmd, .smb] s u) ∧
  (∀ l, s.MemWf → s.Starts .devStatus p → p.u64 24 ≠ 0 → p.u64 24 % 64 = 0 → s.resolve p.src (p.u64 24) 256 = some l →
    (l.dev = true → l.addr + 256 ≤ s.capacity) →
    DoneAs (.devStatus p) p s .ok s.devWord (s.dsp.dfn.toNat % 0x100000000)
      fun u => Ended p s s.cmd u ∧ u.readAt l 256 = s.snapshotBytes p.src.func ∧ MemBut [(l, 256)] s u ∧
        AgreeBut [.cmd, .smb, .hmem, .dmem] s u)

/-- DEV_FENCE_SET sets a fence counter on which no packet waits. DEV_SET_LEVEL, on PF ring 0, enables or disables the classes of its mask on
the PF ring or ring 0x80 that it names and on no other ring; a policy whose class is then enabled nowhere is at the basic level again, and while
no policy is at the expert level nothing else changes (R59 to R61, R69, R86).
Choices of the model on which clauses rest: log 87. -/
def Obligations.DevSettings : Prop := ∀ (s : State) (p : Packet),
  (∀ i, s.Starts .devFenceSet p → fenceIndex p.src.func (p.u8 16) = some i → s.fenceWaited i = false →
    DoneAs (.devFenceSet p) p s .ok 0 0 fun u =>
      Ended p s { s.cmd with fences := s.cmd.fences.set i (BitVec.ofNat 64 (p.u64 24)) } u ∧ AgreeBut [.cmd, .smb] s u) ∧
  (s.Starts .devSetLevel p → p.src = .ring .pf 0 → (p.u8 16 ≤ 15 ∨ p.u8 16 = 0x80) → p.u8 17 ≤ 1 → p.u16 18 % 2 = 0 →
    (let set (c : Half) : Half := if p.u8 17 = 1 then c ||| BitVec.ofNat 16 (p.u16 18) else c &&& ~~~BitVec.ofNat 16 (p.u16 18)
     DoneAs (.devSetLevel p) p s .ok 0 0 fun u =>
      (∀ r, (u.subRing .pf r).map (·.classes) = (s.subRing .pf r).map fun x => if r = p.u8 16 then set x.classes else x.classes) ∧
      u.smb.classes = (if p.u8 16 = 0x80 then set s.smb.classes else s.smb.classes) ∧
      (∀ k < 7, u.isExpert k = (s.isExpert k && u.classEnabled (policyClass k))) ∧
      ((∀ k < 7, s.isExpert k = false) → Counted s s.cmd u ∧ AgreeBut [.cmd, .smb, .fns] s u ∧
        u.fns = (s.updSub .pf (p.u8 16) fun x => { x with classes := set x.classes }).fns ∧
        u.smb = { s.smb with classes := if p.u8 16 = 0x80 then set s.smb.classes else s.smb.classes })))

/-- DEV_VF_GRANT gives a VF that SR-IOV has enabled the grant that it names, and no other VF's grant changes. A grant that takes nothing away
from the old one changes nothing else; one that takes something away ends the VF's uncompleted packets that use it, and raises the VF's
vector 3 (R80, R81, R89).
DEV_ABORT: a target that has not started leaves its ring and completes with ABORTED and the aborter's tag, before DEV_ABORT completes
with OK; a started target that has not committed leaves its unit and ends the same way; a target that is past its commit point runs on, and
DEV_ABORT completes with NOT_RUNNING, as it does when there is no target (R71).
Choices of the model on which clauses rest: log 85, log 86, log 87. -/
def Obligations.GrantsAndAborts : Prop :=
  (∀ (s : State) (p : Packet) (n : Fin 8),
  s.Starts .devVfGrant p → s.grantRange p = none → p.u8 16 = n.val + 1 → n.val < s.cmd.vfsEnabled →
  s.grantTaken (n.val + 1) (grantNamed p) = none →
  ((s.fn (.vf n)).grant.shrinks (grantNamed p) = false →
    DoneAs (.devVfGrant p) p s .ok 0 0 fun u => Ended p s s.cmd u ∧ AgreeBut [.cmd, .smb, .fns] s u ∧
      u.fns = (s.updFn (.vf n) fun x => { x with grant := grantNamed p }).fns) ∧
  ((s.fn (.vf n)).grant.shrinks (grantNamed p) = true →
    DoneAs (.devVfGrant p) p s .ok 0 0 fun u =>
      (∀ m, (u.fn (.vf m)).grant = ((s.updFn (.vf n) fun x => { x with grant := grantNamed p }).fn (.vf m)).grant) ∧
      (∀ x ∈ s.cmd.flights, x.ticket ∈ s.lostTickets (.vf n) (s.fn (.vf n)).grant (grantNamed p) →
        ∀ y ∈ u.cmd.flights, y.ticket ≠ x.ticket) ∧
      (∀ k, (s.fn (.vf n)).vectors[3]? = some k → ∃ m, (u.fn (.vf n)).vectors[3]? = some m ∧ k < m) ∧
      AgreeBut [.cmd, .smb, .fns, .hmem, .dmem, .strm, .dec, .net, .enc, .ray, .cmp, .blt, .nvm, .pnl, .chain, .pwr, .dsp, .sup, .wit, .free] s u)) ∧
  (∀ (s : State) (p : Packet) (f : Func) (n m : Fin 16) (r : SubRing) (e : Fetched) (rest : List Fetched),
  (s.Starts .devAbort p → p.src = .ring f n → p.u8 16 = m.val → (m ∈ ringsOf f) → (∀ x ∈ s.cmd.flights, x.pkt.src ≠ .ring f m) →
    s.subRing f m.val = some r → r.fetched = e :: rest → e.pkt.tag = BitVec.ofNat 16 (p.u16 18) → m ≠ n →
    DoneAs (.devAbort p) p s .ok 0 0 fun u => Counted s (s.signalOf e.pkt).cmd u ∧
      AgreeBut [.cmd] ((s.updSub f m.val fun _ => { r with fetched := rest }).complete e.pkt .aborted (word p.tag.toNat) 0) u) ∧
  (∀ x, s.Starts .devAbort p → p.src = .ring f n → p.u8 16 = m.val → (m ∈ ringsOf f) →
    s.cmd.flights.find? (fun y => y.pkt.src == .ring f m && y.pkt.tag == BitVec.ofNat 16 (p.u16 18) &&
      y.ticket != s.cmd.nextTicket) = some x → x.committed = true →
    DoneAs (.devAbort p) p s .notRunning 0 0 fun u => Ended p s s.cmd u ∧ AgreeBut [.cmd, .smb] s u) ∧
  (∀ x, s.Starts .devAbort p → p.src = .ring f n → p.u8 16 = m.val → (m ∈ ringsOf f) →
    s.cmd.flights.find? (fun y => y.pkt.src == .ring f m && y.pkt.tag == BitVec.ofNat 16 (p.u16 18) &&
      y.ticket != s.cmd.nextTicket) = some x → x.committed = false → (∀ y ∈ s.cmd.flights, y.ticket ≠ s.cmd.nextTicket) →
    DoneAs (.devAbort p) p s .ok 0 0 fun u => (∀ y ∈ u.cmd.flights, y.ticket ≠ x.ticket) ∧
      AgreeBut [.cmd, .fns, .hmem, .dmem, .smb] (s.cancelWork x.ticket) u) ∧
  (s.Starts .devAbort p → p.src = .ring f n → p.u8 16 = m.val → (m ∈ ringsOf f) → (∀ x ∈ s.cmd.flights, x.pkt.src ≠ .ring f m) →
    (∀ r, s.subRing f m.val = some r → ∀ e ∈ r.fetched, e.pkt.tag ≠ BitVec.ofNat 16 (p.u16 18)) →
    DoneAs (.devAbort p) p s .notRunning 0 0 fun u => Ended p s s.cmd u ∧ AgreeBut [.cmd, .smb] s u))

/-- STRM_OPEN puts the lowest closed context into SEEKING with the source, port, identity and group that it names, and joins the group;
the result is the context's number (R119, R141).
STRM_CLOSE closes a context: it leaves the air and its group, its assignments and its colour override end, its slots return to the pool
as soon as nothing holds them, its buffers that wait complete with ABORTED, and a cut that names it fails (R139, R142, R158, R170). STRM_TIMEOUTS and STRM_FILTER set what they name; STRM_STATUS reads the words of its selector
(R143 to R146).
Choices of the model on which clauses rest: log 54. -/
def Obligations.StrmContexts : Prop :=
  (∀ (s : State) (p : Packet) (i : Nat) (rest : List Nat),
  s.Starts .strmOpen p → p.u8 16 ≤ 2 →
  (p.u8 16 ≠ 0 → p.u32 24 = 0 ∨ 0xE0000000 ≤ p.u32 24 ∧ p.u32 24 < 0xF0000000) →
  (p.u8 16 ≠ 0 → ∀ c ∈ s.strm.ctxs, c.state = .closed ∨ c.source ≠ p.u8 16 ∨
    c.udpPort ≠ (if p.u16 18 = 0 then 47811 else p.u16 18) ∨ idsOverlap c.streamId (p.u32 20) = false) →
  (List.range 4).filter (fun i => (s.ctx i).state == .closed) = i :: rest →
  (if p.src.isVf then s.openedBy p.src.func < (s.grantOf p.src).streams else s.reservedCtxs < rest.length + 1) →
  DoneAs (.strmOpen p) p s .ok i 0 fun u =>
    Ended p s s.cmd u ∧ AgreeBut [.cmd, .smb, .strm, .dec, .net] s u ∧
    u.strm = (s.updCtx i fun _ =>
      { state := .seeking, source := p.u8 16, owner := p.src.func,
        udpPort := if p.u8 16 = 0 then 0 else if p.u16 18 = 0 then 47811 else p.u16 18,
        streamId := if p.u8 16 = 0 then 0 else p.u32 20, group := if p.u8 16 = 0 then 0 else p.u32 24,
        lastByte := s.mtNs }).strm ∧
    u.dec = { s.dec with ctxs := s.dec.ctxs.modify i fun _ => {} } ∧
    u.net = (if p.u8 16 ≠ 0 ∧ p.u32 24 ≠ 0 then s.sendIgmp (p.u8 16 - 1) igmpReport (p.u32 24) else s).net) ∧
  (∀ (s : State) (p : Packet) (i : Nat), p.u8 16 = i → i ≤ 3 →
  (s.Starts .strmClose p → s.ctxAllowed p i = true → (s.ctx i).state ≠ .closed → (s.ctx i).submits = [] →
    (∀ x, s.strm.cut = some x → x.2 ≠ i) →
    DoneAs (.strmClose p) p s .ok 0 0 fun u =>
      Ended p s s.cmd u ∧ AgreeBut [.cmd, .smb, .strm, .dec, .net] s u ∧
      u.strm = { (s.updCtx i fun _ => {}).strm with onAir := if s.strm.onAir = some i then none else s.strm.onAir } ∧
      u.net = (if (s.ctx i).source ≠ 0 ∧ (s.ctx i).group ≠ 0 then s.sendIgmp ((s.ctx i).source - 1) igmpLeave (s.ctx i).group
        else s).net ∧
      u.dec = ({ (s.updCtx i fun _ => {}) with
        dec.slots := s.dec.slots.map (closeSlot i)
        dec.ctxs := s.dec.ctxs.modify i fun (d : DecCtx) =>
          { d with assigns := List.replicate 32 {}, colourMatrix := 0, colourRange := 0, rps := [],
                   pocs := List.replicate 32 {} } }).sweepSlots.dec) ∧
  (s.Starts .strmClose p → s.ctxAllowed p i = true → (s.ctx i).state ≠ .closed →
    DoneAs (.strmClose p) p s .ok 0 0 fun u => (u.ctx i).state = .closed ∧ u.strm.onAir ≠ some i ∧
      (∀ x, u.strm.cut = some x → x.2 ≠ i) ∧ (∀ k, k ≠ i → u.ctx k = s.ctx k) ∧
      (∀ x ∈ (s.ctx i).submits, ∀ g ∈ u.cmd.flights, g.ticket ≠ x.ticket) ∧
      (∀ x, s.strm.cut = some x → x.2 = i → ∀ g ∈ u.cmd.outcomes, g.ticket ≠ x.1) ∧
      AgreeBut [.cmd, .smb, .strm, .dec, .net, .fns, .hmem, .dmem, .sup] s u) ∧
  (s.Starts .strmTimeouts p → 1 ≤ p.u16 18 → p.u16 18 ≤ 1000 →
    (p.u16 20 = 0 ∨ 10 ≤ p.u16 20 ∧ p.u16 20 ≤ 60000 ∧ p.u16 18 < p.u16 20) →
    DoneAs (.strmTimeouts p) p s .ok 0 0 fun u => Ended p s s.cmd u ∧ AgreeBut [.cmd, .smb, .strm] s u ∧
      u.strm = (s.updCtx i fun c => { c with gapMs := p.u16 18, stallMs := p.u16 20 }).strm) ∧
  (s.Starts .strmFilter p → (s.ctx i).state ≠ .closed → (s.ctx i).source ≠ 0 → p.u16 18 ≠ 0 →
    (p.u32 28 = 0 ∨ 0xE0000000 ≤ p.u32 28 ∧ p.u32 28 < 0xF0000000) →
    DoneAs (.strmFilter p) p s .ok 0 0 fun u => Ended p s s.cmd u ∧ AgreeBut [.cmd, .smb, .strm, .net] s u ∧
      (let c := s.ctx i
       let w := if c.group ≠ p.u32 28 ∧ c.group ≠ 0 then s.sendIgmp (c.source - 1) igmpLeave c.group else s
       u.net = (if c.group ≠ p.u32 28 ∧ p.u32 28 ≠ 0 then w.sendIgmp (c.source - 1) igmpReport (p.u32 28) else w).net) ∧
      u.strm = (s.updCtx i fun c =>
        { c with udpPort := p.u16 18, fSource := p.u32 20, fMask := p.u32 24, group := p.u32 28 }).strm) ∧
  (∀ w, s.Starts .strmStatus p → s.ctxAllowed p i = true →
    [(s.ctxStateWord i, (s.ctx i).lastHanded.toNat), ((s.ctx i).nComplete.toNat, (s.ctx i).nTruncated.toNat),
      ((s.ctx i).nRejected.toNat, (s.ctx i).nDiscarded.toNat), ((s.ctx i).nDatagrams.toNat, (s.ctx i).nDropped.toNat),
      ((s.ctx i).nMissing.toNat, (s.ctx i).nSets.toNat),
      ((s.ctx i).nDuplicates.toNat, (s.ctx i).nSkipped.toNat)][p.u8 17]? = some w →
    DoneAs (.strmStatus p) p s .ok w.1 w.2 fun u => Ended p s s.cmd u ∧ AgreeBut [.cmd, .smb] s u))

/-- STRM_SUBMIT puts its buffer behind the others of a PCIe context; nothing of it enters the context yet (R70, R124). STRM_CUT is accepted for an open context of the PF that is not on air, while no cut waits (R137).
A buffer of STRM_SUBMIT is read once fewer than four access units wait and the reassembly buffer has room for it: that is its commit
point, its packet ends, and no other context is touched; it stays while that does not hold. One whose bytes complete no unit completes with
0 units; its bytes wait for those of the next buffer, and the stall timer starts anew; a buffer in device memory is read through port 9
(R70, R95, R121, R125, R126, R134, R472). -/
def Obligations.StrmBuffers : Prop :=
  (∀ (s : State) (p : Packet) (i : Nat),
  p.u8 16 = i → i ≤ 3 → (s.ctx i).state ≠ .closed →
  (s.Starts .strmSubmit p → s.ctxAllowed p i = true → (s.ctx i).source = 0 → p.u32 20 % 4 = 0 → 4 ≤ p.u32 20 →
    p.u32 20 ≤ 33554432 → p.u64 24 % 4 = 0 → (s.resolve p.src (p.u64 24) (p.u32 20)).isSome →
    BegunAs (.strmSubmit p) p s false fun u => AgreeBut [.cmd, .smb, .strm] s u ∧
      u.strm = (s.updCtx i fun c =>
        { c with submits := c.submits ++ [⟨s.cmd.nextTicket, p.u32 20, p.u64 24⟩] }).strm) ∧
  (s.Starts .strmCut p → (s.ctx i).owner = .pf → s.strm.onAir ≠ some i → s.strm.cut = none →
    AcceptedAs (.strmCut p) p s fun u => AgreeBut [.cmd, .smb, .strm] s u ∧
      u.strm = { s.strm with cut := some (s.cmd.nextTicket, i) })) ∧
  (∀ (s : State) (n : Fin 4) (sub : Submit) (rest : List Submit) (f : Flight) (l : Loc),
  (s.ctx n.val).submits = sub :: rest → (s.ctx n.val).waiting.length < 4 → s.bufUsed + bufSpace sub.len ≤ bufLimit →
  s.flight sub.ticket = some f → s.commitRefusal = none → s.resolve f.pkt.src sub.addr sub.len = some l → s.commitHeld sub.ticket = false →
  (∃ t, exec (.strmSubmitBufferRead n) s = .next t ∧ t.cmd.committed = s.cmd.committed + 1 ∧
    (∀ x ∈ t.cmd.flights, x.ticket ≠ sub.ticket) ∧ (t.ctx n.val).submits = rest ∧ ∀ k, k ≠ n.val → t.ctx k = s.ctx k) ∧
  (n.val < s.strm.ctxs.length → (s.ctx n.val).mode ≠ .hunting → scanUnit ((s.ctx n.val).buf ++ s.readAt l sub.len) = .short →
    (let w := if l.dev = true then s.request 9 l.addr sub.len false else s
     exec (.strmSubmitBufferRead n) s = .next (((w.updCtx n.val fun c =>
      { c with submits := rest, buf := c.buf ++ s.readAt l sub.len, lastByte := s.mtNs, stallRun := c.stallMs }).commitFlight
        sub.ticket).finish sub.ticket .ok 0 0))) ∧
  (∀ m : Fin 4, 4 ≤ (s.ctx m.val).waiting.length → exec (.strmSubmitBufferRead m) s = .next s))

/-- A context whose stall timer has run out becomes STALLED with STREAM_STALLED, and a cut that names it fails (R121, R122, R139); one that
falls behind drops to SEEKING and discards what waits, the access unit that would have ended a stall among it, whose wait for a slot is
counted if it was long enough (R120, R163, R179). Where neither is due nothing changes.
A datagram without PARAMS that one context takes, for an access unit that it does not complete, is counted, restarts the gap and stall
timers, and its bytes and its mark stand in reassembly; one that reaches a port and belongs to no context is counted. A gap timer that has run
out ends its access unit: with NO_AU_START where its AU_START is not there in full, as TRUNCATED with the bytes missing in its event where
it is; one that has not run out does nothing (R129 to R133, R145).
Choices of the model on which clauses rest: log 10, log 12, log 54. -/
def Obligations.StrmIntake : Prop :=
  (∀ (s : State) (n : Fin 4),
  (s.stallDue n.val = true →
    exec (.stallTimerExpiry n) s = .next (((s.updCtx n.val fun c => { c with state := .stalled, stallHold := some none }).raise
      { code := .streamStalled, data0 := (s.ctx n.val).lastHanded.toNat, data1 := 0, owner := some (s.ctx n.val).owner }).failCut n.val)) ∧
  (s.stallDue n.val = false → exec (.stallTimerExpiry n) s = .next s) ∧
  (s.isBehind n.val = true →
    exec (.contextFallsBehind n) s = .next ((((s.ctx n.val).waiting.foldl (fun w a => w.endSlotWait n.val a) s).updCtx n.val fun c =>
      { c with state := .seeking, behind := true, nDiscarded := c.nDiscarded + word c.waiting.length, waiting := [],
               unbroken := false,
               stallHold := if ∃ a ∈ c.waiting, c.stallHold = some (some a.number) then none else c.stallHold }).sweepSlots)) ∧
  (s.isBehind n.val = false → exec (.contextFallsBehind n) s = .next s)) ∧
  (∀ (s : State) (n : Fin 4),
  (∀ (port : Port) (d : Datagram),
    (s.port (portIdx port)).mode ≠ 0 → (s.port (portIdx port)).link = true → s.fabricUp = true →
    (∀ i < 4, i ≠ n.val → ctxTakes (s.ctx i) (portIdx port) (s.port (portIdx port)).ipv4 d = false) →
    ctxTakes (s.ctx n.val) (portIdx port) (s.port (portIdx port)).ipv4 d = true →
    ((s.ctx n.val).streamId = 0 ∨ (s.ctx n.val).streamId = fieldAt d.payload 4 4) →
    d.srcIp &&& (s.ctx n.val).fMask = (s.ctx n.val).fSource &&& (s.ctx n.val).fMask → d.fragmented = false → d.checksumOk = true →
    d.payload.length ≤ 8972 → 20 ≤ d.payload.length → fieldAt d.payload 0 2 = 0x4454 → fieldAt d.payload 2 1 = 1 →
    fieldAt d.payload 3 1 < 32 → bitOf (fieldAt d.payload 3 1) 2 = false → fieldAt d.payload 17 3 = 0 →
    fieldAt d.payload 12 4 + (d.payload.length - 20) ≤ auLimit →
    (let num := word (fieldAt d.payload 8 4)
     let r := (s.reasmOf n.val num).place d.payload (s.mtNs + (s.ctx n.val).gapMs * 1000000) s.ntNs
     s.isLate n.val num = false → (∀ x ∈ (s.ctx n.val).reasm, x.number = num) → (s.ctx n.val).reasm.length ≤ 1 →
     (s.reasmOf n.val num).isComplete = false → (s.reasmOf n.val num).cut = false → r.isComplete = false → r.cut = false → r.dead = false →
     s.bufUsed + bufSpace (fieldAt d.payload 12 4 + (d.payload.length - 20)) ≤ bufLimit →
     exec (.datagramReceived port d) s = .next (s.updCtx n.val fun c =>
       { c with reasm := [r], nDatagrams := c.nDatagrams + 1, lastByte := s.mtNs, stallRun := c.stallMs }))) ∧
  (∀ (port : Port) (d : Datagram),
    (s.port (portIdx port)).mode ≠ 0 → (s.port (portIdx port)).link = true → s.fabricUp = true →
    (∀ i < 4, ctxTakes (s.ctx i) (portIdx port) (s.port (portIdx port)).ipv4 d = false) →
    exec (.datagramReceived port d) s = .next { s with strm.noContext := s.strm.noContext + 1 }) ∧
  (∀ (au : Word) (r : Reassembly),
    (s.ctx n.val).reasm = [r] → r.number = au → r.deadline ≤ s.mtNs → r.isComplete = false → r.cut = false → r.hasStart = false →
    (s.ctx n.val).refNum = none →
    exec (.fragmentGapExpiry n au) s = .next ((s.updCtx n.val fun c =>
      { c with reasm := [], refNum := some au, nRejected := c.nRejected + 1, unbroken := false, rejLast := rejNoStart }).raise
      { code := .streamRejected, data0 := rejNoStart, data1 := au.toNat, owner := some (s.ctx n.val).owner })) ∧
  (∀ (au : Word) (r : Reassembly) (k : Nat),
    (s.ctx n.val).reasm.find? (fun x => x.number == au) = some r → r.deadline ≤ s.mtNs → r.isComplete = false → r.cut = false →
    r.hasStart = true → r.total = some k →
    exec (.fragmentGapExpiry n au) s = .next (((s.updCtx n.val fun c =>
      { c with reasm := c.reasm.map fun x => if x.number = au then { x with cut := true } else x }).raise
      { code := .streamTruncated, data0 := au.toNat, data1 := (r.image.filter Option.isNone).length,
        owner := some (s.ctx n.val).owner }).drainAll n.val)) ∧
  (∀ (au : Word) (r : Reassembly), (s.ctx n.val).reasm.find? (fun x => x.number == au) = some r → s.mtNs < r.deadline →
    exec (.fragmentGapExpiry n au) s = .next s))

/-- DEC_POOL_SIZE, while no context is open and the pool fits beside the device's own memory, lays the pool out anew, empties it and answers
its base, a free number of Config (log 14); DEC_COLOUR sets or ends the colour override of an open context; DEC_ASSIGN sets mode and cores of
the components that it names, in an open context, and divides again those of its pictures of which no part has started, each by the
assignment of its view and kind; DEC_STATUS reads the words of its selector. None of them changes anything else (R157 to R159, R170,
R179 to R181).
PART_COMPLETE frees the core and marks the part done; while other parts of the picture are not done nothing else changes, and neither
does anything when no core works on a part or the last CTU of a WPP row waits for the row above (R151, R153, R164). When the part is the last
of its picture but not of the scene picture, the codec's reads and writes are requested, the picture's planes are stored in its slot, at the
address of its view, and no other byte of memory changes (R164, R166, R472). The last part of all makes the scene picture COMPLETE and
OUTPUT_PENDING, the context's latest, and its job goes (R161, R164).
Choices of the model on which clauses rest: log 14. -/
def Obligations.Decoding : Prop :=
  (∀ (s : State) (p : Packet),
  (s.Starts .decPoolSize p → 3 ≤ p.u8 16 → p.u8 16 ≤ 8 → 16 ≤ p.u16 18 → p.u16 18 ≤ 8192 →
    (∀ c ∈ s.strm.ctxs, c.state = .closed) → p.u8 16 * p.u16 18 * 65536 + s.ownBytes ≤ s.capacity →
    DoneAs (.decPoolSize p) p s .ok (Config.poolBase (p.u8 16) (p.u16 18) % 0x100000000)
        (Config.poolBase (p.u8 16) (p.u16 18) / 0x100000000)
      fun u => Ended p s s.cmd u ∧ AgreeBut [.cmd, .smb, .dec] s u ∧
        u.dec = { s.dec with slotCount := p.u8 16, slotBlocks := p.u16 18, slots := List.replicate 8 {}, jobs := [] }) ∧
  (s.Starts .decColour p → p.u8 16 ≤ 3 → p.u8 17 ≤ 2 → (p.u8 17 ≠ 0 → p.u8 18 ≤ 1) → (s.ctx (p.u8 16)).state ≠ .closed →
    DoneAs (.decColour p) p s .ok 0 0 fun u => Ended p s s.cmd u ∧ AgreeBut [.cmd, .smb, .dec] s u ∧
      u.dec = { s.dec with ctxs := s.dec.ctxs.modify (p.u8 16) fun d =>
        { d with colourMatrix := p.u8 17, colourRange := if p.u8 17 = 0 then 0 else p.u8 18 } }) ∧
  (s.Starts .decAssign p → p.u8 16 ≤ 3 → p.u8 18 ≤ 2 → p.u8 19 ≤ 4 → p.u16 20 ≠ 0 → p.u16 20 ≤ 0xFFF →
    (s.ctx (p.u8 16)).state ≠ .closed →
    (p.u8 17 = 0xFF ∨ p.u8 17 < (match (s.ctx (p.u8 16)).current with | some q => scViews q.scene | none => 16)) →
    DoneAs (.decAssign p) p s .ok 0 0 fun u => Ended p s s.cmd u ∧ AgreeBut [.cmd, .smb, .dec] s u ∧
      u.dec.ctxs = s.dec.ctxs.modify (p.u8 16) (fun d =>
        { d with
          assigns := d.assigns.mapIdx fun k a => if assignHits (p.u8 17) (p.u8 18) k then ⟨p.u8 19, p.u16 20⟩ else a }) ∧
      u.dec = { s.dec with
        ctxs := u.dec.ctxs
        jobs := s.dec.jobs.map fun j => if j.ctx = p.u8 16 then
          { j with comps := j.comps.map fun c => if c.started = true then c else u.divide j.ctx j.au.params c } else j }) ∧
  (∀ w, s.Starts .decStatus p → (p.u8 16 = 0 → p.u8 17 = 0) → (p.u8 16 = 1 → p.u8 17 < s.dec.slotCount) →
    (2 ≤ p.u8 16 → p.u8 17 ≤ 3) →
    (let d := s.dec.ctxs.getD (p.u8 17) {}
     [(s.dec.slotCount, s.dec.slotBlocks), (s.slotWord (p.u8 17), (s.slot (p.u8 17)).au.toNat),
      (s.decCtxWord (p.u8 17), d.completed.toNat), (d.concealedAll.toNat, d.cause1.toNat), (d.cause2.toNat, d.cause3.toNat),
      (d.fallback.toNat, d.slotWaits.toNat), (d.lastUs.toNat, d.tooLarge.toNat)][p.u8 16]?) = some w →
    DoneAs (.decStatus p) p s .ok w.1 w.2 fun u => Ended p s s.cmd u ∧ AgreeBut [.cmd, .smb] s u)) ∧
  (∀ (s : State) (core : Fin 12),
  (∀ slot ci k, s.dec.cores[core.val]? = some (some (.part slot ci k)) → s.partCanEnd slot ci k = true → (s.slot slot).abandoned = false →
    (let w := ({ s with dec.cores := s.dec.cores.set core.val none } : State).updJob slot
      (setPart ci k fun p => { p with state := .done })
     ∀ j c, w.dec.jobs.find? (fun j => j.slot == slot) = some j → j.comps[ci]? = some c →
      (c.isDone = false → exec (.partComplete core) s = .next w) ∧
      (c.isDone = true → (∃ d ∈ j.comps, d.isDone = false) → s.MemWf →
        ∃ t, exec (.partComplete core) s = .next t ∧ t.dec.cores = w.dec.cores ∧ AgreeBut [.dec, .dmem, .memc] s t ∧
          MemBut [(⟨true, s.viewAddr slot j.au.params c.view + if c.depth then depthOff j.au.params else 0⟩,
            (w.pictureBytes j c (w.decodeView j c)).length)] s t) ∧
      ((∀ d ∈ j.comps, d.isDone = true) → slot < s.dec.slots.length →
        ∃ t, exec (.partComplete core) s = .next t ∧ t.dec.cores = w.dec.cores ∧ (t.slot slot).state = .complete ∧
          (t.slot slot).outputPending = true ∧ (t.slot slot).latest = true ∧ (∀ x ∈ t.dec.jobs, x.slot ≠ slot) ∧
          AgreeBut [.dec, .dmem, .memc, .strm, .fns, .hmem, .smb, .sup] s t))) ∧
  (∀ slot ci k, s.dec.cores[core.val]? = some (some (.part slot ci k)) → s.partCanEnd slot ci k = false →
    exec (.partComplete core) s = .next s) ∧
  ((∀ slot ci k, s.dec.cores[core.val]? ≠ some (some (.part slot ci k))) → exec (.partComplete core) s = .next s))

/-- RAY_SET_RUNG and RAY_SET_DEPTH_CURVE leave a value for the next opening and put their policy at the expert level, told by EXPERT_CHANGED; RAY_CORE_MASK
leaves a mask that does not withhold every core; RAY_RELEASE returns both policies to basic and drops what waits; RAY_STATUS reads the
words of its selector (R61, R231, R234, R239, R240).
Choices of the model on which clauses rest: log 50, log 82. -/
def Obligations.RayPackets : Prop := ∀ (s : State) (p : Packet),
  (s.Starts .raySetRung p → p.u8 16 ≤ 4 →
    DoneAs (.raySetRung p) p s .ok 0 0 fun u =>
      Counted s { s.cmd with policies := s.cmd.policies.set policyQuality true } u ∧
      AgreeBut [.cmd, .ray] ((s.sent p).standDown p policyQuality) u ∧ u.ray = { s.ray with nextRung := some (p.u8 16, 2) }) ∧
  (s.Starts .raySetDepthCurve p → (∀ k < 9, p.u16 (16 + 2 * k) < 4096) → (∀ k < 8, p.u16 (16 + 2 * k) ≤ p.u16 (18 + 2 * k)) →
    DoneAs (.raySetDepthCurve p) p s .ok 0 0 fun u =>
      Counted s { s.cmd with policies := s.cmd.policies.set policyDepth true } u ∧
      AgreeBut [.cmd, .ray] ((s.sent p).standDown p policyDepth) u ∧
      u.ray = { s.ray with nextCurve := some ((List.range 9).map fun k => p.u16 (16 + 2 * k)) }) ∧
  (s.Starts .rayCoreMask p → p.num 16 12 ≠ 2 ^ 96 - 1 →
    DoneAs (.rayCoreMask p) p s .ok 0 0 fun u => Ended p s s.cmd u ∧ AgreeBut [.cmd, .smb, .ray] s u ∧
      u.ray = { s.ray with nextMask := some (p.num 16 12) }) ∧
  (s.Starts .rayRelease p →
    DoneAs (.rayRelease p) p s .ok 0 0 fun u =>
      Counted s { s.cmd with policies := (s.cmd.policies.set policyQuality false).set policyDepth false } u ∧
      AgreeBut [.cmd, .ray] (((s.sent p).setPolicy policyQuality false 1 p.src.ringNo p.tag).setPolicy policyDepth false 1 p.src.ringNo
        p.tag) u ∧
      u.ray = { s.ray with nextRung := if s.isExpert policyQuality then none else s.ray.nextRung,
                           goodWindows := if s.isExpert policyQuality then 0 else s.ray.goodWindows,
                           released := s.isExpert policyQuality || s.ray.released,
                           nextCurve := if s.isExpert policyDepth then none else s.ray.nextCurve }) ∧
  (∀ i w, s.Starts .rayStatus p → p.u16 18 = i →
    (i < match p.u8 16 with | 8 => 5 | 9 => s.ray.last.tiles.length | 10 => 4 | _ => 1) →
    (let l := s.ray.last
     [(s.frameWord, l.au.toNat),
      ((s.ray.active.map blobModelId).getD 0, (s.ray.active.map blobCrc).getD 0),
      (unsignedOf 32 s.ray.dt16, l.us), (s.ray.predictedUs, unsignedOf 32 l.budgetUs), (s.ray.nMissed.toNat, s.ray.nRepeats.toNat),
      (s.ray.nDown.toNat, s.ray.nUp.toNat), (s.ray.nReissued.toNat, s.ray.nDegraded.toNat), (s.ray.nStolen.toNat, s.excluded),
      (s.ray.curve.getD (2 * i) 0 + 65536 * (if i = 4 then 0 else s.ray.curve.getD (2 * i + 1) 0), s.ray.gn + 65536 * s.ray.gf),
      ((l.tiles.getD i (0, 0)).1, (l.tiles.getD i (0, 0)).2),
      (l.ran.getD i 0, l.cycles.getD i 0 / 1024)][p.u8 16]?) = some w →
    DoneAs (.rayStatus p) p s .ok w.1 w.2 fun u => Ended p s s.cmd u ∧ AgreeBut [.cmd, .smb] s u)

/-- RAY_MODEL_LOAD copies a blob when it starts, from the address that it names or from a copy in the store, and changes nothing else;
RAY_MODEL_STORE queues the active blob behind a program in flight or in a halted unit, or begins its pages in an idle unit, which commits
it (R70, R199, R200, R207).
RAY_MODEL_CHECKS_DONE for the load of a packet: a blob that fails a check has no effect but its completion with BAD_PARAM and the check's
number; one that passes waits for an opening, or is activated at once while no frame-start events occur, and completes with its identity, or
with WRONG_STATE and check 0x0B where it does not fit the timing; with no load it does nothing (R198, R200).
Choices of the model on which clauses rest: log 15, log 49. -/
def Obligations.RayModels : Prop :=
  (∀ (s : State) (p : Packet),
  (∀ l, s.Starts .rayModelLoad p → p.u8 16 = 0 → p.u32 20 % 4 = 0 → p.u64 24 % 4 = 0 → s.modelBusy = false →
    s.resolve p.src (p.u64 24) (p.u32 20) = some l →
    BegunAs (.rayModelLoad p) p s false fun u => AgreeBut [.cmd, .smb, .ray] s u ∧
      u.ray = { s.ray with load := some ⟨some s.cmd.nextTicket, s.readAt l (min (p.u32 20) (blobMax + 4)), false⟩ }) ∧
  (∀ b, s.Starts .rayModelLoad p → 1 ≤ p.u8 16 → p.u8 16 ≤ 3 → p.u32 20 = 0 → p.u64 24 = 0 → s.modelBusy = false →
    s.scanning = false → s.modelFrom (p.u8 16) = some b →
    BegunAs (.rayModelLoad p) p s false fun u => AgreeBut [.cmd, .smb, .ray] s u ∧
      u.ray = { s.ray with load := some ⟨some s.cmd.nextTicket, b, false⟩ }) ∧
  (s.Starts .rayModelStore p → s.ray.active.isSome → s.modelBusy = false → s.scanning = false → (s.nvm.flight.isSome ∨ s.nvm.halted = true) →
    BegunAs (.rayModelStore p) p s false fun u => AgreeBut [.cmd, .smb, .nvm] s u ∧
      u.nvm = { s.nvm with ops := s.nvm.ops ++ [{ kind := .model, ticket := s.cmd.nextTicket }] }) ∧
  (∀ q h t, s.Starts .rayModelStore p → s.ray.active.isSome → s.modelBusy = false → s.scanning = false → s.nvm.flight = none →
    s.nvm.halted = false → s.nvm.ops = [] → s.planOp { kind := .model, ticket := s.cmd.nextTicket } = some q → q.pages = h :: t →
    BegunAs (.rayModelStore p) p s true fun u => AgreeBut [.cmd, .smb, .nvm] s u ∧
      u.nvm = { s.nvm with ops := [{ q with begun := true }],
                           flight := some { page := h.1, words := h.2, owner := .foreground } })) ∧
  (∀ (s : State),
  (s.ray.load = none → exec .rayModelChecksDone s = .next s) ∧
  ∀ (l : ModelLoad) (t : Nat), s.ray.load = some l → l.ticket = some t → l.checked = false →
  (checkBlob l.blob ≠ 0 →
    exec .rayModelChecksDone s =
      .next ({ s with ray.load := none }.finish t .badParam noField (checkBlob l.blob))) ∧
  (checkBlob l.blob = 0 → s.rasterRuns = true →
    exec .rayModelChecksDone s = .next { s with ray.load := some { l with checked := true } }) ∧
  (checkBlob l.blob = 0 → s.rasterRuns = false → s.blobFits l.blob = false →
    exec .rayModelChecksDone s = .next ({ s with ray.load := none }.finish t .wrongState noField 0x0B)) ∧
  (checkBlob l.blob = 0 → s.rasterRuns = false → s.blobFits l.blob = true → s.commitRefusal = none → s.commitHeld t = false →
    exec .rayModelChecksDone s = .next ({ s.commitFlight t with
      ray := { s.ray with active := some l.blob, load := none, everActive := true, changed := true,
                          dt16Next := if blobDrift l.blob && blobSensors l.blob != 0 then s.ray.dt16Next else 0,
                          dt16 := if blobDrift l.blob && blobSensors l.blob != 0 then s.ray.dt16 else 0 } }.finish
        t .ok (blobModelId l.blob) (blobCrc l.blob))))

/-- Reads of the store: NVM_RECORD_READ answers a word and the length of the record as R506 to R510 choose it, or stores its bytes at the
address, and leaves what a read of the record leaves; NVM_RAW_READ answers a half word with what its word reads, or stores a page with the
masks of its words; NVM_STATUS reads the words of its selector (R506, R507, R510, R514, R516, R522, R525).
Choices of the model on which clauses rest: log 58. -/
def Obligations.NvmReads : Prop := ∀ (s : State) (p : Packet),
  (∀ v, s.Starts .nvmRecordRead p → p.u16 16 ≤ 0x2FF → p.u16 18 % 4 = 0 → p.u16 18 < 992 → p.u32 20 = 0 →
    p.u64 24 = 0 → s.scanning = false → s.readRecord (p.u16 16) = some v →
    DoneAs (.nvmRecordRead p) p s .ok (fieldAt v.body (p.u16 18) 4)
        (v.body.length + 65536 * v.slot + 131072 * b2n v.held + 262144 * b2n (s.nvm.fallback.contains (p.u16 16)))
      fun u => (s.nvm.ops = [] → Counted s s.cmd u) ∧ AgreeBut [.cmd] ((s.sent p).recordSeen (p.u16 16)) u) ∧
  (∀ v l, s.Starts .nvmRecordRead p → p.u16 16 ≤ 0x2FF → p.u16 18 % 4 = 0 → p.u16 18 < 992 →
    p.u32 20 % 4 = 0 → 4 ≤ p.u32 20 → p.u32 20 ≤ 992 → p.u64 24 % 4 = 0 → s.scanning = false →
    s.readRecord (p.u16 16) = some v →
    s.resolve p.src (p.u64 24) (min (p.u32 20) (v.body.length - p.u16 18)) = some l →
    DoneAs (.nvmRecordRead p) p s .ok (min (p.u32 20) (v.body.length - p.u16 18)) v.seq.toNat
      fun u => (s.nvm.ops = [] → Counted s s.cmd u) ∧
        AgreeBut [.cmd] (((s.sent p).recordSeen (p.u16 16)).writeAt l ((v.body.drop (p.u16 18)).take
          (min (p.u32 20) (v.body.length - p.u16 18)))) u) ∧
  (s.Starts .nvmRawRead p → p.u16 16 ≤ 255 → p.u8 18 ≤ 15 → p.u8 19 = 0 → p.u64 24 = 0 → s.scanning = false →
    (let page := 16128 + p.u16 16
     let bad := pageMask s.nvm.bad page &&& 2 ^ (p.u8 18 / 2)
     let soft := pageMask s.nvm.soft page &&& 2 ^ (p.u8 18 / 2)
     DoneAs (.nvmRawRead p) p s .ok (fieldAt (s.pageBytes page) (4 * p.u8 18) 4) (b2n (bad != 0) + 2 * b2n (soft != 0))
      fun u => (s.nvm.ops = [] → Counted s s.cmd u) ∧ AgreeBut [.cmd] ((s.sent p).rawSeen page soft bad) u ∧
        (soft = 0 → bad = 0 → AgreeBut [.cmd, .smb] s u))) ∧
  (∀ l, s.MemWf → s.Starts .nvmRawRead p → p.u16 16 ≤ 255 → p.u8 18 = 0 → p.u8 19 = 1 → p.u64 24 % 8 = 0 → s.scanning = false →
    s.resolve p.src (p.u64 24) 64 = some l →
    (let page := 16128 + p.u16 16
     let bad := pageMask s.nvm.bad page &&& 255
     let soft := pageMask s.nvm.soft page &&& 255
     DoneAs (.nvmRawRead p) p s .ok (bad + 256 * soft) 0
      fun u => (s.nvm.ops = [] → Counted s s.cmd u) ∧
        AgreeBut [.cmd] (((s.sent p).writeAt l (s.pageBytes page)).rawSeen page soft bad) u ∧
        (soft = 0 → bad = 0 → (l.dev = true → l.addr + 64 ≤ s.capacity) → MemBut [(l, 64)] s u ∧ u.readAt l 64 = s.pageBytes page))) ∧
  (∀ w, s.Starts .nvmStatus p → p.u8 17 = 0 →
    (let n := s.nvm
     [(s.nvmWord, if n.loaded then 1 + (if n.head.isSome then 3 else 0) else 0),
      (s.recordCount (framesFor 0x100), s.recordCount (framesFor 0x200)), (n.nMargin.toNat, n.nRefreshed.toNat),
      (n.nCorrected.toNat, n.nBad.toNat), (n.nPasses.toNat, n.nextPage), (n.nPrograms.toNat, n.nStores.toNat),
      (n.saveUs.toNat, n.scanUs.toNat)][p.u8 16]?) = some w →
    DoneAs (.nvmStatus p) p s .ok w.1 w.2 fun u => Ended p s s.cmd u ∧ AgreeBut [.cmd, .smb] s u)

/-- Writes of the store queue behind a page program in flight or in a halted unit: NVM_RECORD_STORE with the bytes of the packet or of memory,
or as the freeing of the record, once its record has been resolved, and NVM_RAW_WRITE; an idle unit begins either at once, which commits it
(R70, R508, R509, R514, R515, R523). NVM_REFRESH_POLICY and NVM_RELEASE set the refresh policy (R61, R516, R520).
Choices of the model on which clauses rest: log 19. -/
def Obligations.NvmWrites : Prop := ∀ (s : State) (p : Packet), s.scanning = false →
  (∀ l, s.Starts .nvmRecordStore p → 0x100 ≤ p.u16 16 → p.u16 16 ≤ 0x2FF →
    (p.u16 16 < 0x200 → ∃ n, deviceLength (p.u16 16) = some n ∧ (p.u16 18 = 0 ∨ p.u16 18 = n)) → p.u16 16 ≠ 0x120 → p.u16 16 ≠ 0x121 →
    p.u16 18 ≤ 992 → (p.u64 24 = 0 → p.u16 18 ≤ 224) → p.u64 24 % 4 = 0 →
    p.length.toNat = (if p.u64 24 = 0 then 8 + ceilDiv (p.u16 18) 4 else 8) → (p.u16 18 = 0 → s.recordExists (p.u16 16) = true) →
    (s.recordExists (p.u16 16) = true ∨ (s.freeFrame (p.u16 16)).isSome) → s.resolve p.src (p.u64 24) (p.u16 18) = some l →
    (let w := ((s.sent p).resolveRecord (p.u16 16)).considerFrames (p.u16 16)
     let o : NvmOp := { kind := .record (p.u16 16) (p.u16 18 == 0)
                          (if p.u64 24 = 0 then p.bytesAt 32 (p.u16 18) else w.readAt l (p.u16 18)),
                        ticket := s.cmd.nextTicket }
     ((s.nvm.flight.isSome ∨ s.nvm.halted = true) →
       BegunAs (.nvmRecordStore p) p s false fun u => AgreeBut [.cmd, .nvm] w u ∧ u.nvm = { w.nvm with ops := s.nvm.ops ++ [o] }) ∧
     (∀ q h t, s.nvm.flight = none → s.nvm.halted = false → s.nvm.ops = [] → s.planOp o = some q → q.pages = h :: t →
       BegunAs (.nvmRecordStore p) p s true fun u => AgreeBut [.cmd, .nvm] w u ∧ u.nvm.mem = s.nvm.mem ∧
         u.nvm.ops = [{ q with begun := true }] ∧
         u.nvm.flight = some { page := h.1, words := h.2, owner := .foreground }))) ∧
  (s.Starts .nvmRawWrite p → (s.nvm.flight.isSome ∨ s.nvm.halted = true) → p.u16 16 ≤ 255 → p.u8 18 ≤ 7 → 1 ≤ p.u8 19 → p.u8 19 ≤ 8 →
    p.length.toNat = 6 + 2 * p.u8 19 →
    BegunAs (.nvmRawWrite p) p s false fun u => AgreeBut [.cmd, .smb, .nvm] s u ∧
      u.nvm = { s.nvm with ops := s.nvm.ops ++
        [{ kind := .raw (p.u16 16) (wordsFrom (p.u8 19) (p.u8 18) (p.bytesAt 24 (8 * p.u8 19))),
           ticket := s.cmd.nextTicket }] }) ∧
  (s.Starts .nvmRawWrite p → s.nvm.flight = none → s.nvm.halted = false → s.nvm.ops = [] → p.u16 16 ≤ 255 → p.u8 18 ≤ 7 →
    1 ≤ p.u8 19 → p.u8 19 ≤ 8 → p.length.toNat = 6 + 2 * p.u8 19 →
    (let ws := wordsFrom (p.u8 19) (p.u8 18) (p.bytesAt 24 (8 * p.u8 19))
     BegunAs (.nvmRawWrite p) p s true fun u => AgreeBut [.cmd, .smb, .nvm] s u ∧
       u.nvm = { s.nvm with ops := [{ kind := .raw (p.u16 16) ws, ticket := s.cmd.nextTicket, begun := true,
                                      pages := [(16128 + p.u16 16, ws)] }],
                            flight := some { page := 16128 + p.u16 16, words := ws, owner := .foreground } })) ∧
  (s.Starts .nvmRefreshPolicy p → 1 ≤ p.u16 16 → p.u16 16 ≤ 720 → 1 ≤ p.u8 18 → p.u8 18 ≤ 3 → p.u8 19 ≤ 3 →
    DoneAs (.nvmRefreshPolicy p) p s .ok 0 0 fun u =>
      Counted s { s.cmd with policies := s.cmd.policies.set policyRefresh true } u ∧
      AgreeBut [.cmd, .nvm] ((s.sent p).standDown p policyRefresh) u ∧
      u.nvm = { s.nvm with passHours := p.u16 16, margin := p.u8 18, refreshAll := bitOf (p.u8 19) 0, noTemp := bitOf (p.u8 19) 1 }) ∧
  (s.Starts .nvmRelease p →
    DoneAs (.nvmRelease p) p s .ok 0 0 fun u =>
      Counted s { s.cmd with policies := s.cmd.policies.set policyRefresh false } u ∧
      AgreeBut [.cmd, .nvm] ((s.sent p).setPolicy policyRefresh false 1 p.src.ringNo p.tag) u ∧
      u.nvm = { s.nvm with passHours := 24, margin := 1, refreshAll := false, noTemp := false })

/-- NVM_PAGE_PROGRAM_DONE stores the words of the page in flight when they verify, and programs the page again when they do not, three times
in all; the last program of a raw write completes its packet with the page, one that has failed three times completes it with HW_FAULT; the
program of a log entry moves the log on; with nothing to program it does nothing (R496, R504, R515, R523, R575).
Words programmed to pages of the store read back, every other byte of the store stands, and the words read without error from then on
(R496).
MARGIN_READ_STEP, once its time has come, counts the page that it reads and the words that it corrects, and goes on to the next page; a weak
page that no refresh is planned for is queued to be refreshed; before its time, or in a halted unit, it does nothing (R516, R517, R525).
Choices of the model on which clauses rest: log 19, log 20, log 58. -/
def Obligations.NvmPrograms : Prop :=
  (∀ (s : State),
  (∀ ok, s.kickNvm false = s → s.nvm.flight = none → exec (.nvmPageProgramDone ok) s = .next s) ∧
  ∀ (g : PageProg), s.nvm.flight = some g →
  (∀ o os n ws, g.owner = .foreground → s.nvm.ops = o :: os → o.kind = .raw n ws → o.broken = false → o.pages.length = o.done + 1 →
    exec (.nvmPageProgramDone true) s = .next (({ s with
      nvm := { (s.putWords g.page g.words).nvm with
        flight := none, nPrograms := s.nvm.nPrograms + 1, ops := os } }.finish o.ticket .ok n 0).kickNvm true)) ∧
  (g.owner = .log →
    exec (.nvmPageProgramDone true) s = .next ({ s with
      nvm := { (s.putWords g.page g.words).nvm with flight := none, nPrograms := s.nvm.nPrograms + 1 }
      sup := { s.sup with logQueue := s.sup.logQueue.drop 1, logNextSeq := s.sup.logNextSeq + 1,
                          logWritten := s.sup.logWritten + 1 } }.kickNvm false)) ∧
  (∀ o os n ws, g.owner = .foreground → s.nvm.ops = o :: os → o.kind = .raw n ws → 2 ≤ g.fails →
    ∃ t : State, exec (.nvmPageProgramDone false) s = .next (((t.endOp o.ticket .hwFault noField 0)).kickNvm true) ∧
      t.nvm.flight = none ∧ t.nvm.ops = s.nvm.ops ∧ AgreeBut [.nvm, .free] s t) ∧
  (g.fails < 2 →
    exec (.nvmPageProgramDone false) s = .next { s with nvm.flight := some { g with fails := g.fails + 1 } })) ∧
  (∀ (s : State) (page w : Nat) (b : List Byte), s.nvm.mem.wf = true → 1022 ≤ page → w < 8 →
  b.length = 8 →
  (let t := s.putWords page [(w, b)]
   t.storeRead (8 * wordNo page w) 8 = b ∧ wordNo page w ∉ t.nvm.bad ∧ wordNo page w ∉ t.nvm.soft ∧
   (∀ a, a < 8 * wordNo page w ∨ 8 * wordNo page w + 8 ≤ a → t.storeByte a = s.storeByte a) ∧ AgreeBut [.nvm] s t)) ∧
  (∀ (s : State) (weak : Bool) (soft bad : Byte),
  ((s.nvm.halted = true ∨ s.mtNs < s.nvm.marginNs + s.marginStep ∨ s.pwr.ready = false) →
    exec (.marginReadStep weak soft bad) s = .next s) ∧
  (s.nvm.halted = false → s.nvm.marginNs + s.marginStep ≤ s.mtNs → s.pwr.ready = true →
    (let add (m : Byte) : List Nat := ((List.range 8).filter fun i => m.getLsbD i).map fun i => wordNo s.nvm.nextPage i
     let softs := s.nvm.soft ++ (add soft).filter fun n => !s.nvm.soft.contains n
     let bads := s.nvm.bad ++ (add bad).filter fun n => !s.nvm.bad.contains n
     let n := { s.nvm with soft := softs, bad := bads, nextPage := if s.nvm.nextPage = 16383 then 0 else s.nvm.nextPage + 1,
                           marginNs := s.mtNs, nMargin := s.nvm.nMargin + 1,
                           nCorrected := s.nvm.nCorrected + word (popCount8 (pageMask softs s.nvm.nextPage)),
                           nPasses := if s.nvm.nextPage = 16383 then s.nvm.nPasses + 1 else s.nvm.nPasses }
     (∃ t, exec (.marginReadStep weak soft bad) s = .next t ∧ t.nvm.nextPage = n.nextPage ∧ t.nvm.marginNs = s.mtNs ∧
       t.nvm.nMargin = n.nMargin ∧ t.nvm.nCorrected = n.nCorrected ∧ t.nvm.nPasses = n.nPasses ∧ t.nvm.mem = s.nvm.mem ∧
       t.nvm.soft = n.soft ∧ t.nvm.bad = n.bad) ∧
     (weak = false → s.nvm.refreshAll = false → pageMask bads s.nvm.nextPage = 0 → pageMask softs s.nvm.nextPage = 0 →
       exec (.marginReadStep weak soft bad) s = .next { s with nvm := n }) ∧
     (weak = true → s.nvm.flight.isSome → (∀ r ∈ s.nvm.refreshes, r.page ≠ s.nvm.nextPage) → pageMask bads s.nvm.nextPage = 0 →
       exec (.marginReadStep weak soft bad) s = .next { s with nvm := { n with
         refreshes := s.nvm.refreshes ++ [{ page := s.nvm.nextPage, cause := if pageMask softs s.nvm.nextPage = 0 then 1 else 0,
                                            pages := ({ s with nvm := n } : State).refreshPages s.nvm.nextPage }] } }))))

/-- VDD_AON rising starts the supplies, with RESET_N low; its fall stops the bases and clears TRIP; RESET_N, the reset level of VSENSE and
a comparator that reads 120 to 150 degrees C hold islands 1 to 127 at once, and the trip is latched (R439, R538, R590, R591, R640).
The release of reset samples the straps; after a trip a comparator at 110 degrees C or more keeps the device held, and otherwise Dawn
begins, with no trip and no warning changing nothing else of the supplies; the release of the internal reset does the same, and leaves a device
whose RESET_N is low in reset (R539, R589 to R591, R593).
Choices of the model on which clauses rest: log 89, log 92, log 94, log 95. -/
def Obligations.Resets : Prop :=
  (∀ (s : State),
  (s.pwr.vddAon = false → exec .vddAonRise s = .next { s with pwr.vddAon := true, pwr.resetLow := true }) ∧
  (s.pwr.vddAon = true → ∃ t, exec .vddAonFall s = .next t ∧ t.pwr = { vddAon := false, perst := s.pwr.perst } ∧
    t.time = { refPresent := s.time.refPresent } ∧ t.regs = {} ∧ t.cmd = {} ∧ t.smb = {} ∧ t.dsp = {} ∧ t.chain = {} ∧
    t.dmem = [] ∧ t.hmem = s.hmem ∧ t.fw.flash = s.fw.flash ∧ (s.nvm.flight = none → t.nvm.mem = s.nvm.mem)) ∧
  (s.pwr.vddAon = true → s.pwr.resetLow = false → ∃ t, exec .resetNAssert s = .next t ∧ s.HeldFrom t ∧ t.pwr.resetLow = true ∧
    t.pwr.phase = .reset ∧ t.regs.trip = s.regs.trip ∧ t.regs.tripSensor = s.regs.tripSensor) ∧
  (s.pwr.vddAon = true → s.pwr.vsenseReset = false → ∃ t, exec .vsenseReset s = .next t ∧ s.HeldFrom t ∧
    t.pwr.vsenseReset = true ∧ t.pwr.phase = .reset ∧ t.regs.trip = s.regs.trip ∧ t.regs.tripSensor = s.regs.tripSensor) ∧
  (∀ n : Fin 40, n.val < 36 → s.pwr.vddAon = true → s.pwr.resetLow = false → s.pwr.vsenseReset = false → s.regs.tripHeld = false →
    (s.sensor n.val).masked = false → 1920 ≤ (s.sensor n.val).comparator → (s.sensor n.val).comparator ≤ 2400 →
    ∃ t, exec (.hardwareTrip n) s = .next t ∧ s.HeldFrom t ∧ t.pwr.phase = .held ∧ t.regs.trip = true ∧
      t.regs.tripSensor = byte n.val)) ∧
  (∀ (s : State) (straps : Straps), s.pwr.vddAon = true →
  (s.pwr.resetLow = true → s.pwr.vsenseReset = false → s.regs.tripHeld = true → s.tripHot = true →
    exec (.resetNRelease straps) s = .next { s with pwr.resetLow := false, pwr.straps := straps, pwr.phase := .held }) ∧
  (s.pwr.resetLow = true → s.pwr.vsenseReset = false → s.regs.tripHeld = false → s.pwr.warn = false → 1000 ≤ s.pwr.vsenseMv →
    ∃ t, exec (.resetNRelease straps) s = .next t ∧
      t.pwr = { s.pwr with resetLow := false, straps := straps, phase := .rom, dawnNs := s.mtNs, linkUp := !s.pwr.perst,
                           level := 10, pendingLevel := none } ∧
      t.time = { s.time with etInc := s.time.ntInc, mtInc := 0x200000000 } ∧ t.cmd = s.cmd ∧ t.dsp = s.dsp ∧ t.nvm.halted = false) ∧
  (s.pwr.resetLow = true → s.pwr.vsenseReset = false → (s.regs.tripHeld = false ∨ s.tripHot = false) →
    ∃ t, exec (.resetNRelease straps) s = .next t ∧ t.pwr.resetLow = false ∧ t.pwr.straps = straps ∧ t.pwr.phase = .rom ∧
      t.pwr.dawnNs = s.mtNs ∧ t.pwr.linkUp = !s.pwr.perst ∧ t.regs.tripHeld = false ∧ t.regs.trip = s.regs.trip) ∧
  (s.pwr.vsenseReset = true → s.pwr.resetLow = false → (s.regs.tripHeld = false ∨ s.tripHot = false) →
    ∃ t, exec (.vsenseResetRelease straps) s = .next t ∧ t.pwr.vsenseReset = false ∧ t.pwr.straps = straps ∧ t.pwr.phase = .rom ∧
      t.pwr.dawnNs = s.mtNs ∧ t.pwr.linkUp = !s.pwr.perst ∧ t.regs.tripHeld = false ∧ t.regs.trip = s.regs.trip) ∧
  (s.pwr.vsenseReset = true → s.pwr.resetLow = true →
    exec (.vsenseResetRelease straps) s = .next { s with pwr.vsenseReset := false, pwr.vsenseMv := 921 }) ∧
  (s.pwr.vsenseReset = true → s.pwr.resetLow = false → s.regs.tripHeld = true → s.tripHot = true →
    exec (.vsenseResetRelease straps) s =
      .next { s with pwr.vsenseReset := false, pwr.vsenseMv := 921, pwr.straps := straps, pwr.phase := .held }))

/-- Dawn: memory that trains at a rate that retraining reaches from that of a record that fits it, or at 12 Gb/s without one, reads as never
written and lets the image be read, and a channel that fails or a configuration that is none of R465 stops Dawn; the image that proves valid
runs, one that does not gives way to the other slot, to the host or to a stop; firmware that runs with no warning reaches command-ready; the full
scan ends with the directory built (R465, R467, R468, R514, R593, R595, R597 to R599).
Choices of the model on which clauses rest: log 94, log 96. -/
def Obligations.Dawn : Prop := ∀ (s : State),
  (∀ (m : MemTraining) (prof : Option MemProfile), s.pwr.phase = .rom → memFits m = true → m.failed = 0 →
    ((s.deviceRecord 0x112).bind memProfileOf).filter (fun q => q.dense == memDense m && q.clamshell == m.clamshell) = prof →
    rateReached (prof.elim 12 (·.rate)) m.rate = true →
    ∃ t, exec (.memoryTrainingDone m) s = .next t ∧ AgreeBut [.dmem, .pwr, .memc, .fw] s t ∧ t.dmem = [] ∧
      t.pwr = { s.pwr with phase := if s.pwr.straps.boot = 1 then .pcieBootWait else .imageLoad } ∧
      t.fw.checking = (if s.pwr.straps.boot = 1 then s.fw.checking else some s.firstSlot) ∧ t.memc.rate = m.rate ∧
      t.memc.capacityMib = (if m.gib16 then 16384 else 8192) ∧ t.memc.fromRecord = prof.isSome ∧
      t.memc.rejected = ((s.deviceRecord 0x112).isSome && prof.isNone) ∧ t.memc.chans = List.replicate 8 { state := .ready } ∧
      t.memc.regions = some ((if m.gib16 then 16384 else 8192) - 256, 128) :: List.replicate 7 none) ∧
  (∀ m : MemTraining, s.pwr.phase = .rom → s.deviceRecord 0x112 = none → memFits m = true → m.failed = 0 → m.rate = 12 →
    s.pwr.straps.boot ≠ 1 →
    exec (.memoryTrainingDone m) s = .next { s with
      dmem := []
      pwr.phase := .imageLoad
      fw.checking := some s.firstSlot
      memc := { s.memc with
        capacityMib := if m.gib16 then 16384 else 8192, dense := memDense m, clamshell := m.clamshell, rejected := false, rate := 12,
        fallback := false, fromRecord := false, vddq125 := false, drive := 0, odt := 0, trained := 0xFF,
        chans := List.replicate 8 { state := .ready }, periodNs := s.mtNs, regNs := s.mtNs,
        regions := some ((if m.gib16 then 16384 else 8192) - 256, 128) :: List.replicate 7 none } }) ∧
  (∀ m : MemTraining, s.pwr.phase = .rom → (m.failed ≠ 0 ∨ memFits m = false) → ∃ t, exec (.memoryTrainingDone m) s = .next t ∧
    t.pwr = { s.pwr with phase := .memFailed } ∧ t.memc.failed = m.failed.toNat ∧ AgreeBut [.pwr, .memc] s t ∧
    ∀ k < 8, (t.memc.chans.getD k {}).state = if m.failed.getLsbD k then .faulted else .off) ∧
  (∀ k, s.fw.checking = some k → s.pwr.phase = .imageLoad → ∃ t, exec .imageCheckDone s = .next t ∧
    (s.checkImage k = 0 → t.pwr = { s.pwr with phase := .init } ∧ t.fw.checking = none ∧ t.regs.bootSource = k ∧ t.sup.supState = 0 ∧
      t.fw.security = fieldAt (s.imageAt k 0 64) 8 4) ∧
    (s.checkImage k ≠ 0 → k = 2 → t = { s with
      pwr.phase := .pcieBootWait, fw.checking := none, regs.bootLastFail := s.checkImage 2,
      regs.bootFailCount := satInc 255 s.regs.bootFailCount }) ∧
    (s.checkImage k ≠ 0 → k < 2 → s.fw.invalid = [] →
      t = { s with fw.invalid := [k], fw.checking := some (1 - k) }) ∧
    (s.checkImage k ≠ 0 → k < 2 → s.fw.invalid = [1 - k] → t = { s with
      fw.invalid := [1 - k, k], fw.checking := none, pwr.phase := if s.pwr.straps.boot = 0 then .pcieBootWait else .bootFailed })) ∧
  (s.mayBeReady = true → ∃ t, exec .commandReady s = .next t ∧ t.pwr.phase = .ready ∧ t.pwr.ready = true ∧ t.pwr.loss = none ∧
    t.pwr.readyData = some (0, 0) ∧ t.fw.minSecurity = max s.fw.minSecurity s.fw.security) ∧
  (s.nvm.scan = 1 → s.nvm.halted = false → s.pwr.loss = none → ∃ t, exec .nvmScanEnd s = .next t ∧ t.nvm.scan = 2 ∧
    t.nvm.dirReady = true ∧ t.pwr = s.pwr)

/-- PERST_N takes the link and every ring of every function with it and removes the VFs, and the display goes on; with no VF enabled it also
sets every fence to 0 and leaves the panel, the witness and the chain alone; its release brings the link back where the device still has one;
a function-level reset of an enabled VF clears its rings, its grant and its fences; SR-IOV sets the number of VFs, and changes nothing else
unless it removes one (R66, R82, R89, R592, R671).
Choices of the model on which clauses rest: log 84, log 85. -/
def Obligations.FunctionResets : Prop := ∀ (s : State),
  (s.pwr.perst = false → ∃ t, exec .perstNAssert s = .next t ∧ t.pwr.perst = true ∧ t.pwr.linkUp = false ∧ t.cmd.vfsEnabled = 0 ∧
    t.fns.length = s.fns.length ∧ (∀ x ∈ t.fns, (∀ r ∈ x.sub, r = {}) ∧ (∀ r ∈ x.cpl, r = {}) ∧ x.evt = {}) ∧
    t.dsp = s.dsp ∧ (s.cmd.vfsEnabled = 0 → t.cmd.fences = List.replicate 256 0 ∧ t.pnl = s.pnl ∧ t.wit = s.wit ∧ t.chain = s.chain)) ∧
  (s.pwr.perst = true → exec .perstNRelease s = .next { s with pwr.perst := false, pwr.linkUp := s.linkAlive }) ∧
  (∀ n : Fin 8, s.pwr.linkUp = true → n.val < s.cmd.vfsEnabled → ∃ t, exec (.functionLevelReset n) s = .next t ∧
    (∀ r ∈ (t.fn (.vf n)).sub, r = {}) ∧ (∀ r ∈ (t.fn (.vf n)).cpl, r = {}) ∧ (t.fn (.vf n)).evt = {} ∧
    (t.fn (.vf n)).grant = {} ∧ (∀ i < 8, t.fence (192 + 8 * n.val + i) = 0) ∧ t.cmd.vfsEnabled = s.cmd.vfsEnabled) ∧
  (∀ k : Fin 9, s.pwr.linkUp = true → ∃ t, exec (.srIovVfEnable k) s = .next t ∧ t.cmd.vfsEnabled = k.val ∧
    (s.cmd.vfsEnabled ≤ k.val → t = { s with cmd.vfsEnabled := k.val }))

/-- A warning crossing is counted, set in INT_STATUS and starts the power-loss sequence once, unless reset holds the device; a VSENSE that is not
below the level does nothing. The end of the warning lets a wake that waited act, and puts a level that waits in force, which may be a
crossing itself (R604 to R606, R614, R643, R644).
POWER_LOSS_SEAL, once committed stores have ended, marks the sequence sealed and empties the log's queue; at 300 us a panel that is OFF has
nothing to discharge, one that is driving begins its discharge, and a supply that stands again for 100 us cancels it; before, and once each step
is done, nothing happens. When both steps are done and the supply stands, BROWNOUT ends the sequence and counts it; an orderly shutdown in
progress keeps its run record (R361, R406, R515, R547, R578, R606, R608).
Choices of the model on which clauses rest: log 61, log 89, log 99, log 101. -/
def Obligations.PowerLossSequence : Prop :=
  (∀ (s : State),
  (∀ v, s.pwr.vddAon = true → s.pwr.warn = false → v < levelMv s.pwr.level → s.linkAlive = false →
    exec (.warningCrossing v) s = .next { s with pwr.vsenseMv := v, pwr.warn := true, pwr.clearSince := none }) ∧
  (∀ v, s.pwr.vddAon = true → s.pwr.warn = false → v < levelMv s.pwr.level → s.linkAlive = true →
    ∃ t, exec (.warningCrossing v) s = .next t ∧ t.pwr.warn = true ∧ t.pwr.vsenseMv = v ∧
      t.pwr.warnCount = satInc 65535 s.pwr.warnCount ∧ t.regs.intStatus = s.regs.intStatus ||| 0x20 ∧
      (s.lossStarts = true → s.pwr.loss = none → t.pwr.loss = some
        { since := s.mtNs, inDawn := !s.pwr.ready, sealed := decide (4 ≤ s.thm.shutStep), byFault := false, savedRun := false }) ∧
      (∀ l, s.pwr.loss = some l → l.inDawn = false → t.pwr.loss = s.pwr.loss)) ∧
  (∀ v, levelMv s.pwr.level ≤ v → exec (.warningCrossing v) s = .next s) ∧
  (s.pwr.warn = true → s.pwr.pendingLevel = none → exec .powerFailWarningEnd s =
    .next (({ s with
      pwr.warn := false
      pwr.clearSince := some s.mtNs
      pwr.vsenseMv := levelMv s.pwr.level + 20 } : State).tryWake)) ∧
  (∀ l, s.pwr.warn = true → s.pwr.pendingLevel = some l → l ≤ s.pwr.level →
    exec .powerFailWarningEnd s =
      .next (({ s with
        pwr.warn := false
        pwr.clearSince := some s.mtNs
        pwr.vsenseMv := levelMv s.pwr.level + 20
        pwr.level := l
        pwr.pendingLevel := none } : State).tryWake)) ∧
  (s.pwr.warn = false → exec .powerFailWarningEnd s = .next s) ∧
  (∀ l, s.pwr.warn = true → s.pwr.pendingLevel = some l → s.pwr.level + 2 < l →
    ∃ t, exec .powerFailWarningEnd s = .next t ∧ t.pwr.warn = true ∧ t.pwr.level = l ∧ t.pwr.pendingLevel = none)) ∧
  (∀ (s : State) (l : LossSeq), s.pwr.loss = some l → l.byFault = false →
  (l.sealed = false → s.storesEnded = true → ∃ t, exec .powerLossSeal s = .next t ∧
    t.pwr.loss = some { l with sealed := true, savedRun := l.savedRun || s.nvm.loaded } ∧
    (s.nvm.dirReady = true → t.sup.logQueue = []) ∧ t.pnl = s.pnl ∧ t.ray.active = s.ray.active) ∧
  (l.sealed = true ∨ s.storesEnded = false → exec .powerLossSeal s = .next s) ∧
  (l.panelSettled = true ∨ s.mtNs < l.since + 300000 → exec .powerLossDischargeStart s = .next s) ∧
  (l.panelSettled = false → l.since + 300000 ≤ s.mtNs → s.pwr.clearSince = none → s.pnl.mode = .off → s.pnl.discharge = none →
    exec .powerLossDischargeStart s = .next { s with pwr.loss := some { l with panelSettled := true } }) ∧
  (∀ c, l.panelSettled = false → l.since + 300000 ≤ s.mtNs → s.pwr.clearSince = some c → c + 100000 ≤ s.mtNs → s.thm.shutdown = none →
    exec .powerLossDischargeStart s =
      .next { s with pwr.loss := some { l with panelSettled := true }, pnl.restore := none }) ∧
  (l.panelSettled = false → l.since + 300000 ≤ s.mtNs → s.pwr.clearSince = none → s.pnl.mode = .driving → s.pnl.discharge = none →
    s.pnl.lockout = false → s.pnl.gamma = none → s.pnl.train = none → s.pnl.rampTicket = none →
    exec .powerLossDischargeStart s = .next { s with
      pwr.loss := some { l with panelSettled := true }
      pnl := { s.pnl with
        mode := .discharging, retrain := none,
        discharge := some { reason := if s.thm.shutdown.isSome then 3 else 1, since := s.mtNs, from_ := .driving, toFault := false } } }) ∧
  (l.inDawn = false → s.sup.fault = false → l.sealed = true → l.panelSettled = true → s.supplyBack = true → s.pnl.discharge = none →
    s.thm.shutAfterLoss = false →
    ∃ t, exec .brownout s = .next t ∧ t.pwr.loss = none ∧ t.nvm.run.brownouts = s.nvm.run.brownouts + 1 ∧
      (s.thm.shutdown.isSome → t.nvm.run.state = 0x53 ∧ t.nvm.run.cause = 1 ∧ t.chain.resume = s.chain.resume)))

/-- DEV_DUSK ends every started packet that has not committed, but for flips, abandons the window and waits for the end of quiescence with the
wake mask that it names; at that end it completes, and with the panel OFF and no wake seen the device is in Dusk: memory in self-refresh, the
ports off, the ray rails at 0.55 V; a panel that is not OFF is discharged first. An orderly shutdown at its deadline ends in Dusk too
(R492, R545, R546, R610 to R612).
In Dusk a source of the wake mask wakes the device unless the warning or R546 holds the wake, with PM_PME when PME_En is set and PCIe was not
the source; outside Dusk and its entry it does nothing. The exit reaches command-ready with DEVICE_READY and the sources seen (R454, R492,
R595, R614 to R616).
Choices of the model on which clauses rest: log 88, log 90, log 93. -/
def Obligations.DuskAndWakes : Prop :=
  (∀ (s : State),
  (∀ p : Packet, s.Starts .devDusk p → 1 ≤ p.u8 16 → p.u8 16 ≤ 7 → (4 ≤ p.u8 16 → (s.time.evtIn.getD 0 {}).edge ≠ 0) →
    s.duskBusy = false → s.pwr.dusk = .awake →
    BegunAs (.devDusk p) p s false fun u =>
      u.pwr = { s.pwr with dusk := .draining s.cmd.nextTicket, wakeAsked := BitVec.ofNat 3 (p.u8 16), wakePending := 0 } ∧
      u.ray.window = none ∧ u.thm = { s.thm with running := none } ∧
      (∀ x ∈ s.cmd.flights, x.committed = false → s.flipTicket x.ticket = false → x.ticket ≠ s.cmd.nextTicket →
        ∀ y ∈ u.cmd.flights, y.ticket ≠ x.ticket) ∧
      (s.cmd.flights = [] → AgreeBut [.cmd, .smb, .pwr, .ray, .dec, .thm] s u)) ∧
  (∀ t, s.pwr.dusk = .draining t → s.drained = true → s.thm.shutdown = none → s.commitHeld t = false → s.pnl.mode = .driving →
    s.pnl.lockout = false → s.pnl.discharge = none →
    ∃ u, exec .duskEntryComplete s = .next u ∧ u.pwr.dusk = .entering ∧ u.pnl.mode = .discharging ∧
      u.pnl.discharge.map (·.reason) = some 4 ∧ ∀ f ∈ u.cmd.flights, f.ticket ≠ t) ∧
  (∀ t, s.pwr.dusk = .draining t → s.drained = false → exec .duskEntryComplete s = .next s) ∧
  (∀ t, s.pwr.dusk = .draining t → s.drained = true → s.thm.shutdown = none → s.commitHeld t = false → s.pnl.mode = .off →
    s.pnl.discharge = none → s.pwr.loss = none → s.pwr.wakePending = 0 → s.pwr.avsFault = [false, false] → s.pwr.railMv.length = 2 →
    ∃ u, exec .duskEntryComplete s = .next u ∧ u.pwr.dusk = .asleep ∧ u.pwr.phase = .dusk ∧ u.pwr.ready = false ∧
      u.pwr.wakeMask = s.pwr.wakeAsked ∧ u.pwr.railMv = [550, 550] ∧ u.nvm.halted = true ∧ u.thm.duskByShutdown = false ∧
      (∀ c ∈ u.memc.chans, c.state = .selfRefresh ∨ c.state = .off ∨ c.state = .faulted) ∧
      (∀ n < 2, n < s.net.ports.length → (u.port n).txDisable = true) ∧ (∀ f ∈ u.cmd.flights, f.ticket ≠ t)) ∧
  (∀ t0, s.thm.shutdown = some t0 → t0 + 5000000 ≤ s.mtNs → s.pwr.loss = none → s.nvm.flight = none → s.pwr.dusk = .awake →
    s.pnl.mode = .off → s.pnl.discharge = none → s.pwr.wakePending = 0 →
    ∃ u, exec .shutdownDeadline s = .next u ∧ u.pwr.dusk = .asleep ∧ u.pwr.phase = .dusk ∧ u.pwr.ready = false ∧
      u.pwr.wakeMask = s.shutMask ∧ u.thm.duskByShutdown = true ∧ u.thm.shutdown = none ∧ u.nvm.halted = true)) ∧
  (∀ (s : State),
  (s.pwr.vddAon = true → s.pwr.dusk = .asleep → s.pwr.wakePending = 0 → s.pwr.wakeMask.getLsbD 0 = true → s.pwr.warn = false →
    s.wakeHeld = false → exec .wakeNAssert s = .next { s with
      pwr := { s.pwr with wakePending := 1, dusk := .waking, wakeSeen := 1, pmeSent := s.pwr.pmeSent + b2n s.pwr.pmeEn } }) ∧
  (s.pwr.vddAon = true → s.pwr.dusk = .asleep → s.pwr.wakePending = 0 → s.pwr.wakeMask.getLsbD 0 = true → s.pwr.warn = true →
    exec .wakeNAssert s = .next { s with pwr.wakePending := 1 }) ∧
  (s.pwr.vddAon = true → s.pwr.dusk = .awake → s.thm.shutdown = none → exec .wakeNAssert s = .next s) ∧
  (s.pwr.linkUp = true → s.pwr.dusk = .asleep → s.pwr.wakePending = 0 → s.pwr.wakeMask.getLsbD 1 = true → s.pwr.warn = false →
    s.wakeHeld = false →
    exec .pmcsrD0Write s = .next { s with pwr := { s.pwr with wakePending := 2, dusk := .waking, wakeSeen := 2 } }) ∧
  (s.pwr.dusk = .waking → s.pwr.warn = false → s.pwr.readyData.isSome → ∃ t, exec .duskExitReady s = .next t ∧
    t.pwr.dusk = .awake ∧ t.pwr.phase = .ready ∧ t.pwr.ready = true ∧ t.pwr.wakeMask = 0 ∧ t.pwr.keptBells = [] ∧
    t.pwr.readyData = some (0x1, word s.pwr.wakeSeen.toNat) ∧ t.pwr.wakeSeen = s.pwr.wakeSeen ∧
    (∀ c ∈ t.memc.chans, c.state ≠ .selfRefresh) ∧
    (s.pwr.keptBells = [] → s.net.servo ≠ .disabled → s.net.servo ≠ .expert → t.net.servo = .unlocked) ∧ t.wit.idrNext = true))

/-- A selected edge on an EVT_IN pin captures the base of its pin and tells it; an edge within 100 ns of the last capture only counts as an overrun;
an edge that no setting selects does nothing. A stretched cycle count is added to the count of its island while the island's clock runs
(R17, R459, R460, R572).
Choices of the model on which clauses rest: log 69, log 109. -/
def Obligations.Pins : Prop := ∀ (s : State) (n : Fin 4) (rising : Bool), s.pwr.vddAon = true →
  ((s.time.evtIn.getD n.val {}).selects rising = true → (s.time.evtIn.getD n.val {}).lastNs = none → s.inDusk = false →
    s.pwr.dusk = .awake → s.thm.shutdown = none →
    (let e := s.time.evtIn.getD n.val {}
     let w := captureWords n.val e.base (s.baseOf e.base) rising
     exec (.evtInEdge n rising) s = .next ({ s with
       time.evtIn := s.time.evtIn.modify n.val fun e =>
         { e with capture := s.baseOf (s.time.evtIn.getD n.val {}).base, lastNs := some s.mtNs, kept := none } }.raise
           { code := .evtCaptured, source := 0, data0 := w.1, data1 := w.2 }))) ∧
  (∀ t, 1 ≤ n.val → (s.time.evtIn.getD n.val {}).selects rising = true → (s.time.evtIn.getD n.val {}).lastNs = some t →
    s.mtNs < t + 100 → exec (.evtInEdge n rising) s = .next { s with time.overruns := s.time.overruns + 1 }) ∧
  ((s.time.evtIn.getD n.val {}).selects rising = false → exec (.evtInEdge n rising) s = .next s) ∧
  (∀ (i : Fin 128) (c : Nat), s.islandRuns i.val = false → exec (.clockStretch i c) s = .next s) ∧
  (∀ (i : Fin 128) (c : Nat), s.islandRuns i.val = true →
    exec (.clockStretch i c) s = .next { s with
      sup.stretched := s.sup.stretched.modify i.val (· + word c)
      sup.recentStretch := (s.sup.recentStretch.filter fun x => decide (s.mtNs < x.2.1 + 1000000)) ++ [(i.val, s.mtNs, c)] })

/-- THM_THRESHOLDS sets the four values; THM_READ reads the words of its selector and index, the power of one island being a free value; THM_LIMITS
and THM_CAL_POLICY put their policy at the expert level with what they name; THM_RELEASE returns both. THM_CAL_RUN makes its items due: items 1 and
2 wait DEFERRED while the panel has no rails, and its outcome follows at once when no other is named (R536, R544, R549, R552 to R554).
Choices of the model on which clauses rest: log 74, log 78, log 81. -/
def Obligations.ThmPackets : Prop := ∀ (s : State) (p : Packet),
  (s.Starts .thmThresholds p → 60 ≤ p.u8 16 → p.u8 16 ≤ 109 → 1 ≤ p.u8 17 → p.u8 17 ≤ 10 → p.u8 16 + 1 ≤ p.u8 18 → p.u8 18 ≤ 110 →
    1 ≤ p.u8 19 → p.u8 19 ≤ 10 →
    DoneAs (.thmThresholds p) p s .ok 0 0 fun u => Ended p s s.cmd u ∧ AgreeBut [.cmd, .smb, .thm] s u ∧
      u.thm = { s.thm with warnAt := p.u8 16, warnHyst := p.u8 17, thrAt := p.u8 18, thrHyst := p.u8 19 }) ∧
  (∀ w, s.Starts .thmRead p → (p.u8 16 = 0 → p.u8 17 ≤ 39) → (p.u8 16 = 1 → p.u8 17 ≤ 5) → (p.u8 16 = 4 → p.u8 17 ≤ 3) →
    (p.u8 16 = 2 ∨ p.u8 16 = 5 ∨ p.u8 16 = 6 → p.u8 17 = 0) → p.u8 16 ≠ 3 →
    [(unsignedOf 32 (s.sensor (p.u8 17)).reading, s.sensorWord (p.u8 17)),
      (s.domainWord (p.u8 17), unsignedOf 32 (if p.u8 17 = 5 then s.thm.t16 else s.thm.domTemp.getD (p.u8 17) 0)),
      (s.limitWord, s.thm.pEst), (0, 0),
      (s.calWord (p.u8 17), (s.calItem (p.u8 17)).lastNs.elim 0xFFFFFFFF fun t => (s.mtNs - t) / 1000000000),
      (s.thm.vrefUv, unsignedOf 32 s.thm.xinPpb), (s.thm.episodes.toNat, s.floorMs)][p.u8 16]? = some w →
    DoneAs (.thmRead p) p s .ok w.1 w.2 fun u => Ended p s s.cmd u ∧ AgreeBut [.cmd, .smb] s u) ∧
  (s.Starts .thmRead p → p.u8 16 = 3 → 8 ≤ p.u8 17 → p.u8 17 ≤ 120 →
    DoneAs (.thmRead p) p s .ok (s.islandMhz (p.u8 17)) (Config.freeNat s.free) fun u =>
      Ended p s s.cmd u ∧ AgreeBut [.cmd, .smb, .free] s u ∧ u.free = s.free + 1) ∧
  (s.Starts .thmLimits p → limitsFault p = none →
    DoneAs (.thmLimits p) p s .ok 0 0 fun u =>
      Counted s { s.cmd with policies := s.cmd.policies.set policyPower true } u ∧
      AgreeBut [.cmd, .fns, .hmem, .dmem, .smb, .sup, .thm, .pwr] ((s.sent p).standDown p policyPower) u ∧ u.thm.limit = p.u16 16 ∧
      u.thm.rayCap = (List.range 4).map (fun i => p.u8 (20 + i)) ∧ u.thm.codecCap = (List.range 4).map (fun i => p.u8 (24 + i)) ∧
      u.thm.sensors = s.thm.sensors ∧ u.thm.items = s.thm.items ∧ u.thm.steps = s.thm.steps ∧ u.thm.calRun = s.thm.calRun ∧
      u.thm.rayMhz = [0, 1, 2, 3].map u.rayClock ∧ u.thm.codecMhz = [0, 1, 2, 3].map u.codecClock ∧
      u.pwr = { s.pwr with railMv := u.pwr.railMv }) ∧
  (s.Starts .thmCalPolicy p → 1 ≤ p.u8 16 → p.u8 16 ≤ 20 → p.u8 17 < 32 →
    DoneAs (.thmCalPolicy p) p s .ok 0 0 fun u =>
      Counted s { s.cmd with policies := s.cmd.policies.set policyCal true, outcomes := u.cmd.outcomes } u ∧
      (s.thm.calRun = none → u.cmd.outcomes = s.cmd.outcomes ∧ AgreeBut [.cmd, .thm, .ray] ((s.sent p).standDown p policyCal) u) ∧
      AgreeBut [.cmd, .thm, .ray, .fns, .hmem, .dmem, .smb, .sup] s u ∧ u.thm.dtCal = p.u8 16 ∧
      u.thm.manual = bitOf (p.u8 17) 4 ∧ u.thm.sensors = s.thm.sensors ∧ u.thm.limit = s.thm.limit ∧
      (∀ k < 4, k < s.thm.items.length → (u.calItem k).inUse = bitOf (p.u8 17) k) ∧
      u.ray = { s.ray with dt16Next := if bitOf (p.u8 17) 3 then s.ray.dt16Next else 0 }) ∧
  (s.Starts .thmRelease p →
    DoneAs (.thmRelease p) p s .ok 0 0 fun u =>
      Counted s { s.cmd with policies := (s.cmd.policies.set policyPower false).set policyCal false, outcomes := u.cmd.outcomes } u ∧
      (s.thm.calRun = none → u.cmd.outcomes = s.cmd.outcomes) ∧
      AgreeBut [.cmd, .fns, .hmem, .dmem, .smb, .sup, .thm, .pwr] s u ∧ u.thm.rayCap = List.replicate 4 12 ∧
      u.thm.codecCap = List.replicate 4 8 ∧ u.thm.limit = s.thm.limit ∧ u.thm.dtCal = 5 ∧ u.thm.manual = false ∧
      u.thm.sensors = s.thm.sensors ∧ u.thm.steps = s.thm.steps ∧ u.pwr = { s.pwr with railMv := u.pwr.railMv } ∧
      ∀ k < 4, k < s.thm.items.length → (u.calItem k).inUse = true) ∧
  (∀ off, s.Starts .thmCalRun p → 1 ≤ p.u8 16 → p.u8 16 < 16 → (∀ k ∈ itemsOf (p.u8 16), (s.calItem k).inUse = true) → s.thm.calRun = none →
    s.thm.items.length = 4 → off = (if s.panelUp then 0 else p.u8 16 &&& 6) →
    (off ≠ p.u8 16 → AcceptedAs (.thmCalRun p) p s fun u => AgreeBut [.cmd, .smb, .thm] s u ∧
      u.thm.calRun = some (s.cmd.nextTicket, p.u8 16, p.u8 16 - off, 256 * off) ∧
      ∀ k ∈ itemsOf (p.u8 16), (u.calItem k).due = true ∧ (u.calItem k).deferred = bitOf off k) ∧
    (off = p.u8 16 → ∃ u, exec (.thmCalRun p) s =
        .next ((u.complete p .accepted 0 0).outcome s.cmd.nextTicket .ok (256 * off)) ∧ AgreeBut [.cmd, .smb, .thm] s u ∧
      (∃ x ∈ u.cmd.outcomes, x.ticket = s.cmd.nextTicket ∧ x.pkt = p) ∧ u.thm.calRun = none ∧
      ∀ k ∈ itemsOf (p.u8 16), (u.calItem k).due = true ∧ (u.calItem k).deferred = true))

/-- A cycle of the sequencer gives every sensor its reading, every junction domain its temperature and the states that follow from it, and
starts the orderly shutdown of a domain that comes to 112 degrees C. While the sequencer is held, a cycle does nothing, and island 0 feeds the
comparators of TS0 to TS35 alone, after which a wake that waits may act; while the sequencer runs, or with VDD_AON off, island 0 takes no sample
(R528, R530, R535, R538, R545, R546).
Choices of the model on which clauses rest: log 80. -/
def Obligations.Sensors : Prop := ∀ (s : State) (readings : List SensorSample),
  (s.sequencerRuns = true →
    ∃ t, exec (.sensorSampleCycle readings) s = .next t ∧ t.thm.sensors.length = 40 ∧
      (∀ i < 40, ∀ r, readings[i]? = some (SensorSample.reading r) → (t.sensor i).reading = r ∧ (t.sensor i).comparator = r ∧
        (t.sensor i).absent = false) ∧
      (∀ i, i < 40 → readings[i]? = some .absent → (t.sensor i).absent = true ∧ (t.sensor i).reading = (s.sensor i).reading) ∧
      (∀ d < 5, d < s.thm.domTemp.length → d < s.thm.domHeld.length → t.thm.domTemp.getD d 0 = t.domainTemp d ∧ t.thm.domHeld.getD d 0 =
        bitsNat [heldAt (bitOf (s.thm.domHeld.getD d 0) 0) (t.domainTemp d) s.thm.warnAt s.thm.warnHyst,
          heldAt (bitOf (s.thm.domHeld.getD d 0) 1) (t.domainTemp d) s.thm.thrAt s.thm.thrHyst,
          heldAt (bitOf (s.thm.domHeld.getD d 0) 2) (t.domainTemp d) 112 10]) ∧
      (s.pwr.phase = .ready → s.pwr.dusk = .awake → s.pwr.loss = none → s.sup.fault = false → s.thm.shutdown = none →
        ((∃ d < 5, 1792 ≤ t.domainTemp d ∧ bitOf (s.thm.domHeld.getD d 0) 2 = false) ↔ t.thm.shutdown = some s.mtNs)) ∧
      (t.thm.shutdown = s.thm.shutdown → AgreeBut [.thm, .fns, .hmem, .dmem, .smb, .sup] s t) ∧
      t.thm.rayMhz = s.thm.rayMhz ∧ t.thm.limit = s.thm.limit ∧ t.thm.steps = s.thm.steps ∧
      AgreeBut [.cmd, .thm, .ray, .dec, .fns, .hmem, .dmem, .smb, .sup] s t) ∧
  (s.sequencerRuns = false → exec (.sensorSampleCycle readings) s = .next s) ∧
  (s.sequencerRuns = false → s.pwr.vddAon = true →
    exec (.island0SensorSample readings) s = .next (({ s with
      thm.sensors := (List.range 40).map fun i =>
        if i < 36 then (s.sensor i).compare (readings.getD i .absent) else s.sensor i } : State).tryWake)) ∧
  (s.sequencerRuns = true ∨ s.pwr.vddAon = false → exec (.island0SensorSample readings) s = .next s)

/-- The ladder moves P_lim by 1.0 W each 10 ms of falling and each 100 ms of rising, between 8.0 W and 30.0 W, counts the time spent at 8.0 W, and
tells that it leaves or comes to 30.0 W. Each tick of the power estimate takes the next step while the estimate is above the limit, or undoes the
last one once there is room, and the clocks and ray rails follow. A ray rail whose regulator fails keeps its voltage and caps its cores, once (R540
to R542, R587, R588, R643).
An item that 24 hours have passed by falls due, at the basic level; the run of an item ends with its counters and its 24-hour timer: item 0 with
trims that wait, items 1 and 2 with trims that wait for blanking or act at once without a timing, and item 3 with the drift offset that the panel's
temperature gives, or held without one, told by CALIBRATED. With no run, before its end and while a sequence holds the sequencer, nothing happens;
a run of item 1 or 2 whose panel has gone dark is abandoned (R191, R192, R548 to R551, R559).
Choices of the model on which clauses rest: log 78, log 79, log 81. -/
def Obligations.PowerAndCalibration : Prop :=
  (∀ (s : State),
  (s.thm.ladder = .falling → s.thm.ladderNs + 10000000 ≤ s.mtNs → s.thm.limit ≠ 300 →
    exec .ladderStep s = .next { s with
      thm := { s.thm with
        ladderNs := s.thm.ladderNs + 10000000
        limit := max 80 (s.thm.limit - 10)
        floorSince := if s.thm.limit ≤ 90 then some (s.thm.floorSince.getD s.mtNs) else none
        floorNs := s.thm.floorNs + if s.thm.limit ≤ 90 then 0 else s.thm.floorSince.elim 0 (s.mtNs - ·) } }) ∧
  (s.thm.ladder = .falling → s.thm.ladderNs + 10000000 ≤ s.mtNs → s.thm.limit = 300 → s.thm.floorSince = none →
    exec .ladderStep s = .next ({ s with
      thm := { s.thm with ladderNs := s.thm.ladderNs + 10000000, limit := 290 } }.raise
        { code := .thermalThrottle, source := 127, data0 := s.hotMask, data1 := 290 })) ∧
  (s.thm.ladder = .rising → s.thm.ladderNs + 100000000 ≤ s.mtNs → 80 ≤ s.thm.limit → s.thm.limit < 290 →
    exec .ladderStep s = .next { s with
      thm := { s.thm with
        ladderNs := s.thm.ladderNs + 100000000
        limit := s.thm.limit + 10
        floorSince := none
        floorNs := s.thm.floorNs + s.thm.floorSince.elim 0 (s.mtNs - ·) } }) ∧
  (s.thm.ladder = .rising → s.thm.ladderNs + 100000000 ≤ s.mtNs → 290 ≤ s.thm.limit → s.thm.limit < 300 → s.thm.floorSince = none →
    exec .ladderStep s = .next ((fun t : State => { t with thm := { t.thm with ladder := .steady } })
      (({ s with thm := { s.thm with ladderNs := s.thm.ladderNs + 100000000, limit := 300 } } : State).raise
        { code := .thermalThrottle, source := 127, data0 := s.hotMask + 256, data1 := 300 }))) ∧
  (s.thm.ladder = .holding ∨ s.thm.ladder = .steady ∨ s.mtNs < s.thm.ladderNs + 10000000 → exec .ladderStep s = .next s) ∧
  (∀ n, 100 * s.thm.limit < n → s.nextStep = none →
    exec (.powerLimitTick n) s = .next { s with thm := { s.thm with pEst := n, unmet := true } }) ∧
  (∀ n st, 100 * s.thm.limit < n → s.nextStep = some st → ∃ t, exec (.powerLimitTick n) s = .next t ∧ t.free = s.free + 1 ∧
    t.thm = { s.thm with
      steps := (st, Config.freeNat s.free) :: s.thm.steps, pEst := n, unmet := false, rayMhz := [0, 1, 2, 3].map t.rayClock,
      codecMhz := [0, 1, 2, 3].map t.codecClock, blitMhz := if blitSlowed t.thm.steps then 600 else 1200,
      gated := gatedBy t.thm.steps } ∧
    t.pwr = { s.pwr with railMv := [0, 1].map fun r =>
      if s.pwr.avsFault.getD r false then s.pwr.railMv.getD r 750 else railVoltage (t.railClock r) } ∧
    AgreeBut [.free, .thm, .pwr] s t) ∧
  (∀ n, n ≤ 100 * s.thm.limit → ∃ t, exec (.powerLimitTick n) s = .next t ∧
    t.thm = { s.thm with
      steps := (match s.thm.steps with
        | [] => []
        | (st, c) :: rest => if n + c + 500 ≤ 100 * s.thm.limit then rest else (st, c) :: rest),
      pEst := n, unmet := false, rayMhz := [0, 1, 2, 3].map t.rayClock,
      codecMhz := [0, 1, 2, 3].map t.codecClock, blitMhz := if blitSlowed t.thm.steps then 600 else 1200,
      gated := gatedBy t.thm.steps } ∧
    t.pwr = { s.pwr with railMv := [0, 1].map fun r =>
      if s.pwr.avsFault.getD r false then s.pwr.railMv.getD r 750 else railVoltage (t.railClock r) } ∧
    AgreeBut [.thm, .pwr] s t) ∧
  (∀ south, s.pwr.avsFault.getD (b2n south) false = false → b2n south < s.pwr.avsFault.length →
    ∃ t, exec (.avsRegulatorFault south) s = .next t ∧ t.pwr.avsFault = s.pwr.avsFault.set (b2n south) true ∧
      t.pwr.railMv.getD (b2n south) 0 = s.pwr.railMv.getD (b2n south) 750 ∧ t.regs.intStatus = s.regs.intStatus ||| 0x40 ∧
      (∀ q < 4, q / 2 = b2n south → t.thm.rayMhz.getD q 0 ≤ 2000) ∧ t.thm.rayMhz = [0, 1, 2, 3].map t.rayClock ∧
      AgreeBut [.thm, .pwr, .regs, .fns] s t) ∧
  (∀ south, s.pwr.avsFault.getD (b2n south) false = true → exec (.avsRegulatorFault south) s = .next s)) ∧
  (∀ (s : State), s.thm.items.length = 4 →
  (∀ (k : Fin 4) (t0 : Nat), (s.calItem k.val).lastNs = some t0 → t0 + 86400000000000 ≤ s.mtNs → s.isExpert policyCal = false →
    (s.calItem k.val).inUse = true → ∃ t, exec (.calibrationDue k) s = .next t ∧ (t.calItem k.val).due = true ∧
      t.thm.sensors = s.thm.sensors ∧ AgreeBut [.cmd, .thm, .fns, .hmem, .dmem, .smb, .sup] s t ∧
      (s.thm.calRun = none → AgreeBut [.thm] s t)) ∧
  (∀ (k : Fin 4), s.isExpert policyCal = true ∨ (s.calItem k.val).lastNs = none ∨
      (∃ t0, (s.calItem k.val).lastNs = some t0 ∧ s.mtNs < t0 + 86400000000000) → exec (.calibrationDue k) s = .next s) ∧
  (∀ (m : CalMeasure) (t16 : Int), s.thm.running = some 3 → s.calWorks = true → s.thm.runSince ≤ s.mtNs → s.panelTemp = some t16 →
    ∃ t, exec (.calibrationRunEnd m) s = .next t ∧ t.ray = { s.ray with dt16Next := s.driftFor t16, driftHeld := false } ∧
      (t.calItem 3).due = false ∧ (t.calItem 3).result = 1 ∧ (t.calItem 3).runs = satInc 0xFFFF (s.calItem 3).runs ∧
      (t.calItem 3).lastNs = some s.mtNs ∧ t.thm.running ≠ some 3 ∧
      AgreeBut [.cmd, .thm, .ray, .fns, .hmem, .dmem, .smb, .sup] s t) ∧
  (∀ (m : CalMeasure), s.thm.running = some 3 → s.calWorks = true → s.thm.runSince ≤ s.mtNs → s.panelTemp = none →
    ∃ t, exec (.calibrationRunEnd m) s = .next t ∧ t.ray = { s.ray with driftHeld := true } ∧
      (t.calItem 3).due = false ∧ (t.calItem 3).result = 3 ∧ (t.calItem 3).runs = satInc 0xFFFF (s.calItem 3).runs ∧
      (t.calItem 3).lastNs = some s.mtNs ∧ t.thm.running ≠ some 3 ∧
      AgreeBut [.cmd, .thm, .ray, .fns, .hmem, .dmem, .smb, .sup] s t) ∧
  (∀ (m : CalMeasure), s.thm.running = some 0 → s.calWorks = true → s.thm.runSince + 2000000 ≤ s.mtNs →
    ∃ t, exec (.calibrationRunEnd m) s = .next t ∧ (t.calItem 0).due = false ∧
      (t.calItem 0).result = (if s.calRejects m then 2 else 1) ∧ (t.calItem 0).untraced = !vrefGood m.vrefUv ∧
      (t.calItem 0).waiting = (if s.calRejects m then none else some m.trims) ∧ (t.calItem 0).trims = (s.calItem 0).trims ∧
      (t.calItem 0).runs = satInc 0xFFFF (s.calItem 0).runs ∧ (t.calItem 0).lastNs = some s.mtNs ∧
      t.thm.vrefUv = m.vrefUv ∧ t.thm.running ≠ some 0 ∧ AgreeBut [.cmd, .thm, .fns, .hmem, .dmem, .smb, .sup] s t) ∧
  (∀ (m : CalMeasure) (k : Fin 4) (w : Option (List Int)), 1 ≤ k.val → k.val ≤ 2 → s.thm.running = some k.val → s.calWorks = true →
    s.panelUp = true → s.thm.runSince + calNs k.val ≤ s.mtNs → w = (if s.calRejects m then (s.calItem k.val).waiting else some m.trims) →
    ∃ t, exec (.calibrationRunEnd m) s = .next t ∧ (t.calItem k.val).due = false ∧
      (t.calItem k.val).result = (if s.calRejects m then 2 else 1) ∧ (t.calItem k.val).untraced = (s.calItem 0).untraced ∧
      (t.calItem k.val).trims = (if s.dsp.timing.isNone then w.getD (s.calItem k.val).trims else (s.calItem k.val).trims) ∧
      (t.calItem k.val).waiting = (if s.dsp.timing.isNone then none else w) ∧
      (t.calItem k.val).runs = satInc 0xFFFF (s.calItem k.val).runs ∧ (t.calItem k.val).lastNs = some s.mtNs ∧
      t.thm.running ≠ some k.val ∧
      t.pnl = (if k.val = 1 then { s.pnl with untraced := (s.calItem 0).untraced } else s.pnl) ∧
      AgreeBut [.cmd, .thm, .pnl, .fns, .hmem, .dmem, .smb, .sup] s t) ∧
  (∀ (m : CalMeasure) (k : Nat), 1 ≤ k → k ≤ 2 → s.thm.running = some k → s.calWorks = true → s.panelUp = false →
    s.thm.runSince + calNs k ≤ s.mtNs →
    ∃ t, exec (.calibrationRunEnd m) s = .next t ∧ t.thm.running ≠ some k ∧ (t.calItem k).due = (s.calItem k).due ∧
      (t.calItem k).trims = (s.calItem k).trims ∧ (t.calItem k).result = (s.calItem k).result ∧
      AgreeBut [.cmd, .thm, .fns, .hmem, .dmem, .smb, .sup] s t) ∧
  (∀ (m : CalMeasure), s.thm.running = none ∨ s.calWorks = false ∨
      (∃ k, s.thm.running = some k ∧ s.mtNs < s.thm.runSince + calNs k) → exec (.calibrationRunEnd m) s = .next s))

/-- A mismatch of the supervisor's cores with none in the last 1 s restarts the pair, which is counted and told and touches nothing else; a second
one within 1 s leaves the supervisor unrecovered, which holds the others and keeps the time bases. A supervisor that does not run has no mismatch
(R564 to R566, R573).
A ray core that fails leaves dispatch, its tiles are queued again, and at its third fault it is retired; a core that passes its self-test waits
to return, and one that fails it is retired. A fabric that fails restarts, at its second fault within 1 s it is retired, and with the last cluster
the fault is unrecovered. A codec core that fails gives its part or its slice back for another core. Each recovery is counted and told; a unit that is
out of service has no fault (R177, R237, R382, R567 to R569, R572).
An island that stalls is reset: the blit engine, the host interface and the store go on, the network loses the frames in flight, a driving
panel retrains its link, a memory island retrains its channels, and the stall of a core or fabric is its fault. A management-lane error is recovered,
the errors that follow within 20 us count as resends of its frame, and one after 8 resends is unrecovered. A poisoned word that stands in region 0 or
in a stream is counted and recovered, one of a packet ends it with HW_FAULT, and one of a record of the chain is unrecovered. The supervisor's
own islands, units out of service and a word that no owner reads have no such fault (R490, R567, R570 to R572).
Choices of the model on which clauses rest: log 36, log 37, log 100, log 101, log 103, log 106. -/
def Obligations.Recovery : Prop :=
  (∀ (s : State) (ns : Nat),
  (s.sup.supState = 0 → s.linkAlive = true → s.pwr.dusk ≠ .asleep → s.pwr.dusk ≠ .waking →
    (∀ m, s.sup.lastMismatch = some m → m + 1000000000 < s.mtNs) →
    ∃ t, exec (.lockstepMismatch ns) s = .next t ∧ AgreeBut [.free, .sup, .fns, .hmem, .dmem, .smb] s t ∧ t.free = s.free + 1 ∧
      t.sup.supState = 0 ∧ t.sup.restarts = s.sup.restarts + 1 ∧ t.sup.lastMismatch = some s.mtNs ∧
      t.sup.longestRestart = (if s.sup.longestRestart.toNat < min ns 20000 then word (min ns 20000) else s.sup.longestRestart) ∧
      t.sup.coreState = s.sup.coreState ∧ t.sup.fault = s.sup.fault ∧
      t.sup.detected = s.sup.detected.modify 1 (· + 1) ∧ t.sup.recovered = s.sup.recovered.modify 1 (· + 1)) ∧
  (∀ m, s.sup.supState = 0 → s.linkAlive = true → s.pwr.dusk ≠ .asleep → s.pwr.dusk ≠ .waking →
    s.sup.lastMismatch = some m → s.mtNs ≤ m + 1000000000 → ∃ t, exec (.lockstepMismatch ns) s = .next t ∧
    t.sup.supState = 2 ∧ t.sup.faultClass = 1 ∧ t.pwr.phase = .held ∧ t.pwr.linkUp = s.pwr.linkUp ∧ t.dsp = {} ∧ t.chain = {} ∧
    t.cmd.flights = [] ∧ t.cmd.outcomes = [] ∧ t.pnl.mode = .off ∧
    t.time.mt = s.time.mt ∧ t.time.nt = s.time.nt ∧ t.time.dt = s.time.dt ∧ t.time.et = s.time.et ∧ t.hmem = s.hmem ∧ t.dmem = s.dmem ∧
    t.regs.intStatus = s.regs.intStatus ||| 0x8 ∧ (s.nvm.flight = none → t.nvm.mem = s.nvm.mem)) ∧
  (s.sup.supState ≠ 0 ∨ s.linkAlive = false ∨ s.pwr.dusk = .asleep ∨ s.pwr.dusk = .waking → exec (.lockstepMismatch ns) s = .next s)) ∧
  (∀ (s : State),
  (∀ core : Fin 96, s.rayWorks = true → s.fabricUp = true → s.sup.coreState.getD core.val 2 = 0 →
    (∃ t, exec (.rayCoreFault core) s = .next t ∧ t.tilesOf core.val = [] ∧
      t.sup.coreFaults = s.sup.coreFaults.modify core.val (· + 1) ∧ t.sup.coreState = s.sup.coreState.set core.val
        (if 3 ≤ ((s.sup.coreFaults.modify core.val (· + 1)).getD core.val 0).toNat then 2 else 1)) ∧
    ((∀ x ∈ s.allTiles, x.2.reissues < 4) → ∃ t, exec (.rayCoreFault core) s = .next t ∧
      t.ray = { s.ray with
        window := t.ray.window, witFrames := t.ray.witFrames, nDegraded := t.ray.nDegraded,
        nReissued := s.ray.nReissued + word (s.tilesOf core.val).length } ∧
      (∀ x ∈ s.tilesOf core.val, ∃ y ∈ t.allTiles, y.1 = x.1 ∧ y.2 = x.2.reissue) ∧
      (∀ x ∈ s.allTiles, x ∉ s.tilesOf core.val → x ∈ t.allTiles) ∧
      t.sup.detected = s.sup.detected.modify 2 (· + 1) ∧ t.sup.recovered = s.sup.recovered.modify 2 (· + 1) ∧
      t.sup.fault = s.sup.fault ∧ AgreeBut [.free, .ray, .sup, .fns, .hmem, .dmem, .smb] s t)) ∧
  (∀ core : Fin 96, s.rayWorks = false ∨ s.fabricUp = false ∨ s.sup.coreState.getD core.val 2 ≠ 0 →
    exec (.rayCoreFault core) s = .next s) ∧
  (∀ core : Fin 96, s.sup.coreState.getD core.val 0 = 1 → s.sup.corePassed.getD core.val true = false → s.fabricUp = true →
    exec (.coreSelfTestEnd core true) s = .next { s with sup.corePassed := s.sup.corePassed.set core.val true } ∧
    exec (.coreSelfTestEnd core false) s =
      .next ({ s with sup.coreState := s.sup.coreState.set core.val 2 }.raiseFree
        { code := .coreRetired, source := islandOfCore core.val, injected := false })) ∧
  (∀ (core : Fin 96) pass, s.sup.coreState.getD core.val 0 ≠ 1 ∨ s.sup.corePassed.getD core.val true = true ∨ s.fabricUp = false →
    exec (.coreSelfTestEnd core pass) s = .next s) ∧
  (∀ (c : Fin 4) retired, s.rayWorks = true → s.fabricUp = true → s.sup.clusterRetired.getD c.val true = false →
    retired = s.sup.clusterRetired.set c.val ((s.sup.fabricLast.getD c.val none).any fun m => decide (s.mtNs ≤ m + 1000000000)) →
    ∃ t, exec (.fabricFault c) s = .next t ∧ t.sup.fabricFaults = s.sup.fabricFaults.modify c.val (· + 1) ∧
      t.sup.fabricLast = s.sup.fabricLast.set c.val (some s.mtNs) ∧ t.sup.clusterRetired = retired ∧
      t.sup.detected = s.sup.detected.modify 3 (· + 1) ∧
      (retired.all id = false → t.sup.recovered = s.sup.recovered.modify 3 (· + 1) ∧ t.sup.fault = s.sup.fault ∧
        (∀ x ∈ s.allTiles, x.2.home = c.val → ∃ y ∈ t.allTiles, y.1 = x.1 ∧ y.2.core = 0xFF ∧ y.2.reissues = 0 ∧ y.2.state ≠ .committed) ∧
        AgreeBut [.free, .ray, .sup, .fns, .hmem, .dmem, .smb] s t) ∧
      (retired.all id = true → t.sup.fault = true ∧ t.sup.recovered = s.sup.recovered ∧
        (s.sup.fault = false → t.sup.faultClass = 3 ∧ t.sup.faultUnit = 104 + c.val ∧
          t.regs.intStatus = s.regs.intStatus ||| 0x8))) ∧
  (∀ c : Fin 4, s.rayWorks = false ∨ s.fabricUp = false ∨ s.sup.clusterRetired.getD c.val true = true →
    exec (.fabricFault c) s = .next s) ∧
  (∀ (core : Fin 12) (slot ci k : Nat), s.codecWorks = true → s.fabricUp = true →
    s.dec.cores.getD core.val none = some (.part slot ci k) →
    exec (.codecCoreFault core) s = .next (({ s with
      dec.cores := s.dec.cores.set core.val none
      dec.jobs := s.dec.jobs.map fun j =>
        if j.slot == slot then setPart ci k (fun x => { x with state := .waiting, banned := some core.val }) j else j
      sup.detected := s.sup.detected.modify 4 (· + 1) } : State).recovered 4 core.val false)) ∧
  (∀ (core : Fin 12) (n order : Nat), s.codecWorks = true → s.fabricUp = true →
    s.dec.cores.getD core.val none = some (.row n order) →
    exec (.codecCoreFault core) s = .next ((({ s with
      dec.cores := s.dec.cores.set core.val none
      sup.detected := s.sup.detected.modify 4 (· + 1) } : State).updPic n order EncPic.restartSlice).recovered 4 core.val false)) ∧
  (∀ core : Fin 12, s.codecWorks = true → s.fabricUp = true → s.dec.cores.getD core.val none = none →
    exec (.codecCoreFault core) s = .next (({ s with
      dec.cores := s.dec.cores.set core.val none
      sup.detected := s.sup.detected.modify 4 (· + 1) } : State).recovered 4 core.val false)) ∧
  (∀ core : Fin 12, s.codecWorks = false ∨ s.fabricUp = false → exec (.codecCoreFault core) s = .next s)) ∧
  (∀ (s : State), s.fabricUp = true → s.stopped = false →
  (∀ i : Fin 128, 120 ≤ i.val → i.val ≠ 123 → i.val ≠ 124 → i.val ≠ 126 → (i.val = 122 → s.pnl.mode ≠ .driving) →
    exec (.islandStall i) s = .next (({ s with
      sup.islandResets := s.sup.islandResets.modify i.val (· + 1)
      sup.detected := s.sup.detected.modify 9 (· + 1) } : State).recovered 9 i.val false)) ∧
  (exec (.islandStall 126) s = .next (({ s with
      sup.islandResets := s.sup.islandResets.modify 126 (· + 1)
      sup.detected := s.sup.detected.modify 9 (· + 1)
      net.ports := s.net.ports.map PortState.dropInFlight } : State).recovered 9 126 false)) ∧
  (s.pnl.mode = .driving → ∃ t, exec (.islandStall 122) s = .next t ∧ t.free = s.free + 1 ∧
    t.sup = { s.sup with islandResets := s.sup.islandResets.modify 122 (· + 1), detected := s.sup.detected.modify 9 (· + 1) } ∧
    t.pnl.retrain.isSome = true ∧ t.pnl.mode = .driving ∧ t.pnl.nRetrains = s.pnl.nRetrains + 1 ∧ AgreeBut [.free, .sup, .pnl] s t) ∧
  (∀ i : Fin 128, i.val = 123 ∨ i.val = 124 → ∃ t, exec (.islandStall i) s = .next t ∧
    t.sup = { s.sup with islandResets := s.sup.islandResets.modify i.val (· + 1), detected := s.sup.detected.modify 9 (· + 1) } ∧
    (i.val, s.mtNs, false) ∈ t.memc.stalls ∧
    (∀ k < 8, k < s.memc.chans.length → t.chan k = if k / 4 = i.val - 123 then MemChan.needRetrain false (s.chan k) else s.chan k) ∧
    AgreeBut [.sup, .memc] s t) ∧
  (∀ (i : Fin 128) (core : Fin 96), i.val = 8 + core.val → s.sup.coreState.getD core.val 2 = 0 →
    exec (.islandStall i) s =
      exec (.rayCoreFault core) { s with sup.islandResets := s.sup.islandResets.modify i.val (· + 1) }) ∧
  (∀ (i : Fin 128) (c : Fin 4), i.val = 104 + c.val → s.sup.clusterRetired.getD c.val true = false →
    exec (.islandStall i) s =
      exec (.fabricFault c) { s with sup.islandResets := s.sup.islandResets.modify i.val (· + 1) }) ∧
  (∀ (i : Fin 128) (core : Fin 12), i.val = 108 + core.val →
    exec (.islandStall i) s =
      exec (.codecCoreFault core) { s with sup.islandResets := s.sup.islandResets.modify i.val (· + 1) }) ∧
  (∀ i : Fin 128, i.val < 8 → exec (.islandStall i) s = .next s) ∧
  ((∀ t0, s.sup.dieLinkNs = some t0 → t0 + 20000 < s.mtNs) →
    exec .dieLinkCrcError s = .next (({ s with
      free := s.free + 1
      sup.dieLinkResends := 1
      sup.dieLinkNs := some s.mtNs
      sup.detected := s.sup.detected.modify 10 (· + 1) } : State).recovered 10 (Config.freeNat s.free % 65536) false)) ∧
  (∀ t0, s.sup.dieLinkNs = some t0 → s.mtNs ≤ t0 + 20000 → s.sup.dieLinkResends < 8 →
    exec .dieLinkCrcError s = .next { s with sup.dieLinkResends := s.sup.dieLinkResends + 1 }) ∧
  (∀ t0, s.sup.dieLinkNs = some t0 → s.mtNs ≤ t0 + 20000 → 8 ≤ s.sup.dieLinkResends → s.sup.fault = false →
    ∃ t, exec .dieLinkCrcError s = .next t ∧ t.sup.fault = true ∧ t.sup.faultClass = 10 ∧
      t.regs.intStatus = s.regs.intStatus ||| 0x8) ∧
  (∀ o, o = .region0 ∨ o = .stream → exec (.poisonedRead o) s = .next (({ s with
    free := s.free + 1
    sup.detected := s.sup.detected.modify 6 (· + 1) } : State).recovered 6 (Config.freeNat s.free % 65536) false)) ∧
  (∀ f, s.flight f.ticket = some f → f.committed = false →
    exec (.poisonedRead (.packet f.ticket)) s = .next (((({ s with
      free := s.free + 1
      sup.detected := s.sup.detected.modify 6 (· + 1) } : State).cancelWork f.ticket).finish f.ticket .hwFault noField 0).recovered 6 (Config.freeNat s.free % 65536) false)) ∧
  (∀ o, s.owns o = false → exec (.poisonedRead o) s = .next s) ∧
  (s.chain.records ≠ [] → s.sup.fault = false → ∃ t, exec (.poisonedRead .chainRecord) s = .next t ∧ t.sup.fault = true ∧
    t.sup.faultClass = 6 ∧ t.regs.intStatus = s.regs.intStatus ||| 0x8 ∧ t.thm.shutdown = none))

/-- A pause of a channel starts when it is due unless scan-out is urgent or another channel retrains, and then is put off; a period that has ended
gives way to the next, with the length that the host has set. A pause ends in READY, is counted, and what has waited is served. A failed transfer is
retried and counted, and more than 8 within 1 us make an error retrain fall due, which waits for the others; one that succeeds ends in READY and is a
recovery, and at its second failure the channel is faulted (R482 to R488, R567, R570, R572).
Every 100 ms the regulators take what each port moved, and at the basic level every port gets the rate of R477; the requests of a port of
classes 1 to 3 that wait too long become aged and are counted; the scrubber goes on one word (R475, R477, R489).
Choices of the model on which clauses rest: log 35, log 38, log 76, log 77, log 105. -/
def Obligations.MemoryUpkeep : Prop :=
  (∀ (s : State) (k : Fin 8), k.val < s.memc.chans.length →
  (s.mtNs < s.memc.periodNs + s.memc.retrainMs * 1000000 → s.memRuns = true → (s.chan k.val).live = true →
    (s.chan k.val).round ≠ some s.memc.period → s.memc.periodNs + k.val * s.memc.retrainMs * 125000 ≤ s.mtNs →
    ∃ t, exec (.retrainPauseDue k) s = .next t ∧ AgreeBut [.memc] s t ∧ (∀ j, j ≠ k.val → t.chan j = s.chan j) ∧
      t.memc = { s.memc with chans := t.memc.chans } ∧
      (let c := s.chan k.val
       let c := { c with round := some s.memc.period, nSkipped := c.nSkipped + word (b2n c.due) }
       t.chan k.val = if s.pauseBlocked then { c with due := true, nDeferred := c.nDeferred + 1 }
         else { c with state := .pause, due := false, since := s.mtNs })) ∧
  (s.mtNs < s.memc.periodNs + s.memc.retrainMs * 1000000 → s.memRuns = false ∨ (s.chan k.val).live = false ∨
    (s.chan k.val).round = some s.memc.period ∨ s.mtNs < s.memc.periodNs + k.val * s.memc.retrainMs * 125000 →
    exec (.retrainPauseDue k) s = .next s) ∧
  (s.memc.periodNs + s.memc.retrainMs * 1000000 ≤ s.mtNs → 0 < s.memc.retrainNext.getD s.memc.retrainMs →
    ∃ t, exec (.retrainPauseDue k) s = .next t ∧ AgreeBut [.memc] s t ∧ t.memc.retrainNext = none ∧
      t.memc.retrainMs = s.memc.retrainNext.getD s.memc.retrainMs ∧ s.memc.period < t.memc.period ∧
      t.memc.periodNs ≤ s.mtNs ∧ s.mtNs < t.memc.periodNs + t.memc.retrainMs * 1000000) ∧
  (s.memRuns = true → (s.chan k.val).due = true → (s.chan k.val).state = .ready → s.pauseBlocked = false →
    exec (.retrainPauseStart k) s =
      .next (s.updChan k.val fun c => { c with state := .pause, due := false, since := s.mtNs })) ∧
  (s.memRuns = false ∨ (s.chan k.val).due = false ∨ (s.chan k.val).state ≠ .ready ∨ s.pauseBlocked = true →
    exec (.retrainPauseStart k) s = .next s) ∧
  ((s.chan k.val).state = .pause → ∃ t, exec (.retrainPauseEnd k) s = .next t ∧ AgreeBut [.memc] s t ∧
    t.chan k.val = { s.chan k.val with
      state := .ready, nPauses := (s.chan k.val).nPauses + 1,
      queue := if (s.chan k.val).errorDue then (s.chan k.val).queue else [] } ∧
    (∀ j, j ≠ k.val → t.chan j = s.chan j) ∧
    t.memc = { s.memc with chans := t.memc.chans, ports := t.memc.ports, background := t.memc.background }) ∧
  ((s.chan k.val).state ≠ .pause → exec (.retrainPauseEnd k) s = .next s) ∧
  (∀ write rec, s.memRuns = true → (s.chan k.val).state = .ready → (s.chan k.val).errorDue = false →
    rec = ((s.chan k.val).recent.filter fun t => decide (s.mtNs ≤ t + 1000)) ++ [s.mtNs] →
    ∃ t, exec (.linkCrcFail k write) s = .next t ∧ AgreeBut [.free, .memc, .sup, .fns, .hmem, .dmem, .smb] s t ∧
      (t.chan k.val).recent = rec ∧ (t.chan k.val).state = .ready ∧ (∀ j, j ≠ k.val → t.chan j = s.chan j) ∧
      t.sup.detected = s.sup.detected.modify 5 (· + 1) ∧
      (rec.length < 5 → (t.chan k.val).nRetried = (s.chan k.val).nRetried + 1 ∧ (t.chan k.val).errorDue = false ∧
        t.sup.recovered = s.sup.recovered.modify 5 (· + 1)) ∧
      (rec.length ≤ 8 → ((t.chan k.val).errorDue = true ∧ t.sup.recovered = s.sup.recovered) ∨
        ((t.chan k.val).errorDue = false ∧ t.sup.recovered = s.sup.recovered.modify 5 (· + 1))) ∧
      (8 < rec.length → (t.chan k.val).errorDue = true ∧ t.sup.recovered = s.sup.recovered)) ∧
  (∀ write, s.memRuns = false ∨ (s.chan k.val).state ≠ .ready ∨ (s.chan k.val).errorDue = true →
    exec (.linkCrcFail k write) s = .next s) ∧
  (s.memRuns = true → (s.chan k.val).errorDue = true → (s.chan k.val).state = .ready → s.retraining = false →
    exec (.errorRetrainStart k) s = .next (s.updChan k.val fun c =>
      { c with state := .errorRetrain, errorDue := false, since := s.mtNs, nErrors := c.nErrors + 1 })) ∧
  (s.memRuns = false ∨ (s.chan k.val).errorDue = false ∨ (s.chan k.val).state ≠ .ready ∨ s.retraining = true →
    exec (.errorRetrainStart k) s = .next s) ∧
  ((s.chan k.val).state = .errorRetrain → ∃ t, exec (.errorRetrainEnd k true) s = .next t ∧
    t.chan k.val = { s.chan k.val with
      state := .ready, errorFails := 0, injected := false, recent := [],
      queue := if (s.chan k.val).errorDue then (s.chan k.val).queue else [] } ∧
    (∀ j, j ≠ k.val → t.chan j = s.chan j) ∧ t.sup.detected = s.sup.detected ∧
    ((∀ x ∈ s.memc.stalls, x.1 ≠ 123 + k.val / 4) → t.sup.recovered = s.sup.recovered.modify 5 (· + 1) ∧
      t.memc.stalls = s.memc.stalls) ∧
    ((∃ x ∈ s.memc.stalls, x.1 = 123 + k.val / 4) →
      (∀ j < 4, (t.chan (4 * (k.val / 4) + j)).errorDue = false ∧ (t.chan (4 * (k.val / 4) + j)).state ≠ .errorRetrain) →
      t.sup.recovered = s.sup.recovered.modify 9 (· + 1) ∧ ∀ x ∈ t.memc.stalls, x.1 ≠ 123 + k.val / 4) ∧
    AgreeBut [.free, .memc, .sup, .fns, .hmem, .dmem, .smb] s t) ∧
  ((s.chan k.val).state = .errorRetrain → (s.chan k.val).errorFails = 0 →
    exec (.errorRetrainEnd k false) s = .next ((s.raise
      { code := .memRetrained, source := 123 + k.val / 4, data0 := k.val, data1 := 0xFFFFFFFF,
        injected := (s.chan k.val).injected }).updChan k.val fun c =>
      { c with state := .ready, errorDue := true, errorFails := 1 })) ∧
  ((s.chan k.val).state = .errorRetrain → (s.chan k.val).errorFails ≠ 0 → s.sup.fault = false →
    ∃ t, exec (.errorRetrainEnd k false) s = .next t ∧ (t.chan k.val).state = .faulted ∧ t.sup.fault = true ∧
      t.sup.faultClass = 5 ∧ t.sup.faultUnit = k.val ∧ t.memc.failed = s.memc.failed ||| 2 ^ k.val) ∧
  (∀ ok, (s.chan k.val).state ≠ .errorRetrain → exec (.errorRetrainEnd k ok) s = .next s)) ∧
  (∀ (s : State),
  (∀ means, s.memc.regNs + 100000000 ≤ s.mtNs → s.pwr.ready = true → ∃ t, exec (.regulatorRecompute means) s = .next t ∧
    AgreeBut [.memc] s t ∧ t.memc = { s.memc with regNs := s.mtNs, ports := t.memc.ports } ∧
    (∀ n < 10, (t.memPort n).moved = means.getD n 0 ∧ (t.memPort n).cls = (s.memPort n).cls) ∧
    (s.isExpert policyMemory = false → ∀ n < 10, (t.memPort n).rate = t.basicRates.getD n 0) ∧
    (s.isExpert policyMemory = true → ∀ n < 10, (t.memPort n).rate = (s.memPort n).rate)) ∧
  (∀ means, s.mtNs < s.memc.regNs + 100000000 ∨ s.pwr.ready = false → exec (.regulatorRecompute means) s = .next s) ∧
  (∀ n : Fin 10, (s.memPort n.val).cls ≠ 0 → s.fabricUp = true → ∃ t, exec (.requestAgeLimit n) s = .next t ∧ AgreeBut [.memc] s t ∧
    (∀ k, (t.chan k).queue.length = (s.chan k).queue.length ∧
      ∀ r ∈ (t.chan k).queue, r.port = n.val → s.hasAged r = true → r.aged = true) ∧
    t.memc = { s.memc with
      chans := t.memc.chans
      ports := s.memc.ports.modify n.val fun q => { q with
        nAged := q.nAged + word (sumNat (s.memc.chans.map fun c => (c.queue.filter (s.dueToAge n.val)).length)) } }) ∧
  (∀ n : Fin 10, (s.memPort n.val).cls = 0 ∨ s.fabricUp = false → exec (.requestAgeLimit n) s = .next s) ∧
  (s.eccWords ≠ 0 → s.pwr.ready = true → s.fabricUp = true → ∃ t, exec .eccScrubStep s = .next t ∧ t.free = s.free + 1 ∧
    t.memc.scrub = (s.memc.scrub + 1) % s.eccWords ∧ t.memc.regions = s.memc.regions ∧ t.memc.ports = s.memc.ports ∧
    (t.memc.nCorrected = s.memc.nCorrected ∨ t.memc.nCorrected = s.memc.nCorrected + 1) ∧ AgreeBut [.free, .memc] s t) ∧
  (s.eccWords = 0 ∨ s.pwr.ready = false ∨ s.fabricUp = false → exec .eccScrubStep s = .next s))

/-- MEM_STATUS reads the words of its selector, clearing the longest wait of a port that it reads; MEM_ECC_REGION creates
a region that reads 0 and removes one; MEM_REGULATOR and MEM_CLASS put the policy at the expert level with what they name, MEM_RELEASE
returns it, and MEM_RETRAIN leaves a period for the next start (R479 to R481, R484, R491, R493).
Choices of the model on which clauses rest: log 35, log 75, log 77. -/
def Obligations.MemPackets : Prop := ∀ (s : State) (p : Packet),
  (∀ w, s.Starts .memStatus p → p.u8 16 ≠ 5 → p.u8 17 ≤ [0, 7, 7, 7, 9, 9, 7, 0].getD (p.u8 16) 0 →
    (let c := s.chan (p.u8 17)
     let q := s.memPort (p.u8 17)
     let r := (s.memc.regions.getD (p.u8 17) none).getD (0, 0)
     [(s.memWord, s.memc.capacityMib), (c.word, c.nPauses.toNat), (c.nRetried.toNat, c.nErrors.toNat), (c.nDeferred.toNat, c.nSkipped.toNat),
       (10 * q.moved / 250000000, q.rate), (0, 0), r, (s.memc.nCorrected.toNat, s.memc.nBad.toNat)][p.u8 16]?) = some w →
    DoneAs (.memStatus p) p s .ok w.1 w.2 fun u => Ended p s s.cmd u ∧ AgreeBut [.cmd, .smb] s u) ∧
  (s.Starts .memStatus p → p.u8 16 = 5 → p.u8 17 ≤ 9 →
    DoneAs (.memStatus p) p s .ok (s.memPort (p.u8 17)).nAged.toNat (min (s.memPort (p.u8 17)).longest 0xFFFFFFFF)
      fun u => Ended p s s.cmd u ∧ AgreeBut [.cmd, .smb, .memc] s u ∧
        u.memc = { s.memc with ports := s.memc.ports.modify (p.u8 17) fun q => { q with longest := 0 } }) ∧
  (∀ a, s.MemWf → s.Starts .memEccRegion p → 1 ≤ p.u8 16 → p.u8 16 ≤ 7 → p.u32 20 % 64 = 0 → p.u32 20 ≠ 0 →
    p.u64 24 = 0x8000000000000000 + a → a < 0x8000000000000000 → a % 0x4000000 = 0 → s.eccTaken (a / 0x100000) (p.u32 20) = false →
    s.eccTotal + p.u32 20 ≤ 1024 → s.memc.regions.getD (p.u8 16) none = none →
    DoneAs (.memEccRegion p) p s .ok 0 0 fun u => Ended p s s.cmd u ∧ AgreeBut [.cmd, .smb, .memc, .dmem] s u ∧
      u.memc = { s.memc with regions := s.memc.regions.set (p.u8 16) (some (a / 0x100000, p.u32 20)) } ∧
      (∀ x, a ≤ x → x < a + p.u32 20 * 0x100000 → u.dmem.read x = 0) ∧
      (∀ x, x < a ∨ a + p.u32 20 * 0x100000 ≤ x → u.dmem.read x = s.dmem.read x)) ∧
  (s.Starts .memEccRegion p → 1 ≤ p.u8 16 → p.u8 16 ≤ 7 → p.u32 20 = 0 → 0x8000000000000000 ≤ p.u64 24 → p.u64 24 % 0x4000000 = 0 →
    DoneAs (.memEccRegion p) p s .ok 0 0 fun u => Ended p s s.cmd u ∧ AgreeBut [.cmd, .smb, .memc] s u ∧
      u.memc = { s.memc with regions := s.memc.regions.set (p.u8 16) none }) ∧
  (s.Starts .memRegulator p → (p.u8 16 = 0 → 11 * s.wovenRead ≤ p.u16 18 * 2500000000) → p.u8 16 ≤ 9 → 1 ≤ p.u16 18 → p.u16 18 ≤ 1280 → 16 ≤ p.u16 20 →
    sumNat (((List.range 10).filter fun k => k != p.u8 16).map fun k => (s.memPort k).rate) + p.u16 18 ≤ s.admission →
    DoneAs (.memRegulator p) p s .ok 0 0 fun u =>
      Counted s { s.cmd with policies := s.cmd.policies.set policyMemory true } u ∧
      AgreeBut [.cmd, .memc] ((s.sent p).standDown p policyMemory) u ∧
      u.memc = { s.memc with ports := s.memc.ports.modify (p.u8 16) fun q => q.setRate s.mtNs (p.u16 18) (p.u16 20) }) ∧
  (s.Starts .memClass p → memClassFault p = none →
    DoneAs (.memClass p) p s .ok 0 0 fun u =>
      Counted s { s.cmd with policies := s.cmd.policies.set policyMemory true } u ∧
      AgreeBut [.cmd, .memc] ((s.sent p).standDown p policyMemory) u ∧
      u.memc = { s.memc with ages := [p.u16 28, p.u16 30, p.u16 32],
                             ports := (List.range 10).map fun n => { s.memPort n with cls := p.u8 (16 + n) } }) ∧
  (s.Starts .memRelease p →
    DoneAs (.memRelease p) p s .ok 0 0 fun u =>
      Counted s { s.cmd with policies := s.cmd.policies.set policyMemory false } u ∧
      AgreeBut [.cmd, .memc] ((s.sent p).setPolicy policyMemory false 1 p.src.ringNo p.tag) u ∧ u.memc.ages = [2, 8, 32] ∧
      (∀ n < 10, (u.memPort n).cls = defaultClass n ∧ (u.memPort n).rate = u.basicRates.getD n 0 ∧
        (u.memPort n).burst = if n = 0 then 16384 else 4096) ∧
      u.memc = { s.memc with ages := u.memc.ages, ports := u.memc.ports }) ∧
  (s.Starts .memRetrain p → 10 ≤ p.u16 16 → p.u16 16 ≤ 1000 →
    DoneAs (.memRetrain p) p s .ok 0 0 fun u => Ended p s s.cmd u ∧ AgreeBut [.cmd, .smb, .memc] s u ∧
      u.memc = { s.memc with retrainNext := some (p.u16 16) })

/-- EVT_LOG_READ stores the whole entries from a seq on, oldest first; EVT_COUNTERS reads two counters; EVT_MASK acts on the event ring of the function
that issues it, or on the sideband; EVT_INJECT takes the path of the class that it names, whatever the class (R574, R575, R579 to R582).
FW_UPDATE with an image that passes its checks commits at once, and its slot is invalid from then on; one that does not is refused with
AUTH_FAILED and AUTH_EVENT. The readback ends it: the slot holds the image, and FW_UPDATED tells it; while a power loss or a fault holds it, nothing
happens. FW_CERT_READ stores a certificate. FW_ATTEST commits with its signature, over the nonce and the chain's head as they stand then, and waits
uncommitted behind a signature in progress. FW_DEBUG_UNLOCK opens debug for a credential of this device that still holds while ET is set and no witness
runs, and is refused otherwise (R70, R413, R414, R597, R601, R603).
Choices of the model on which clauses rest: log 8, log 53, log 97, log 104, log 112. -/
def Obligations.EvtAndFwPackets : Prop :=
  (∀ (s : State) (p : Packet),
  (∀ l e, s.Starts .evtLogRead p → p.u64 24 % 32 = 0 → 1 ≤ p.u16 20 → p.u16 20 ≤ 1536 → s.scanning = false →
    s.logHeld.getLast? = some e →
    s.resolve p.src (p.u64 24)
      (32 * ((s.logHeld.filter fun e => p.u32 16 == 0xFFFFFFFF || decide (p.u32 16 ≤ e.1)).take (p.u16 20)).length) = some l →
    (let want := (s.logHeld.filter fun e => p.u32 16 == 0xFFFFFFFF || decide (p.u32 16 ≤ e.1)).take (p.u16 20)
     DoneAs (.evtLogRead p) p s .ok want.length e.1 fun u => Counted s s.cmd u ∧
       AgreeBut [.cmd] ((s.sent p).writeAt l (want.flatMap (·.2))) u)) ∧
  (s.Starts .evtLogRead p → p.u64 24 % 32 = 0 → 1 ≤ p.u16 20 → p.u16 20 ≤ 1536 → s.scanning = false → s.logHeld = [] →
    (s.resolve p.src (p.u64 24) 0).isSome →
    DoneAs (.evtLogRead p) p s .ok 0 (Config.freeNat s.free) fun u => Ended p s s.cmd u ∧ AgreeBut [.cmd, .smb, .free] s u ∧
      u.free = s.free + 1) ∧
  (s.Starts .evtCounters p → p.u8 16 ≤ 5 → counterIndexOk (p.u8 16) (p.u16 17) = true →
    DoneAs (.evtCounters p) p s .ok (s.counterWords (p.u8 16) (p.u16 17)).1 (s.counterWords (p.u8 16) (p.u16 17)).2
      fun u => Ended p s s.cmd u ∧ AgreeBut [.cmd, .smb] s u) ∧
  (∀ f n, s.Starts .evtMask p → p.src = .ring f n → maskable (p.u16 16) = true → p.u8 18 ≤ 1 →
    DoneAs (.evtMask p) p s .ok 0 0 fun u => Ended p s s.cmd u ∧ AgreeBut [.cmd, .fns] s u ∧
      u.fns = (s.updEvt f fun r => { r with masked := setMask (p.u8 18 == 1) (BitVec.ofNat 16 (p.u16 16)) r.masked }).fns) ∧
  (s.Starts .evtMask p → p.src = .smbus → maskable (p.u16 16) = true → p.u8 18 ≤ 1 →
    DoneAs (.evtMask p) p s .ok 0 0 fun u => Counted s s.cmd u ∧ AgreeBut [.cmd, .smb] s u ∧
      u.smb = { s.smb with outstanding := true,
                           masked := setMask (p.u8 18 == 1) (BitVec.ofNat 16 (p.u16 16)) s.smb.masked }) ∧
  (∀ v, s.Starts .evtInject p → injectUnitOk (p.u8 16) (p.u16 17) = true →
    s.unitOut (p.u8 16) (p.u16 17) = false → s.recovering = false →
    v = ((s.sent p).dropFlight s.cmd.nextTicket).inject (p.u8 16) (p.u16 17) →
    exec (.evtInject p) s = .next (({ v with
      cmd.committed := v.cmd.committed + 1
      cmd.nextTicket := v.cmd.nextTicket + 1
      cmd.flights := v.cmd.flights.filter fun x => x.ticket != s.cmd.nextTicket } : State).complete p .ok 0 0))) ∧
  (∀ (s : State) (p : Packet),
  (∀ l, s.Starts .fwUpdate p → p.u32 16 ≤ 8388608 → p.u32 16 % 4096 = 0 → p.u64 24 % 4 = 0 →
    s.resolve p.src (p.u64 24) (p.u32 16) = some l → p.u32 16 = fieldAt (s.readAt l (min (p.u32 16) 4096)) 12 4 + 4096 →
    s.pwr.straps.boot ≠ 1 → s.fw.update = none → s.pwr.dusk = .awake →
    (let img := s.readAt l (p.u32 16)
     let bad := imageFault (s.readAt l (min (p.u32 16) 4096)) (img.drop 4096) none s.fw.minSecurity
     (bad = 0 ∧ BegunAs (.fwUpdate p) p s true fun u => AgreeBut [.cmd, .smb, .fw] s u ∧
       u.fw = { s.fw with update := some (s.cmd.nextTicket, s.spareSlot, img),
                          flash := s.fw.flash.clearSpan (s.spareSlot * 0x800000) 4096 }) ∨
     (bad ≠ 0 ∧ RefusedAs (.fwUpdate p) p s .authFailed noField 0))) ∧
  (∀ t k img, s.fw.update = some (t, k, img) → s.pwr.loss = none → s.sup.fault = false → s.sup.supState = 0 →
    exec .fwUpdateReadbackDone s = .next ((({ s with
      fw.update := none
      fw.flash := s.fw.flash.writeN (k * 0x800000) img } : State).finish t .ok k 0).raiseFree { code := .fwUpdated })) ∧
  (s.fw.update = none ∨ s.pwr.loss.isSome ∨ s.sup.fault = true ∨ s.sup.supState ≠ 0 → exec .fwUpdateReadbackDone s = .next s) ∧
  (∀ l, s.Starts .fwCertRead p → p.u8 16 ≤ 1 → 2048 ≤ p.u32 20 → p.u64 24 % 4 = 0 → s.resolve p.src (p.u64 24) (p.u32 20) = some l →
    (let cert := (if p.u8 16 = 0 then Config.deviceCert else Config.caCert).take 2048
     DoneAs (.fwCertRead p) p s .ok cert.length 0 fun u => Counted s s.cmd u ∧ AgreeBut [.cmd] ((s.sent p).writeAt l cert) u)) ∧
  (∀ l h, s.Starts .fwAttest p → p.u64 48 % 16 = 0 → s.resolve p.src (p.u64 48) 160 = some l → s.sup.debugOpen = false →
    s.chain.signing = [] → s.commitRefusal = none → h = s.head.getD { s.newChain with chainId := 0 } →
    (∀ x ∈ s.cmd.flights, x.ticket ≠ s.cmd.nextTicket) →
    BegunAs (.fwAttest p) p s true fun u => AgreeBut [.cmd, .smb, .chain] s u ∧
      u.chain = { s.chain with signing := [.attest s.cmd.nextTicket
        (sliceZ p.body 0 32 ++ leBytes 8 h.headSeq ++ sliceZ h.headDigest 0 32 ++ leBytes 8 s.dsp.dfn.toNat ++
          leBytes 4 h.chainId ++ leBytes 2 h.epoch ++ List.replicate 10 0) l.dev l.addr] }) ∧
  (∀ l, s.Starts .fwAttest p → p.u64 48 % 16 = 0 → s.resolve p.src (p.u64 48) 160 = some l → s.sup.debugOpen = false →
    s.chain.signing.head?.any SignJob.begun = true →
    BegunAs (.fwAttest p) p s false fun u => AgreeBut [.cmd, .smb, .chain] s u ∧
      u.chain = { s.chain with signing := s.chain.signing ++
        [.attest s.cmd.nextTicket (sliceZ p.body 0 32) l.dev l.addr] }) ∧
  (∀ l, s.Starts .fwDebugUnlock p → p.u32 16 ≤ 1024 → p.u64 24 % 4 = 0 → s.resolve p.src (p.u64 24) (p.u32 16) = some l →
    (let c := Config.debugCredential (s.readAt l (p.u32 16))
     let open_ (d : Nat) : Bool := s.net.etSet && decide (secField s.time.et ≤ d) && !s.wit.running && s.wit.stop.isNone
     (∃ d, c = some (Config.serial, d) ∧ open_ d = true ∧ DoneAs (.fwDebugUnlock p) p s .ok 0 0 fun u =>
       Ended p s s.cmd u ∧ AgreeBut [.cmd, .smb, .sup] s u ∧ u.sup = { s.sup with debugOpen := true }) ∨
     (∃ d, c = some (Config.serial, d) ∧ open_ d = false ∧ RefusedAs (.fwDebugUnlock p) p s .wrongState noField 0) ∨
     ((∀ d, c ≠ some (Config.serial, d)) ∧ RefusedAs (.fwDebugUnlock p) p s .authFailed noField 0))))

/-- The sideband: a packet written while nothing is outstanding waits to start, one with a wrong PEC is discarded and counted, and one
that comes too early is not acknowledged; reads give the oldest completion, the oldest event and the status byte, or nothing when there is none, and a
read that frees an entry tells by EVENTS_LOST what was discarded; an alert response releases SMB_ALERT_N; in Dusk nothing answers (R75, R90 to R92,
R613).
BAR2: the host reads and writes the bytes of device memory in the function's window. The bytes below ECC region 0 are those of memory; of region
0 a read gives free values and of the ECC reserve zeros, and a write that reaches them loses those bytes and is counted. Memory that is not trained
reads free values and takes no write. Beyond the window, in Dusk and after an unrecovered fault reads return all ones and writes are discarded, those
in Dusk counted; a function that does not answer does nothing (R80, R470, R490, R613, R673).
Choices of the model on which clauses rest: log 39, log 40, log 111. -/
def Obligations.SidebandAndBar2 : Prop :=
  (∀ (s : State),
  (∀ b, s.smbAnswers = true → s.smbBusy = false → exec (.smbPacketWrite b true) s = .next { s with
    smb := { s.smb with waiting := some (smbPacket b), outstanding := true, nacked := false } }) ∧
  (∀ b, s.smbAnswers = true → s.smbBusy = false → exec (.smbPacketWrite b false) s = .next { s with
    smb := { s.smb with nacked := false, pecErrors := s.smb.pecErrors + 1 } }) ∧
  (∀ b ok, s.smbAnswers = false ∨ s.smbBusy = true →
    exec (.smbPacketWrite b ok) s = .next { s with smb.nacked := true }) ∧
  (∀ c cs, s.smbAnswers = true → s.smb.completions = c :: cs → exec .smbCompletionRead s = .next { s with
    smb := { s.smb with nacked := false, readData := completionBytes c false, completions := cs,
                        outstanding := s.smb.outstanding && !cs.isEmpty,
                        alert := s.smb.alert && (!cs.isEmpty || !s.smb.events.isEmpty) } }) ∧
  (s.smbAnswers = true → s.smb.completions = [] →
    exec .smbCompletionRead s = .next { s with smb := { s.smb with nacked := false, readData := [] } }) ∧
  (∀ q e es, s.smbAnswers = true → s.smb.events = (q, e) :: es → s.smb.lost = 0 → exec .smbEventRead s = .next { s with
    smb := { s.smb with nacked := false, readData := eventBytes e false q, events := es,
                        alert := s.smb.alert && (!s.smb.completions.isEmpty || !es.isEmpty) } }) ∧
  (∀ q e es, s.smbAnswers = true → s.smb.events = (q, e) :: es → s.smb.lost ≠ 0 →
    ∃ t, exec .smbEventRead s = .next t ∧ AgreeBut [.smb, .sup] s t ∧ t.smb.lost = 0 ∧
      t.smb.readData = eventBytes e false q ∧ t.smb.nacked = false ∧ t.smb.completions = s.smb.completions ∧
      (es.length < 32 → EventCode.eventsLost.code ∉ s.smb.masked →
        ∃ x, t.smb.events.getLast? = some x ∧ t.smb.events = es ++ [x] ∧ x.1 = s.smb.seq + s.smb.lost ∧
          x.2.code = EventCode.eventsLost.code ∧ x.2.data0 = s.smb.lost ∧ t.smb.alert = true)) ∧
  (s.smbAnswers = true → s.smb.events = [] →
    exec .smbEventRead s = .next { s with smb := { s.smb with nacked := false, readData := [] } }) ∧
  (s.smbAnswers = true → exec .smbStatusRead s = .next { s with
    smb := { s.smb with nacked := false,
                        readData := [byte (b2n (!s.smb.completions.isEmpty) + 2 * b2n (!s.smb.events.isEmpty) + 4 * b2n s.smbBusy)] } }) ∧
  (s.smbAnswers = true →
    exec .smbAlertResponse s = .next { s with smb := { s.smb with alert := false, nacked := false } }) ∧
  (s.smbAnswers = false → exec .smbCompletionRead s = .next { s with smb.nacked := true } ∧
    exec .smbEventRead s = .next { s with smb.nacked := true } ∧ exec .smbStatusRead s = .next { s with smb.nacked := true } ∧
    exec .smbAlertResponse s = .next s)) ∧
  (∀ (s : State) (f : Func) (a : Nat),
  (∀ n, s.fnAnswers f = true → s.bar2Shut = false → a + n ≤ (s.bar2Window f).2 →
    ∃ t, exec (.bar2Read f a n) s = .next t ∧ t.free = s.free + n ∧ AgreeBut [.regs, .free, .memc] s t ∧
      t.memc = { s.memc with chans := t.memc.chans, ports := t.memc.ports } ∧
      t.regs = { s.regs with readData := t.regs.readData } ∧ t.regs.readData.length = n ∧
      ∀ i < n, ∀ x, x = (s.bar2Window f).1 + a + i →
        t.regs.readData.getD i 0 = if s.memc.trained = 0 then byte (Config.freeNat (s.free + i))
          else if s.reserveBase ≤ x then 0
          else if s.region0Base ≤ x then byte (Config.freeNat (s.free + i)) else s.dmem.read x) ∧
  (∀ n, s.fnAnswers f = true → s.bar2Shut = true ∨ (s.bar2Window f).2 < a + n →
    exec (.bar2Read f a n) s = .next { s with regs.readData := List.replicate n 0xFF }) ∧
  (∀ b, s.MemWf → s.fnAnswers f = true → s.bar2Shut = false → a + b.length ≤ (s.bar2Window f).2 → s.memc.trained ≠ 0 →
    ∃ t, exec (.bar2Write f a b) s = .next t ∧ AgreeBut [.dmem, .memc] s t ∧
      t.memc = { s.memc with
        chans := t.memc.chans, ports := t.memc.ports,
        nDiscarded := s.memc.nDiscarded +
          if s.region0Base < (s.bar2Window f).1 + a + b.length then 1 else 0 } ∧
      (∀ i < b.length, (s.bar2Window f).1 + a + i < s.region0Base → t.dmem.read ((s.bar2Window f).1 + a + i) = b.getD i 0) ∧
      (∀ x, s.region0Base ≤ x → t.dmem.read x = s.dmem.read x) ∧
      ∀ x, x < (s.bar2Window f).1 + a ∨ (s.bar2Window f).1 + a + b.length ≤ x → t.dmem.read x = s.dmem.read x) ∧
  (∀ b, s.fnAnswers f = true → s.inDusk = true →
    exec (.bar2Write f a b) s = .next { s with pwr.duskBar2Writes := s.pwr.duskBar2Writes + 1 }) ∧
  (∀ b, s.inDusk = false → s.bar2Shut = true ∨ (s.bar2Window f).2 < a + b.length ∨ s.memc.trained = 0 →
    exec (.bar2Write f a b) s = .next s) ∧
  (∀ b n, s.fnAnswers f = false → exec (.bar2Write f a b) s = .next s ∧ exec (.bar2Read f a n) s = .next s))

/-- A ring is enabled with what its control word names when every check of R42 passes, starting at entry 0; one that fails a check has ERROR with
the code, and a write with ENABLE 1 to an enabled ring does nothing. A write with ENABLE 0 disables a ring: a completion ring that no enabled
submission ring names, an event ring, and a submission ring with its classes, and with them the policies whose class no ring enables any more; to
a disabled ring it sets the fields. An event ring enabled after command-ready receives DEVICE_READY first (R42, R48, R59, R61, R79, R595, R649).
Choices of the model on which clauses rest: log 83. -/
def Obligations.RingControl : Prop := ∀ (s : State) (f : Func) (n : Fin 16) (ctrl : Word),
  (∀ r x, s.fnAnswers f = true → s.regsNarrow = false → hasRing f n.val = true → s.subRing f n.val = some r → r.enable = false →
    x = { r with target := ctrlTarget (ctrl ||| 1), sizeLog2 := ctrlSize (ctrl ||| 1), locDev := ctrlDev (ctrl ||| 1) } →
    exec (.ringEnable f .submission n ctrl) s = .next (if s.subEnableError f x = 0
      then s.updSub f n.val fun _ => { x with enable := true, head := 0, tail := 0 }
      else (s.updSub f n.val fun _ => { x with error := true, errCode := s.subEnableError f x }).ringError r.error)) ∧
  (∀ r x, s.fnAnswers f = true → s.regsNarrow = false → hasRing f n.val = true → s.cplRing f n.val = some r → r.enable = false →
    x = { r with target := ctrlTarget (ctrl ||| 1), sizeLog2 := ctrlSize (ctrl ||| 1), locDev := ctrlDev (ctrl ||| 1) } →
    exec (.ringEnable f .completion n ctrl) s = .next (if cplEnableError f x = 0
      then s.updCpl f n.val fun _ => { x with enable := true, head := 0, next := 0, used := 0, phase := true, held := [] }
      else (s.updCpl f n.val fun _ => { x with error := true, errCode := cplEnableError f x }).ringError r.error)) ∧
  (∀ x y, s.fnAnswers f = true → s.regsNarrow = false → hasRing f n.val = true → (s.fn f).evt.enable = false →
    x = { (s.fn f).evt with target := ctrlTarget (ctrl ||| 1), locDev := ctrlDev (ctrl ||| 1) } →
    y = (s.updEvt f fun _ => { x with enable := true, head := 0, next := 0, used := 0, phase := true, seq := 0, lost := 0 }) →
    (evtEnableError f x ≠ 0 → exec (.ringEnable f .event n ctrl) s =
      .next ((s.updEvt f fun _ => { x with error := true, errCode := evtEnableError f x }).ringError x.error)) ∧
    (evtEnableError f x = 0 → s.pwr.readyData = none ∨ s.pwr.ready = false → exec (.ringEnable f .event n ctrl) s = .next y) ∧
    (∀ d, evtEnableError f x = 0 → s.pwr.readyData = some d → s.pwr.ready = true →
      exec (.ringEnable f .event n ctrl) s =
        .next (y.deliverEvent f (s.stampEvent { code := .deviceReady, data0 := d.1.toNat, data1 := d.2.toNat })))) ∧
  (∀ r, s.fnAnswers f = true → s.regsNarrow = false → hasRing f n.val = true → s.subRing f n.val = some r → r.enable = true →
    (∃ t, exec (.ringDisable f .submission n ctrl) s = .next t ∧
      (t.subRing f n.val).map (fun x => (x.enable, x.classes, x.fetched)) = some (false, 0, r.fetched) ∧
      (∀ k < 7, t.isExpert k = (s.isExpert k && t.classEnabled (policyClass k))) ∧ t.cmd.flights = s.cmd.flights) ∧
    ((∀ k < 7, s.isExpert k = false) →
      exec (.ringDisable f .submission n ctrl) s = .next (s.updSub f n.val fun r => { r with enable := false, classes := 0 }))) ∧
  (∀ r, s.fnAnswers f = true → s.regsNarrow = false → hasRing f n.val = true → s.cplRing f n.val = some r → r.enable = true →
    exec (.ringDisable f .completion n ctrl) s = .next (if s.cplNamed f n.val
      then (s.updCpl f n.val fun r => { r with error := true, errCode := 5 }).ringError r.error
      else s.updCpl f n.val fun r => { r with enable := false, held := [] })) ∧
  (s.fnAnswers f = true → s.regsNarrow = false → hasRing f n.val = true → (s.fn f).evt.enable = true →
    exec (.ringDisable f .event n ctrl) s = .next (s.updEvt f fun r => { r with enable := false })) ∧
  (∀ w, s.fnAnswers f = true → s.regsNarrow = false → hasRing f n.val = true → w = ctrl &&& ~~~(1 : Word) →
    (∀ r, s.subRing f n.val = some r → r.enable = false → exec (.ringDisable f .submission n ctrl) s =
      .next (s.updSub f n.val fun _ => { r with target := ctrlTarget w, sizeLog2 := ctrlSize w, locDev := ctrlDev w })) ∧
    (∀ r, s.cplRing f n.val = some r → r.enable = false → exec (.ringDisable f .completion n ctrl) s =
      .next (s.updCpl f n.val fun _ => { r with target := ctrlTarget w, sizeLog2 := ctrlSize w, locDev := ctrlDev w })) ∧
    ((s.fn f).evt.enable = false → exec (.ringDisable f .event n ctrl) s =
      .next (s.updEvt f fun r => { r with target := ctrlTarget w, locDev := ctrlDev w }))) ∧
  ((∀ r, s.subRing f n.val = some r → r.enable = true → exec (.ringEnable f .submission n ctrl) s = .next s) ∧
    (∀ r, s.cplRing f n.val = some r → r.enable = true → exec (.ringEnable f .completion n ctrl) s = .next s) ∧
    ((s.fn f).evt.enable = true → exec (.ringEnable f .event n ctrl) s = .next s)) ∧
  (∀ k, s.fnAnswers f = false ∨ hasRing f n.val = false ∨ s.regsNarrow = true →
    exec (.ringEnable f k n ctrl) s = .next s ∧ exec (.ringDisable f k n ctrl) s = .next s)

/-- Doorbells: a tail within its range hands slots over, from which a ready device fetches and writes its head index back; a tail beyond
the ring disables it with ERR_CODE 4; a head doorbell gives entries back, into which held completions follow and EVENTS_LOST, and an invalid one
sets ERROR with code 4. Every doorbell counts as a wake; in Dusk it is kept. A disabled ring, and a function that does not answer, take none (R43
to R46, R48, R49, R75, R613, R614, R616, R648).
PACKET_START runs the rules of the packet at the front of its ring once it may start, takes it out of the ring, and the round goes on behind the
ring: the packet does what the command of its opcode does on a ring with nothing queued. A packet of an undefined opcode, or one that would run past
its ring, completes with its refusal; one that may not start waits, and an empty ring starts nothing (R45, R52, R64, R65).
Choices of the model on which clauses rest: log 51, log 107. -/
def Obligations.DoorbellsAndStarts : Prop :=
  (∀ (s : State) (f : Func) (n : Fin 16) (v : Word),
  (∀ r, s.fnAnswers f = true → hasRing f n.val = true → s.sup.supState ≠ 2 → s.inDusk = false →
    s.subRing f n.val = some r → r.enable = true → s.fetches r = false →
    v.toNat % 65536 < r.size → r.waiting + (v.toNat % 65536 + r.size - r.tail) % r.size < r.size →
    exec (.submissionTailDoorbell f n v) s = .next ((s.updSub f n.val fun r => { r with tail := v.toNat % 65536 }).noteWake 1)) ∧
  (∀ r, s.fnAnswers f = true → hasRing f n.val = true → s.sup.supState ≠ 2 → s.inDusk = false →
    s.subRing f n.val = some r → r.enable = true →
    v.toNat % 65536 < r.size → r.waiting + (v.toNat % 65536 + r.size - r.tail) % r.size < r.size →
    ∃ t, exec (.submissionTailDoorbell f n v) s = .next t ∧ AgreeBut [.fns, .hmem, .pwr] s t ∧
      ∃ q, t.subRing f n.val = some q ∧ q.tail = v.toNat % 65536 ∧ r.fetched <+: q.fetched ∧
      q = { r with tail := q.tail, head := q.head, fetched := q.fetched } ∧
      (∀ g m, ¬(g = f ∧ m = n.val) → t.subRing g m = s.subRing g m) ∧ MemBut [(r.wbLoc, 4)] s t) ∧
  (∀ r, s.MemWf → s.fnAnswers f = true → hasRing f n.val = true → s.sup.supState ≠ 2 → s.pwr.dusk = .awake → s.thm.shutdown = none →
    s.subRing f n.val = some r → s.fetches r = true → r.locDev = false → 2 ≤ r.size → r.head < r.size → r.tail = r.head →
    v.toNat % 65536 = (r.head + 1) % r.size →
    (let b := s.readAt (s.ringLoc f false (ringBase r.baseLo r.baseHi) (64 * r.head)) 64
     fieldAt b 2 2 ≤ 16 →
     ∃ t, exec (.submissionTailDoorbell f n v) s = .next t ∧ AgreeBut [.fns, .hmem] s t ∧
       t.subRing f n.val = some { r with
         tail := (r.head + 1) % r.size, head := (r.head + 1) % r.size, fetched := r.fetched ++ [packetOf (.ring f n) b] } ∧
       t.readAt r.wbLoc 4 = leBytes 4 ((r.head + 1) % r.size) ∧ MemBut [(r.wbLoc, 4)] s t)) ∧
  (∀ r, s.fnAnswers f = true → hasRing f n.val = true → s.sup.supState ≠ 2 → s.inDusk = false →
    s.subRing f n.val = some r → r.enable = true →
    r.size ≤ v.toNat % 65536 ∨ r.size ≤ r.waiting + (v.toNat % 65536 + r.size - r.tail) % r.size →
    ∃ t, exec (.submissionTailDoorbell f n v) s = .next t ∧ t.subRing f n.val = some
      { r with error := true, errCode := 4, enable := false, classes := 0 }) ∧
  (∀ r x, s.fnAnswers f = true → hasRing f n.val = true → s.sup.supState ≠ 2 → s.inDusk = false →
    s.cplRing f n.val = some r → r.enable = true → headValid r.size r.head r.used (v.toNat % 65536) = true →
    x = { r with head := v.toNat % 65536, used := (r.next + r.size - v.toNat % 65536) % r.size } →
    (r.held = [] → exec (.completionHeadDoorbell f n v) s = .next ((s.updCpl f n.val fun _ => x).noteWake 1)) ∧
    (∀ c, r.held = [c] → x.full = false → exec (.completionHeadDoorbell f n v) s =
      .next (((s.updCpl f n.val fun _ => { x with held := [] }).writeCompletion f n.val { x with held := [] } c).noteWake 1)) ∧
    ∃ t, exec (.completionHeadDoorbell f n v) s = .next t ∧ AgreeBut [.fns, .hmem, .dmem, .pwr] s t) ∧
  (∀ r, s.fnAnswers f = true → hasRing f n.val = true → s.sup.supState ≠ 2 → s.inDusk = false →
    s.cplRing f n.val = some r → r.enable = true → headValid r.size r.head r.used (v.toNat % 65536) = false →
    exec (.completionHeadDoorbell f n v) s =
      .next (((s.updCpl f n.val fun x => { x with error := true, errCode := 4 }).ringError r.error).noteWake 1)) ∧
  (s.fnAnswers f = true → s.sup.supState ≠ 2 → s.inDusk = false → (s.fn f).evt.enable = true →
    headValid evtSize (s.fn f).evt.head (s.fn f).evt.used (v.toNat % 65536) = true →
    ((s.fn f).evt.lost = 0 → exec (.eventHeadDoorbell f v) s = .next ((s.updEvt f fun r =>
      { r with head := v.toNat % 65536, used := (r.next + evtSize - v.toNat % 65536) % evtSize }).noteWake 1)) ∧
    ∃ t, exec (.eventHeadDoorbell f v) s = .next t ∧ (t.fn f).evt.head = v.toNat % 65536 ∧
      ((t.fn f).evt.lost = 0 ∨ evtSize ≤ (t.fn f).evt.used) ∧ AgreeBut [.fns, .hmem, .dmem, .sup, .pwr] s t) ∧
  (s.fnAnswers f = true → s.sup.supState ≠ 2 → s.inDusk = false → (s.fn f).evt.enable = true →
    headValid evtSize (s.fn f).evt.head (s.fn f).evt.used (v.toNat % 65536) = false →
    exec (.eventHeadDoorbell f v) s = .next (((s.updEvt f fun r => { r with error := true, errCode := 4 }).ringError
      (s.fn f).evt.error).noteWake 1)) ∧
  (s.fnAnswers f = true → hasRing f n.val = true → s.sup.supState ≠ 2 → s.inDusk = false →
    (∀ r, s.subRing f n.val = some r → r.enable = false → exec (.submissionTailDoorbell f n v) s = .next (s.noteWake 1)) ∧
    (∀ r, s.cplRing f n.val = some r → r.enable = false → exec (.completionHeadDoorbell f n v) s = .next (s.noteWake 1)) ∧
    ((s.fn f).evt.enable = false → exec (.eventHeadDoorbell f v) s = .next (s.noteWake 1))) ∧
  (s.fnAnswers f = true → s.sup.supState ≠ 2 → s.inDusk = true →
    (∀ k, hasRing f n.val = true → k = RingKind.submission →
      exec (.submissionTailDoorbell f n v) s = .next (({ s with
        pwr.keptBells := s.pwr.keptBells ++ [{ func := f, kind := k, ring := n, value := v }] } : State).noteWake 1)) ∧
    (∀ k, hasRing f n.val = true → k = RingKind.completion →
      exec (.completionHeadDoorbell f n v) s = .next (({ s with
        pwr.keptBells := s.pwr.keptBells ++ [{ func := f, kind := k, ring := n, value := v }] } : State).noteWake 1)) ∧
    (∀ k, k = RingKind.event → exec (.eventHeadDoorbell f v) s = .next (({ s with
        pwr.keptBells := s.pwr.keptBells ++ [{ func := f, kind := k, ring := 0, value := v }] } : State).noteWake 1))) ∧
  (s.fnAnswers f = false ∨ s.sup.supState = 2 → exec (.submissionTailDoorbell f n v) s = .next s ∧
    exec (.completionHeadDoorbell f n v) s = .next s ∧ exec (.eventHeadDoorbell f v) s = .next s) ∧
  (hasRing f n.val = false → exec (.submissionTailDoorbell f n v) s = .next s ∧ exec (.completionHeadDoorbell f n v) s = .next s)) ∧
  (∀ (s : State) (x : Src),
  (∀ e es o, s.queued x = e :: es → s.canStart e.pkt = true → e.wraps = false → Op.ofCode e.opcode.toNat = some o →
    exec (.packetStart x) s = .next (((s.dropFront x).serve x).begin_ o (runOp o) e.pkt)) ∧
  (∀ e o f n, x = .ring f n → s.queued x = [e] → e.pkt.src = x → s.takes x = true → s.canStart e.pkt = true → e.wraps = false →
    Op.ofCode e.opcode.toNat = some o → exec (.packetStart x) s = exec (opInstr o e.pkt) (s.dropFront x)) ∧
  (∀ e es, s.queued x = e :: es → s.canStart e.pkt = true → e.wraps = false → e.opcode = 0x0100 →
    checkHeader (s.dropFront x) .devNop e.pkt = none →
    exec (.packetStart x) s = .next ({ s.dropFront x with
      cmd := { s.cmd with served := some x, committed := s.cmd.committed + 1, nextTicket := s.cmd.nextTicket + 1,
                          flights := s.cmd.flights.filter fun f => f.ticket != s.cmd.nextTicket } }.complete e.pkt .ok 0 0)) ∧
  (∀ e es, s.queued x = e :: es → s.canStart e.pkt = true → e.wraps = true →
    exec (.packetStart x) s = .next (((s.dropFront x).serve x).complete e.pkt .badLength 2 0)) ∧
  (∀ e es, s.queued x = e :: es → s.canStart e.pkt = true → e.wraps = false → Op.ofCode e.opcode.toNat = none → checkLength e.pkt = none →
    exec (.packetStart x) s = .next (((s.dropFront x).serve x).complete e.pkt .badOpcode 0 0)) ∧
  (∀ e es, s.queued x = e :: es → s.canStart e.pkt = false → exec (.packetStart x) s = .next s) ∧
  (s.queued x = [] → exec (.packetStart x) s = .next s))

/-- Writes to the PF's registers: INT_ENABLE and INT_STATUS, TRIP_CLR, LEVEL, BOOT_LEN and WAKE_REQ; a write that is not of 4 aligned bytes
is ignored, and so is one that a function does not answer; the base and write-back registers of a disabled ring take what is written. A write to the
register of a command is that command. A read of the time latch holds the four bases (R637, R641, R643 to R648, R651, R652, R654).
Choices of the model on which clauses rest: log 89. -/
def Obligations.Registers : Prop := ∀ (s : State) (v : Word),
  (s.fnAnswers .pf = true →
    exec (.registerWrite .pf 0x44 4 v) s = .next { s with regs.intEnable := v &&& 0x7F } ∧
    exec (.registerWrite .pf 0x40 4 v) s = .next { s with regs.intStatus := s.regs.intStatus &&& ~~~v } ∧
    exec (.registerWrite .pf 0x24 4 v) s = exec (.tripClr v) s ∧
    exec (.registerWrite .pf 0x100 4 v) s = exec (.pfCtrlLevelWrite v) s ∧
    exec (.registerWrite .pf 0x110 4 v) s = exec (.bootLenWrite v) s ∧
    exec (.registerWrite .pf 0x120 4 v) s = exec (.wakeReq v) s ∧
    exec (.registerWrite .pf 0x180 4 v) s = exec (.watchdogControlWrite v) s ∧
    exec (.registerWrite .pf 0x184 4 v) s = exec (.kick v) s ∧
    (v.toNat % 256 = 0x01 → exec (.registerWrite .pf 0x400 4 v) s = exec .snapshot s) ∧
    (v.toNat % 256 = 0x10 → exec (.registerWrite .pf 0x400 4 v) s = exec (.supRestart (v.extractLsb' 16 16)) s) ∧
    (v.toNat % 256 = 0x11 → exec (.registerWrite .pf 0x400 4 v) s = exec (.panelOff (v.extractLsb' 16 16)) s) ∧
    (v.toNat % 256 = 0x12 → exec (.registerWrite .pf 0x400 4 v) s = exec (.deviceReset (v.extractLsb' 16 16)) s)) ∧
  (∀ f off size, size ≠ 4 ∨ off % 4 ≠ 0 ∨ s.fnAnswers f = false → exec (.registerWrite f off size v) s = .next s) ∧
  (∀ f (n : Fin 16), s.fnAnswers f = true → hasRing f n.val = true → s.regsNarrow = false →
    (exec (.registerWrite f (0x1000 + 32 * n.val) 4 v) s =
      .next (s.updSub f n.val fun r => if r.enable then r else { r with baseLo := v })) ∧
    (exec (.registerWrite f (0x1004 + 32 * n.val) 4 v) s =
      .next (s.updSub f n.val fun r => if r.enable then r else { r with baseHi := v })) ∧
    (exec (.registerWrite f (0x1010 + 32 * n.val) 4 v) s =
      .next (s.updSub f n.val fun r => if r.enable then r else { r with wbLo := v &&& ~~~(3 : Word) })) ∧
    (exec (.registerWrite f (0x1014 + 32 * n.val) 4 v) s =
      .next (s.updSub f n.val fun r => if r.enable then r else { r with wbHi := v })) ∧
    (exec (.registerWrite f (0x1200 + 32 * n.val) 4 v) s =
      .next (s.updCpl f n.val fun r => if r.enable then r else { r with baseLo := v })) ∧
    (exec (.registerWrite f (0x1204 + 32 * n.val) 4 v) s =
      .next (s.updCpl f n.val fun r => if r.enable then r else { r with baseHi := v })) ∧
    (exec (.registerWrite f 0x1400 4 v) s = .next (s.updEvt f fun r => if r.enable then r else { r with baseLo := v })) ∧
    (exec (.registerWrite f 0x1404 4 v) s = .next (s.updEvt f fun r => if r.enable then r else { r with baseHi := v })) ∧
    (v.getLsbD 0 = true →
      exec (.registerWrite f (0x100C + 32 * n.val) 4 v) s = .next (s.updSub f n.val fun r => { r with error := false, errCode := 0 }) ∧
      exec (.registerWrite f (0x120C + 32 * n.val) 4 v) s = .next (s.updCpl f n.val fun r => { r with error := false, errCode := 0 }) ∧
      exec (.registerWrite f 0x140C 4 v) s = .next (s.updEvt f fun r => { r with error := false, errCode := 0 }) ∧
      exec (.registerWrite f (0x1008 + 32 * n.val) 4 v) s = exec (.ringEnable f .submission n v) s) ∧
    (v.getLsbD 0 = false →
      exec (.registerWrite f (0x1008 + 32 * n.val) 4 v) s = exec (.ringDisable f .submission n v) s)) ∧
  (∀ f (n : Fin 16), exec (.registerWrite f (0x2000 + 4 * n.val) 4 v) s = exec (.submissionTailDoorbell f n v) s ∧
    exec (.registerWrite f (0x2040 + 4 * n.val) 4 v) s = exec (.completionHeadDoorbell f n v) s ∧
    exec (.registerWrite f 0x2080 4 v) s = exec (.eventHeadDoorbell f v) s) ∧
  (v.getLsbD 0 = true → s.fnAnswers .pf = true →
    exec (.tripClr v) s = .next { s with regs := { s.regs with trip := false, tripSensor := 0xFF } }) ∧
  (v.getLsbD 0 = false ∨ s.fnAnswers .pf = false → exec (.tripClr v) s = .next s) ∧
  (s.fnAnswers .pf = true → v.toNat % 32 ≤ 20 → s.pwr.warn = true →
    exec (.pfCtrlLevelWrite v) s = .next { s with pwr.pendingLevel := some (v.toNat % 32) }) ∧
  (s.fnAnswers .pf = true → v.toNat % 32 ≤ 20 → s.pwr.warn = false → levelMv (v.toNat % 32) ≤ s.pwr.vsenseMv →
    exec (.pfCtrlLevelWrite v) s = .next { s with pwr := { s.pwr with level := v.toNat % 32, pendingLevel := none } }) ∧
  (s.fnAnswers .pf = true → v.toNat % 32 ≤ 20 → s.pwr.warn = false → s.pwr.vsenseMv < levelMv (v.toNat % 32) →
    ∃ t, exec (.pfCtrlLevelWrite v) s = .next t ∧ t.pwr.level = v.toNat % 32 ∧ t.pwr.pendingLevel = none ∧ t.pwr.warn = true) ∧
  (20 < v.toNat % 32 ∨ s.fnAnswers .pf = false → exec (.pfCtrlLevelWrite v) s = .next s) ∧
  (s.fnAnswers .pf = true → s.pwr.phase = .pcieBootWait → v.toNat % 4096 = 0 → 8192 ≤ v.toNat → v.toNat ≤ 8388608 →
    exec (.bootLenWrite v) s = .next { s with
      fw := { s.fw with bootLen := v.toNat, checking := some 2 }
      pwr.phase := .imageCheck }) ∧
  (s.fnAnswers .pf = false ∨ s.pwr.phase ≠ .pcieBootWait ∨ v.toNat % 4096 ≠ 0 ∨ v.toNat < 8192 ∨ 8388608 < v.toNat →
    exec (.bootLenWrite v) s = .next s) ∧
  (s.fnAnswers .pf = true → v.getLsbD 16 = true → s.pwr.dusk = .asleep → s.pwr.wakeMask.getLsbD 1 = true →
    exec (.wakeReq v) s = .next (if s.pwr.warn || s.wakeHeld
      then { s with pwr.wakePending := s.pwr.wakePending ||| 2 }
      else { s with pwr := { s.pwr with
        wakePending := s.pwr.wakePending ||| 2, dusk := .waking, wakeSeen := s.pwr.wakePending ||| 2 } })) ∧
  (v.getLsbD 16 = true → s.pwr.dusk = .waking ∨ (s.pwr.dusk = .awake ∧ s.thm.shutdown = none) ∨
      (s.pwr.dusk = .asleep ∧ s.pwr.wakeMask.getLsbD 1 = false) →
    exec (.wakeReq v) s = .next s) ∧
  (v.getLsbD 16 = false ∨ s.fnAnswers .pf = false → exec (.wakeReq v) s = .next s) ∧
  (s.fnAnswers .pf = true → exec .timeLatchRead s = .next { s with
    regs := { s.regs with timeLatch := [s.time.nt, s.time.dt, s.time.et, s.time.mt], readData := leBytes 4 (nsField s.time.nt) } }) ∧
  (s.fnAnswers .pf = false → exec .timeLatchRead s = .next s)

/-- The watchdog counts its first stage, then its second, and then applies its action, which waits in a power-loss sequence; a kick starts the first
one again, another value is counted, and a new PERIOD of a running watchdog holds from the next kick; a PERIOD outside its range is ignored. The
heartbeat counts each millisecond of a ready device. Before their time, and in Dusk, nothing happens (R642, R652, R653).
The mailbox: SNAPSHOT reads six words, SUP_RESTART restarts a ready device's supervisor and ends with result 1 when there is none to restart,
PANEL_OFF leaves the panel OFF, DEVICE_RESET begins Dawn again; a wrong key does nothing but end with result 2; each end is counted and sets
MBOX_DONE. A mailbox that is busy or does not answer takes no command (R363, R564, R566, R654, R655).
Choices of the model on which clauses rest: log 90, log 92, log 108. -/
def Obligations.WatchdogAndMailbox : Prop :=
  (∀ (s : State),
  (∀ v : Word, s.pfReg 0x180 = true → v.getLsbD 16 = true → 10 ≤ v.toNat % 65536 → v.toNat % 65536 ≤ 60000 → s.regs.wdogEnable = false →
    exec (.watchdogControlWrite v) s = .next { s with
      regs := { s.regs with wdogAction := v.getLsbD 17, wdogEnable := true, wdogPeriod := v.toNat % 65536,
                            wdogRunPeriod := v.toNat % 65536, wdogSecond := false,
                            wdogDeadline := s.mtNs + v.toNat % 65536 * 1000000 } }) ∧
  (∀ v : Word, s.pfReg 0x180 = true → v.getLsbD 16 = true → 10 ≤ v.toNat % 65536 → v.toNat % 65536 ≤ 60000 → s.regs.wdogEnable = true →
    exec (.watchdogControlWrite v) s = .next { s with
      regs := { s.regs with wdogAction := v.getLsbD 17, wdogPeriod := v.toNat % 65536 } }) ∧
  (∀ v : Word, s.pfReg 0x180 = false ∨ (v.getLsbD 16 = true ∧ (v.toNat % 65536 < 10 ∨ 60000 < v.toNat % 65536)) →
    exec (.watchdogControlWrite v) s = .next s) ∧
  (∀ v : Word, s.pfReg 0x180 = true → v.getLsbD 16 = false → exec (.watchdogControlWrite v) s = .next { s with
    regs := { s.regs with wdogAction := v.getLsbD 17, wdogEnable := false, wdogPeriod := v.toNat % 65536 } }) ∧
  (s.pfReg 0x184 = true → s.regs.wdogEnable = true → exec (.kick 0x4B43494B) s = .next { s with
    regs := { s.regs with wdogRunPeriod := s.regs.wdogPeriod, wdogSecond := false,
                          wdogDeadline := s.mtNs + s.regs.wdogPeriod * 1000000 } }) ∧
  (s.regs.wdogEnable = false → exec (.kick 0x4B43494B) s = .next s) ∧
  (∀ v, s.pfReg 0x184 = true → v ≠ 0x4B43494B →
    exec (.kick v) s = .next { s with regs.wdogBadKicks := satInc 255 s.regs.wdogBadKicks }) ∧
  (∀ v, s.pfReg 0x184 = false → exec (.kick v) s = .next s) ∧
  (s.wdogOut = true → s.regs.wdogSecond = false → exec .watchdogWarn s = .next (({ s with
    regs.wdogSecond := true
    regs.wdogDeadline := s.regs.wdogDeadline + s.regs.wdogRunPeriod * 1000000 } : State).raiseCause 1)) ∧
  (s.wdogOut = false ∨ s.regs.wdogSecond = true → exec .watchdogWarn s = .next s) ∧
  (s.wdogOut = true → s.regs.wdogSecond = true → s.regs.wdogAction = false → exec .watchdogExpiry s = .next (({ s with
    regs.wdogEnable := false
    regs.wdogSecond := false
    regs.wdogExpiries := satInc 255 s.regs.wdogExpiries } : State).raiseCause 2)) ∧
  (s.wdogOut = true → s.regs.wdogSecond = true → s.regs.wdogAction = true → s.pwr.loss = none →
    ∃ t, exec .watchdogExpiry s = .next t ∧ t.regs.wdogEnable = false ∧ t.regs.wdogExpiries = satInc 255 s.regs.wdogExpiries ∧
      t.regs.intStatus = s.regs.intStatus ||| 0x4 ∧ (∀ f, (t.fn f).evt.enable = false) ∧
      ∀ f n, n ∈ ringsOf f → (∀ r, t.subRing f n.val = some r → r.enable = false ∧ r.fetched = [] ∧ r.classes = 0) ∧
        ∀ r, t.cplRing f n.val = some r → r.enable = false) ∧
  (s.wdogOut = true → s.regs.wdogSecond = true → s.regs.wdogAction = true → s.pwr.loss.isSome →
    exec .watchdogExpiry s = .next { ({ s with
      regs.wdogEnable := false
      regs.wdogSecond := false
      regs.wdogExpiries := satInc 255 s.regs.wdogExpiries } : State).raiseCause 2 with
      regs := { (({ s with
        regs.wdogEnable := false
        regs.wdogSecond := false
        regs.wdogExpiries := satInc 255 s.regs.wdogExpiries } : State).raiseCause 2).regs with wdogActionWaits := true } }) ∧
  (s.wdogOut = false ∨ s.regs.wdogSecond = false → exec .watchdogExpiry s = .next s) ∧
  (s.pwr.ready = true → s.sup.supState = 0 → s.inDusk = false → s.regs.heartbeatNs + 1000000 ≤ s.mtNs →
    exec .heartbeatTick s = .next { s with
      regs := { s.regs with heartbeat := s.regs.heartbeat + 1, heartbeatNs := s.regs.heartbeatNs + 1000000 } }) ∧
  (s.pwr.ready = false ∨ s.sup.supState ≠ 0 ∨ s.inDusk = true ∨ s.mtNs < s.regs.heartbeatNs + 1000000 →
    exec .heartbeatTick s = .next s)) ∧
  (∀ (s : State),
  (s.mboxTakes = true → exec .snapshot s = .next (({ s with
    regs := { s.regs with mboxData := s.snapshotData ++ s.regs.mboxData.drop 6, mboxSeq := s.regs.mboxSeq + 1, mboxResult := 0,
                          mboxBusy := false } } : State).raiseCause 0)) ∧
  (∀ k, s.mboxTakes = true → k ≠ mboxKey → (let t := ({ s with
    regs := { s.regs with mboxSeq := s.regs.mboxSeq + 1, mboxResult := 2, mboxBusy := false } } : State).raiseCause 0
    exec (.supRestart k) s = .next t ∧ exec (.panelOff k) s = .next t ∧ exec (.deviceReset k) s = .next t)) ∧
  (∀ k, s.mboxTakes = false → exec .snapshot s = .next s ∧ exec (.supRestart k) s = .next s ∧ exec (.panelOff k) s = .next s ∧
    exec (.deviceReset k) s = .next s) ∧
  (s.mboxTakes = true → s.sup.supState = 0 → s.pwr.phase = .ready → s.linkAlive = true → s.pwr.dusk ≠ .asleep → s.pwr.dusk ≠ .waking →
    (∀ m, s.sup.lastMismatch = some m → m + 1000000000 < s.mtNs) →
    ∃ t, exec (.supRestart mboxKey) s = .next t ∧ t.regs.mboxResult = 0 ∧ t.regs.mboxSeq = s.regs.mboxSeq + 1 ∧
      t.sup.restarts = s.sup.restarts + 1 ∧ t.sup.lastMismatch = some s.mtNs ∧ t.sup.supState = 0 ∧
      t.regs.intStatus = s.regs.intStatus ||| 0x1 ∧ AgreeBut [.free, .regs, .sup, .fns, .hmem, .dmem, .smb] s t) ∧
  (∀ m, s.mboxTakes = true → s.sup.supState = 0 → s.pwr.phase = .ready → s.linkAlive = true → s.pwr.dusk ≠ .asleep → s.pwr.dusk ≠ .waking →
    s.sup.lastMismatch = some m → s.mtNs ≤ m + 1000000000 →
    ∃ t, exec (.supRestart mboxKey) s = .next t ∧ t.sup.supState = 2 ∧ t.pwr.phase = .held ∧ t.regs.mboxSeq = s.regs.mboxSeq + 1) ∧
  (s.mboxTakes = true → s.sup.supState ≠ 0 ∨ s.pwr.phase ≠ .ready → exec (.supRestart mboxKey) s = .next (({ s with
    regs := { s.regs with mboxSeq := s.regs.mboxSeq + 1, mboxResult := 1, mboxBusy := false } } : State).raiseCause 0)) ∧
  (s.mboxTakes = true → s.pnl.mode ≠ .off → s.pnl.lockout = false → ∃ t, exec (.panelOff mboxKey) s = .next t ∧ t.pnl.mode = .off ∧
    t.pnl.good = List.replicate 4 false ∧ t.pnl.vcomOn = false ∧ t.pnl.discharge = none ∧ t.pnl.bleeds = List.replicate 4 true ∧
    t.pnl.nByDie = s.pnl.nByDie + 1 ∧ t.regs.mboxResult = 0 ∧
    t.regs.mboxSeq = s.regs.mboxSeq + 1 ∧ t.regs.intStatus = s.regs.intStatus ||| 0x1) ∧
  (s.mboxTakes = true → s.pnl.mode = .off ∨ s.pnl.lockout = true → exec (.panelOff mboxKey) s = .next (({ s with
    regs := { s.regs with mboxSeq := s.regs.mboxSeq + 1, mboxResult := 0, mboxBusy := false } } : State).raiseCause 0)) ∧
  (s.mboxTakes = true → s.pwr.vddAon = true → s.pwr.resetLow = false → s.pwr.vsenseReset = false → s.regs.tripHeld = false →
    s.pwr.warn = false → 1000 ≤ s.pwr.vsenseMv → ∃ t, exec (.deviceReset mboxKey) s = .next t ∧ t.pwr.phase = .rom ∧ t.pwr.ready = false ∧
      t.pwr.straps = s.pwr.straps ∧ t.pwr.linkUp = !s.pwr.perst ∧ t.time.mt = s.time.mt ∧ t.time.nt = s.time.nt ∧ t.cmd = {} ∧
      t.dsp = {} ∧ t.chain = {}))

/-- PNL_RAIL_SET, PNL_VCOM_SET and PNL_GATE_TIMING put their settings into force, at once or at the blanking slot or frame-start event that
the manual names; PNL_STATUS reports its words, measured values being free (R330 to R332, R354, R355, R365).
Choices of the model on which clauses rest: log 47. -/
def Obligations.PnlSettings : Prop := ∀ (s : State) (p : Packet),
  (∀ r, s.Starts .pnlRailSet p → r = railsOf p.body → 8000 ≤ r.avdd → r.avdd ≤ 18000 → r.avdd % 50 = 0 → 6000 ≤ r.navdd →
    r.navdd ≤ 16000 → r.navdd % 50 = 0 → 20000 ≤ r.vgh → r.vgh ≤ 38000 → r.vgh % 100 = 0 → 4000 ≤ r.vgl → r.vgl ≤ 16000 →
    r.vgl % 100 = 0 → 1 ≤ r.delay → r.delay ≤ 100 → r.avdd + 4000 ≤ r.vgh →
    (s.pnl.mode = .off ∨ s.pnl.mode = .fault ∨ s.pnl.rails = none → DoneAs (.pnlRailSet p) p s .ok 0 0 fun u =>
      Ended p s s.cmd u ∧ AgreeBut [.cmd, .smb, .pnl] s u ∧
        u.pnl = { s.pnl with rails := some r, railsNext := if s.pnl.mode = .off ∨ s.pnl.mode = .fault then none else s.pnl.railsNext }) ∧
    (∀ o, s.pnl.mode ≠ .off → s.pnl.mode ≠ .fault → s.pnl.rails = some o → railsNear o r = true →
      DoneAs (.pnlRailSet p) p s .ok 0 0 fun u =>
        Ended p s s.cmd u ∧ AgreeBut [.cmd, .smb, .pnl] s u ∧ u.pnl = { s.pnl with railsNext := some r }) ∧
    (∀ o, s.pnl.mode ≠ .off → s.pnl.mode ≠ .fault → s.pnl.rails = some o → railsNear o r = false →
      RefusedAs (.pnlRailSet p) p s .wrongState noField 3)) ∧
  (s.Starts .pnlVcomSet p → (∀ i < 4, p.u16 (16 + 2 * i) < 1024) → DoneAs (.pnlVcomSet p) p s .ok 0 0 fun u =>
    Ended p s s.cmd u ∧ AgreeBut [.cmd, .smb, .pnl] s u ∧
      u.pnl = { s.pnl with vcom := some (vcomOf p.body), vcomDue := true, flickerDue := true }) ∧
  (s.Starts .pnlGateTiming p → gateFault s.dsp.timing (gateOf p.body) = none → s.dsp.timing.all (gateFits · (gateOf p.body)) = true →
    DoneAs (.pnlGateTiming p) p s .ok 0 0 fun u => Ended p s s.cmd u ∧ AgreeBut [.cmd, .smb, .pnl] s u ∧
      u.pnl = if s.rasterRuns then { s.pnl with gateNext := some (gateOf p.body) } else { s.pnl with gate := some (gateOf p.body) }) ∧
  (s.Starts .pnlStatus p → p.u8 16 ≤ 7 → p.u8 16 ≠ 1 → p.u8 16 ≠ 2 → (p.u8 16 = 5 → p.u8 17 ≤ 47) → (p.u8 16 ≠ 5 → p.u8 17 = 0) →
    (p.u8 16 = 3 → s.pnl.linkLock = true) →
    DoneAs (.pnlStatus p) p s .ok
      ([s.panelWord, 0, 0, (2 ^ s.lanesInUse - 1) % 0x100000000, s.pnl.nRetrains.toNat, (s.pnl.laneFaults.getD (p.u8 17) 0).toNat,
        s.pnl.nLockLow.toNat, s.pnl.nDischarges.toNat].getD (p.u8 16) 0)
      ([s.pnl.lastReason, 0, 0, (2 ^ s.lanesInUse - 1) / 0x100000000, s.pnl.nTrainings.toNat, (s.pnl.laneRetrains.getD (p.u8 17) 0).toNat,
        s.pnl.nRepeats.toNat, s.pnl.nByDie.toNat].getD (p.u8 16) 0)
      fun u => Ended p s s.cmd u ∧ AgreeBut [.cmd, .smb] s u) ∧
  (s.Starts .pnlStatus p → p.u8 16 = 1 → p.u8 17 ≤ 3 →
    DoneAs (.pnlStatus p) p s .ok (Config.freeNat s.free) (Config.freeNat (s.free + 1))
      fun u => Ended p s s.cmd u ∧ AgreeBut [.cmd, .smb, .free] s u) ∧
  (s.Starts .pnlStatus p → p.u8 16 = 3 → p.u8 17 = 0 → s.pnl.linkLock = false →
    (let m := Config.freeNat s.free &&& (2 ^ s.lanesInUse - 1)
     DoneAs (.pnlStatus p) p s .ok (m % 0x100000000) (m / 0x100000000)
      fun u => Ended p s s.cmd u ∧ AgreeBut [.cmd, .smb, .free] s u)) ∧
  (s.Starts .pnlStatus p → p.u8 16 = 2 → p.u8 17 = 0 →
    DoneAs (.pnlStatus p) p s .ok s.pnl.vcomCode (Config.freeNat s.free)
      fun u => Ended p s s.cmd u ∧ AgreeBut [.cmd, .smb, .free] s u)

/-- Power-on: PNL_POWER_ON is accepted from OFF and FAULT with its settings in force, with VIN_PNL at 9.0 V and a panel-power die that answers,
and starts AVDD; rails become good and start in the order AVDD, NAVDD, VGL, VGH with seq_delay between them, each with its bleed open, VCOM
with AVDD; RAILS_UP and the pulse of GRST follow VGH. A rail fault raises RAIL_FAULT and starts a discharge to FAULT, or joins the one that
runs while the rail is still driven; in OFF and FAULT there is none (R335 to R337, R359, R628).
Choices of the model on which clauses rest: log 69. -/
def Obligations.PnlPowerOn : Prop := ∀ (s : State),
  (∀ p, s.Starts .pnlPowerOn p → (s.pnl.mode = .off ∨ s.pnl.mode = .fault) → s.pnl.rails.isSome → s.pnl.vcom.isSome → s.pnl.gate.isSome →
    s.dsp.timing.isSome → s.pnl.vinOk = true → s.pnl.silent = false →
    AcceptedAs (.pnlPowerOn p) p s fun u => AgreeBut [.cmd, .smb, .pnl] s u ∧
      u.pnl = { s.pnl with mode := .rampingUp, faulted := List.replicate 4 false, rampRail := 0, rampSince := s.mtNs, rampOn := true,
                           rampMark := s.mtNs, rampTicket := some s.cmd.nextTicket, restore := none, grstSince := none,
                           bleeds := setAt s.pnl.bleeds 0 false }) ∧
  (∀ p, s.Starts .pnlPowerOn p → (s.pnl.mode = .off ∨ s.pnl.mode = .fault) → s.pnl.rails.isSome → s.pnl.vcom.isSome → s.pnl.gate.isSome →
    s.dsp.timing.isSome → (s.pnl.vinOk = false ∨ s.pnl.silent = true) → RefusedAs (.pnlPowerOn p) p s .wrongState noField 4) ∧
  (∀ p, s.Starts .pnlPowerOn p → s.pnl.mode ≠ .off → s.pnl.mode ≠ .fault → RefusedAs (.pnlPowerOn p) p s .wrongState noField 1) ∧
  (s.pnl.mode = .rampingUp → s.pnl.rampOn = true → s.pnl.rampRail = 0 → exec (.panelRailStep true) s = .next { s with
    pnl.good := setAt s.pnl.good 0 true
    pnl.rampOn := false
    pnl.rampRail := 1
    pnl.rampMark := s.mtNs
    pnl.vcomOn := true
    pnl.vcomCode := s.vcomFor s.dsp.rate
    pnl.vcomRate := s.dsp.rate }) ∧
  (s.pnl.mode = .rampingUp → s.pnl.rampOn = true → s.pnl.rampRail = 1 ∨ s.pnl.rampRail = 2 →
    exec (.panelRailStep true) s = .next { s with
      pnl.good := setAt s.pnl.good (if s.pnl.rampRail = 1 then 1 else 3) true
      pnl.rampOn := false
      pnl.rampRail := s.pnl.rampRail + 1
      pnl.rampMark := s.mtNs }) ∧
  (∀ r, s.pnl.mode = .rampingUp → s.pnl.rampOn = false → s.pnl.rails = some r → s.pnl.rampMark + r.delay * 100000 ≤ s.mtNs →
    exec (.panelRailStep false) s = .next { s with
      pnl.rampOn := true
      pnl.rampMark := s.mtNs
      pnl.bleeds := setAt s.pnl.bleeds (rampIndex s.pnl.rampRail) false }) ∧
  (s.pnl.mode ≠ .rampingUp → ∀ ok, exec (.panelRailStep ok) s = .next s) ∧
  (s.pnl.mode = .rampingUp → s.pnl.rampOn = true → s.pnl.rampRail = 3 → s.pnl.restore = none →
    ∃ t, exec (.panelRailStep true) s = .next t ∧ t.pnl.mode = .railsUp ∧ t.pnl.good = setAt s.pnl.good 2 true ∧
      t.pnl.rampTicket = none ∧ t.pnl.grstSince = some s.mtNs ∧ t.pnl.vcomOn = s.pnl.vcomOn ∧ (∀ n, s.pnl.rampTicket = some n → ∀ f ∈ t.cmd.outcomes, f.ticket ≠ n) ∧
      AgreeBut [.pnl, .cmd, .thm, .fns, .hmem, .dmem, .smb, .sup] s t) ∧
  (∀ rail cause : Fin 5, (s.pnl.mode = .railsUp ∨ s.pnl.mode = .driving) → s.pnl.discharge = none → s.pnl.lockout = false →
    s.pnl.rampTicket = none → s.pnl.train = none → s.pnl.gamma = none → exec (.railFault rail cause) s = .next (
      let t := ({ s with
        pnl.faulted := setAt s.pnl.faulted rail.val true
        pnl.good := if cause.val = 0 then setAt s.pnl.good rail.val false else s.pnl.good
        pnl.vcomOn := s.pnl.vcomOn && !(rail.val == 0 && cause.val == 0) } : State).raise
          { code := .railFault, source := 7, data0 := rail.val, data1 := cause.val }
      { t with
        pnl.mode := .discharging
        pnl.retrain := none
        pnl.discharge := some { reason := 2, since := s.mtNs, from_ := s.pnl.mode, toFault := true } })) ∧
  (∀ (rail cause : Fin 5) d, s.pnl.mode = .discharging → s.pnl.discharge = some d → s.stillDriven rail.val = true → s.pnl.rampTicket = none →
    exec (.railFault rail cause) s = .next (
      let t := ({ s with
        pnl.faulted := setAt s.pnl.faulted rail.val true
        pnl.good := if cause.val = 0 then setAt s.pnl.good rail.val false else s.pnl.good
        pnl.vcomOn := s.pnl.vcomOn && !(rail.val == 0 && cause.val == 0) } : State).raise
          { code := .railFault, source := 7, data0 := rail.val, data1 := cause.val }
      { t with pnl.discharge := some { d with toFault := true } })) ∧
  (∀ rail cause : Fin 5, (s.pnl.mode = .off ∨ s.pnl.mode = .fault) → exec (.railFault rail cause) s = .next s) ∧
  (∀ (rail cause : Fin 5) n, s.pnl.mode = .rampingUp → s.pnl.discharge = none → s.pnl.lockout = false → s.pnl.rampTicket = some n →
    s.pnl.train = none → s.pnl.gamma = none →
    ∃ t, exec (.railFault rail cause) s = .next t ∧ t.pnl.mode = .discharging ∧ t.pnl.rampTicket = none ∧
      t.pnl.discharge = some { reason := 2, since := s.mtNs, from_ := .rampingUp, toFault := true } ∧ (∀ f ∈ t.cmd.outcomes, f.ticket ≠ n) ∧
      AgreeBut [.pnl, .cmd, .fns, .hmem, .dmem, .smb, .sup] s t)

/-- Discharge: PNL_POWER_OFF starts one, or joins the one that runs, or in lockout awaits its end; the operations in progress end; at its first
slot GALL goes high; VGH, VGL, NAVDD and AVDD with VCOM stop at 200, 650, 1100 and 1550 us, each with its bleed closed, and at 2000 us the
panel is OFF, or in FAULT after a rail fault, with the outcomes of the packets. Lockout darkens the panel at once and is left only into OFF, above
7.5 V; whether VIN_PNL then serves a power-on, which takes 9.0 V, is a free value (R326, R335, R358 to R364; logs 117, 129).
Choices of the model on which clauses rest: log 29. -/
def Obligations.PnlPowerOff : Prop := ∀ (s : State),
  (∀ p, s.Starts .pnlPowerOff p → s.pnl.mode ≠ .off → s.pnl.lockout = false → s.pnl.discharge = none → s.pnl.rampTicket = none →
    s.pnl.train = none → s.pnl.gamma = none →
    AcceptedAs (.pnlPowerOff p) p s fun u => AgreeBut [.cmd, .smb, .pnl] s u ∧
      u.pnl = { s.pnl with mode := .discharging, retrain := none,
                           discharge := some { reason := 0, since := s.mtNs, from_ := s.pnl.mode, tickets := [s.cmd.nextTicket] } }) ∧
  (∀ p, s.Starts .pnlPowerOff p → s.pnl.mode ≠ .off → s.pnl.lockout = false → s.pnl.discharge = none →
    (∀ g, s.pnl.gamma = some g → g.ticket ≠ s.cmd.nextTicket) →
    ∃ u : State, exec (.pnlPowerOff p) s = .next (u.complete p .accepted 0 0) ∧ u.pnl.mode = .discharging ∧ u.pnl.train = none ∧
      u.pnl.gamma = none ∧ u.pnl.retrain = none ∧ u.pnl.rampTicket = none ∧
      u.pnl.discharge = some { reason := 0, since := s.mtNs, from_ := s.pnl.mode, tickets := [s.cmd.nextTicket] } ∧
      ∃ f ∈ u.cmd.outcomes, f.ticket = s.cmd.nextTicket ∧ f.pkt = p) ∧
  (∀ p, s.Starts .pnlPowerOff p → s.pnl.mode ≠ .off → s.pnl.lockout = true →
    AcceptedAs (.pnlPowerOff p) p s fun u => AgreeBut [.cmd, .smb, .pnl] s u ∧
      u.pnl = { s.pnl with offTickets := s.pnl.offTickets ++ [s.cmd.nextTicket] }) ∧
  (∀ p d, s.Starts .pnlPowerOff p → s.pnl.mode = .discharging → s.pnl.lockout = false → s.pnl.discharge = some d →
    AcceptedAs (.pnlPowerOff p) p s fun u => AgreeBut [.cmd, .smb, .pnl] s u ∧
      u.pnl = { s.pnl with discharge := some { d with tickets := d.tickets ++ [s.cmd.nextTicket] } }) ∧
  (∀ p, s.Starts .pnlPowerOff p → s.pnl.mode = .off → RefusedAs (.pnlPowerOff p) p s .wrongState noField 0) ∧
  (∀ d, s.pnl.discharge = some d → d.start = none → exec .dischargeStart s = .next { s with
    pnl.discharge := some { d with start := some s.mtNs }
    pnl.gallOn := true
    dsp.block := .discharge }) ∧
  (s.pnl.discharge = none → exec .dischargeStart s = .next s ∧ exec .dischargeStep s = .next s) ∧
  (∀ d t0, s.pnl.discharge = some d → d.start = some t0 → d.stage < 4 → t0 + stageNs d.stage ≤ s.mtNs →
    exec .dischargeStep s = .next { s with
      pnl.discharge := some { d with stage := d.stage + 1 }
      pnl.good := setAt s.pnl.good ([2, 3, 1, 0].getD d.stage 0) false
      pnl.bleeds := setAt s.pnl.bleeds ([2, 3, 1, 0].getD d.stage 0) true
      pnl.vcomOn := s.pnl.vcomOn && d.stage != 3 }) ∧
  (∀ d t0, s.pnl.discharge = some d → d.start = some t0 → s.mtNs < t0 + stageNs d.stage → exec .dischargeStep s = .next s) ∧
  (∀ d t0, s.pnl.discharge = some d → d.start = some t0 → d.stage = 4 → t0 + 2000000 ≤ s.mtNs → d.reason ≠ 1 → s.pwr.dusk = .awake →
    ∃ t, exec .dischargeStep s = .next t ∧ t.pnl.mode = (if d.toFault then .fault else .off) ∧ t.pnl.discharge = none ∧
      t.pnl.good = List.replicate 4 false ∧ t.pnl.vcomOn = false ∧ t.pnl.gallOn = false ∧ t.pnl.lastReason = d.reason ∧
      t.pnl.bleeds = List.replicate 4 true ∧ t.pnl.restore = none ∧ t.pnl.nDischarges = s.pnl.nDischarges + 1 ∧ (∀ n ∈ d.tickets, ∀ f ∈ t.cmd.outcomes, f.ticket ≠ n) ∧
      AgreeBut [.pnl, .cmd, .fns, .hmem, .dmem, .smb, .sup] s t) ∧
  (s.pnl.lockout = false → s.pwr.dusk = .awake → ∃ t, exec .panelLockout s = .next t ∧
    t.pnl.mode = (if s.pnl.mode = .off then .off else .discharging) ∧
    t.pnl.lockout = true ∧ t.pnl.gallOn = true ∧ t.pnl.good = List.replicate 4 false ∧ t.pnl.vcomOn = false ∧ t.pnl.discharge = none ∧
    t.pnl.vinOk = false) ∧
  (s.pnl.lockout = true → exec .panelLockout s = .next s) ∧
  (s.pnl.lockout = false → ∃ ok, exec .panelLockoutRelease s = .next { s with free := s.free + 1, pnl.vinOk := ok }) ∧
  (s.pnl.lockout = true →
    ∃ t, exec .panelLockoutRelease s = .next t ∧ AgreeBut [.free, .pnl, .cmd, .fns, .hmem, .dmem, .smb, .sup] s t ∧
      t.pnl = { s.pnl with lockout := false, mode := .off, gallOn := false, vinOk := t.pnl.vinOk, offTickets := [] } ∧
      (∀ n ∈ s.pnl.offTickets, ∀ f ∈ t.cmd.outcomes, f.ticket ≠ n) ∧
      (s.pnl.offTickets = [] → AgreeBut [.free, .pnl] s t))

/-- Link training: PNL_LINK_TRAIN is accepted in RAILS_UP and DRIVING when its parameters, or those of the panel profile that it names, fit the
timing, and starts a training with them; its steps wait for 200 us of pattern, for LINK_LOCK and for the configuration; 10 ms after it began a
training whose LINK_LOCK has not come, or has been lost, ends in RAILS_UP with TIMEOUT, or with LANE_RETRAINED cause 3 where no packet asked
for it, and with no training in progress nothing happens (R344 to R346, R348).
Fast retrain while DRIVING: a fault of a lane in use retrains that lane and is counted, a low LINK_LOCK retrains every lane in use, and outside
DRIVING neither retrains; line packets resume when it succeeds, another one runs when it fails, and the third failure starts a training. PNL_GAMMA_LOAD copies its image and is in progress until
the image is sent (R347, R348, R351, R352).
Choices of the model on which clauses rest: log 28, log 48, log 69. -/
def Obligations.PnlLinks : Prop :=
  (∀ (s : State),
  (∀ p tm, s.Starts .pnlLinkTrain p → bitOf (p.u8 17) 5 = false → s.dsp.timing = some tm → linkFault (p.body.take 16) = none →
    linkFits (linkOf (p.body.take 16)) tm = true → (s.pnl.mode = .railsUp ∨ s.pnl.mode = .driving) → s.pnl.train = none →
    s.pnl.gamma = none →
    AcceptedAs (.pnlLinkTrain p) p s fun u => AgreeBut [.cmd, .smb, .pnl] s u ∧
      u.pnl = { s.pnl with mode := .training, train := some { ticket := some s.cmd.nextTicket, since := s.mtNs }, retrain := none,
                           nTrainings := s.pnl.nTrainings + 1, link := some (linkOf (p.body.take 16)), linkInvalid := false }) ∧
  (∀ p k tm, s.Starts .pnlLinkTrain p → p.u8 16 = 0 → p.u8 17 = 32 → p.u16 18 = 0 → p.num 20 6 = 0 → s.dsp.timing = some tm →
    s.pnl.profileLink = some k → linkFits k tm = true → (s.pnl.mode = .railsUp ∨ s.pnl.mode = .driving) → s.pnl.train = none →
    AcceptedAs (.pnlLinkTrain p) p s fun u => AgreeBut [.cmd, .smb, .pnl] s u ∧ u.pnl.link = some k ∧ u.pnl.mode = .training ∧
      u.pnl.train = some { ticket := some s.cmd.nextTicket, since := s.mtNs }) ∧
  (∀ tr, s.pnl.train = some tr → tr.step = 1 → tr.since + 200000 ≤ s.mtNs →
    ∀ ok, exec (.trainingStep ok) s = .next { s with pnl.train := some { tr with step := 2 } }) ∧
  (∀ tr, s.pnl.train = some tr → tr.step = 2 → exec (.trainingStep true) s = .next { s with
    pnl.linkLock := true
    pnl.train := some { tr with step := 3 } }) ∧
  (∀ tr, s.pnl.train = some tr → tr.step = 3 → imageBlocks s.trainingImages ≤ tr.sent → exec (.trainingStep true) s = .next { s with
    pnl.linkLock := true
    pnl.train := some { tr with step := 4 } }) ∧
  (∀ tr, s.pnl.train = some tr → tr.step = 2 ∨ tr.step = 3 → exec (.trainingStep false) s = .next { s with pnl.linkLock := false }) ∧
  (s.pnl.train = none → exec .trainingTimeout s = .next s ∧ ∀ ok, exec (.trainingStep ok) s = .next s) ∧
  (∀ tr n, s.pnl.train = some tr → (tr.step ≤ 2 ∨ s.pnl.linkLock = false) → tr.since + 10000000 ≤ s.mtNs → tr.ticket = some n →
    exec .trainingTimeout s = .next (({ s with
      pnl.mode := .railsUp
      pnl.train := none } : State).outcome n .timeout 0)) ∧
  (∀ tr, s.pnl.train = some tr → (tr.step ≤ 2 ∨ s.pnl.linkLock = false) → tr.since + 10000000 ≤ s.mtNs → tr.ticket = none →
    exec .trainingTimeout s = .next (({ s with
      pnl.mode := .railsUp
      pnl.train := none } : State).raise
        { code := .laneRetrained, source := 122, data0 := (2 ^ s.lanesInUse - 1) % 0x100000000,
          data1 := (2 ^ s.lanesInUse - 1) / 0x100000000 + 3 * 65536 }))) ∧
  (∀ (s : State),
  (∀ n, s.pnl.mode = .driving → n < s.lanesInUse → s.pnl.retrain = none → s.pnl.gamma = none →
    ∃ t, exec (.laneDeviceFault n) s = .next t ∧ AgreeBut [.pnl, .sup] s t ∧
      t.pnl = { s.pnl with laneFaults := updAt s.pnl.laneFaults n (· + 1), nRetrains := s.pnl.nRetrains + 1,
                           retrain := some { lanes := 2 ^ n, cause := 0, unit := n, since := s.mtNs },
                           laneRetrains := s.pnl.laneRetrains.mapIdx fun i w => if bitOf (2 ^ n) i then w + 1 else w } ∧
      t.sup = { s.sup with detected := updAt s.sup.detected 7 (· + 1) }) ∧
  (∀ n, s.lanesInUse ≤ n → exec (.laneDeviceFault n) s = .next s) ∧
  (∀ n, s.pnl.mode ≠ .driving → n < s.lanesInUse →
    exec (.laneDeviceFault n) s = .next { s with pnl.laneFaults := updAt s.pnl.laneFaults n (· + 1) }) ∧
  (s.pnl.retrain = none → ∀ ok, exec (.fastRetrainEnd ok) s = .next s) ∧
  (s.pnl.mode = .driving → s.pnl.retrain = none → s.pnl.gamma = none →
    ∃ t, exec .linkLockLoss s = .next t ∧ AgreeBut [.pnl, .sup, .free] s t ∧ t.pnl.linkLock = false ∧
      t.pnl.nLockLow = s.pnl.nLockLow + 1 ∧ t.pnl.nRetrains = s.pnl.nRetrains + 1 ∧ t.pnl.mode = .driving ∧
      t.pnl.retrain.map (fun r => (r.lanes, r.cause, r.slots, r.fails)) = some (2 ^ s.lanesInUse - 1, 1, 0, 0) ∧
      t.sup = { s.sup with detected := updAt s.sup.detected 7 (· + 1) }) ∧
  (s.pnl.mode ≠ .driving → exec .linkLockLoss s = .next { s with pnl.linkLock := false }) ∧
  (∀ r, s.pnl.retrain = some r → ∃ t, exec (.fastRetrainEnd true) s = .next t ∧
    t.pnl = { s.pnl with retrain := none, linkLock := true } ∧ t.sup.recovered = updAt s.sup.recovered r.cls (· + 1) ∧
    AgreeBut [.pnl, .sup, .free, .fns, .hmem, .dmem, .smb] s t) ∧
  (∀ r, s.pnl.retrain = some r → r.fails < 2 → s.pnl.mode = .driving → ∃ t, exec (.fastRetrainEnd false) s = .next t ∧
    t.pnl.retrain.map (fun r => (r.lanes, r.fails, r.slots)) = some (r.lanes, r.fails + 1, 0) ∧ t.pnl.mode = .driving ∧
    t.pnl.nRetrains = s.pnl.nRetrains + 1 ∧ AgreeBut [.pnl, .sup, .fns, .hmem, .dmem, .smb] s t) ∧
  (∀ r, s.pnl.retrain = some r → 2 ≤ r.fails → ∃ t, exec (.fastRetrainEnd false) s = .next t ∧ t.pnl.mode = .training ∧
    t.pnl.train = some { ticket := none, since := s.mtNs, heals := some (r.cls, r.unit, r.injected) } ∧ t.pnl.retrain = none ∧ t.pnl.nTrainings = s.pnl.nTrainings + 1 ∧
    AgreeBut [.pnl, .sup, .fns, .hmem, .dmem, .smb] s t) ∧
  (∀ p l, s.Starts .pnlGammaLoad p → s.pnl.mode = .driving → s.pnl.gamma = none → 0x100 ≤ p.u16 16 → p.u16 16 ≤ 0x1BFF → p.u32 20 % 8 = 0 →
    8 ≤ p.u32 20 → p.u32 20 ≤ 65536 → p.u16 16 + p.u32 20 / 2 ≤ 0x1C00 → p.u64 24 % 8 = 0 → p.num 32 6 ≠ 0 →
    p.num 32 6 ≤ 2 ^ s.lanesInUse - 1 → s.resolve p.src (p.u64 24) (p.u32 20) = some l →
    BegunAs (.pnlGammaLoad p) p s false fun u => AgreeBut [.cmd, .smb, .pnl] s u ∧
      u.pnl = { s.pnl with gamma := some { ticket := s.cmd.nextTicket, image := ⟨p.u16 16, s.readAt l (p.u32 20), p.num 32 6⟩ } }))

/-- DSP_TIMING_SET is accepted when its timing passes the checks of R294; it is in force at once while no raster runs, and waits for the
end of the refresh in progress while one does; the links are checked against it now. DSP_LOCK selects a lock source: FREE raises LOCK_FREE_RUN and waits
for the next frame-start event, EXTERNAL waits for its edges, and SCHEDULED is acquired at once when NT is ready, and else waits for it (R293, R294,
R303, R306, R308, R356).
Choices of the model on which clauses rest: log 23, log 24, log 67. -/
def Obligations.DspTiming : Prop := ∀ (s : State) (p : Packet),
  (s.Starts .dspTimingSet p → checkTiming (p.bytesAt 16 24) = none → offsetFits (timingOf (p.bytesAt 16 24)) s.offsetSet = true →
    s.wovenFits (timingOf (p.bytesAt 16 24)) = true → s.dspBusy = false →
    (s.rasterRuns = false →
      (∃ u : State, exec (.dspTimingSet p) s = .next (u.complete p .accepted 0 0) ∧ (∃ f ∈ u.cmd.outcomes, f.ticket = s.cmd.nextTicket ∧ f.pkt = p) ∧
        u.dsp.timing = some (timingOf (p.bytesAt 16 24)) ∧ u.dsp.timingNext = none ∧ u.dsp.timingDue = some s.cmd.nextTicket ∧
        u.dsp.nextGrid = some s.time.mt ∧ u.dsp.dfn = s.dsp.dfn ∧ u.ray.window = none ∧ u.ray.complete = none ∧ u.ray.presented = none) ∧
      (s.pnl.train = none → AcceptedAs (.dspTimingSet p) p s fun u =>
        u.pnl = { s.pnl with mode := u.pnl.mode, retrain := u.pnl.retrain, linkInvalid := u.pnl.linkInvalid,
                             gateInvalid := u.pnl.gateInvalid, linkMisfit := false } ∧
        u.dec.jobs = s.dec.jobs ∧ AgreeBut [.cmd, .smb, .dsp, .ray, .dec, .pnl, .memc] s u)) ∧
    (s.rasterRuns = true →
      AcceptedAs (.dspTimingSet p) p s fun u => AgreeBut [.cmd, .smb, .dsp, .pnl, .memc] s u ∧
        u.memc = { s.memc with ports := u.memc.ports } ∧
        u.pnl = { s.pnl with linkMisfit := s.misfits (timingOf (p.bytesAt 16 24)) } ∧
        u.dsp = { s.dsp with timingByHost := true, timingNext := some (timingOf (p.bytesAt 16 24), some s.cmd.nextTicket),
                             wantBase := s.dsp.wantBase || s.dsp.rate != 0 })) ∧
  (s.Starts .dspTimingSet p → (timingOf (p.bytesAt 16 24)).hactive % 2 = 1 → RefusedAs (.dspTimingSet p) p s .badParam 16 1) ∧
  (s.Starts .dspLock p → p.u8 16 = 0 → p.u8 17 ≤ 3 → p.u32 20 = 0 → p.num 24 6 = 0 → s.dsp.timing.isSome → s.dspBusy = false →
    AcceptedAs (.dspLock p) p s fun u => AgreeBut [.cmd, .smb, .dsp, .fns, .hmem, .dmem, .sup] s u ∧
      u.dsp = { s.dsp with
        lock := { source := 0, falling := bitOf (p.u8 17) 0, syncOut := bitOf (p.u8 17) 1, t0 := 0 }
        lockState := .free
        acquired := true
        goodEdges := 0
        lastEdge := none
        missedRow := 0
        period := 0
        periods := []
        holdUntil := none
        wantBase := s.dsp.wantBase || s.dsp.rate != 0
        lockWait := some (s.cmd.nextTicket, s.dsp.lock, s.mtNs + 2000000000) }) ∧
  (∀ k, s.Starts .dspLock p → p.u8 16 = 1 ∨ (p.u8 16 = 2 ∧ s.ntReady = false) → p.u8 17 ≤ 3 →
    (p.u8 16 = 1 → p.u32 20 = 0 ∧ p.num 24 6 = 0) → p.u32 20 ≤ 999999999 → s.dsp.timing.isSome → s.dspBusy = false →
    k = { source := p.u8 16, falling := bitOf (p.u8 17) 0, syncOut := bitOf (p.u8 17) 1,
          t0 := p.num 24 6 * secUnits + p.u32 20 * 0x100000000 } →
    AcceptedAs (.dspLock p) p s fun u => AgreeBut [.cmd, .smb, .dsp] s u ∧
      u.dsp = { s.dsp with
        lock := k
        lockState := .acquiring
        acquired := false
        goodEdges := 0
        lastEdge := none
        missedRow := 0
        period := 0
        periods := []
        holdUntil := none
        wantBase := s.dsp.wantBase || s.dsp.rate != 0
        lockWait := some (s.cmd.nextTicket, s.dsp.lock, s.mtNs + 2000000000) }) ∧
  (∀ k tm, s.Starts .dspLock p → p.u8 16 = 2 → s.ntReady = true → p.u8 17 ≤ 3 → p.u32 20 ≤ 999999999 → s.dsp.timing = some tm →
    s.dspBusy = false →
    k = { source := 2, falling := bitOf (p.u8 17) 0, syncOut := bitOf (p.u8 17) 1,
          t0 := p.num 24 6 * secUnits + p.u32 20 * 0x100000000 } →
    ∃ u : State, exec (.dspLock p) s = .next ((u.complete p .accepted 0 0).outcome s.cmd.nextTicket .ok 0) ∧
      (∃ f ∈ u.cmd.outcomes, f.ticket = s.cmd.nextTicket ∧ f.pkt = p) ∧ AgreeBut [.cmd, .smb, .dsp] s u ∧
      u.dsp = { s.dsp with
        lock := k
        lockState := .acquiring
        acquired := true
        instant := firstInstant k.t0 tm.refresh (s.baseWhen 0 (s.placeFrom tm))
        goodEdges := 0
        lastEdge := none
        missedRow := 0
        period := 0
        periods := []
        holdUntil := none
        wantBase := s.dsp.wantBase || s.dsp.rate != 0 }) ∧
  (s.Starts .dspLock p → p.u8 16 ≤ 2 → p.u8 17 ≤ 3 → p.u32 20 = 0 → p.num 24 6 = 0 → s.dsp.timing = none →
    RefusedAs (.dspLock p) p s .wrongState noField 0)

/-- DSP_STILL, DSP_OFFSET and DSP_HOLDOVER set their values; a step down that waits is dropped where the lowest rate no longer allows it. DSP_STATUS
reports its words, and reading the lowest reserves clears them; DSP_PROFILE_READ copies the chosen panel profile. DSP_PROFILE_STORE hands a valid
one to the store, where it waits uncommitted while a page program is in flight, and begins at once in an idle store (R70, R301, R302, R310, R313, R317,
R319, R324).
Choices of the model on which clauses rest: log 68. -/
def Obligations.DspSettings : Prop := ∀ (s : State) (p : Packet),
  (∀ tm, s.Starts .dspStill p → p.u8 16 = 1 → p.u8 17 ≤ 2 → s.dsp.timing = some tm → tm.refresh % 30000 = 0 →
    DoneAs (.dspStill p) p s .ok 0 0 fun u => Ended p s s.cmd u ∧ AgreeBut [.cmd, .smb, .dsp] s u ∧
      u.dsp = { s.dsp with still := true, lowest := p.u8 17, rateNext := s.dsp.rateNext.filter (fun r => decide (r ≤ p.u8 17 + 1)),
                           stillSince := if s.dsp.still then s.dsp.stillSince else s.mtNs }) ∧
  (∀ tm, s.Starts .dspStill p → p.u8 16 = 0 → p.u8 17 ≤ 2 → s.dsp.timing = some tm → tm.refresh % 30000 = 0 →
    DoneAs (.dspStill p) p s .ok 0 0 fun u => Ended p s s.cmd u ∧ AgreeBut [.cmd, .smb, .dsp] s u ∧
      u.dsp = { s.dsp with still := false, lowest := p.u8 17, rateNext := none, wantBase := s.dsp.wantBase || s.dsp.rate != 0 }) ∧
  (s.Starts .dspStill p → p.u8 16 ≤ 1 → p.u8 17 ≤ 2 → (∀ tm, s.dsp.timing = some tm → tm.refresh % 30000 ≠ 0) →
    RefusedAs (.dspStill p) p s .wrongState noField 0) ∧
  (s.Starts .dspOffset p → (∀ tm, (s.dsp.timingNext.map (·.1)).or s.dsp.timing = some tm → p.u32 16 < tm.htotal * (tm.vblank - 16)) →
    DoneAs (.dspOffset p) p s .ok 0 0 fun u => Ended p s s.cmd u ∧ AgreeBut [.cmd, .smb, .dsp] s u ∧
      u.dsp = (if s.rasterRuns then { s.dsp with offsetNext := some (p.u32 16) }
        else { s.dsp with offset := p.u32 16, offsetNext := none })) ∧
  (∀ tm, s.Starts .dspOffset p → (s.dsp.timingNext.map (·.1)).or s.dsp.timing = some tm → tm.htotal * (tm.vblank - 16) ≤ p.u32 16 →
    RefusedAs (.dspOffset p) p s .badParam 16 0) ∧
  (s.Starts .dspHoldover p → p.u16 16 ≤ 600 →
    DoneAs (.dspHoldover p) p s .ok 0 0 fun u => Ended p s s.cmd u ∧ AgreeBut [.cmd, .smb, .dsp] s u ∧
      u.dsp = { s.dsp with holdSecs := p.u16 16 }) ∧
  (s.Starts .dspHoldover p → 600 < p.u16 16 → RefusedAs (.dspHoldover p) p s .badParam 16 0) ∧
  (∀ w, s.Starts .dspStatus p → p.u8 16 ≠ 7 → (p.u8 16 = 3 → p.u8 17 ≤ 3) → (p.u8 16 ≠ 3 → p.u8 17 = 0) →
    (let d := s.dsp
     [(s.lockWord, d.holdUntil.elim 0 fun t => ceilDiv (t - s.mtNs) 1000000000),
      (d.dfn.toNat % 0x100000000, d.dfn.toNat / 0x100000000), (d.psn.toNat % 0x100000000, d.psn.toNat / 0x100000000),
      (nsField (d.stamp.getD (p.u8 17) 0), secField (d.stamp.getD (p.u8 17) 0) % 0x100000000),
      (d.period / 0x10000000 % 0x100000000, unsignedOf 32 d.phasePs), (d.nMissedEdges.toNat, d.nSpurious.toNat),
      (d.nWoven.toNat, d.nLayer.toNat), (0, 0), (d.nUrgent.toNat, d.nCritical.toNat)][p.u8 16]?) = some w →
    DoneAs (.dspStatus p) p s .ok w.1 w.2 fun u => Ended p s s.cmd u ∧ AgreeBut [.cmd, .smb] s u) ∧
  (s.Starts .dspStatus p → p.u8 16 = 7 → p.u8 17 = 0 →
    DoneAs (.dspStatus p) p s .ok s.dsp.minWoven s.dsp.minLayer fun u => Ended p s s.cmd u ∧ AgreeBut [.cmd, .smb, .dsp] s u ∧
      u.dsp = { s.dsp with minWoven := 0xFFFFFFFF, minLayer := 0xFFFFFFFF }) ∧
  (∀ l c b, s.Starts .dspProfileRead p → p.u32 16 % 4 = 0 → p.u64 24 % 4 = 0 → s.resolve p.src (p.u64 24) (p.u32 16) = some l →
    s.scanning = false → s.chosenProfile = some (c, b) → b.length ≤ p.u32 16 →
    DoneAs (.dspProfileRead p) p s .ok b.length (profId b) fun u => Counted s s.cmd u ∧ AgreeBut [.cmd] ((s.sent p).writeAt l b) u) ∧
  (∀ l, s.Starts .dspProfileRead p → p.u32 16 % 4 = 0 → p.u64 24 % 4 = 0 → s.resolve p.src (p.u64 24) (p.u32 16) = some l →
    s.scanning = false → s.chosenProfile = none → RefusedAs (.dspProfileRead p) p s .wrongState noField 0) ∧
  (∀ l q, s.Starts .dspProfileStore p → p.u32 16 % 4 = 0 → p.u64 24 % 4 = 0 → 68 ≤ p.u32 16 → p.u32 16 ≤ 12288 →
    s.resolve p.src (p.u64 24) (p.u32 16) = some l → checkProfile (s.readAt l (p.u32 16)) = 0 →
    (s.nvm.ops.all fun o => match o.kind with
      | .profile _ => false
      | _ => true) = true → s.scanning = false → q = { kind := .profile (s.readAt l (p.u32 16)), ticket := s.cmd.nextTicket } →
    (s.nvm.flight.isSome ∨ s.nvm.halted = true → BegunAs (.dspProfileStore p) p s false fun u => AgreeBut [.cmd, .smb, .nvm] s u ∧
      u.nvm = { s.nvm with ops := s.nvm.ops ++ [q] }) ∧
    (∀ o h, s.nvm.flight = none → s.nvm.halted = false → s.nvm.ops = [] → s.commitRefusal = none → s.planOp q = some o →
      o.pages[0]? = some h → (∀ x ∈ s.cmd.flights, x.ticket ≠ s.cmd.nextTicket) →
      BegunAs (.dspProfileStore p) p s true fun u => AgreeBut [.cmd, .smb, .nvm] s u ∧
        u.nvm = { s.nvm with ops := [{ o with begun := true }],
                             flight := some { page := h.1, words := h.2, owner := .foreground } }))

/-- Frame-start events: FREE_RUN_PERIOD, SCHEDULED_INSTANT, MISSED_EDGE and an accepted SYNC_IN edge each make one, counted in DFN and stamped,
and place the next base-grid instant; a complete frame is flipped in, and a new timing comes into force. In Still mode an instant that is not due only
counts. An edge outside its window is counted as spurious, and the third missed edge in a row loses the source; four good edges acquire it. Before
its time, or of another source, nothing happens (R30, R35, R291, R294, R304 to R306, R308, R311, R318).
Choices of the model on which clauses rest: log 23, log 66, log 67. -/
def Obligations.FrameStarts : Prop := ∀ (s : State) (tm : Timing) (g : Nat), s.dsp.timing = some tm → s.dsp.nextGrid = some g →
  (s.fabricUp = true → s.dsp.lock.source = 0 → s.dsp.timingNext = none → g ≤ s.time.mt → s.dsp.rate = 0 ∨ s.dsp.acquired = true →
    ∃ t, exec .freeRunPeriod s = .next t ∧ t.dsp.dfn = s.dsp.dfn + 1 ∧ t.dsp.frameMt = some g ∧
      t.dsp.offset = s.dsp.offsetNext.getD s.dsp.offset ∧ t.dsp.slot = -((t.dsp.offset / tm.htotal : Nat) : Int) ∧
      t.dsp.nextGrid = some (g + s.gridPeriod) ∧ t.dsp.psn = s.dsp.psn + (if s.flippable.isSome then 1 else 0) ∧
      t.ray.presented = s.flippable.or s.ray.presented ∧ t.time.mt = s.time.mt ∧ t.time.nt = s.time.nt ∧
      t.dsp.stamp = s.baseWhen 0 g :: [1, 2, 3].map (fun n => if n = 1 then t.dsp.stamp.getD 1 0 else s.baseWhen n g) ∧
      t.time.refUsed = s.time.refPresent ∧ (s.dsp.acquired = true → t.dsp.lockState = .free ∧ t.dsp.acquired = false)) ∧
  (s.fabricUp = true → s.dsp.lock.source = 0 → s.dsp.acquired = false → s.dsp.timingNext = none → g ≤ s.time.mt →
    s.baseWanted g = false → s.dsp.gridCount + 1 < s.stillStep →
    exec .freeRunPeriod s = .next { s with dsp := { s.dsp with
      nextGrid := some (g + s.gridPeriod), gridCount := s.dsp.gridCount + 1 } }) ∧
  (∀ tn k, s.fabricUp = true → s.dsp.lock.source = 0 → s.dsp.timingNext = some (tn, k) → g ≤ s.time.mt →
    ∃ t, exec .freeRunPeriod s = .next t ∧ t.dsp.timing = some tn ∧ t.dsp.timingNext = none ∧ t.dsp.timingDue = none ∧
      t.dsp.dfn = s.dsp.dfn + 1 ∧ t.dsp.frameMt = some g ∧ t.dsp.nextGrid = some (g + tn.period) ∧ t.ray.presented = none ∧
      (∀ n, k = some n → ∀ f ∈ t.cmd.outcomes, f.ticket ≠ n)) ∧
  (s.fabricUp = false ∨ s.time.mt < g ∨ (s.dsp.lock.source ≠ 0 ∧ s.dsp.lockState = .locked) → exec .freeRunPeriod s = .next s) ∧
  (s.fabricUp = true → s.dsp.lock.source = 2 → s.dsp.lockState = .locked ∨ s.dsp.acquired = true → s.dsp.timingNext = none →
    s.dsp.rate = 0 ∨ s.dsp.acquired = true → scheduled s.dsp.lock.t0 tm.refresh s.dsp.instant ≤ s.time.nt →
    ∃ t, exec .scheduledInstant s = .next t ∧ t.dsp.dfn = s.dsp.dfn + 1 ∧ t.dsp.instant = s.dsp.instant + 1 ∧
      t.dsp.frameMt = some (s.mtWhenNt (scheduled s.dsp.lock.t0 tm.refresh s.dsp.instant)) ∧ t.dsp.lockState = .locked ∧
      t.dsp.stamp.head? = some (scheduled s.dsp.lock.t0 tm.refresh s.dsp.instant) ∧
      t.dsp.psn = s.dsp.psn + (if s.flippable.isSome then 1 else 0) ∧ t.ray.presented = s.flippable.or s.ray.presented) ∧
  (s.fabricUp = false ∨ s.dsp.lock.source ≠ 2 ∨ s.time.nt < scheduled s.dsp.lock.t0 tm.refresh s.dsp.instant ∨
      (s.dsp.lockState ≠ .locked ∧ s.dsp.acquired = false) → exec .scheduledInstant s = .next s) ∧
  (s.fabricUp = true → s.dsp.timingNext = none → s.dsp.rate = 0 → s.dsp.lock.source = 1 → s.dsp.lockState = .locked ∨ s.dsp.acquired = true →
    g ≤ s.time.mt → s.dsp.missedRow < 2 →
    ∃ t, exec .missedEdge s = .next t ∧ t.dsp.dfn = s.dsp.dfn + 1 ∧ t.dsp.frameMt = some g ∧ t.dsp.lockState = s.dsp.lockState ∧
      t.dsp.nMissedEdges = s.dsp.nMissedEdges + 1 ∧ t.dsp.missedRow = s.dsp.missedRow + 1 ∧ t.dsp.nextGrid = some (g + s.gridPeriod)) ∧
  (s.fabricUp = true → s.dsp.timingNext = none → s.dsp.rate = 0 → s.dsp.lock.source = 1 → s.dsp.lockState = .locked → g ≤ s.time.mt →
    2 ≤ s.dsp.missedRow →
    ∃ t, exec .missedEdge s = .next t ∧ t.dsp.dfn = s.dsp.dfn + 1 ∧ t.dsp.lockState = (if s.dsp.holdSecs = 0 then .free else .holdover) ∧
      t.dsp.holdPeriod = meanOr tm.period s.dsp.periods ∧
      t.dsp.holdUntil = (if s.dsp.holdSecs = 0 then none else some (s.mtNs + s.dsp.holdSecs * 1000000000)) ∧ t.dsp.lock = s.dsp.lock) ∧
  (s.fabricUp = false ∨ s.dsp.lock.source ≠ 1 ∨ s.time.mt < g ∨ (s.dsp.lockState ≠ .locked ∧ s.dsp.acquired = false) →
    exec .missedEdge s = .next s) ∧
  (∀ sub, s.fabricUp = true → s.dsp.timingNext = none → s.dsp.rate = 0 → s.dsp.lock.source = 1 → s.dsp.lockState = .locked →
    s.time.mt + sub % s.time.mtInc ≤ g + 2000 * 0x100000000 → g ≤ s.time.mt + sub % s.time.mtInc + 2000 * 0x100000000 →
    ∃ t, exec (.syncInEdge sub) s = .next t ∧ t.dsp.dfn = s.dsp.dfn + 1 ∧ t.dsp.frameMt = some (s.time.mt + sub % s.time.mtInc) ∧
      t.dsp.lastEdge = some (s.time.mt + sub % s.time.mtInc) ∧ t.dsp.missedRow = 0 ∧ t.dsp.lockState = .locked ∧
      t.dsp.phasePs = ((s.time.mt + sub % s.time.mtInc : Nat) - (g : Int)) * 1000 / 0x100000000 ∧
      t.dsp.nSpurious = s.dsp.nSpurious) ∧
  (∀ sub, s.fabricUp = true → s.dsp.lock.source = 1 → s.dsp.lockState = .locked → g + 2000 * 0x100000000 < s.time.mt + sub % s.time.mtInc ∨
    s.time.mt + sub % s.time.mtInc + 2000 * 0x100000000 < g →
    exec (.syncInEdge sub) s = .next { s with dsp.nSpurious := s.dsp.nSpurious + 1 }) ∧
  (∀ sub, s.fabricUp = true → s.dsp.lock.source = 1 → s.dsp.lockState ≠ .locked → s.dsp.lastEdge = none →
    exec (.syncInEdge sub) s = .next { s with dsp := { s.dsp with
      lastEdge := some (s.time.mt + sub % s.time.mtInc), goodEdges := 1, periods := [], acquired := false } }) ∧
  (∀ sub l, s.fabricUp = true → s.dsp.timingNext = none → s.dsp.lock.source = 1 → s.dsp.lockState ≠ .locked → s.dsp.lastEdge = some l →
    s.dsp.goodEdges = 3 → s.dsp.acquired = false → s.time.mt + sub % s.time.mtInc = l + tm.period →
    (∀ f, s.dsp.frameMt = some f → f + tm.minSpan ≤ l + tm.period) →
    ∃ t, exec (.syncInEdge sub) s = .next t ∧ t.dsp.lockState = .locked ∧ t.dsp.dfn = s.dsp.dfn + 1 ∧ t.dsp.period = tm.period ∧
      t.dsp.frameMt = some (l + tm.period) ∧ t.dsp.nextGrid = some (l + 2 * tm.period) ∧ t.dsp.lockWait = none) ∧
  (∀ sub, s.fabricUp = false ∨ s.dsp.lock.source ≠ 1 → exec (.syncInEdge sub) s = .next s)

/-- What ends by time: the holdover duration, after which the device runs FREE; 2 s without acquisition, after which the previous lock source is
restored; and the waits of Still mode. Before their time nothing happens. A change of REF10M's presence waits for the next frame-start event (R303,
R308, R319, R663).
A slot of the raster begins when its time has come: before active line 0 it carries LATCH; in the slot of an active line of a DRIVING panel the
device sends LINE_START with the composed line, or LINE_REPEAT during a fast retrain and when the woven buffer is empty, which is counted, and LATCH to
a panel that is not DRIVING; behind the configuration window of blanking it sends LATCH; a discharge sends its block and then no line packet
(R288, R291, R311, R316, R326, R341, R347, R358).
Choices of the model on which clauses rest: log 66, log 67, log 68. -/
def Obligations.ScanOut : Prop :=
  (∀ (s : State),
  (∀ n, s.dsp.holdUntil = some n → s.dsp.lockState = .holdover → n ≤ s.mtNs →
    exec .holdoverExpiry s = .next (({ s with
      dsp.lockState := .free
      dsp.holdUntil := none } : State).raise { code := .lockFreeRun, source := 121, data0 := 0 })) ∧
  (s.dsp.holdUntil = none ∨ s.dsp.lockState ≠ .holdover ∨ (∃ n, s.dsp.holdUntil = some n ∧ s.mtNs < n) →
    exec .holdoverExpiry s = .next s) ∧
  (∀ n k d, s.dsp.lockWait = some (n, k, d) → d ≤ s.mtNs → s.dsp.lock.source ≠ 0 →
    ∃ t, exec .dspLockTimeout s = .next t ∧ t.dsp.lock = k ∧ t.dsp.lockWait = none ∧ t.dsp.timing = s.dsp.timing ∧
      t.dsp.dfn = s.dsp.dfn ∧ t.dsp.lockState = (if s.dsp.timing.isNone then .noTiming else if k.source = 0 then .free else .acquiring) ∧
      (∀ f ∈ t.cmd.outcomes, f.ticket ≠ n) ∧ AgreeBut [.dsp, .cmd, .fns, .hmem, .dmem, .smb, .sup] s t) ∧
  (s.dsp.lock.source = 0 ∨ (∀ x ∈ s.dsp.lockWait, s.mtNs < x.2.2) →
    exec .dspLockTimeout s = .next s) ∧
  (∀ tm, s.dsp.timing = some tm → tm.refresh % 30000 = 0 → s.dsp.still = true → s.dsp.rateNext = none → s.dsp.wantBase = false →
    s.dsp.rate ≤ s.dsp.lowest → s.dsp.stillSince + [1000000000, 2000000000, 5000000000].getD s.dsp.rate 5000000000 ≤ s.mtNs →
    exec .stillStepDown s = .next { s with dsp.rateNext := some (s.dsp.rate + 1) }) ∧
  (s.dsp.still = false ∨ s.dsp.rateNext.isSome ∨ s.dsp.wantBase = true ∨ s.dsp.lowest < s.dsp.rate ∨
      s.mtNs < s.dsp.stillSince + [1000000000, 2000000000, 5000000000].getD s.dsp.rate 5000000000 →
    exec .stillStepDown s = .next s) ∧
  (∀ b, exec (.ref10mPresenceChange b) s = .next { s with time.refPresent := b })) ∧
  (∀ (s : State) (tm : Timing) (w : Nat) (ls : List Nat), s.dsp.timing = some tm →
  (s.rasterRuns = false ∨ s.fabricUp = false ∨ s.dsp.frameMt = none ∨ s.time.mt < s.slotMt tm s.dsp.slot →
    exec (.scanoutLineSlot w ls) s = .next s) ∧
  (s.dsp.nextGrid.isSome → s.fabricUp = true → s.dsp.frameMt.isSome → s.slotMt tm s.dsp.slot ≤ s.time.mt →
  (s.pnl.discharge = none → s.dsp.slot < 0 →
    ∃ t, exec (.scanoutLineSlot w ls) s = .next t ∧ AgreeBut [.dsp] s t ∧ t.dsp.block = .latch ∧ t.dsp.slot = s.dsp.slot + 1 ∧
      t.dsp.line = s.dsp.line ∧ t.dsp.dfn = s.dsp.dfn) ∧
  (∀ y : Nat, s.pnl.discharge = none → s.dsp.slot = y → y < tm.vactive → s.pnl.mode = .driving → s.pnl.retrain = none →
    (s.ray.presented = none ∨ w ≠ 0) →
    ∃ t, exec (.scanoutLineSlot w ls) s = .next t ∧ AgreeBut [.dsp, .memc] s t ∧ t.dsp.block = .lineStart ∧ t.dsp.slot = s.dsp.slot + 1 ∧
      t.dsp.line = s.composeLine tm (s.readyLayers ls) y ∧ t.dsp.nWoven = s.dsp.nWoven ∧
      t.dsp.nLayer = s.dsp.nLayer + word (s.layersShort ls) ∧ t.dsp.dfn = s.dsp.dfn) ∧
  (∀ (y : Nat) r, s.pnl.discharge = none → s.dsp.slot = y → y < tm.vactive → s.pnl.mode = .driving → s.pnl.retrain = some r →
    ∃ t, exec (.scanoutLineSlot w ls) s = .next t ∧ AgreeBut [.dsp, .pnl, .memc] s t ∧ t.dsp.block = .lineRepeat ∧
      t.dsp.slot = s.dsp.slot + 1 ∧ t.dsp.line = s.dsp.line ∧
      t.pnl = { s.pnl with nRepeats := s.pnl.nRepeats + 1, retrain := some { r with slots := r.slots + 1 } }) ∧
  (∀ y : Nat, s.pnl.discharge = none → s.dsp.slot = y → y < tm.vactive → s.pnl.mode = .driving → s.pnl.retrain = none →
    s.ray.presented.isSome → w = 0 →
    ∃ t, exec (.scanoutLineSlot w ls) s = .next t ∧ AgreeBut [.dsp, .memc] s t ∧ t.dsp.block = .lineRepeat ∧ t.dsp.slot = s.dsp.slot + 1 ∧
      t.dsp.nWoven = s.dsp.nWoven + 1 ∧ t.dsp.line = s.dsp.line) ∧
  (∀ y : Nat, s.pnl.discharge = none → s.dsp.slot = y → y < tm.vactive → s.pnl.mode ≠ .driving →
    ∃ t, exec (.scanoutLineSlot w ls) s = .next t ∧ AgreeBut [.dsp, .memc] s t ∧ t.dsp.block = .latch ∧ t.dsp.slot = s.dsp.slot + 1 ∧
      t.dsp.line = s.dsp.line) ∧
  (s.pnl.discharge = none → (tm.vactive : Int) ≤ s.dsp.slot →
    ∃ t, exec (.scanoutLineSlot w ls) s = .next t ∧ t.dsp.slot = s.dsp.slot + 1 ∧ t.dsp.line = s.dsp.line ∧ t.dsp.dfn = s.dsp.dfn) ∧
  (s.pnl.discharge = none → (tm.vactive : Int) + 16 ≤ s.dsp.slot →
    ∃ t, exec (.scanoutLineSlot w ls) s = .next t ∧ AgreeBut [.dsp, .pnl] s t ∧ t.dsp.block = .latch ∧ t.dsp.slot = s.dsp.slot + 1 ∧
      t.pnl = { s.pnl with vcomCode := t.pnl.vcomCode, vcomRate := t.pnl.vcomRate } ∧
      (s.dsp.rate = 0 → s.dsp.rateNext = none → t.pnl = s.pnl)) ∧
  (∀ d, s.pnl.discharge = some d → d.start = none → ∃ t, exec (.scanoutLineSlot w ls) s = .next t ∧ AgreeBut [.dsp, .pnl] s t ∧
    t.dsp.slot = s.dsp.slot + 1 ∧ t.dsp.block = .discharge ∧ t.dsp.line = s.dsp.line ∧
    t.pnl = { s.pnl with discharge := some { d with start := some s.mtNs }, gallOn := true }) ∧
  (∀ d, s.pnl.discharge = some d → d.start.isSome → ∃ t, exec (.scanoutLineSlot w ls) s = .next t ∧ AgreeBut [.dsp] s t ∧
    t.dsp.slot = s.dsp.slot + 1 ∧ t.dsp.block = .latch ∧ t.dsp.line = s.dsp.line)))

/-- The time packets: TIME_READ answers each selector and stores all four bases where it names an address; TIME_SET_ET sets ET, but not while the
servo owns it; TIME_INCREMENT writes an increment and TIME_STEP moves NT or ET at once, or DT at the next frame-start event, and a servo at the
basic level stands down; pulses are placed anew. TIME_RELEASE returns the servo to basic; TIME_EVT_CONFIG replaces a pin's setting. A field out
of range is refused (R441 to R445, R456, R457, R459, R461, R462).
An enabled output pin begins pulse k when its base reaches start + k x period, and ends it after its width; a pin that is disabled or has emitted
its count, a pin in a pulse, and a base before the instant begin none (R461).
Choices of the model on which clauses rest: log 70, log 73. -/
def Obligations.TimeAndPulses : Prop :=
  (∀ (s : State) (p : Packet),
  (s.Starts .timeRead p → p.u8 16 = 0 → p.u8 17 ≤ 3 → p.u64 24 = 0 →
    DoneAs (.timeRead p) p s .ok (nsField (s.baseOf (p.u8 17))) (secField (s.baseOf (p.u8 17)) % 0x100000000)
      fun u => Ended p s s.cmd u ∧ AgreeBut [.cmd, .smb] s u) ∧
  (∀ l, s.Starts .timeRead p → p.u8 16 = 0 → p.u8 17 ≤ 3 → p.u64 24 ≠ 0 → p.u64 24 % 64 = 0 → s.resolve p.src (p.u64 24) 64 = some l →
    DoneAs (.timeRead p) p s .ok (nsField (s.baseOf (p.u8 17))) (secField (s.baseOf (p.u8 17)) % 0x100000000)
      fun u => Counted s s.cmd u ∧ AgreeBut [.cmd]
        ((s.sent p).writeAt l (timeBytes16 s.time.nt ++ timeBytes16 s.time.dt ++ timeBytes16 s.time.et ++ timeBytes16 s.time.mt)) u) ∧
  (s.Starts .timeRead p → p.u8 16 = 0 → p.u8 17 ≤ 3 → p.u64 24 % 64 = 0 → p.u64 24 ≠ 0 → s.resolve p.src (p.u64 24) 64 = none →
    RefusedAs (.timeRead p) p s .badParam 24 0) ∧
  (∀ w, s.Starts .timeRead p → 1 ≤ p.u8 16 → p.u8 17 ≤ [3, 3, 0, 3, 1, 1, 1, 1, 0].getD (p.u8 16) 0 → p.u64 24 = 0 →
    (let pin := s.time.evtIn.getD (p.u8 17) {}
     let q := s.port (p.u8 17)
     [(0, 0), (nsField pin.capture, secField pin.capture % 0x100000000),
      (s.servoWord, unsignedOf 32 (clampInt s.net.offset (-2147483648) 2147483647)),
      (s.incOf (p.u8 17) % 0x100000000, s.incOf (p.u8 17) / 0x100000000), (q.word, unsignedOf 32 q.meanDelay),
      (q.forwarded.toNat, q.dropped.toNat), (q.corrected.toNat, q.saturated.toNat), (q.terminated.toNat, q.fcsErrors.toNat),
      (s.time.overruns.toNat, s.time.pulses.toNat)][p.u8 16]?) = some w →
    DoneAs (.timeRead p) p s .ok w.1 w.2 fun u => Ended p s s.cmd u ∧ AgreeBut [.cmd, .smb] s u) ∧
  (s.Starts .timeRead p → 8 < p.u8 16 → RefusedAs (.timeRead p) p s .badParam 16 0) ∧
  (s.Starts .timeSetEt p → p.u32 20 < 1000000000 → (s.net.etFromPtp = false ∨ s.net.servo ≠ .locked) →
    DoneAs (.timeSetEt p) p s .ok 0 0 fun u => Ended p s s.cmd u ∧ AgreeBut [.cmd, .smb, .time, .net] s u ∧
      u.time = { s.time with et := p.time 20, evtOut := u.time.evtOut } ∧ PulsesAimed 2 s u ∧ u.net = { s.net with etSet := true }) ∧
  (s.Starts .timeSetEt p → 1000000000 ≤ p.u32 20 → RefusedAs (.timeSetEt p) p s .badParam 20 0) ∧
  (s.Starts .timeSetEt p → p.u32 20 < 1000000000 → s.net.etFromPtp = true → s.net.servo = .locked →
    RefusedAs (.timeSetEt p) p s .wrongState noField 0) ∧
  (s.Starts .timeIncrement p → p.u8 16 ≤ 3 → incOk (p.u64 24) = true →
    DoneAs (.timeIncrement p) p s .ok 0 0 fun u => u.cmd.policies = s.cmd.policies.set policyServo true ∧
      u.net = (if s.isExpert policyServo then s.net else { s.net with servo := .expert, goodSyncs := 0, etSlewing := false }) ∧
      u.time = { s.time with
        ntInc := if p.u8 16 = 0 then p.u64 24 else s.time.ntInc
        dtInc := if p.u8 16 = 1 ∨ (p.u8 16 = 0 ∧ s.dsp.lock.source = 2) then p.u64 24 else s.time.dtInc
        etInc := if p.u8 16 = 2 then p.u64 24
          else if s.isExpert policyServo = false ∧ s.net.etSlewing = true then s.time.ntInc else s.time.etInc
        mtInc := if p.u8 16 = 3 then p.u64 24 else s.time.mtInc } ∧
      u.dsp = { s.dsp with
        instant := u.dsp.instant, lastEdge := u.dsp.lastEdge, acquired := u.dsp.acquired, lockWait := u.dsp.lockWait
        nextGrid := u.dsp.nextGrid } ∧
      (s.dsp.lock.source ≠ 2 ∨ s.dsp.timing = none →
        u.dsp = s.dsp ∧ Counted s { s.cmd with policies := s.cmd.policies.set policyServo true } u) ∧
      (s.isExpert policyServo = true → AgreeBut [.cmd, .smb, .time, .dsp] s u) ∧
      AgreeBut [.cmd, .time, .net, .dsp, .fns, .hmem, .dmem, .smb, .sup] s u) ∧
  (s.Starts .timeIncrement p → p.u8 16 ≤ 3 → incOk (p.u64 24) = false → RefusedAs (.timeIncrement p) p s .badParam 24 0) ∧
  (s.Starts .timeIncrement p → 3 < p.u8 16 → RefusedAs (.timeIncrement p) p s .badParam 16 0) ∧
  (s.Starts .timeStep p → p.u8 16 ≤ 2 → p.u8 17 ≤ (if p.u8 16 = 1 then 0 else 1) → p.u32 20 < 1000000000 →
    DoneAs (.timeStep p) p s .ok 0 0 fun u => u.cmd.policies = s.cmd.policies.set policyServo true ∧
      u.net = (if s.isExpert policyServo then s.net else { s.net with servo := .expert, goodSyncs := 0, etSlewing := false }) ∧
      (let d : Int := if p.u8 17 = 1 then -(p.time 20 : Int) else p.time 20
       u.time = { s.time with
        nt := if p.u8 16 = 0 then stepTime s.time.nt d else s.time.nt
        et := if p.u8 16 = 2 then stepTime s.time.et d else s.time.et
        dtStep := if p.u8 16 = 1 then some (s.time.dtStep.getD 0 + p.time 20) else s.time.dtStep
        etInc := if s.isExpert policyServo = false ∧ s.net.etSlewing = true then s.time.ntInc else s.time.etInc
        evtOut := u.time.evtOut }) ∧
      (p.u8 16 ≠ 1 → PulsesAimed (p.u8 16) s u) ∧ (p.u8 16 = 1 → u.time.evtOut = s.time.evtOut) ∧
      (∀ tm, s.dsp.timing = some tm → s.dsp.lock.source = 2 → s.dsp.lockState = .locked → p.u8 16 = 0 → tm.period < p.time 20 →
        u.dsp.lockState = .acquiring ∧ u.dsp.acquired = true) ∧
      (s.dsp.lock.source ≠ 2 ∨ s.dsp.timing = none →
        u.dsp = s.dsp ∧ Counted s { s.cmd with policies := s.cmd.policies.set policyServo true } u) ∧
      (s.isExpert policyServo = true → AgreeBut [.cmd, .smb, .time, .dsp] s u) ∧
      AgreeBut [.cmd, .time, .net, .dsp, .fns, .hmem, .dmem, .smb, .sup] s u) ∧
  (s.Starts .timeStep p → 2 < p.u8 16 → RefusedAs (.timeStep p) p s .badParam 16 0) ∧
  (s.Starts .timeStep p → p.u8 16 ≤ 2 → (if p.u8 16 = 1 then 0 else 1) < p.u8 17 → RefusedAs (.timeStep p) p s .badParam 17 0) ∧
  (s.Starts .timeRelease p → s.isExpert policyServo = true →
    DoneAs (.timeRelease p) p s .ok 0 0 fun u => Counted s { s.cmd with policies := s.cmd.policies.set policyServo false } u ∧
      u.time = { s.time with etInc := s.time.ntInc, mtInc := 0x200000000 } ∧
      u.net = { s.net with integ := 0, goodSyncs := 0, servo := if s.net.slave = 0 then .disabled else .unlocked } ∧
      AgreeBut [.cmd, .time, .net, .fns, .hmem, .dmem, .smb, .sup] s u) ∧
  (s.Starts .timeRelease p → s.isExpert policyServo = false →
    DoneAs (.timeRelease p) p s .ok 0 0 fun u => Ended p s s.cmd u ∧ AgreeBut [.cmd, .smb] s u) ∧
  (s.Starts .timeEvtConfig p → p.u8 16 ≤ 3 → p.u8 17 ≤ 3 → p.u8 18 ≤ 3 → p.num 20 12 = 0 → p.u64 32 = 0 → p.u32 40 = 0 → p.u32 44 = 0 →
    DoneAs (.timeEvtConfig p) p s .ok 0 0 fun u => Ended p s s.cmd u ∧ AgreeBut [.cmd, .smb, .time] s u ∧
      u.time = { s.time with evtIn := updAt s.time.evtIn (p.u8 16) fun e => { e with base := p.u8 17, edge := p.u8 18 } }) ∧
  (s.Starts .timeEvtConfig p → 4 ≤ p.u8 16 → p.u8 16 ≤ 7 → p.u8 17 ≤ 3 → p.u8 18 ≤ 3 → p.u32 20 < 1000000000 → 20 * 65536 ≤ p.u64 32 →
    p.u64 32 ≤ 1000000000000 * 65536 → 10 ≤ p.u32 40 → (p.u32 40 + 10) * 65536 ≤ p.u64 32 →
    DoneAs (.timeEvtConfig p) p s .ok 0 0 fun u => Ended p s s.cmd u ∧ AgreeBut [.cmd, .smb, .time] s u ∧
      ∃ k : Nat, u.time = { s.time with evtOut := s.time.evtOut.set (p.u8 16 - 4) {
            base := p.u8 17, enable := bitOf (p.u8 18) 0, activeLow := bitOf (p.u8 18) 1, start := p.time 20 / 0x10000,
            period := p.u64 32, width := p.u32 40, count := p.u32 44, next := k, emitted := 0, pulseEnd := none,
            level := bitOf (p.u8 18) 1 } } ∧
        s.baseOf (p.u8 17) / 0x10000 ≤ p.time 20 / 0x10000 + k * p.u64 32 ∧
        ∀ j < k, p.time 20 / 0x10000 + j * p.u64 32 < s.baseOf (p.u8 17) / 0x10000) ∧
  (∀ off, s.Starts .timeEvtConfig p → evtConfigFault p = some off → RefusedAs (.timeEvtConfig p) p s .badParam off 0)) ∧
  (∀ (s : State) (n : Fin 4) (o : EvtOut), o = s.time.evtOut.getD n.val {} →
  (o.enable = true → (o.count = 0 ∨ o.emitted < o.count) → o.pulseEnd = none → o.start + o.next * o.period ≤ s.baseOf o.base / 0x10000 →
    s.pwr.vddAon = true → exec (.evtOutPulse n) s = .next { s with
      time.evtOut := s.time.evtOut.set n.val { o with
        level := !o.activeLow
        pulseEnd := some (s.time.mt / 0x10000 + o.width * 65536)
        next := o.next + 1
        emitted := o.emitted + 1 }
      time.pulses := s.time.pulses + 1 }) ∧
  (o.enable = false ∨ (o.count ≠ 0 ∧ o.count ≤ o.emitted) ∨ o.pulseEnd.isSome ∨ s.baseOf o.base / 0x10000 < o.start + o.next * o.period ∨
    s.pwr.vddAon = false → exec (.evtOutPulse n) s = .next s) ∧
  (∀ t, o.pulseEnd = some t → t ≤ s.time.mt / 0x10000 → exec (.evtOutPulseEnd n) s = .next { s with
    time.evtOut := s.time.evtOut.set n.val { o with
      level := o.activeLow
      pulseEnd := none } }) ∧
  (o.pulseEnd = none ∨ (∃ t, o.pulseEnd = some t ∧ s.time.mt / 0x10000 < t) → exec (.evtOutPulseEnd n) s = .next s))

/-- The ports' settings and links: TIME_PORT_CONFIG puts its settings into force and awaits PORT_MODE_READY, a change of mode taking the link
down; TIME_PTP_CONFIG puts its settings into force and restarts the servo, with PTP_LOST where it was LOCKED. A link that comes up or
falls is reported by PORT_LINK; a fall is counted, drops what waits to leave, and takes the servo's master on that port (R446, R450, R454,
R463, R464).
Frames at the ports: none changes anything but the network's state, and nothing happens without a link. One with a bad checksum is counted;
one to the port is terminated when it holds something local and else discarded and counted; control frames are terminated, as are peer-delay
messages in P2P mode; every other frame is forwarded with FORWARD: cut-through to an idle port of the same speed, with its residence added
in E2E mode where it is a PTP event message, and stored otherwise, or dropped and counted where the buffer has no room (R448 to R452).
Choices of the model on which clauses rest: log 12, log 34, log 55, log 72. -/
def Obligations.NetPorts : Prop :=
  (∀ (s : State),
  (∀ p, s.Starts .timePortConfig p → portConfigFault (p.bytesAt 16 16) = none → (∀ q ∈ s.net.ports, q.configTicket = none) →
    AcceptedAs (.timePortConfig p) p s fun u =>
      (let q := s.port (p.u8 16)
       let falls := q.mode ≠ p.u8 17 ∧ q.link = true
       (¬falls → AgreeBut [.cmd, .smb, .net] s u ∧ u.net = { s.net with ports := u.net.ports }) ∧
       (falls → AgreeBut [.cmd, .smb, .net, .time, .dsp, .fns, .hmem, .dmem, .sup] s u ∧
        u.net.servo = (if s.net.slave = p.u8 16 + 1 ∧ (s.net.servo = .locked ∨ s.net.servo = .unlocked) then .holdover else s.net.servo)) ∧
       u.net.ports = updAt s.net.ports (p.u8 16) fun q => { q with
        mode := p.u8 17, forward := bitOf (p.u8 18) 0, ipv4 := p.u32 20, mask := p.u32 24, gateway := p.u32 28
        txDisable := p.u8 17 == 0, configTicket := some s.cmd.nextTicket
        link := if q.mode = p.u8 17 then q.link else false
        linkDowns := if q.mode = p.u8 17 ∨ q.link = false then q.linkDowns else satInc 0xFFFF q.linkDowns
        outq := if q.mode = p.u8 17 ∨ q.link = false then q.outq else []
        sendEnd := if q.mode = p.u8 17 ∨ q.link = false then q.sendEnd else 0 })) ∧
  (∀ p off, s.Starts .timePortConfig p → portConfigFault (p.bytesAt 16 16) = some off → RefusedAs (.timePortConfig p) p s .badParam off 0) ∧
  (∀ p, s.Starts .timePortConfig p → portConfigFault (p.bytesAt 16 16) = none → (∃ q ∈ s.net.ports, q.configTicket.isSome) →
    RefusedAs (.timePortConfig p) p s .busy noField 0) ∧
  (∀ p, s.Starts .timePtpConfig p → ptpConfigFault (p.bytesAt 16 16) = none →
    (p.u8 19 = 0 ∨ p.u8 17 = 0 ∨ (s.port (p.u8 17 - 1)).ipv4 ≠ 0) →
    DoneAs (.timePtpConfig p) p s .ok 0 0 fun u =>
      u.net = { s.net with
        tcMode := p.u8 16, slave := p.u8 17, domain := p.u8 18, transport := p.u8 19, etFromPtp := bitOf (p.u8 20) 0
        logPdelay := signedOf 8 (p.u8 21)
        servo := if s.isExpert policyServo then .expert else if p.u8 17 = 0 then .disabled else .listening
        goodSyncs := 0, integ := 0, master := none, others := [], delayT3 := none
        etSlewing := s.isExpert policyServo && s.net.etSlewing } ∧
      u.time = { s.time with etInc := if s.isExpert policyServo then s.time.etInc else s.time.ntInc } ∧
      (s.net.servo ≠ .locked → Ended p s s.cmd u ∧ AgreeBut [.cmd, .smb, .net, .time] s u) ∧
      (s.net.servo = .locked → s.dsp.lock.source ≠ 2 → Counted s s.cmd u ∧ AgreeBut [.cmd, .smb, .net, .time]
        (s.raise { code := .ptpLost, source := 126, data0 := 2, data1 := s.net.slave - 1 }) u) ∧
      AgreeBut [.cmd, .smb, .net, .time, .dsp, .fns, .hmem, .dmem, .sup] s u) ∧
  (∀ p off, s.Starts .timePtpConfig p → ptpConfigFault (p.bytesAt 16 16) = some off → RefusedAs (.timePtpConfig p) p s .badParam off 0) ∧
  (∀ p, s.Starts .timePtpConfig p → ptpConfigFault (p.bytesAt 16 16) = none → p.u8 19 = 1 → p.u8 17 ≠ 0 →
    (s.port (p.u8 17 - 1)).ipv4 = 0 → RefusedAs (.timePtpConfig p) p s .wrongState noField 0) ∧
  (∀ x n, (s.port (portIdx x)).configTicket = some n →
    exec (.portModeReady x) s = .next ((s.updPort (portIdx x) fun q => { q with configTicket := none }).outcome n .ok 0)) ∧
  (∀ x, (s.port (portIdx x)).configTicket = none → exec (.portModeReady x) s = .next s) ∧
  (∀ x, (s.port (portIdx x)).link = false → (s.port (portIdx x)).mode ≠ 0 → s.fabricUp = true →
    exec (.portLink x true) s = .next ((s.updPort (portIdx x) fun q => { q with link := true }).raise
      { code := .portLink, source := 126, data0 := portIdx x + 256 + 512 * (s.port (portIdx x)).mode,
        data1 := (s.port (portIdx x)).linkDowns })) ∧
  (∀ x, (s.port (portIdx x)).link = true ∨ (s.port (portIdx x)).mode = 0 ∨ s.fabricUp = false → exec (.portLink x true) s = .next s) ∧
  (∀ x, (s.port (portIdx x)).link = true → s.net.slave ≠ portIdx x + 1 ∨ (s.net.servo ≠ .locked ∧ s.net.servo ≠ .unlocked) →
    exec (.portLink x false) s = .next ((s.updPort (portIdx x) fun q =>
      { q with link := false, linkDowns := satInc 0xFFFF q.linkDowns, outq := [], sendEnd := 0 }).raise
      { code := .portLink, source := 126, data0 := portIdx x + 512 * (s.port (portIdx x)).mode,
        data1 := satInc 0xFFFF (s.port (portIdx x)).linkDowns })) ∧
  (∀ x, (s.port (portIdx x)).link = true → s.net.slave = portIdx x + 1 → s.net.servo = .locked ∨ s.net.servo = .unlocked →
    ∃ t, exec (.portLink x false) s = .next t ∧ t.net.servo = .holdover ∧ t.net.goodSyncs = 0 ∧ t.time.ntInc = s.time.ntInc ∧
      t.time.nt = s.time.nt ∧ (t.port (portIdx x)).link = false ∧ (t.port (portIdx x)).outq = [] ∧
      (t.port (portIdx x)).linkDowns = satInc 0xFFFF (s.port (portIdx x)).linkDowns ∧
      AgreeBut [.net, .time, .dsp, .fns, .hmem, .dmem, .smb, .sup] s t) ∧
  (∀ x, (s.port (portIdx x)).link = false → exec (.portLink x false) s = .next s)) ∧
  (∀ (s : State) (x : Port) (f : EthFrame),
  (∃ t, exec (.frameReceived x f) s = .next t ∧ AgreeBut [.net] s t ∧
    t.net = { s.net with ports := t.net.ports, delayT3 := t.net.delayT3 } ∧
    ∀ m, (t.port m).mode = (s.port m).mode ∧ (t.port m).link = (s.port m).link ∧ (t.port m).ipv4 = (s.port m).ipv4 ∧
      (t.port m).linkDowns = (s.port m).linkDowns ∧ (t.port m).configTicket = (s.port m).configTicket) ∧
  ((s.port (portIdx x)).link = false ∨ (s.port (portIdx x)).mode = 0 ∨ s.fabricUp = false → exec (.frameReceived x f) s = .next s) ∧
  ((s.port (portIdx x)).link = true → (s.port (portIdx x)).mode ≠ 0 → s.fabricUp = true →
    (f.fcsOk = false → ∃ t, exec (.frameReceived x f) s = .next t ∧ (t.port (portIdx x)).fcsErrors = (s.port (portIdx x)).fcsErrors + 1 ∧
      (t.port (portIdx x)).terminated = (s.port (portIdx x)).terminated) ∧
    (f.fcsOk = true → ethDst f.bytes = macOf (portIdx x) → (s.net.tcMode ≠ 2 ∨ isPeerDelay f.bytes = false) →
      ((vlanId f.bytes).all (· == 0) = false ∨ localKind f.bytes = false) → exec (.frameReceived x f) s =
        .next (s.updPort (portIdx x) fun q => { q with discarded := q.discarded + 1 })) ∧
    (f.fcsOk = true → ethDst f.bytes = macOf (portIdx x) → (s.net.tcMode ≠ 2 ∨ isPeerDelay f.bytes = false) →
      (vlanId f.bytes).all (· == 0) = true → localKind f.bytes = true → ∃ t, exec (.frameReceived x f) s = .next t ∧
        (t.port (portIdx x)).terminated = (s.port (portIdx x)).terminated + 1 ∧
        (t.port (portIdx x)).forwarded = (s.port (portIdx x)).forwarded) ∧
    (f.fcsOk = true → s.net.tcMode = 2 → isPeerDelay f.bytes = true → ∃ t, exec (.frameReceived x f) s = .next t ∧
        (t.port (portIdx x)).terminated = (s.port (portIdx x)).terminated + 1 ∧
        (t.port (portIdx x)).forwarded = (s.port (portIdx x)).forwarded) ∧
    (f.fcsOk = true → ethDst f.bytes ≠ macOf (portIdx x) → (s.net.tcMode ≠ 2 ∨ isPeerDelay f.bytes = false) →
      innerType f.bytes = 0x8808 ∨ (0x0180C2000000 ≤ ethDst f.bytes ∧ ethDst f.bytes ≤ 0x0180C200000F ∧ ethDst f.bytes ≠ 0x0180C200000E) →
      exec (.frameReceived x f) s = .next (s.updPort (portIdx x) fun q => { q with terminated := q.terminated + 1 })) ∧
    (f.fcsOk = true → ethDst f.bytes ≠ macOf (portIdx x) → (s.net.tcMode ≠ 2 ∨ isPeerDelay f.bytes = false) →
      innerType f.bytes ≠ 0x8808 → 0x0180C200000F < ethDst f.bytes → ethDst f.bytes ≠ 0xFFFFFFFFFFFF → isWholeIp f.bytes = false →
      ((s.port (portIdx x)).forward = false ∨ (s.port (1 - portIdx x)).link = false ∨ (s.port (1 - portIdx x)).mode = 0 ∨
        9018 < f.bytes.length → (s.net.tcMode ≠ 2 ∨ (ptpAt f.bytes).isNone) → exec (.frameReceived x f) s = .next s) ∧
      ((s.port (portIdx x)).forward = true → (s.port (1 - portIdx x)).link = true → (s.port (1 - portIdx x)).mode ≠ 0 →
        f.bytes.length ≤ 9018 →
        ((s.port (1 - portIdx x)).mode = (s.port (portIdx x)).mode → s.egressIdle (1 - portIdx x) = true →
          ((s.net.tcMode = 0 ∨ ptpAt f.bytes = none) → ∃ t, exec (.frameReceived x f) s = .next t ∧
            (t.port (portIdx x)).forwarded = (s.port (portIdx x)).forwarded + 1 ∧ (t.port (1 - portIdx x)).lastSent = f.bytes ∧
            (t.port (portIdx x)).corrected = (s.port (portIdx x)).corrected ∧
            (t.port (1 - portIdx x)).sendEnd = s.time.cycles + wireCycles (s.port (1 - portIdx x)).mode f.bytes.length) ∧
          (∀ at_ udp, s.net.tcMode = 1 → ptpAt f.bytes = some (at_, udp) → ptpType f.bytes at_ < 4 →
            ∃ t, exec (.frameReceived x f) s = .next t ∧ (t.port (portIdx x)).forwarded = (s.port (portIdx x)).forwarded + 1 ∧
              (t.port (portIdx x)).corrected = (s.port (portIdx x)).corrected + 1 ∧
              (t.port (1 - portIdx x)).lastSent = addCorrection f.bytes at_ udp (residence f.raw s.time.ntInc))) ∧
        ((s.port (1 - portIdx x)).mode ≠ (s.port (portIdx x)).mode → (s.net.tcMode ≠ 2 ∨ ptpAt f.bytes = none) →
          (s.bufferUsed (1 - portIdx x) + f.bytes.length + 4 ≤ 262144 → ∃ t, exec (.frameReceived x f) s = .next t ∧
            (t.port (portIdx x)).forwarded = (s.port (portIdx x)).forwarded + 1 ∧
            (t.port (portIdx x)).dropped = (s.port (portIdx x)).dropped) ∧
          (262144 < s.bufferUsed (1 - portIdx x) + f.bytes.length + 4 → exec (.frameReceived x f) s =
            .next (s.updPort (portIdx x) fun q => { q with dropped := q.dropped + 1 })))))))

/-- The servo: the best Announce heard, by the data set comparison, is selected. A Sync of the selected master steps NT while the servo is not
LOCKED and is more than 10 us off, and steers its increment otherwise; sixteen good Syncs in a row lock it. The path is measured by Delay_Req
and Delay_Resp, or by Pdelay_Req in P2P mode. After 3 s without a Sync, with no other master at the announce-receipt timeout, or without its
link, the servo is in HOLDOVER and NT runs on at its last increment; what is not heard or not due does nothing (R443, R450, R453 to R455).
Choices of the model on which clauses rest: log 33, log 70. -/
def Obligations.Servo : Prop := ∀ (s : State),
  (∀ m ms, s.servoHears m.port m.domain m.transport = true →
    ms = m :: ((s.net.others ++ s.net.master.toList).filter fun a => a.sender != m.sender) →
    ∃ t, exec (.ptpAnnounceReceived m) s = .next t ∧ ∃ b, t.net.master = some b ∧ b ∈ ms ∧ (∀ a ∈ ms, betterMaster a b = false) ∧
      t.net = { s.net with
        master := some b, others := ms.filter fun a => a.sender != b.sender, etSet := t.net.etSet, etSlewing := t.net.etSlewing } ∧
      t.time = { s.time with et := t.time.et, etInc := t.time.etInc, evtOut := t.time.evtOut } ∧ AgreeBut [.net, .time] s t ∧
      (s.isExpert policyServo = true → t.time = s.time ∧ t.net.etSet = s.net.etSet ∧ t.net.etSlewing = s.net.etSlewing) ∧
      (s.isExpert policyServo = false → s.net.etFromPtp = false ∨ s.net.servo ≠ .locked →
        t.time = { s.time with etInc := s.time.ntInc } ∧ t.net.etSlewing = false)) ∧
  (∀ m, s.servoHears m.port m.domain m.transport = false → exec (.ptpAnnounceReceived m) s = .next s) ∧
  (∀ (m : PtpSync) a off, s.servoHears m.port m.domain m.transport = true → s.net.master = some a → a.sender = m.sender →
    off = ((s.time.nt / 0x10000 : Nat) - (m.origin : Int) - m.correction - s.pathDelayNow (portIdx m.port) * 4096) / 65536 →
    (s.isExpert policyServo = true → ∃ t, exec (.ptpSyncReceived m) s = .next t ∧ t = { s with net := { s.net with
      syncSpan := t.net.syncSpan, offset := off, lastSync := s.mtNs } }) ∧
    (s.isExpert policyServo = false → s.net.servo ≠ .locked → 10000 < off.natAbs →
      ∃ t, exec (.ptpSyncReceived m) s = .next t ∧
        t.time = { s.time with nt := stepTime s.time.nt (-off * 0x100000000), etInc := s.time.ntInc, evtOut := t.time.evtOut } ∧
        PulsesAimed 0 s t ∧ t.net = { s.net with
          syncSpan := t.net.syncSpan, offset := off, lastSync := s.mtNs, servo := .unlocked, integ := 0, goodSyncs := 0
          nSteps := s.net.nSteps + 1, etSlewing := false } ∧
        (s.dsp.lock.source ≠ 2 ∨ s.dsp.timing = none → t.dsp = s.dsp) ∧ AgreeBut [.time, .net, .dsp] s t) ∧
    (s.isExpert policyServo = false → s.net.servo = .locked ∨ off.natAbs ≤ 10000 →
      ∃ t, exec (.ptpSyncReceived m) s = .next t ∧ t.time.nt = s.time.nt ∧ t.time.mt = s.time.mt ∧ t.net.lastSync = s.mtNs ∧
        t.net.offset = off ∧ t.net.nSteps = s.net.nSteps ∧ t.net.master = s.net.master ∧
        t.net.goodSyncs = (if off.natAbs < 100 then s.net.goodSyncs + 1 else 0) ∧
        t.net.servo = (if s.net.servo = .locked ∨ 16 ≤ t.net.goodSyncs then .locked else .unlocked) ∧
        t.net.integ = clampInt (s.net.integ - off * 1000000000 / ((64 * syncInterval m.logInterval : Nat) : Int)) (-500000) 500000 ∧
        t.time.ntInc = adjusted 0x200000000
          (clampInt (t.net.integ - off * 1000000000 / ((8 * syncInterval m.logInterval : Nat) : Int)) (-500000) 500000) ∧
        (s.dsp.lock.source ≠ 2 → t.time.dtInc = s.time.dtInc ∧ t.dsp = s.dsp ∧ t.cmd = s.cmd) ∧
        (s.dsp.lock.source ≠ 2 → s.net.servo = t.net.servo → AgreeBut [.time, .net] s t) ∧
        (s.dsp.lock.source ≠ 2 → s.net.servo ≠ .locked → 16 ≤ t.net.goodSyncs → AgreeBut [.time, .net] (s.raise
          { code := .ptpLocked, source := 126, data0 := unsignedOf 32 off, data1 := s.net.slave - 1 + 256 * (a.clockClass % 256) }) t) ∧
        AgreeBut [.time, .net, .dsp, .cmd, .fns, .hmem, .dmem, .smb, .sup] s t)) ∧
  (∀ m : PtpSync, s.servoHears m.port m.domain m.transport = false ∨ (∀ a, s.net.master = some a → a.sender ≠ m.sender) →
    exec (.ptpSyncReceived m) s = .next s) ∧
  (∀ n, s.slavePort = some n → s.net.tcMode ≠ 2 → s.net.master.isSome → s.net.delayDue ≤ s.mtNs → (s.port n).link = true → s.fabricUp = true →
    ∃ t, exec .delayReqInterval s = .next t ∧ AgreeBut [.net] s t ∧ t.net = { s.net with
      ports := t.net.ports, delayT3 := t.net.delayT3, delaySeq := (s.net.delaySeq + 1) % 65536
      delayDue := s.mtNs + syncInterval s.net.delayLog } ∧
      (s.egressIdle n = true → (s.port n).mode ≠ 0 → t.net.delayT3 = some (s.time.nt / 0x10000))) ∧
  (s.slavePort = none ∨ s.net.tcMode = 2 ∨ s.net.master = none ∨ s.mtNs < s.net.delayDue ∨ s.fabricUp = false ∨
      (∃ n, s.slavePort = some n ∧ (s.port n).link = false) → exec .delayReqInterval s = .next s) ∧
  (∀ (m : PtpDelayResp) a t3, s.net.delayT3 = some t3 → s.servoHears m.port m.domain m.transport = true → m.seq = s.net.delaySeq →
    s.net.master = some a → a.sender = m.sender → exec (.delayRespReceived m) s = .next { s with
      net.delayT3 := none
      net.delayLog := m.logInterval
      net.pathDelay := (s.net.syncSpan + ((m.received : Int) - m.correction - t3)) / 2 / 4096 }) ∧
  (∀ m : PtpDelayResp, s.net.delayT3 = none ∨ s.servoHears m.port m.domain m.transport = false ∨ m.seq ≠ s.net.delaySeq ∨
    (∀ a, s.net.master = some a → a.sender ≠ m.sender) → exec (.delayRespReceived m) s = .next s) ∧
  (∀ x, s.net.tcMode = 2 → (s.port (portIdx x)).link = true → (s.port (portIdx x)).mode ≠ 0 → (s.port (portIdx x)).pdelayDue ≤ s.mtNs →
    s.fabricUp = true → ∃ t, exec (.pdelayReqInterval x) s = .next t ∧ AgreeBut [.net] s t ∧
      (t.port (portIdx x)).pdelaySeq = ((s.port (portIdx x)).pdelaySeq + 1) % 65536 ∧ (t.port (portIdx x)).pdelayResp = none ∧
      (t.port (portIdx x)).pdelayDue = s.mtNs + syncInterval s.net.logPdelay ∧
      (s.egressIdle (portIdx x) = true → (t.port (portIdx x)).pdelayT1 = some (s.time.nt / 0x10000)) ∧
      ∀ m ≠ portIdx x, t.port m = s.port m) ∧
  (∀ x, s.net.tcMode ≠ 2 ∨ (s.port (portIdx x)).link = false ∨ (s.port (portIdx x)).mode = 0 ∨ s.mtNs < (s.port (portIdx x)).pdelayDue ∨
    s.fabricUp = false → exec (.pdelayReqInterval x) s = .next s) ∧
  (∀ r : Fin 3, s.isExpert policyServo = false → s.net.slave ≠ 0 → s.net.servo = .locked ∨ s.net.servo = .unlocked →
    (r = 0 ∧ s.net.lastSync + 3000000000 ≤ s.mtNs) ∨ (r = 1 ∧ s.net.master.isSome ∧ s.net.others = []) ∨
      (r = 2 ∧ (s.port (s.net.slave - 1)).link = false) →
    ∃ t, exec (.ptpSyncTimeout r) s = .next t ∧ t.net.servo = .holdover ∧ t.net.goodSyncs = 0 ∧ t.time.ntInc = s.time.ntInc ∧
      t.time.nt = s.time.nt ∧ t.net.ports = s.net.ports ∧ t.net.integ = s.net.integ ∧
      AgreeBut [.net, .time, .dsp, .fns, .hmem, .dmem, .smb, .sup] s t ∧ (s.dsp.lock.source ≠ 2 → t.dsp = s.dsp)) ∧
  (∀ b ms, s.isExpert policyServo = false → s.net.slave ≠ 0 → s.net.master.isSome → s.net.others = b :: ms →
    ∃ t, exec (.ptpSyncTimeout 1) s = .next t ∧ ∃ m, t.net.master = some m ∧ m ∈ s.net.others ∧ t = { s with net := { s.net with
      master := some m, others := s.net.others.filter fun a => a.sender != m.sender } }) ∧
  (∀ r : Fin 3, s.isExpert policyServo = true ∨ s.net.slave = 0 ∨ (r = 0 ∧ s.mtNs < s.net.lastSync + 3000000000) ∨
    (r = 1 ∧ s.net.master = none) ∨ (r = 2 ∧ (s.port (s.net.slave - 1)).link = true) → exec (.ptpSyncTimeout r) s = .next s)

/-- CMP_LAYER_SET makes attributes pending; CMP_FLIP and CMP_LAYER_OFF become pending and end the one before with SUPERSEDED; CMP_SCALER_COEF makes a
checked set pending; each asks for the base rate. What fails a check is refused. A frame-start event latches a pending flip with all else that is
pending, unless its commit is refused or held, and a CMP_LAYER_OFF leaves the layer DISABLED; each completes once the surface that it replaced is
released (R49, R70, R72, R73, R270 to R276, R278, R286).
Choices of the model on which clauses rest: log 27, log 63. -/
def Obligations.Layers : Prop := ∀ (s : State) (p : Packet),
  (s.Starts .cmpLayerSet p → s.checkLayerSet p = none → DoneAs (.cmpLayerSet p) p s .ok 0 0 fun u =>
    Ended p s s.cmd u ∧ AgreeBut [.cmd, .smb, .cmp, .dsp] s u ∧
      u.dsp = { s.dsp with wantBase := s.dsp.wantBase || s.dsp.rate != 0 } ∧
      u.cmp = (s.updLayer (p.u8 16) fun l =>
        { l with attrNext := some (layerAttrOf p), flip := l.flip.map fun f => { f with setAfter := true } }).cmp) ∧
  (∀ r, s.Starts .cmpLayerSet p → s.checkLayerSet p = some r → RefusedAs (.cmpLayerSet p) p s r.status r.r0 r.r1) ∧
  (∀ a l, s.Starts .cmpFlip p → s.layerAllowed p.src (p.u8 16) = true → s.layer (p.u8 16) = l → l.attrNext.or l.attr = some a →
    (l.attrNext.isSome ∨ ∀ f, l.flip = some f → f.surface.isSome) → (∀ f, l.flip = some f → f.ticket ≠ s.cmd.nextTicket) →
    planesAligned a.format (flipPlanes p) flipOffs = none →
    s.planesFit p.src a.format (a.srcX + a.srcW) (a.srcY + a.srcH) (flipPlanes p) flipOffs = none →
    BegunAs (.cmpFlip p) p s false fun u =>
      u.dsp = { s.dsp with wantBase := s.dsp.wantBase || s.dsp.rate != 0 } ∧
      u.cmp = (s.updLayer (p.u8 16) fun l => { l with
        flip := some { ticket := s.cmd.nextTicket, surface := some (s.absPlanes p.src (flipPlanes p)), bytes := sliceZ p.body 0 40 } }).cmp ∧
      (l.flip = none → AgreeBut [.cmd, .smb, .cmp, .dsp] s u) ∧
      ∀ f, l.flip = some f → (∀ x ∈ u.cmd.flights, x.ticket ≠ f.ticket) ∧
        AgreeBut [.cmd, .smb, .cmp, .dsp] (s.finish f.ticket .superseded p.tag.toNat p.src.ringNo.toNat) u) ∧
  (s.Starts .cmpFlip p → s.layerAllowed p.src (p.u8 16) = true → (s.layer (p.u8 16)).attrNext = none →
    ((s.layer (p.u8 16)).attr = none ∨ ∃ f, (s.layer (p.u8 16)).flip = some f ∧ f.surface = none) →
    RefusedAs (.cmpFlip p) p s .wrongState 16 0) ∧
  (s.Starts .cmpFlip p → s.layerAllowed p.src (p.u8 16) = false → RefusedAs (.cmpFlip p) p s .badParam 16 0) ∧
  (∀ l, s.Starts .cmpLayerOff p → s.layerAllowed p.src (p.u8 16) = true → s.layer (p.u8 16) = l →
    (l.attr.isSome ∨ l.attrNext.isSome ∨ l.flip.isSome ∨ l.nextH.isSome ∨ l.nextV.isSome) →
    (∀ f, l.flip = some f → f.ticket ≠ s.cmd.nextTicket) →
    BegunAs (.cmpLayerOff p) p s false fun u =>
      u.dsp = { s.dsp with wantBase := s.dsp.wantBase || s.dsp.rate != 0 } ∧
      u.cmp = (s.updLayer (p.u8 16) fun l => { l with
        flip := some { ticket := s.cmd.nextTicket, surface := none, bytes := sliceZ p.body 0 40 } }).cmp ∧
      (l.flip = none → AgreeBut [.cmd, .smb, .cmp, .dsp] s u) ∧
      ∀ f, l.flip = some f → (∀ x ∈ u.cmd.flights, x.ticket ≠ f.ticket) ∧
        AgreeBut [.cmd, .smb, .cmp, .dsp] (s.finish f.ticket .superseded p.tag.toNat p.src.ringNo.toNat) u) ∧
  (s.Starts .cmpLayerOff p → s.layerAllowed p.src (p.u8 16) = true → (s.layer (p.u8 16)).attr = none → (s.layer (p.u8 16)).attrNext = none →
    (s.layer (p.u8 16)).flip = none → (s.layer (p.u8 16)).nextH = none → (s.layer (p.u8 16)).nextV = none →
    RefusedAs (.cmpLayerOff p) p s .wrongState 16 0) ∧
  (∀ l t, s.Starts .cmpScalerCoef p → p.u8 16 ≤ 1 → s.layerAllowed p.src (p.u8 16) = true → p.u8 17 ≤ 1 → p.u64 24 % 4 = 0 →
    s.resolve p.src (p.u64 24) (if p.u8 17 = 0 then 1024 else 512) = some l →
    t = coefsOf (s.readAt l (if p.u8 17 = 0 then 1024 else 512)) →
    ((∀ c ∈ t, -256 ≤ c ∧ c ≤ 511) → phasesSum (if p.u8 17 = 0 then 8 else 4) t = true →
      DoneAs (.cmpScalerCoef p) p s .ok 0 0 fun u => Ended p s s.cmd u ∧ AgreeBut [.cmd, .smb, .cmp, .dsp] s u ∧
        u.dsp = { s.dsp with wantBase := s.dsp.wantBase || s.dsp.rate != 0 } ∧
        u.cmp = (s.updLayer (p.u8 16) fun x => if p.u8 17 = 0 then { x with nextH := some t } else { x with nextV := some t }).cmp) ∧
    ((∃ c ∈ t, c < -256 ∨ 511 < c) → RefusedAs (.cmpScalerCoef p) p s .badParam noField 1) ∧
    ((∀ c ∈ t, -256 ≤ c ∧ c ≤ 511) → phasesSum (if p.u8 17 = 0 then 8 else 4) t = false →
      RefusedAs (.cmpScalerCoef p) p s .badParam noField 2)) ∧
  (∀ (n : Fin 8) l f, s.layer n.val = l → l.flip = some f → l.withdraw = false → s.pwr.dusk = .awake →
    (s.commitRefusal = none → s.commitHeld f.ticket = false →
      ((s.latchLayer n.val).layer n.val).releases =
        l.releases ++ [{ ticket := f.ticket, old := l.surface, dfn := s.dsp.dfn.lo, psn := s.dsp.psn.lo }] ∧
      ((s.latchLayer n.val).layer n.val).flip = none ∧ (s.latchLayer n.val).cmd.committed = s.cmd.committed + 1 ∧
      AgreeBut [.cmp, .cmd] s (s.latchLayer n.val) ∧
      (∀ pl, f.surface = some pl → ((s.latchLayer n.val).layer n.val).surface = some pl ∧
        ((s.latchLayer n.val).layer n.val).attr = l.attrNext.or l.attr ∧ ((s.latchLayer n.val).layer n.val).userH = l.nextH.or l.userH ∧
        ((s.latchLayer n.val).layer n.val).userV = l.nextV.or l.userV) ∧
      (f.surface = none → ((s.latchLayer n.val).layer n.val).surface = none ∧ ((s.latchLayer n.val).layer n.val).userH = none ∧
        ((s.latchLayer n.val).layer n.val).userV = none ∧
        ((s.latchLayer n.val).layer n.val).attr = if f.setAfter then l.attrNext else none)) ∧
    (∀ st, s.commitRefusal = some st → ((s.latchLayer n.val).layer n.val).flip = none ∧
      ((s.latchLayer n.val).layer n.val).surface = l.surface ∧ ((s.latchLayer n.val).layer n.val).releases = l.releases ∧
      ∀ x ∈ (s.latchLayer n.val).cmd.flights, x.ticket ≠ f.ticket) ∧
    (s.commitRefusal = none → s.commitHeld f.ticket = true → ((s.latchLayer n.val).layer n.val).flip = some f ∧
      ((s.latchLayer n.val).layer n.val).surface = l.surface ∧ AgreeBut [.cmp] s (s.latchLayer n.val))) ∧
  (∀ (n : Fin 8) rs, (s.layer n.val).releases = rs → ∃ t, exec (.flipSurfaceRelease n) s = .next t ∧
    t.cmp = (s.updLayer n.val fun l => { l with releases := rs.filter fun r => r.old.any s.surfaceUsed }).cmp ∧
    (∀ r ∈ rs, (∀ pl, r.old = some pl → s.surfaceUsed pl = false) → ∀ x ∈ t.cmd.flights, x.ticket ≠ r.ticket) ∧
    AgreeBut [.cmp, .cmd, .fns, .hmem, .dmem, .smb] s t ∧
    (∀ r ∈ rs, rs.length = 1 → (∀ pl, r.old = some pl → s.surfaceUsed pl = false) →
      AgreeBut [.cmp] (s.finish r.ticket .ok r.dfn.toNat r.psn.toNat) t) ∧
    ((∀ r ∈ rs, ∃ pl, r.old = some pl ∧ s.surfaceUsed pl = true) → t = s))

/-- BLT_SURFACE_SET writes the descriptors that it carries; BLT_RUN hands a list whose entries all pass to the blit engine, and is refused with the
first that fails; the start of the first entry commits the list, copies its descriptors and fixes its order; an entry that ends stores its
elements and no other byte, or signals its fence, and the last one completes the list; nothing moves while the engine does not run
(R418 to R420, R423 to R429, R432, R433, R671).
Choices of the model on which clauses rest: log 62. -/
def Obligations.Blits : Prop := ∀ (s : State) (p : Packet),
  (s.Starts .bltSurfaceSet p → 1 ≤ p.u8 18 → p.u8 18 ≤ 3 → p.length.toNat = 8 + 16 * p.u8 18 →
    (∀ k < p.u8 18, s.descAllowed p.src.func (p.u16 16 + k) = true ∧ descFault p k = none ∧
      planesAligned (p.u8 (32 + 64 * k)) (descPlanes p k) (descOffs k) = none ∧
      s.planesFit p.src (p.u8 (32 + 64 * k)) (p.u16 (32 + 64 * k + 4)) (p.u16 (32 + 64 * k + 6)) (descPlanes p k) (descOffs k) = none) →
    DoneAs (.bltSurfaceSet p) p s .ok 0 0 fun u => Ended p s s.cmd u ∧ AgreeBut [.cmd, .smb, .blt] s u ∧
      u.blt = { s.blt with descs := u.blt.descs } ∧
      (∀ k < p.u8 18, p.u16 16 + k < s.blt.descs.length → u.desc (p.u16 16 + k) = if p.u8 (32 + 64 * k) = 0 then none else some
        { format := p.u8 (32 + 64 * k), width := p.u16 (32 + 64 * k + 4), height := p.u16 (32 + 64 * k + 6),
          planes := s.absPlanes p.src (descPlanes p k) }) ∧
      ∀ i, i < p.u16 16 ∨ p.u16 16 + p.u8 18 ≤ i → u.desc i = s.desc i) ∧
  (s.Starts .bltSurfaceSet p → p.u8 18 = 0 ∨ 3 < p.u8 18 ∨ p.length.toNat ≠ 8 + 16 * p.u8 18 →
    RefusedAs (.bltSurfaceSet p) p s .badParam 18 1) ∧
  (∀ l, s.Starts .bltRun p → 1 ≤ p.u16 16 → p.u16 16 ≤ 4096 → p.u64 24 % 64 = 0 → 0x8000000000000000 ≤ p.u64 24 →
    s.resolve p.src (p.u64 24) (64 * p.u16 16) = some l →
    (let bs := cutEntries (p.u16 16) (s.readAt l (64 * p.u16 16))
     (s.checkEntries p.src.func 0 bs = none → BegunAs (.bltRun p) p s false fun u => AgreeBut [.cmd, .smb, .blt] s u ∧
       u.blt = { s.blt with lists := s.blt.lists ++
         [{ ticket := s.cmd.nextTicket, owner := p.src.func, entries := bs.map entryOf }] }) ∧
     ∀ i st d, s.checkEntries p.src.func 0 bs = some (i, st, d) → RefusedAs (.bltRun p) p s st noField (65536 * i + d))) ∧
  (∀ i l e es, s.bltRuns = true → s.blt.lists[i]? = some l → l.order = none → l.entries = e :: es → e.state = 0 → s.commitRefusal = none →
    s.commitHeld l.ticket = false → s.listHeld i l = false →
    (∀ x ∈ s.blt.lists, x.order.isSome → ∀ y ∈ x.entries, y.holds (s.withDescs e) = false) →
    ∃ t, exec (.bltEntryStart i 0) s = .next t ∧ AgreeBut [.blt, .cmd] s t ∧ t.cmd.committed = s.cmd.committed + 1 ∧
      t.blt = { s.blt with
        nextOrder := s.blt.nextOrder + 1
        lists := s.blt.lists.set i { l with order := some s.blt.nextOrder
                                            entries := { s.withDescs e with state := 1 } :: es.map s.withDescs } }) ∧
  (∀ i l st, s.bltRuns = true → s.blt.lists[i]? = some l → l.order = none → s.listHeld i l = false → s.commitRefusal = some st →
    exec (.bltEntryStart i 0) s = .next (({ s with blt.lists := s.blt.lists.eraseIdx i } : State).finish l.ticket st noField 0)) ∧
  (∀ i l, s.blt.lists[i]? = some l → l.order = none → s.listHeld i l = true ∨ (s.commitRefusal = none ∧ s.commitHeld l.ticket = true) →
    exec (.bltEntryStart i 0) s = .next s) ∧
  (∀ i k l e o, s.bltRuns = true → s.blt.lists[i]? = some l → l.order = some o → l.entries[k]? = some e → e.state = 0 →
    exec (.bltEntryStart i k) s = .next (if s.entryReady l k e then
      { s with blt.lists := s.blt.lists.set i { l with entries := l.entries.set k { e with state := 1 } } } else s)) ∧
  (∀ i k l e, s.bltRuns = true → s.blt.lists[i]? = some l → l.entries[k]? = some e → e.state = 1 →
    (let v := s.applyEntry l.owner ((s.flight l.ticket).any (·.noSignal)) e
     ∃ t, exec (.bltEntryComplete i k) s = .next t ∧
      ((l.entries.eraseIdx k).all (·.state == 2) = false → AgreeBut [.memc]
        ({ v with blt.lists := v.blt.lists.set i { l with entries := l.entries.set k { e with state := 2 } } } : State) t) ∧
      ((l.entries.eraseIdx k).all (·.state == 2) = true → AgreeBut [.memc]
        (({ v with blt.lists := v.blt.lists.eraseIdx i } : State).finish l.ticket .ok l.entries.length 0) t))) ∧
  (∀ f e n, e.op = 5 → fenceIndex f e.fence = some n → s.applyEntry f false e = s.signalFence n ∧ s.applyEntry f true e = s) ∧
  (∀ f q e d, e.op ≠ 5 → e.dstD = some d → AgreeBut [.dmem] s (s.applyEntry f q e) ∧
    ∀ a, (∀ x ∈ s.entryElems e d, ¬ (d.planes.elem d.format x.1 x.2.1 x.2.2.1 ≤ a ∧
        a < d.planes.elem d.format x.1 x.2.1 x.2.2.1 + ((planesOf d.format).getD x.1 ⟨0, false, false⟩).bytes)) →
      (s.applyEntry f q e).byteAt true a = s.byteAt true a) ∧
  (∀ i k, s.bltRuns = false ∨ s.blt.lists[i]? = none → exec (.bltEntryStart i k) s = .next s ∧ exec (.bltEntryComplete i k) s = .next s) ∧
  (∀ i k l e, s.blt.lists[i]? = some l → l.entries[k]? = some e → e.state ≠ 1 → exec (.bltEntryComplete i k) s = .next s)

/-- WIT_CONFIG sets the configuration, or the next one while the witness runs; WIT_START begins the witness with the next frame-start event and
hands a START record to the chain, which an idle chain takes at once, and is refused while it runs, without a timing or while debug is open;
WIT_STOP ends the witness and, with no picture left, hands the chain its SIGN record (R368, R371, R374, R375, R403, R409, R603).
Choices of the model on which clauses rest: log 30, log 44, log 64. -/
def Obligations.Witness : Prop := ∀ (s : State) (p : Packet),
  (s.Starts .witConfig p → witConfigFault p = none → p.u16 16 * p.u16 18 * p.u8 20 ≤ 497664000 →
    DoneAs (.witConfig p) p s .ok 0 0 fun u => Ended p s s.cmd u ∧ AgreeBut [.cmd, .smb, .wit] s u ∧
      u.wit = if s.wit.running then { s.wit with next := some (witConfigOf p) }
        else { s.wit with config := witConfigOf p, next := none }) ∧
  (∀ off, s.Starts .witConfig p → witConfigFault p = some off → RefusedAs (.witConfig p) p s .badParam off 1) ∧
  (s.Starts .witStart p → s.wit.running = false → s.wit.stop = none → s.dsp.timing.isSome → s.sup.debugOpen = false →
    DoneAs (.witStart p) p s .ok 0 0 fun u => u.wit = { s.wit with running := true, due := true, since := 0 } ∧ u.chain.resume = none ∧
      AgreeBut [.cmd, .smb, .wit, .chain, .nvm, .net, .fns, .hmem, .dmem, .sup] s u ∧
      (s.chain.resume = none → s.chain.items = [] → s.chain.signing = [] → s.chain.target = 0 → s.chainRoom 144 = true →
        s.chain.openDfn = none → Ended p s s.cmd u ∧ AgreeBut [.cmd, .smb, .wit, .chain, .nvm] s u ∧
        (let body := s.startBody (b2n s.head.isNone)
         let bytes := recHeader s.headNow 1 s.etFlag (96 + body.length) s.nextSeq s.dsp.dfn.toNat s.dsp.psn.toNat s.time.et
           s.headNow.headDigest ++ body
         u.chain = { s.chain with records := s.chain.records ++ [⟨s.nextSeq, bytes⟩] } ∧
         u.nvm = { s.nvm with head := some ({ s.headNow with headSeq := s.nextSeq, headDigest := sha256 bytes } : ChainHead).bytes }))) ∧
  (s.Starts .witStart p → s.wit.running = true ∨ s.wit.stop.isSome ∨ s.dsp.timing = none →
    RefusedAs (.witStart p) p s .wrongState noField 0) ∧
  (s.Starts .witStart p → s.wit.running = false → s.wit.stop = none → s.dsp.timing.isSome → s.sup.debugOpen = true →
    RefusedAs (.witStart p) p s .hwFault noField 0) ∧
  (s.Starts .witStop p → s.wit.running = true →
    BegunAs (.witStop p) p s true fun u =>
      u.wit = { s.wit with
        running := false, stop := some s.cmd.nextTicket, due := false, config := s.wit.next.getD s.wit.config, next := none } ∧
      ((s.session 0).pics ≠ [] → AgreeBut [.cmd, .smb, .wit] s u) ∧
      ((s.session 0).pics = [] → AgreeBut [.cmd, .smb, .wit, .chain, .nvm, .net, .fns, .hmem, .dmem, .sup] s u ∧
        (s.chain.items = [] → s.chain.signing = [] → s.chain.target = 0 → s.chainRoom 192 = true → s.chain.openDfn = none →
          AgreeBut [.cmd, .smb, .wit, .chain] s u ∧
          u.chain = { s.chain with signing := [.sign s.nextSeq 1 (s.signHead 1)] }))) ∧
  (s.Starts .witStop p → s.wit.running = false → RefusedAs (.witStop p) p s .wrongState noField 0)

/-- The chain: WIT_EXPORT sets the target, from which every record not yet acknowledged goes anew, and zeroes the header of an export ring but for rd;
a signature completes a SIGN record, with CHAIN_SIGNED and the WIT_STOP that awaits it, or an attestation; an acknowledgement of records that
were sent frees them, and any other is discarded; 200 ms without one send all again (R375, R394, R403, R404, R410 to R412, R414).
Choices of the model on which clauses rest: log 30, log 44, log 46. -/
def Obligations.Chain : Prop := ∀ (s : State),
  (∀ p l, s.Starts .witExport p → p.u8 16 ≤ 3 → p.u8 17 ≤ 1 → p.u16 18 = 0 ∨ (100 ≤ p.u16 18 ∧ p.u16 18 ≤ 60000) →
    (if p.u8 16 = 1 then p.u32 20 % 4096 = 0 ∧ 65536 ≤ p.u32 20 ∧ p.u32 20 ≤ 67108864 ∧ p.u64 24 % 4096 = 0 ∧
      s.resolve p.src (p.u64 24) (p.u32 20) = some l else p.u32 20 = 0 ∧ p.u64 24 = 0 ∧ l = ⟨false, 0⟩) →
    (2 ≤ p.u8 16 → p.u32 32 ≠ 0 ∧ p.u32 32 ≠ 0xFFFFFFFF) →
    DoneAs (.witExport p) p s .ok 0 0 fun u =>
      u.chain.target = p.u8 16 ∧ u.chain.ack = bitOf (p.u8 17) 0 ∧ u.chain.signMs = (if p.u16 18 = 0 then 1000 else p.u16 18) ∧
      u.chain.ringSize = p.u32 20 ∧ u.chain.ring = (l.dev, l.addr) ∧ u.chain.dstIp = p.u32 32 ∧
      u.chain.dstPort = (if p.u16 36 = 0 then 47812 else p.u16 36) ∧
      AgreeBut [.cmd, .smb, .chain, .nvm, .net, .fns, .hmem, .dmem, .sup] s u ∧
      (s.chain.items = [] → s.chain.records = [] → Counted s s.cmd u ∧ AgreeBut [.cmd, .chain]
        (if p.u8 16 = 1 then ((s.sent p).writeAt l (List.replicate 8 0)).writeAt ⟨l.dev, l.addr + 12⟩ (List.replicate 52 0) else s.sent p) u ∧
        u.chain = { s.chain with
          target := p.u8 16, ack := u.chain.ack, signMs := u.chain.signMs, ringSize := p.u32 20, ring := (l.dev, l.addr)
          dstIp := p.u32 32, dstPort := u.chain.dstPort, sent := 0, wr := 0, marks := [], ackNs := s.mtNs }) ∧
      (s.chain.items = [] → s.chain.records.length = 1 → s.head.isSome → 2 ≤ p.u8 16 → p.u8 17 = 1 →
        (s.port (p.u8 16 - 2)).mode ≠ 0 → (s.port (p.u8 16 - 2)).link = true → (s.port (p.u8 16 - 2)).ipv4 ≠ 0 →
        u.chain.sent = 1 ∧ u.chain.records = s.chain.records)) ∧
  (∀ p, s.Starts .witExport p → 3 < p.u8 16 → RefusedAs (.witExport p) p s .badParam 16 0) ∧
  (∀ p, s.Starts .witExport p → p.u8 16 ≤ 3 → 1 < p.u8 17 → RefusedAs (.witExport p) p s .badParam 17 0) ∧
  (∀ seq reason b, s.chain.signing = [.sign seq reason b] → s.chain.items = [] → s.chain.target = 0 →
    ∃ t, exec .signatureComplete s = .next t ∧
      t.chain = { s.chain with
        signing := [], records := s.chain.records ++ [⟨seq, b ++ signature b⟩], fromSeq := seq + 1, signNs := s.mtNs } ∧
      t.nvm = { s.nvm with head := some ({ s.headNow with
        headSeq := seq
        headDigest := sha256 (b ++ signature b) } : ChainHead).bytes } ∧
      (reason ≠ 1 ∨ s.wit.stop = none → AgreeBut [.chain, .nvm]
        (s.raise { code := .chainSigned, source := 127, data0 := seq % 0x100000000, data1 := reason }) t) ∧
      ∀ n, reason = 1 → s.wit.stop = some n → t.wit = { s.wit with stop := none } ∧ AgreeBut [.chain, .nvm, .wit]
        ((s.raise { code := .chainSigned, source := 127, data0 := seq % 0x100000000, data1 := 1 }).finish n .ok 0 0) t) ∧
  (∀ n b dev addr, s.chain.signing = [.attest n b dev addr] → b.length ≠ 32 → s.chain.items = [] → s.chain.target = 0 →
    ∃ t, exec .signatureComplete s = .next t ∧ t.chain = { s.chain with signing := [] } ∧
      AgreeBut [.chain] ((s.writeAt ⟨dev, addr⟩ (b ++ signature b)).finish n .ok 0 0) t) ∧
  (s.chain.signing = [] → exec .signatureComplete s = .next s) ∧
  (∀ x b h r z n, s.head = some h → s.chain.target = portIdx x + 2 → s.chain.sent = s.chain.records.length →
    s.chain.records.getLast? = some z → fieldAt b 8 8 ≤ z.seq →
    n = (s.chain.records.filter fun (c : ChainRec) => decide (c.seq ≤ fieldAt b 8 8)).length → s.chain.records[n - 1]? = some r → 1 ≤ n →
    s.chain.items = [] → b.length = 16 → fieldAt b 0 2 = 0x4E41 → fieldAt b 2 1 = 1 → fieldAt b 3 1 = 0 → fieldAt b 4 4 = h.chainId →
    ∃ t, exec (.exportAckReceived x b) s = .next t ∧ AgreeBut [.chain, .nvm] s t ∧
      t.chain = { s.chain with
        records := s.chain.records.drop n, sent := s.chain.sent - n, marks := s.chain.marks.drop n, ackNs := s.mtNs } ∧
      t.nvm = { s.nvm with head := some ({ h with expSeq := r.seq, expDigest := sha256 r.bytes } : ChainHead).bytes }) ∧
  (∀ x b, s.head = none ∨ s.chain.target ≠ portIdx x + 2 ∨ b.length ≠ 16 ∨ fieldAt b 0 2 ≠ 0x4E41 ∨ fieldAt b 2 1 ≠ 1 ∨
    fieldAt b 3 1 ≠ 0 ∨ (∀ h, s.head = some h → fieldAt b 4 4 ≠ h.chainId) ∨
    (∀ r ∈ s.chain.records.take s.chain.sent, r.seq < fieldAt b 8 8) → exec (.exportAckReceived x b) s = .next s) ∧
  (2 ≤ s.chain.target → s.chain.ack = true → s.chain.sent ≠ 0 → s.chain.ackNs + 200000000 ≤ s.mtNs →
    exec .exportResendTimeout s = .next (({ s with
      chain.sent := 0
      chain.marks := []
      chain.ackNs := s.mtNs } : State).exportPump)) ∧
  (s.mtNs < s.chain.ackNs + 200000000 ∨ s.chain.target < 2 ∨ s.chain.ack = false ∨ s.chain.sent = 0 → exec .exportResendTimeout s = .next s)

/-- Encode sessions: ENC_OPEN opens the lowest session that is not open and zeroes the header of its ring but for rd; ENC_RATE and ENC_SEARCH set
their parameters; ENC_FRAME hands over a picture; ENC_CLOSE ends the pictures that have not begun with ABORTED, frees a session with nothing
left, and waits for one that still codes. A session that is not the function's, or that takes no frames, refuses them
(R377 to R381, R387, R393, R394).
Coding: an idle codec core takes the first coding row or decode part that is ready, and a row that starts occupies it; a core that works or is
faulted, or that nothing waits for, takes none. A row that ends frees its core; inside a slice it is counted in its picture and at the end of
one the slice is emitted; a poll of an output ring writes the entry that fits now and the wr behind it (R155, R156, R394, R395).
Choices of the model on which clauses rest: log 31, log 43, log 46. -/
def Obligations.Encoding : Prop :=
  (∀ (s : State) (p : Packet),
  (∀ l n, s.Starts .encOpen p → encOpenFault p = none → p.u64 40 % 4096 = 0 → s.resolve p.src (p.u64 40) (p.u32 36) = some l →
    (p.src.isVf = true → s.sessionsOf p.src.func < (s.grantOf p.src).sessions) →
    (p.src.isVf = false → sumNat ((allFuncs.drop 1).map fun f => (s.fn f).grant.sessions - s.sessionsOf f) <
      ([1, 2, 3].filter fun k => !(s.session k).isOpen).length) →
    [1, 2, 3].find? (fun n => !(s.session n).isOpen) = some n →
    DoneAs (.encOpen p) p s .ok n 0 fun u => Counted s s.cmd u ∧
      AgreeBut [.cmd, .enc] (((s.sent p).writeAt l (List.replicate 8 0)).writeAt ⟨l.dev, l.addr + 12⟩ (List.replicate 52 0)) u ∧
      u.enc = updAt s.enc n fun _ =>
        { isOpen := true, owner := p.src.func, tap := p.u8 16 == 1, ring := (l.dev, l.addr)
          geom := some { width := p.u16 20, height := p.u16 22, profile := p.u8 17, sliceRows := p.u8 18, wpp := bitOf (p.u8 19) 0
                         rotation := p.u8 19 / 2, rate := if p.u8 16 = 1 then 1000 * s.wit.config.rate else p.u32 24
                         bitrate := p.u32 28, gop := p.u16 32, refs := p.u8 34, ring := p.u32 36 } }) ∧
  (∀ l, s.Starts .encOpen p → encOpenFault p = none → p.u64 40 % 4096 = 0 → s.resolve p.src (p.u64 40) (p.u32 36) = some l →
    (∀ n ∈ [1, 2, 3], (s.session n).isOpen = true) → RefusedAs (.encOpen p) p s .noResource noField 0) ∧
  (∀ off, s.Starts .encOpen p → encOpenFault p = some off → RefusedAs (.encOpen p) p s .badParam off 0) ∧
  (s.Starts .encRate p → p.u8 16 ≤ 3 → p.u8 17 ≤ 51 → p.u8 17 ≤ p.u8 18 → p.u8 18 ≤ 51 → 1 ≤ p.u8 19 → p.u8 19 ≤ 16 → 16 ≤ p.u16 20 →
    p.u16 20 ≤ 255 → p.u8 17 ≤ p.u8 22 → p.u8 22 ≤ p.u8 18 →
    DoneAs (.encRate p) p s .ok 0 0 fun u => Ended p s s.cmd u ∧ AgreeBut [.cmd, .smb, .enc] s u ∧
      u.enc = updAt s.enc (p.u8 16) fun e => { e with
        rate := { qpMin := p.u8 17, qpMax := p.u8 18, ki := p.u8 19, capf := p.u16 20, qpInit := p.u8 22 }
        qpI := p.u8 22
        qpP := p.u8 22 + 2
        ended := e.ended.map fun d => { d with change := 0 } }) ∧
  (s.Starts .encSearch p → p.u8 16 ≤ 3 → 1 ≤ p.u8 17 → p.u8 17 ≤ 16 → p.u16 18 ≠ 0 → p.u8 20 ≤ 2 →
    DoneAs (.encSearch p) p s .ok 0 0 fun u => Ended p s s.cmd u ∧ AgreeBut [.cmd, .smb, .enc] s u ∧
      u.enc = updAt s.enc (p.u8 16) fun e => { e with search := ⟨p.u8 17, p.u16 18, p.u8 20⟩ }) ∧
  (∀ e g, s.Starts .encFrame p → 1 ≤ p.u8 16 → p.u8 16 ≤ 3 → s.session (p.u8 16) = e → e.isOpen = true → e.owner = p.src.func →
    e.geom = some g → e.tap = false → e.closing = none → encFormat (p.u8 17) = true → p.u8 18 < 8 → p.u16 24 ≠ 0 → p.u16 26 ≠ 0 →
    frameEven p = none → planesAligned (p.u8 17) (framePlanes p) frameOffs = none → frameScale g (p.u8 18 % 4) (p.u16 24) (p.u16 26) = true →
    s.framePlanesFit p = none →
    BegunAs (.encFrame p) p s false fun u => AgreeBut [.cmd, .smb, .enc] s u ∧ ∃ c : EncSource,
      c.format = p.u8 17 ∧ c.rotation = p.u8 18 % 4 ∧ c.x = p.u16 20 ∧ c.y = p.u16 22 ∧ c.w = p.u16 24 ∧ c.h = p.u16 26 ∧
      c.pitches = [p.u32 28, p.u32 32, p.u32 36] ∧
      (∀ l, s.resolve p.src (p.u64 40) 0 = some l → c.places.head? = some (l.dev, l.addr)) ∧
      u.enc = updAt s.enc (p.u8 16) fun e => { e with
        nextOrder := e.nextOrder + 1
        pics := e.pics ++ [{ order := e.nextOrder, ticket := some s.cmd.nextTicket, index := 0, source := some c, buf := none
                             forceIdr := bitOf (p.u8 18) 2, geom := g }] }) ∧
  (s.Starts .encFrame p → p.u8 16 ≠ 0 → (3 < p.u8 16 ∨ (s.session (p.u8 16)).isOpen = false ∨ (s.session (p.u8 16)).owner ≠ p.src.func) →
    RefusedAs (.encFrame p) p s .badParam 16 0) ∧
  (∀ e, s.Starts .encFrame p → 1 ≤ p.u8 16 → p.u8 16 ≤ 3 → s.session (p.u8 16) = e → e.isOpen = true → e.owner = p.src.func →
    e.tap = true ∨ e.closing.isSome → RefusedAs (.encFrame p) p s .wrongState 16 0) ∧
  (∀ e ps, s.Starts .encClose p → 1 ≤ p.u8 16 → p.u8 16 ≤ 3 → s.session (p.u8 16) = e → e.isOpen = true → e.owner = p.src.func →
    e.closing = none → ps = (e.pics.filter fun q => e.pics.all fun r => r.begun || r.order != q.order) →
    (∀ q ∈ e.pics, q.ticket ≠ some s.cmd.nextTicket) →
    (ps = [] → e.out = [] → ∃ u, exec (.encClose p) s = .next u ∧ u.enc = updAt s.enc (p.u8 16) (fun _ => {}) ∧
      u.cmd.committed = s.cmd.committed + 1 ∧ (∀ x ∈ u.cmd.flights, x.ticket ≠ s.cmd.nextTicket) ∧
      AgreeBut [.cmd, .smb, .enc, .wit, .fns, .hmem, .dmem] s u ∧
      (e.pics = [] → AgreeBut [.cmd, .enc] ((s.sent p).complete p .ok 0 0) u)) ∧
    (ps ≠ [] ∨ e.out ≠ [] → BegunAs (.encClose p) p s true fun u =>
      u.enc = updAt s.enc (p.u8 16) (fun e => { e with pics := ps, closing := some s.cmd.nextTicket }) ∧
      (∀ q ∈ e.pics, q.begun = false → ∀ t, q.ticket = some t → ∀ x ∈ u.cmd.flights, x.ticket ≠ t) ∧
      AgreeBut [.cmd, .smb, .enc, .wit, .fns, .hmem, .dmem] s u ∧
      ((∀ q ∈ e.pics, q.begun = true) → AgreeBut [.cmd, .smb, .enc] s u))) ∧
  (s.Starts .encClose p → (p.u8 16 = 0 ∨ 3 < p.u8 16 ∨ (s.session (p.u8 16)).isOpen = false ∨ (s.session (p.u8 16)).owner ≠ p.src.func) →
    RefusedAs (.encClose p) p s .badParam 16 0)) ∧
  (∀ (s : State),
  (∀ core : Fin 12, (s.dec.cores.getD core.val none).isSome ∨ s.coreFaulted core.val = true → exec (.codecItemStart core) s = .next s) ∧
  (∀ core : Fin 12, s.partsRun = false → pickCand (s.rowCands core.val) = none → exec (.codecItemStart core) s = .next s) ∧
  (∀ (core : Fin 12) c n o, s.dec.cores.getD core.val none = none → s.coreFaulted core.val = false → s.partsRun = false →
    pickCand (s.rowCands core.val) = some c → c.item = .row n o → s.commitRefusal = none →
    (∀ q, s.pic n o = some q → ∀ t, q.ticket = some t → s.commitHeld t = false) →
    ∃ t, exec (.codecItemStart core) s = .next t ∧ t.dec = { s.dec with cores := s.dec.cores.set core.val (some (.row n o)) } ∧
      (∃ q, t.pic n o = some q ∧ q.begun = true ∧ q.core = some core.val) ∧ AgreeBut [.dec, .enc, .wit, .cmd] s t) ∧
  (∀ (core : Fin 12) c, s.dec.cores.getD core.val none = none → s.coreFaulted core.val = false → s.partsRun = true →
    pickCand (s.giveSlots.rowCands core.val ++ s.giveSlots.partCands core.val) = some c →
    exec (.codecItemStart core) s = .next (match c.item with
      | .part slot ci k => s.giveSlots.startPart core.val slot ci k
      | .row n o => s.giveSlots.startRow core.val n o)) ∧
  (∀ (core : Fin 12) n o, s.dec.cores.getD core.val none = some (.row n o) → ∃ t, exec (.encodeRowComplete core) s = .next t ∧
    t.dec = { s.dec with cores := s.dec.cores.set core.val none } ∧
    AgreeBut [.dec, .enc, .memc, .wit, .chain, .nvm, .net, .cmd, .fns, .hmem, .dmem, .smb, .sup] s t ∧
    (s.pic n o = none → t = { s with dec.cores := s.dec.cores.set core.val none }) ∧
    ∀ q, s.pic n o = some q → q.rowBits.length + 1 < q.geom.rows → q.sliceRow ≤ q.rowBits.length →
      (q.sliceLen + 1 < q.geom.sliceRows → (∃ r, t.pic n o = some r ∧ r.rowBits.length = q.rowBits.length + 1 ∧
        r.rowBits.take q.rowBits.length = q.rowBits ∧ r.tokens.length = q.tokens.length + 1 ∧ r.sliceRow = q.sliceRow ∧ q.bits ≤ r.bits) ∧
        AgreeBut [.dec, .enc, .memc, .fns, .hmem, .dmem, .smb, .sup] s t) ∧
      (q.geom.sliceRows ≤ q.sliceLen + 1 → q.cut = false → n ≠ 0 → ∃ r, t.pic n o = some r ∧ r.rowBits.length = q.rowBits.length + 1 ∧
        r.sliceRow = r.rowBits.length ∧ r.core = none ∧ q.bytes ≤ r.bytes)) ∧
  (∀ (core : Fin 12), (∀ n o, s.dec.cores.getD core.val none ≠ some (.row n o)) → exec (.encodeRowComplete core) s = .next s) ∧
  (exec (.encRingPoll 0) s = .next s.pumpChain) ∧
  (∀ n : Fin 4, n.val ≠ 0 → (s.session n.val).out = [] → (s.session n.val).closing = none → exec (.encRingPoll n) s = .next s) ∧
  (∀ (n : Fin 4) e g o os, n.val ≠ 0 → s.session n.val = e → e.out = o :: os → e.geom = some g → e.closing = none →
    ringFit (g.ring - 64) e.wr (s.ringRd e.ring) o.entry.length = none → exec (.encRingPoll n) s = .next s) ∧
  (∀ (n : Fin 4) e g o, n.val ≠ 0 → s.session n.val = e → e.out = [o] → e.closing = none → e.geom = some g →
    ringFit (g.ring - 64) e.wr (s.ringRd e.ring) o.entry.length = some 0 → e.wr + o.entry.length < g.ring - 64 →
    (let v := (s.writeAt ⟨e.ring.1, e.ring.2 + 64 + e.wr⟩ o.entry).writeAt ⟨e.ring.1, e.ring.2⟩ (leBytes 4 (e.wr + o.entry.length))
     ∃ t, exec (.encRingPoll n) s = .next t ∧ t.session n.val = { e with out := [], wr := e.wr + o.entry.length } ∧
      (o.done = none → AgreeBut [.enc] v t) ∧
      ∀ k i b, o.done = some (k, i, b) → AgreeBut [.enc] (v.finish k .ok i b) t)))

/-- A window opens at SYNTHESIS_WINDOW_OPEN when the device may open one and a picture is to be synthesised, newly taken or again: it takes the
picture, the blob, the rung and curve in force and the target of the next frame-start event, and its tiles cover the panel, each with its place,
size and deadline. Without a picture the opening only takes what is pending; it does nothing while none may open (R28, R29, R34, R37, R200, R213
to R215, R219).
Choices of the model on which clauses rest: log 49, log 50. -/
def Obligations.WindowOpens : Prop := ∀ (s : State),
  (s.mayOpen = false ∨ s.dsp.timing = none ∨ s.nextFrame = none → exec .synthesisWindowOpen s = .next s) ∧
  (∀ tm g, s.mayOpen = true → s.dsp.timing = some tm → s.nextFrame = some g → ∃ t, exec .synthesisWindowOpen s = .next t ∧
    t.ray.armed = false ∧ t.ray.mask = s.ray.nextMask.getD s.ray.mask ∧ t.ray.nextMask = none ∧ t.ray.dt16 = s.ray.dt16Next ∧
    AgreeBut [.ray, .sup, .dec, .strm, .cmd, .fns, .hmem, .dmem, .smb] s t) ∧
  (∀ tm g b k re q, s.mayOpen = true → s.dsp.timing = some tm → s.nextFrame = some g → s.ray.active = some b → s.ray.load = none →
    s.strm.cut = none → s.pickScene g = some (k, re) → (s.slot k).params = some q →
    ∃ t, exec .synthesisWindowOpen s = .next t ∧ AgreeBut [.ray, .sup, .dec, .fns, .hmem, .dmem] s t ∧ ∃ w, t.ray.window = some w ∧
      w.inp.slot = k ∧ w.inp.au = (s.slot k).au ∧ w.inp.params = q ∧ w.inp.blob = b ∧ w.inp.rung = t.ray.rung ∧
      w.inp.curve = t.ray.curve ∧ w.inp.dt16 = s.ray.dt16Next ∧ w.inp.chanMap = tm.chanMap ∧ w.opened = s.mtNs ∧ w.target = g / 0x100000000 ∧
      w.buffer = s.freeBuffer ∧ t.ray.lastBuffer = s.freeBuffer ∧ w.resynth = re ∧ w.seq = s.ray.nextSeq ∧ t.ray.nextSeq = s.ray.nextSeq + 1 ∧
      t.ray.changed = false ∧ (t.slot k).heldByRay = true ∧ (t.slot k).outputPending = false ∧
      t.ray.lastSynth = some ((s.slot k).ctx, (s.slot k).au) ∧
      (s.isExpert policyQuality = true → s.isExpert policyDepth = true → s.ray.nextRung = none → s.ray.nextCurve = none →
        t.ray.rung = s.ray.rung ∧ t.ray.curve = s.ray.curve ∧ AgreeBut [.ray, .sup, .dec] s t) ∧
      (let cols := ceilDiv (blobWidth b) 64
       let rows := ceilDiv (blobHeight b) 32
       w.tiles.length = cols * rows ∧ ∀ (i : Nat) (x : Tile), w.tiles[i]? = some x → x.witness = false ∧ x.tx = i % cols ∧ x.ty = i / cols ∧
        x.lines = min 32 (blobHeight b - 32 * x.ty) ∧ x.pixels = min 64 (blobWidth b - 64 * x.tx) ∧ x.band = x.tx / ceilDiv cols 4 ∧
        x.pos = x.ty * (bandOf cols x.band).2 + (if x.ty % 2 = 0 then x.tx - (bandOf cols x.band).1
          else (bandOf cols x.band).2 - 1 - (x.tx - (bandOf cols x.band).1)) ∧
        x.deadline = dtNs s.time.dt + BitVec.ofInt 32 ((x.pos + 1 : Nat) * ((w.target : Int) - s.mtNs - 100000) /
          ((bandOf cols x.band).2 * rows : Nat))))

/-- Tiles: a core with room takes the tile that its cluster's queue serves next, and runs it or fetches for it; a cluster with nothing queued
steals synthesis tiles from the tail of the longest queue; the tile that a core runs commits and stores to its own lines of its buffer alone;
the last one of a window makes the woven frame complete, once the frame before it has been flipped, and the last one of a witnessed DFN makes its
buffer READY (R30, R34, R216, R223, R224, R226, R372).
The upkeep of the ray engine: each millisecond the prediction is made anew, and a window predicted late selects the rung of the next opening; a
cluster promotes the oldest fill request that has waited more than 20 us, and the tile that has waited more than 50 us for a context (R211, R217,
R229).
Choices of the model on which clauses rest: log 25, log 60, log 65. -/
def Obligations.Tiles : Prop :=
  (∀ (s : State),
  (∀ core : Fin 96, s.rayWorks = false ∨ s.coreOn core.val = false ∨ 2 ≤ (s.tilesOf core.val).length ∨ s.clusterQueue (core.val / 24) = [] →
    exec (.tileDispatch core) s = .next s) ∧
  (∀ (core : Fin 96) r t, s.rayWorks = true → s.coreOn core.val = true → (s.tilesOf core.val).length < 2 →
    nextServed (s.clusterQueue (core.val / 24)) = some (r, t) →
    ∃ u, exec (.tileDispatch core) s = .next u ∧ AgreeBut [.ray, .memc] s u ∧
      (let v := s.updRef r fun t => { t with
        state := if (s.tilesOf core.val).any fun x => x.2.state == .running then .fetching else .running
        core := core
        tStart := dtNs s.time.dt }
       u.ray = { v.ray with caches := u.ray.caches }) ∧ ∀ c ≠ core.val / 24, u.ray.caches[c]? = s.ray.caches[c]?) ∧
  (∀ c : Fin 4, s.rayWorks = false ∨ s.clusterServes c.val = false ∨ s.clusterQueue c.val ≠ [] ∨ (∀ d : Fin 4, d ≠ c → s.clusterQueue d.val = []) →
    exec (.tileSteal c) s = .next s) ∧
  (∀ (c : Fin 4) v, s.rayWorks = true → s.clusterServes c.val = true → s.clusterQueue c.val = [] → s.victim c.val = some v →
    (∀ d : Fin 4, d ≠ c → (s.clusterQueue d.val).length ≤ (s.clusterQueue v).length) ∧
    (let n := if s.clusterIdle v then min 8 ((s.stealable v).length - 8) else 8
     let taken := tailTiles n (s.stealable v)
     ∃ u, exec (.tileSteal c) s = .next u ∧ AgreeBut [.ray] s u ∧
       u.ray = { s.ray with window := u.ray.window, nStolen := s.ray.nStolen + word taken.length } ∧
       ∀ w, s.ray.window = some w → ∀ w', u.ray.window = some w' → w' = { w with tiles := w'.tiles } ∧
         (∀ i t, (TileRef.synth i, t) ∈ taken → w'.tiles[i]? = some { t with cluster := c.val, stolen := true }) ∧
         ∀ i, (∀ t, (TileRef.synth i, t) ∉ taken) → w'.tiles[i]? = w.tiles[i]?)) ∧
  (∀ (core : Fin 96) n, s.rayWorks = false ∨ (∀ x ∈ s.tilesOf core.val, x.2.state ≠ .running) → exec (.tileCommit core n) s = .next s) ∧
  (∀ (core : Fin 96) n i t w, s.rayWorks = true → s.ray.window = some w →
    (s.tilesOf core.val).find? (fun x => x.2.state == .running) = some (.synth i, t) →
    ∃ u, exec (.tileCommit core n) s = .next u ∧
      ((w.tiles.eraseIdx i).all (·.state == .committed) = false →
        AgreeBut [.ray, .dmem, .memc] s u ∧ u.ray.complete = s.ray.complete ∧ MemBut ((List.range t.lines).map fun j =>
          (⟨true, s.wovenAddr w.buffer + (32 * t.ty + j) * wovenPitch (blobWidth w.inp.blob) + 256 * t.tx⟩, 4 * t.pixels)) s u) ∧
      ((w.tiles.eraseIdx i).all (·.state == .committed) = false ∨ s.ray.complete.isSome → u.ray.complete = s.ray.complete ∧
        ∃ w', u.ray.window = some w' ∧ w'.inp = w.inp ∧ w'.buffer = w.buffer ∧ ∃ t', w'.tiles[i]? = some t' ∧ t'.state = .committed ∧
          t'.cycles = n ∧ t'.tEnd = dtNs s.time.dt ∧ t'.core = core.val ∧ t'.tx = t.tx ∧ t'.ty = t.ty) ∧
      ((w.tiles.eraseIdx i).all (·.state == .committed) = true → s.ray.complete = none → u.ray.window = none ∧
        u.ray.presented = s.ray.presented ∧ AgreeBut [.ray, .dmem, .memc, .dec, .fns, .hmem, .sup] s u ∧
        ∃ c, u.ray.complete = some c ∧ c.inp = w.inp ∧ c.buffer = w.buffer ∧ c.seq = w.seq ∧ c.doneMt = s.time.mt)) ∧
  (∀ (core : Fin 96) n f i t fr b p, s.rayWorks = true → s.ray.witFrames[f]? = some fr → s.bufOfDfn fr.dfn = some b → s.picOfDfn fr.dfn = some p →
    (s.tilesOf core.val).find? (fun x => x.2.state == .running) = some (.wit f i, t) →
    ∃ u, exec (.tileCommit core n) s = .next u ∧ u.ray.complete = s.ray.complete ∧ u.ray.presented = s.ray.presented ∧
      MemBut ((List.range t.lines).map fun j =>
        (⟨true, p.addr b + (32 * t.ty + j) * wovenPitch p.config.width + 256 * t.tx⟩, 4 * t.pixels)) s u ∧
      ((fr.tiles.eraseIdx i).all (·.state == .committed) = false → AgreeBut [.ray, .dmem, .memc] s u ∧
        ∃ fr', u.ray.witFrames[f]? = some fr' ∧ fr'.dfn = fr.dfn ∧ ∃ t', fr'.tiles[i]? = some t' ∧ t'.state = .committed ∧ t'.cycles = n) ∧
      ((fr.tiles.eraseIdx i).all (·.state == .committed) = true → AgreeBut [.ray, .dmem, .memc, .dec, .wit] s u ∧
        u.ray.witFrames.map (·.dfn) = (s.ray.witFrames.eraseIdx f).map (·.dfn) ∧
        u.wit = { s.wit with bufs := updAt s.wit.bufs b fun (x : WitBuf) => { x with mark := .ready } }))) ∧
  (∀ (s : State),
  (s.mtNs < s.ray.predictNs + 1000000 → exec .qualityRepredict s = .next s) ∧
  (s.ray.predictNs + 1000000 ≤ s.mtNs → s.ray.window = none →
    exec .qualityRepredict s = .next { s with ray.predictNs := s.mtNs }) ∧
  (∀ w full, s.ray.predictNs + 1000000 ≤ s.mtNs → s.ray.window = some w →
    full = 3 * blobWidth w.inp.blob * blobHeight w.inp.blob + s.witnessRays →
    ∃ t, exec .qualityRepredict s = .next t ∧ AgreeBut [.ray] s t ∧ t.ray = { s.ray with
      predictNs := s.mtNs
      predictedUs := predictUs full (s.cost s.ray.rung) s.capacityC
      nextRung := t.ray.nextRung } ∧
      (s.isExpert policyQuality = true ∨ fitsIn (w.raysLeft + s.witnessRays) (s.cost s.ray.rung) s.capacityC
          ((w.target : Int) - 100000 - s.mtNs) = true → t.ray.nextRung = s.ray.nextRung) ∧
      (s.isExpert policyQuality = false → fitsIn (w.raysLeft + s.witnessRays) (s.cost s.ray.rung) s.capacityC
          ((w.target : Int) - 100000 - s.mtNs) = false →
        t.ray.nextRung = if fitsIn full (s.cost s.ray.rung) s.capacityC ((w.target : Int) - w.opened - 100000) then none
          else some (s.stepDown full s.capacityC ((w.target : Int) - w.opened - 100000) s.ray.rung, 0))) ∧
  (∀ (c : Fin 4) cs, cs = (updAt s.ray.caches c.val fun v =>
      ViewCache.serve s.blockPx v.fills.length { v with fills := promoteFill s.mtNs v.fills }) →
    exec (.viewCacheAgePromotion c) s = .next { s with ray.caches := cs }) ∧
  (∀ (c : Fin 4) i, pickTile (fun t => t.state == .unqueued && t.home == c && !t.promoted && t.waitsLong s.mtNs) Tile.dueBefore
      s.synthTiles = some i →
    exec (.tileContextAgePromotion c) s = .next ((s.updTile i fun t => { t with promoted := true }).fillPromoted c.val)) ∧
  (∀ (c : Fin 4) f i, pickTile (fun t => t.state == .unqueued && t.home == c && !t.promoted && t.waitsLong s.mtNs) Tile.dueBefore
      s.synthTiles = none → s.waitingWit c.val (fun t => !t.promoted && t.waitsLong s.mtNs) = some (f, i) →
    exec (.tileContextAgePromotion c) s = .next ((s.updWit f i fun t => { t with promoted := true }).fillPromoted c.val)) ∧
  (∀ (c : Fin 4), (∀ t ∈ s.synthTiles, t.waitsLong s.mtNs = false) → (∀ f ∈ s.ray.witFrames, ∀ t ∈ f.tiles, t.waitsLong s.mtNs = false) →
    exec (.tileContextAgePromotion c) s = .next s))
end

