-- ==== Sys2Proof/Laws/Frame.lean ====
section
/-!
SUPPORT. What the shared operations leave alone, said once for each of them by the parts of State that it may change.
-/

namespace Sys2Proof.Machine

/-! ## The relation -/

theorem AgreeBut.refl (ps : List Piece) (s : State) : AgreeBut ps s s := by
  constructor; intro x _; cases x <;> rfl

theorem AgreeBut.trans {ps : List Piece} {s t u : State} (h : AgreeBut ps s t) (k : AgreeBut ps t u) :
    AgreeBut ps s u := by
  constructor
  intro x hx
  have a := h.same x hx
  have b := k.same x hx
  cases x <;> exact b.trans a

theorem AgreeBut.mono {ps qs : List Piece} {s t : State} (h : AgreeBut ps s t) (sub : ∀ x ∈ ps, x ∈ qs) :
    AgreeBut qs s t := ⟨fun x hx => h.same x fun hp => hx (sub x hp)⟩

theorem AgreeBut.ite {ps : List Piece} {s t u : State} {c : Prop} [Decidable c] (h : AgreeBut ps s t)
    (k : AgreeBut ps s u) : AgreeBut ps s (if c then t else u) := by split <;> assumption

/-- One operation more. -/
theorem AgreeBut.after {ps qs : List Piece} {s t u : State} (h : AgreeBut qs t u) (sub : ∀ x ∈ qs, x ∈ ps)
    (k : AgreeBut ps s t) : AgreeBut ps s u := k.trans (h.mono sub)

/-- A fold of operations that each leave the same parts alone. -/
theorem AgreeBut.foldl {α : Type} {ps : List Piece} (f : State → α → State) (h : ∀ s a, AgreeBut ps s (f s a)) :
    ∀ (l : List α) (s : State), AgreeBut ps s (l.foldl f s)
  | [], s => .refl ps s
  | a :: l, s => (h s a).trans (AgreeBut.foldl f h l (f s a))

/-! ## Functions, rings and memory -/

theorem State.updFn_agree (s : State) (f : Func) (g : FnState → FnState) : AgreeBut [.fns] s (s.updFn f g) := by
  constructor; intro x hx; cases x <;> first | rfl | exact absurd (by decide) hx

theorem State.updSub_agree (s : State) (f : Func) (n : Nat) (g : SubRing → SubRing) :
    AgreeBut [.fns] s (s.updSub f n g) := State.updFn_agree ..

theorem State.updCpl_agree (s : State) (f : Func) (n : Nat) (g : CplRing → CplRing) :
    AgreeBut [.fns] s (s.updCpl f n g) := State.updFn_agree ..

theorem State.updEvt_agree (s : State) (f : Func) (g : EvtRing → EvtRing) : AgreeBut [.fns] s (s.updEvt f g) :=
  State.updFn_agree ..

theorem State.raiseVector_agree (s : State) (f : Func) (v : Nat) : AgreeBut [.fns] s (s.raiseVector f v) :=
  State.updFn_agree ..

theorem State.writeAt_agree (s : State) (l : Loc) (bs : List Byte) : AgreeBut [.hmem, .dmem] s (s.writeAt l bs) := by
  unfold State.writeAt
  split <;> (constructor; intro x hx; cases x <;> first | rfl | exact absurd (by decide) hx)

theorem State.raiseCause_agree (s : State) (b : Nat) : AgreeBut [.regs, .fns] s (s.raiseCause b) := by
  unfold State.raiseCause
  split
  · exact .refl _ _
  · have h : AgreeBut [.regs, .fns] s { s with regs.intStatus := s.regs.intStatus ||| ((1 : Word) <<< b) } := by
      constructor; intro x hx; cases x <;> first | rfl | exact absurd (by decide) hx
    exact h.trans (.ite ((State.raiseVector_agree ..).mono (by decide)) (.refl _ _))

theorem State.writeCompletion_agree (s : State) (f : Func) (n : Nat) (r : CplRing) (c : Completion) :
    AgreeBut [.fns, .hmem, .dmem] s (s.writeCompletion f n r c) := by
  have h (l : Loc) (bs : List Byte) (g : CplRing → CplRing) :
      AgreeBut [.fns, .hmem, .dmem] s ((s.writeAt l bs).updCpl f n g) :=
    .after (State.updCpl_agree ..) (by decide) ((State.writeAt_agree ..).mono (by decide))
  unfold State.writeCompletion
  exact .ite (.after (State.raiseVector_agree ..) (by decide) (h ..)) (h ..)

theorem State.postCompletion_agree (s : State) (f : Func) (n : Nat) (c : Completion) :
    AgreeBut [.fns, .hmem, .dmem] s (s.postCompletion f n c) := by
  unfold State.postCompletion
  split
  · exact .refl _ _
  · exact .ite (.refl _ _) (.ite ((State.updCpl_agree ..).mono (by decide)) (State.writeCompletion_agree ..))

theorem State.releaseHeld_agree : ∀ (k : Nat) (s : State) (f : Func) (n : Nat),
    AgreeBut [.fns, .hmem, .dmem] s (s.releaseHeld k f n)
  | 0, s, _, _ => .refl _ s
  | k + 1, s, f, n => by
    unfold State.releaseHeld
    split
    · exact .refl _ _
    · split
      · exact .refl _ _
      · refine .ite (.refl _ _) ?_
        refine .after (State.releaseHeld_agree k _ f n) (by decide) (.after (State.writeCompletion_agree ..) (by decide) ?_)
        exact (State.updCpl_agree ..).mono (by decide)

theorem State.postSideband_agree (s : State) (c : Completion) : AgreeBut [.smb] s (s.postSideband c) := by
  constructor; intro x hx; cases x <;> first | rfl | exact absurd (by decide) hx

/-! ## Events -/

theorem State.writeEvent_agree (s : State) (f : Func) (e : EventRec) : AgreeBut [.fns, .hmem, .dmem] s (s.writeEvent f e) := by
  unfold State.writeEvent
  exact .after (State.raiseVector_agree ..) (by decide)
    (.after (State.updEvt_agree ..) (by decide) ((State.writeAt_agree ..).mono (by decide)))

theorem State.deliverEvent_agree (s : State) (f : Func) (e : EventRec) :
    AgreeBut [.fns, .hmem, .dmem] s (s.deliverEvent f e) := by
  unfold State.deliverEvent
  exact .ite (.refl _ _) (.ite ((State.updEvt_agree ..).mono (by decide)) (State.writeEvent_agree ..))

theorem State.deliverAll_agree (e : Event) (r : EventRec) : ∀ (fs : List Func) (s : State),
    AgreeBut [.fns, .hmem, .dmem] s (s.deliverAll e r fs)
  | [], s => .refl _ s
  | f :: fs, s => by
    unfold State.deliverAll
    exact .after (State.deliverAll_agree e r fs _) (by decide) (.ite (State.deliverEvent_agree ..) (.refl _ _))

theorem State.deliverSideband_agree (s : State) (e : EventRec) : AgreeBut [.smb] s (s.deliverSideband e) := by
  unfold State.deliverSideband
  refine .ite (.refl _ _) (.ite ?_ ?_) <;>
    (constructor; intro x hx; cases x <;> first | rfl | exact absurd (by decide) hx)

theorem State.logEvent_agree (s : State) (e : EventRec) (i : Bool) : AgreeBut [.sup] s (s.logEvent e i) := by
  unfold State.logEvent
  generalize findGuard e.code e.source s.sup.logGuards = old
  extract_lets recent
  split
  · cases old
    · exact .refl _ _
    · constructor; intro x hx; cases x <;> first | rfl | exact absurd (by decide) hx
  · refine .ite ?_ ?_ <;> (constructor; intro x hx; cases x <;> first | rfl | exact absurd (by decide) hx)

/-- An event changes rings, their memory, the sideband and the log's queue, and nothing else. -/
theorem State.raise_agree (s : State) (e : Event) : AgreeBut [.fns, .hmem, .dmem, .smb, .sup] s (s.raise e) := by
  unfold State.raise
  have h : AgreeBut [.fns, .hmem, .dmem, .smb, .sup] s
      (if e.code.logged then s.logEvent (s.stampEvent e) e.injected else s) :=
    .ite ((State.logEvent_agree ..).mono (by decide)) (.refl _ _)
  exact .ite h (.after (State.deliverSideband_agree ..) (by decide) (.after (State.deliverAll_agree ..) (by decide) h))

theorem State.drawFree_agree (s : State) : AgreeBut [.free] s s.drawFree.2 := by
  constructor; intro x hx; cases x <;> first | rfl | exact absurd (by decide) hx

theorem State.raiseFree_agree (s : State) (e : Event) :
    AgreeBut [.free, .fns, .hmem, .dmem, .smb, .sup] s (s.raiseFree e) := by
  unfold State.raiseFree
  exact .after (State.raise_agree ..) (by decide)
    (.after (State.drawFree_agree _) (by decide) ((State.drawFree_agree s).mono (by decide)))

theorem State.recovered_agree (s : State) (c u : Nat) (i : Bool) :
    AgreeBut [.free, .fns, .hmem, .dmem, .smb, .sup] s (s.recovered c u i) := by
  unfold State.recovered
  refine .after (State.raise_agree ..) (by decide) (.trans ((State.drawFree_agree s).mono (by decide)) ?_)
  constructor; intro x hx; cases x <;> first | rfl | exact absurd (by decide) hx

theorem State.countDetected_agree (s : State) (c : Nat) : AgreeBut [.sup] s (s.countDetected c) := by
  constructor; intro x hx; cases x <;> first | rfl | exact absurd (by decide) hx

/-! ## Fences and packets -/

theorem State.signalFence_agree (s : State) (i : Nat) : AgreeBut [.cmd] s (s.signalFence i) := by
  constructor; intro x hx; cases x <;> first | rfl | exact absurd (by decide) hx

theorem State.signalOf_agree (s : State) (p : Packet) : AgreeBut [.cmd] s (s.signalOf p) := by
  unfold State.signalOf
  refine .ite ?_ (.refl _ _)
  split
  · exact State.signalFence_agree ..
  · exact .refl _ _

/-- A completion changes the fence counters, a ring and its memory or the sideband, and nothing else. -/
theorem State.complete_agree (s : State) (p : Packet) (st : Status) (a b : Word) :
    AgreeBut [.cmd, .fns, .hmem, .dmem, .smb] s (s.complete p st a b) := by
  unfold State.complete
  have h : AgreeBut [.cmd, .fns, .hmem, .dmem, .smb] s (s.signalOf p) := (State.signalOf_agree s p).mono (by decide)
  refine .ite ?_ ?_
  · split
    · refine .trans h ?_
      constructor; intro x hx; cases x <;> first | rfl | exact absurd (by decide) hx
    · exact h
  · split
    · exact .after (State.postSideband_agree ..) (by decide) h
    · split
      · exact h
      · exact .after (State.postCompletion_agree ..) (by decide) h

theorem State.dropFlight_agree (s : State) (t : Nat) : AgreeBut [.cmd] s (s.dropFlight t) := by
  constructor; intro x hx; cases x <;> first | rfl | exact absurd (by decide) hx

theorem State.putFlight_agree (s : State) (o : Op) (p : Packet) (c : Bool) : AgreeBut [.cmd] s (s.putFlight o p c) := by
  constructor; intro x hx; cases x <;> first | rfl | exact absurd (by decide) hx

theorem State.countCommit_agree (s : State) : AgreeBut [.cmd] s s.countCommit := by
  constructor; intro x hx; cases x <;> first | rfl | exact absurd (by decide) hx

theorem State.commitFlight_agree (s : State) (t : Nat) : AgreeBut [.cmd] s (s.commitFlight t) := by
  constructor; intro x hx; cases x <;> first | rfl | exact absurd (by decide) hx

theorem State.finish_agree (s : State) (t : Nat) (st : Status) (a b : Nat) :
    AgreeBut [.cmd, .fns, .hmem, .dmem, .smb] s (s.finish t st a b) := by
  unfold State.finish
  split
  · exact .refl _ _
  · have h : AgreeBut [.cmd, .fns, .hmem, .dmem, .smb] s (s.dropFlight t) := (State.dropFlight_agree s t).mono (by decide)
    exact .ite (.ite h (.after (State.signalOf_agree ..) (by decide) h)) (.after (State.complete_agree ..) (by decide) h)

theorem State.outcome_agree (s : State) (t : Nat) (st : Status) (d : Nat) :
    AgreeBut [.cmd, .fns, .hmem, .dmem, .smb, .sup] s (s.outcome t st d) := by
  unfold State.outcome
  split
  · exact .refl _ _
  · rename_i f _
    have h : AgreeBut [.cmd, .fns, .hmem, .dmem, .smb, .sup] s
        { s with cmd.outcomes := s.cmd.outcomes.filter fun f => f.ticket != t } := by
      constructor; intro x hx; cases x <;> first | rfl | exact absurd (by decide) hx
    exact .ite h (.after (State.raise_agree ..) (by decide) h)

theorem State.authEvent_agree (s : State) (p : Packet) (st : Status) :
    AgreeBut [.free, .fns, .hmem, .dmem, .smb, .sup] s (s.authEvent p st) := by
  unfold State.authEvent
  exact .ite (State.raiseFree_agree ..) (.refl _ _)

/-- A refused packet changes rings, their memory, the sideband, the fences and the log, and nothing else (R56). -/
theorem State.settle_refused_agree (s : State) (p : Packet) (r : Refused) :
    AgreeBut [.free, .cmd, .fns, .hmem, .dmem, .smb, .sup] s (s.settle p (.refused r)) := by
  unfold State.settle
  exact .after (State.authEvent_agree ..) (by decide) ((State.complete_agree ..).mono (by decide))

/-- A packet that is done changes, beside what its own effect changed, rings, their memory, the sideband, the fences and the
journal. -/
theorem State.settle_done_agree (s s' : State) (p : Packet) (st : Status) (a b : Nat) :
    AgreeBut [.cmd, .fns, .hmem, .dmem, .smb] s' (s.settle p (.done st a b s')) := by
  unfold State.settle
  exact .after (State.complete_agree ..) (by decide)
    (.after (State.countCommit_agree _) (by decide) ((State.dropFlight_agree s' _).mono (by decide)))

end Sys2Proof.Machine
end

