-- ==== Sys2Proof/Laws/Memory.lean ====
section
/-!
SUPPORT. The laws of memory: a read after a write, what a write leaves alone, and the canonical form.
-/

namespace Sys2Proof.Machine

/-- A read after a write: the byte written at its address, every other byte as before. -/
theorem Mem.read_write_wfFrom (m : Mem) : ∀ (lo a : Nat) (v : Byte) (x : Nat), Mem.wfFrom lo m = true →
    Mem.read (m.write a v) x = if x = a then v else Mem.read m x := by
  induction m with
  | nil =>
    intro lo a v x _
    by_cases hv : v = 0#8 <;> by_cases hx : x = a <;> simp [Mem.write, Mem.read, hv, hx]
  | cons e m ih =>
    obtain ⟨b, w⟩ := e
    intro lo a v x h
    simp only [Mem.wfFrom, Bool.and_eq_true, decide_eq_true_eq] at h
    have low : ∀ y, y < b + 1 → Mem.read m y = 0#8 := by
      intro y hy
      cases m with
      | nil => rfl
      | cons e m =>
        obtain ⟨c, u⟩ := e
        have h2 := h.2
        simp only [Mem.wfFrom, Bool.and_eq_true, decide_eq_true_eq] at h2
        have hc : y < c := by omega
        simp [Mem.read, hc, Nat.ne_of_lt hc]
    have ih' := ih (b + 1) a v x h.2
    rcases Nat.lt_trichotomy a b with hab | hab | hab
    · by_cases hv : v = 0#8
      · by_cases hx : x = a
        · have hb : a ≠ b := by omega
          simp [Mem.write, Mem.read, hab, hv, hx, hb]
        · simp [Mem.write, hab, hv, hx]
      · by_cases hx : x = a
        · simp [Mem.write, Mem.read, hab, hv, hx]
        · by_cases hxa : x < a
          · have h1 : x < b := by omega
            have h2 : x ≠ b := by omega
            simp [Mem.write, Mem.read, hab, hv, hx, hxa, h1, h2]
          · simp [Mem.write, Mem.read, hab, hv, hx, hxa]
    · subst hab
      by_cases hv : v = 0#8
      · by_cases hx : x = a
        · simp [Mem.write, hv, hx, low a (by omega)]
        · by_cases hxa : x < a
          · simp [Mem.write, Mem.read, hv, hx, hxa, low x (by omega)]
          · simp [Mem.write, Mem.read, hv, hx, hxa]
      · by_cases hx : x = a
        · simp [Mem.write, Mem.read, hv, hx]
        · simp [Mem.write, Mem.read, hv, hx]
    · have h1 : ¬ a < b := by omega
      have h2 : a ≠ b := by omega
      by_cases hxb : x = b
      · have hxa : x ≠ a := by omega
        simp [Mem.write, Mem.read, h1, h2, hxb, Ne.symm h2]
      · by_cases hlt : x < b
        · have hxa : x ≠ a := by omega
          simp [Mem.write, Mem.read, h1, h2, hxb, hlt, hxa]
        · simp [Mem.write, Mem.read, h1, h2, hxb, hlt, ih']

/-- A read after a write to a memory in canonical form. -/
theorem Mem.read_write (m : Mem) (a : Nat) (v : Byte) (x : Nat) (h : m.wf = true) :
    (m.write a v).read x = if x = a then v else m.read x :=
  Mem.read_write_wfFrom m 0 a v x h

/-- A write at or above `lo` keeps the form from `lo` up. -/
theorem Mem.wfFrom_write (m : Mem) : ∀ (lo a : Nat) (v : Byte), lo ≤ a → Mem.wfFrom lo m = true →
    Mem.wfFrom lo (m.write a v) = true := by
  induction m with
  | nil => intro lo a v ha _; by_cases hv : v = 0#8 <;> simp [Mem.write, Mem.wfFrom, hv, ha]
  | cons e m ih =>
    obtain ⟨b, w⟩ := e
    intro lo a v ha h
    simp only [Mem.wfFrom, Bool.and_eq_true, decide_eq_true_eq] at h
    have hw : ¬ w = 0#8 := h.1.2
    have up : ∀ lo', lo' ≤ b + 1 → Mem.wfFrom lo' m = true := by
      intro lo' hl
      cases m with
      | nil => rfl
      | cons e m =>
        obtain ⟨c, u⟩ := e
        have h2 := h.2
        simp only [Mem.wfFrom, Bool.and_eq_true, decide_eq_true_eq] at h2 ⊢
        exact ⟨⟨by omega, h2.1.2⟩, h2.2⟩
    rcases Nat.lt_trichotomy a b with hab | hab | hab
    · by_cases hv : v = 0#8
      · simp [Mem.write, hab, hv, Mem.wfFrom, h.1.1, hw, h.2]
      · have : a + 1 ≤ b := hab
        simp [Mem.write, hab, hv, Mem.wfFrom, ha, this, hw, h.2]
    · subst hab
      by_cases hv : v = 0#8
      · simp [Mem.write, hv, up lo (by omega)]
      · simp [Mem.write, hv, Mem.wfFrom, ha, h.2]
    · have h1 : ¬ a < b := by omega
      have h2 : a ≠ b := by omega
      simp [Mem.write, h1, h2, Mem.wfFrom, h.1.1, hw, ih (b + 1) a v (by omega) h.2]

/-- A write keeps the canonical form. -/
theorem Mem.wf_write (m : Mem) (a : Nat) (v : Byte) (h : m.wf = true) : (m.write a v).wf = true :=
  Mem.wfFrom_write m 0 a v (Nat.zero_le a) h

/-- Writing bytes keeps the canonical form. -/
theorem Mem.wf_writeN (bs : List Byte) : ∀ (m : Mem) (a : Nat), m.wf = true → (m.writeN a bs).wf = true := by
  induction bs with
  | nil => intro m a h; exact h
  | cons b bs ih => intro m a h; exact ih _ _ (Mem.wf_write m a b h)

/-- A byte outside those written reads as before. -/
theorem Mem.read_writeN_out (bs : List Byte) : ∀ (m : Mem) (a x : Nat), m.wf = true → (x < a ∨ a + bs.length ≤ x) →
    (m.writeN a bs).read x = m.read x := by
  induction bs with
  | nil => intro m a x _ _; rfl
  | cons b bs ih =>
    intro m a x h hx
    simp only [List.length_cons] at hx
    have hne : x ≠ a := by omega
    simp only [Mem.writeN]
    rw [ih _ _ _ (Mem.wf_write m a b h) (by omega), Mem.read_write m a b x h, if_neg hne]

/-- A byte of those written reads as written. -/
theorem Mem.read_writeN_in (bs : List Byte) : ∀ (m : Mem) (a i : Nat) (hi : i < bs.length), m.wf = true →
    (m.writeN a bs).read (a + i) = bs[i] := by
  induction bs with
  | nil => intro m a i hi _; exact absurd hi (Nat.not_lt_zero i)
  | cons b bs ih =>
    intro m a i hi h
    simp only [Mem.writeN]
    cases i with
    | zero =>
      rw [Mem.read_writeN_out bs _ _ _ (Mem.wf_write m a b h) (by omega), Mem.read_write m a b _ h]
      simp
    | succ i =>
      have := ih (m.write a b) (a + 1) i (by simpa using hi) (Mem.wf_write m a b h)
      rw [show a + (i + 1) = a + 1 + i by omega, this]
      simp

/-- Bytes read where they were written. -/
theorem Mem.readN_writeN (bs : List Byte) : ∀ (m : Mem) (a : Nat), m.wf = true →
    (m.writeN a bs).readN a bs.length = bs := by
  induction bs with
  | nil => intro m a _; rfl
  | cons b bs ih =>
    intro m a h
    simp only [List.length_cons, Mem.writeN, Mem.readN]
    rw [ih _ _ (Mem.wf_write m a b h), Mem.read_writeN_out bs _ _ _ (Mem.wf_write m a b h) (by omega),
      Mem.read_write m a b a h]
    simp

end Sys2Proof.Machine
end

