-- ==== Sys2Proof/Laws/Packets.lean ====
section
/-!
SUPPORT. How a packet that starts runs, said once for every opcode.
-/

namespace Sys2Proof.Machine

/-! ## What marking the sideband's packet leaves alone -/

theorem State.sent_agree (s : State) (p : Packet) : AgreeBut [.cmd, .smb] s (s.sent p) := by
  unfold State.sent
  split <;> (constructor; intro x hx; cases x <;> first | rfl | exact absurd (by decide) hx)

@[simp] theorem State.sent_cmd (s : State) (p : Packet) : (s.sent p).cmd = { s.cmd with served := some p.src } := by
  unfold State.sent; split <;> rfl

/-! ## Starting -/

theorem State.checkHeader_sent (s : State) (o : Op) (p : Packet) : checkHeader (s.sent p) o p = checkHeader s o p := by
  unfold State.sent; split <;> rfl

theorem State.thermalLimited_sent (s : State) (o : Op) (p : Packet) : (s.sent p).thermalLimited o p = s.thermalLimited o p := by
  unfold State.sent; split <;> rfl

/-- The mark that ring 0x80 has a packet outstanding enters none of the conditions of a start. -/
theorem State.canStart_outstanding (s : State) (p : Packet) :
    ({ s with smb.outstanding := true } : State).canStart p = s.canStart p := rfl

theorem State.queued_outstanding (s : State) (x : Src) :
    ({ s with smb.outstanding := true } : State).queued x = s.queued x := by cases x <;> rfl

/-- A packet that starts runs its opcode's own rules on the state in which it is registered. -/
theorem State.issue_starts {s : State} {o : Op} {p : Packet} (h : s.Starts o p) (run : Nat → Packet → State → Answer) :
    s.issue o run p =
      (s.sent p).settle p ((s.sent p).judgeStart o p (run s.cmd.nextTicket p ((s.sent p).putFlight o p false))) := by
  obtain ⟨ht, hs, hq, hc, hh, _⟩ := h
  have hh' := State.checkHeader_sent s o p
  have hi : (!s.takes p.src || (p.src == .smbus && s.smb.outstanding)) = false := by
    rw [ht]
    by_cases hp : p.src = .smbus
    · simp [hp, hs hp]
    · simp [hp]
  have hn : (s.sent p).cmd.nextTicket = s.cmd.nextTicket := by simp
  have hb : s.issue o run p = (s.sent p).begin_ o run p := by
    unfold State.issue State.sent
    rw [if_neg (by simp [hi])]
    by_cases hp : p.src = .smbus
    · simp [hp, State.canStart_outstanding, State.queued_outstanding, hp ▸ hq, hc]
    · simp [hp, hq, hc]
  rw [hb]
  simp only [State.begin_, hh', hh, hn]

/-- A packet that its own rules refuse leaves nothing but its completion (R56). -/
theorem State.issue_refused {s : State} {o : Op} {p : Packet} (h : s.Starts o p) {run : Nat → Packet → State → Answer}
    {r : Refused} (hr : run s.cmd.nextTicket p ((s.sent p).putFlight o p false) = .refused r) :
    s.issue o run p = ((s.sent p).complete p r.status (word r.r0) (word r.r1)).authEvent p r.status := by
  rw [State.issue_starts h, hr]; rfl

/-- A packet that is done at its start. -/
theorem State.issue_done {s : State} {o : Op} {p : Packet} (h : s.Starts o p) {run : Nat → Packet → State → Answer}
    {st : Status} {a b : Nat} {u : State}
    (hr : run s.cmd.nextTicket p ((s.sent p).putFlight o p false) = .done st a b u) :
    s.issue o run p = ((u.dropFlight s.cmd.nextTicket).countCommit).complete p st (word a) (word b) := by
  have hl : (s.sent p).thermalLimited o p = false := (State.thermalLimited_sent s o p).trans h.2.2.2.2.2
  rw [State.issue_starts h, hr]
  simp [State.judgeStart, hl, State.settle]

/-- A packet handed to its unit. -/
theorem State.issue_started {s : State} {o : Op} {p : Packet} (h : s.Starts o p) {run : Nat → Packet → State → Answer}
    {u : State} {c : Bool} (hr : run s.cmd.nextTicket p ((s.sent p).putFlight o p false) = .started u c) :
    s.issue o run p = if c then u.commitFlight s.cmd.nextTicket else u := by
  have hl : (s.sent p).thermalLimited o p = false := (State.thermalLimited_sent s o p).trans h.2.2.2.2.2
  rw [State.issue_starts h, hr]
  simp [State.judgeStart, hl, State.settle]

/-! ## The shapes of an answer -/

/-- A packet whose rules answer that it is done. -/
theorem doneAs_of_run {i : Instr} {s : State} {o : Op} {p : Packet} {run : Nat → Packet → State → Answer} {st : Status}
    {a b : Nat} {eff : State → Prop} (w : State) (hx : exec i s = .next (s.issue o run p)) (h : s.Starts o p)
    (hr : run s.cmd.nextTicket p ((s.sent p).putFlight o p false) = .done st a b w)
    (he : eff ((w.dropFlight s.cmd.nextTicket).countCommit)) : DoneAs i p s st a b eff :=
  ⟨_, hx.trans (congrArg _ (State.issue_done h hr)), he⟩

/-- A packet whose rules hand it to its unit. -/
theorem begunAs_of_run {i : Instr} {s : State} {o : Op} {p : Packet} {run : Nat → Packet → State → Answer} {c : Bool}
    {eff : State → Prop} (w : State) (hx : exec i s = .next (s.issue o run p)) (h : s.Starts o p)
    (hr : run s.cmd.nextTicket p ((s.sent p).putFlight o p false) = .started w c)
    (hf : w.cmd = ((s.sent p).putFlight o p false).cmd)
    (he : eff (if c then w.commitFlight s.cmd.nextTicket else w)) : BegunAs i p s c eff := by
  refine ⟨_, hx.trans (congrArg _ (State.issue_started h hr)), ?_, ?_, ?_, he⟩
  · cases c <;> simp [State.commitFlight, hf, State.putFlight]
  · cases c
    · simp [hf, State.putFlight]
    · refine ⟨{ ticket := s.cmd.nextTicket, opcode := BitVec.ofNat 16 o.info.code, pkt := p, committed := true }, ?_, rfl, rfl,
        rfl⟩
      simp [State.commitFlight, hf, State.putFlight]
  · cases c <;> simp [State.commitFlight, hf, State.putFlight]

/-- A packet whose rules accept it as a request, with an outcome still to come. -/
theorem acceptedAs_of_run {i : Instr} {s : State} {o : Op} {p : Packet} {run : Nat → Packet → State → Answer}
    {eff : State → Prop} (w : State) (hx : exec i s = .next (s.issue o run p)) (h : s.Starts o p)
    (hr : run s.cmd.nextTicket p ((s.sent p).putFlight o p false) = .accepted w none)
    (hf : w.cmd = ((s.sent p).putFlight o p false).cmd)
    (he : ∀ fl, eff ((({ w with cmd.outcomes := w.cmd.outcomes ++ fl }).dropFlight s.cmd.nextTicket).countCommit)) :
    AcceptedAs i p s eff := by
  have hl : (s.sent p).thermalLimited o p = false := (State.thermalLimited_sent s o p).trans h.2.2.2.2.2
  have hx' := hx
  rw [State.issue_starts h, hr] at hx'
  simp only [State.judgeStart, hl, State.settle, State.sent_cmd] at hx'
  obtain ⟨f, hff⟩ : ∃ f, w.flight s.cmd.nextTicket = some f := by
    have : (w.cmd.flights.find? fun f => f.ticket == s.cmd.nextTicket).isSome := by
      rw [List.find?_isSome]
      exact ⟨{ ticket := s.cmd.nextTicket, opcode := BitVec.ofNat 16 o.info.code, pkt := p, committed := false },
        by simp [hf, State.putFlight], by simp⟩
    exact Option.isSome_iff_exists.mp this
  refine ⟨_, hx', ?_, ?_, ?_, he _⟩
  · simp [State.countCommit, State.dropFlight, hf, State.putFlight]
  · simp [State.countCommit, State.dropFlight, hff, hf, State.putFlight]
  · intro g hg
    simp [State.countCommit, State.dropFlight, hf, State.putFlight, hg]

/-- The journal after a packet that was done at once. -/
theorem counted_of {s : State} {c : CmdState} {w : State} {o : Op} {p : Packet}
    (hc : w.cmd = { ((s.sent p).putFlight o p false).cmd with
      fences := c.fences, outcomes := c.outcomes, policies := c.policies, vfsEnabled := c.vfsEnabled }) :
    Counted s c ((w.dropFlight s.cmd.nextTicket).countCommit) := by
  simp [Counted, State.countCommit, State.dropFlight, hc, State.putFlight]

/-- What the registration, the journal and the count leave alone. -/
theorem agree_of {ps : List Piece} {s w : State} {o : Op} {p : Packet} (n : Nat) (h1 : Piece.cmd ∈ ps) (h2 : Piece.smb ∈ ps)
    (h : AgreeBut ps ((s.sent p).putFlight o p false) w) : AgreeBut ps s ((w.dropFlight n).countCommit) := by
  refine .after (State.countCommit_agree _) (by simp [h1]) (.after (State.dropFlight_agree ..) (by simp [h1]) (.trans ?_ h))
  exact .after (State.putFlight_agree ..) (by simp [h1]) ((State.sent_agree s p).mono (by simp [h1, h2]))

end Sys2Proof.Machine
end

