-- ==== Sys2Proof/Laws/PerInstr.lean ====
section
/-!
SUPPORT. What is shown of every command, constructor by constructor. Family WellFormed: a well-formed command carries no packet, or
one of 4 to 64 words whose body fills its length exactly, or one whose length is none of R51 and that has no body.
-/

namespace Sys2Proof

/-- The packet that a command carries: the 94 packet commands carry one, no other does (R51). -/
def Instr.carried : Instr → Option Packet
  | .devNop p => some p
  | .devInfo p => some p
  | .devAbort p => some p
  | .devSetLevel p => some p
  | .devFenceRead p => some p
  | .devVfGrant p => some p
  | .devStatus p => some p
  | .devDusk p => some p
  | .devFenceSet p => some p
  | .strmOpen p => some p
  | .strmSubmit p => some p
  | .strmCut p => some p
  | .strmClose p => some p
  | .strmStatus p => some p
  | .strmTimeouts p => some p
  | .strmFilter p => some p
  | .decPoolSize p => some p
  | .decStatus p => some p
  | .decAssign p => some p
  | .decColour p => some p
  | .rayModelLoad p => some p
  | .rayModelStore p => some p
  | .rayStatus p => some p
  | .rayRelease p => some p
  | .raySetRung p => some p
  | .raySetDepthCurve p => some p
  | .rayCoreMask p => some p
  | .cmpLayerSet p => some p
  | .cmpFlip p => some p
  | .cmpLayerOff p => some p
  | .cmpScalerCoef p => some p
  | .dspTimingSet p => some p
  | .dspLock p => some p
  | .dspStill p => some p
  | .dspStatus p => some p
  | .dspProfileStore p => some p
  | .dspProfileRead p => some p
  | .dspOffset p => some p
  | .dspHoldover p => some p
  | .pnlPowerOn p => some p
  | .pnlPowerOff p => some p
  | .pnlLinkTrain p => some p
  | .pnlGammaLoad p => some p
  | .pnlStatus p => some p
  | .pnlRailSet p => some p
  | .pnlVcomSet p => some p
  | .pnlGateTiming p => some p
  | .witConfig p => some p
  | .witStart p => some p
  | .witStop p => some p
  | .witExport p => some p
  | .encOpen p => some p
  | .encFrame p => some p
  | .encClose p => some p
  | .encRate p => some p
  | .encSearch p => some p
  | .bltSurfaceSet p => some p
  | .bltRun p => some p
  | .timeRead p => some p
  | .timePortConfig p => some p
  | .timePtpConfig p => some p
  | .timeEvtConfig p => some p
  | .timeSetEt p => some p
  | .timeRelease p => some p
  | .timeIncrement p => some p
  | .timeStep p => some p
  | .memStatus p => some p
  | .memEccRegion p => some p
  | .memRelease p => some p
  | .memRegulator p => some p
  | .memClass p => some p
  | .memRetrain p => some p
  | .nvmRecordRead p => some p
  | .nvmRecordStore p => some p
  | .nvmRawRead p => some p
  | .nvmRawWrite p => some p
  | .nvmStatus p => some p
  | .nvmRelease p => some p
  | .nvmRefreshPolicy p => some p
  | .thmRead p => some p
  | .thmCalRun p => some p
  | .thmRelease p => some p
  | .thmLimits p => some p
  | .thmThresholds p => some p
  | .thmCalPolicy p => some p
  | .evtLogRead p => some p
  | .evtCounters p => some p
  | .evtMask p => some p
  | .evtInject p => some p
  | .fwVersion p => some p
  | .fwUpdate p => some p
  | .fwCertRead p => some p
  | .fwAttest p => some p
  | .fwDebugUnlock p => some p
  | .submissionTailDoorbell _ _ _ => none
  | .completionHeadDoorbell _ _ _ => none
  | .eventHeadDoorbell _ _ => none
  | .ringEnable _ _ _ _ => none
  | .ringDisable _ _ _ _ => none
  | .packetStart _ => none
  | .registerWrite _ _ _ _ => none
  | .tripClr _ => none
  | .pfCtrlLevelWrite _ => none
  | .bootLenWrite _ => none
  | .wakeReq _ => none
  | .watchdogControlWrite _ => none
  | .kick _ => none
  | .timeLatchRead => none
  | .snapshot => none
  | .supRestart _ => none
  | .panelOff _ => none
  | .deviceReset _ => none
  | .bar2Read _ _ _ => none
  | .bar2Write _ _ _ => none
  | .smbPacketWrite _ _ => none
  | .smbCompletionRead => none
  | .smbEventRead => none
  | .smbStatusRead => none
  | .smbAlertResponse => none
  | .heartbeatTick => none
  | .watchdogWarn => none
  | .watchdogExpiry => none
  | .datagramReceived _ _ => none
  | .strmSubmitBufferRead _ => none
  | .fragmentGapExpiry _ _ => none
  | .stallTimerExpiry _ => none
  | .contextFallsBehind _ => none
  | .codecItemStart _ => none
  | .partComplete _ => none
  | .syncInEdge _ => none
  | .missedEdge => none
  | .scheduledInstant => none
  | .freeRunPeriod => none
  | .holdoverExpiry => none
  | .dspLockTimeout => none
  | .stillStepDown => none
  | .synthesisWindowOpen => none
  | .rayModelChecksDone => none
  | .tileDispatch _ => none
  | .tileSteal _ => none
  | .tileCommit _ _ => none
  | .qualityRepredict => none
  | .viewCacheAgePromotion _ => none
  | .tileContextAgePromotion _ => none
  | .encodeRowComplete _ => none
  | .encRingPoll _ => none
  | .signatureComplete => none
  | .flipSurfaceRelease _ => none
  | .exportAckReceived _ _ => none
  | .exportResendTimeout => none
  | .bltEntryStart _ _ => none
  | .bltEntryComplete _ _ => none
  | .scanoutLineSlot _ _ => none
  | .panelRailStep _ => none
  | .railFault _ _ => none
  | .trainingStep _ => none
  | .trainingTimeout => none
  | .linkLockLoss => none
  | .laneDeviceFault _ => none
  | .fastRetrainEnd _ => none
  | .dischargeStart => none
  | .dischargeStep => none
  | .powerLossDischargeStart => none
  | .panelLockout => none
  | .panelLockoutRelease => none
  | .retrainPauseDue _ => none
  | .retrainPauseStart _ => none
  | .retrainPauseEnd _ => none
  | .linkCrcFail _ _ => none
  | .errorRetrainStart _ => none
  | .errorRetrainEnd _ _ => none
  | .requestAgeLimit _ => none
  | .regulatorRecompute _ => none
  | .eccScrubStep => none
  | .poisonedRead _ => none
  | .nvmPageProgramDone _ => none
  | .marginReadStep _ _ _ => none
  | .nvmScanEnd => none
  | .sensorSampleCycle _ => none
  | .shutdownDeadline => none
  | .island0SensorSample _ => none
  | .hardwareTrip _ => none
  | .ladderStep => none
  | .powerLimitTick _ => none
  | .calibrationDue _ => none
  | .calibrationRunEnd _ => none
  | .avsRegulatorFault _ => none
  | .lockstepMismatch _ => none
  | .rayCoreFault _ => none
  | .coreSelfTestEnd _ _ => none
  | .fabricFault _ => none
  | .codecCoreFault _ => none
  | .islandStall _ => none
  | .dieLinkCrcError => none
  | .frameReceived _ _ => none
  | .ptpSyncReceived _ => none
  | .ptpAnnounceReceived _ => none
  | .delayRespReceived _ => none
  | .delayReqInterval => none
  | .pdelayReqInterval _ => none
  | .ptpSyncTimeout _ => none
  | .portLink _ _ => none
  | .portModeReady _ => none
  | .evtInEdge _ _ => none
  | .evtOutPulse _ => none
  | .evtOutPulseEnd _ => none
  | .ref10mPresenceChange _ => none
  | .vddAonRise => none
  | .resetNAssert => none
  | .resetNRelease _ => none
  | .vsenseReset => none
  | .vsenseResetRelease _ => none
  | .memoryTrainingDone _ => none
  | .imageCheckDone => none
  | .commandReady => none
  | .warningCrossing _ => none
  | .powerLossSeal => none
  | .brownout => none
  | .perstNAssert => none
  | .perstNRelease => none
  | .wakeNAssert => none
  | .pmcsrD0Write => none
  | .duskEntryComplete => none
  | .duskExitReady => none
  | .fwUpdateReadbackDone => none
  | .powerFailWarningEnd => none
  | .functionLevelReset _ => none
  | .srIovVfEnable _ => none
  | .vddAonFall => none
  | .clockStretch _ _ => none

/-- A well-formed packet has at most 240 bytes behind its header, in whole words. -/
theorem Packet.body_of_wf {p : Packet} (h : p.wf = true) : p.body.length ≤ 240 ∧ p.body.length % 4 = 0 := by
  simp only [Packet.wf, Bool.and_eq_true, beq_iff_eq] at h
  have h2 := h.1.2
  split at h2 <;> omega

/-- A command that is well formed carries, if any, a packet with at most 240 bytes behind its header, in whole words (R51). -/
def Laws.WellFormed.Statement (i : Instr) : Prop :=
  i.wf = true → ∀ p, i.carried = some p → p.body.length ≤ 240 ∧ p.body.length % 4 = 0

/-- Of a command that carries a packet and is well formed as its packet is. -/
theorem Laws.WellFormed_of_packet {i : Instr} {q : Packet} (hc : i.carried = some q) (hw : i.wf = q.wf) :
    Laws.WellFormed.Statement i :=
  fun h _ e => Option.some.inj (hc.symm.trans e) ▸ Packet.body_of_wf (hw ▸ h)

/-- Of a command that carries none. -/
theorem Laws.WellFormed_of_none {i : Instr} (hc : i.carried = none) : Laws.WellFormed.Statement i :=
  fun _ _ e => nomatch hc.symm.trans e

theorem Laws.WellFormed.devNop (p : Packet) : Laws.WellFormed.Statement (.devNop p) := Laws.WellFormed_of_packet rfl rfl
theorem Laws.WellFormed.devInfo (p : Packet) : Laws.WellFormed.Statement (.devInfo p) := Laws.WellFormed_of_packet rfl rfl
theorem Laws.WellFormed.devAbort (p : Packet) : Laws.WellFormed.Statement (.devAbort p) := Laws.WellFormed_of_packet rfl rfl
theorem Laws.WellFormed.devSetLevel (p : Packet) : Laws.WellFormed.Statement (.devSetLevel p) := Laws.WellFormed_of_packet rfl rfl
theorem Laws.WellFormed.devFenceRead (p : Packet) : Laws.WellFormed.Statement (.devFenceRead p) := Laws.WellFormed_of_packet rfl rfl
theorem Laws.WellFormed.devVfGrant (p : Packet) : Laws.WellFormed.Statement (.devVfGrant p) := Laws.WellFormed_of_packet rfl rfl
theorem Laws.WellFormed.devStatus (p : Packet) : Laws.WellFormed.Statement (.devStatus p) := Laws.WellFormed_of_packet rfl rfl
theorem Laws.WellFormed.devDusk (p : Packet) : Laws.WellFormed.Statement (.devDusk p) := Laws.WellFormed_of_packet rfl rfl
theorem Laws.WellFormed.devFenceSet (p : Packet) : Laws.WellFormed.Statement (.devFenceSet p) := Laws.WellFormed_of_packet rfl rfl
theorem Laws.WellFormed.strmOpen (p : Packet) : Laws.WellFormed.Statement (.strmOpen p) := Laws.WellFormed_of_packet rfl rfl
theorem Laws.WellFormed.strmSubmit (p : Packet) : Laws.WellFormed.Statement (.strmSubmit p) := Laws.WellFormed_of_packet rfl rfl
theorem Laws.WellFormed.strmCut (p : Packet) : Laws.WellFormed.Statement (.strmCut p) := Laws.WellFormed_of_packet rfl rfl
theorem Laws.WellFormed.strmClose (p : Packet) : Laws.WellFormed.Statement (.strmClose p) := Laws.WellFormed_of_packet rfl rfl
theorem Laws.WellFormed.strmStatus (p : Packet) : Laws.WellFormed.Statement (.strmStatus p) := Laws.WellFormed_of_packet rfl rfl
theorem Laws.WellFormed.strmTimeouts (p : Packet) : Laws.WellFormed.Statement (.strmTimeouts p) := Laws.WellFormed_of_packet rfl rfl
theorem Laws.WellFormed.strmFilter (p : Packet) : Laws.WellFormed.Statement (.strmFilter p) := Laws.WellFormed_of_packet rfl rfl
theorem Laws.WellFormed.decPoolSize (p : Packet) : Laws.WellFormed.Statement (.decPoolSize p) := Laws.WellFormed_of_packet rfl rfl
theorem Laws.WellFormed.decStatus (p : Packet) : Laws.WellFormed.Statement (.decStatus p) := Laws.WellFormed_of_packet rfl rfl
theorem Laws.WellFormed.decAssign (p : Packet) : Laws.WellFormed.Statement (.decAssign p) := Laws.WellFormed_of_packet rfl rfl
theorem Laws.WellFormed.decColour (p : Packet) : Laws.WellFormed.Statement (.decColour p) := Laws.WellFormed_of_packet rfl rfl
theorem Laws.WellFormed.rayModelLoad (p : Packet) : Laws.WellFormed.Statement (.rayModelLoad p) := Laws.WellFormed_of_packet rfl rfl
theorem Laws.WellFormed.rayModelStore (p : Packet) : Laws.WellFormed.Statement (.rayModelStore p) := Laws.WellFormed_of_packet rfl rfl
theorem Laws.WellFormed.rayStatus (p : Packet) : Laws.WellFormed.Statement (.rayStatus p) := Laws.WellFormed_of_packet rfl rfl
theorem Laws.WellFormed.rayRelease (p : Packet) : Laws.WellFormed.Statement (.rayRelease p) := Laws.WellFormed_of_packet rfl rfl
theorem Laws.WellFormed.raySetRung (p : Packet) : Laws.WellFormed.Statement (.raySetRung p) := Laws.WellFormed_of_packet rfl rfl
theorem Laws.WellFormed.raySetDepthCurve (p : Packet) : Laws.WellFormed.Statement (.raySetDepthCurve p) := Laws.WellFormed_of_packet rfl rfl
theorem Laws.WellFormed.rayCoreMask (p : Packet) : Laws.WellFormed.Statement (.rayCoreMask p) := Laws.WellFormed_of_packet rfl rfl
theorem Laws.WellFormed.cmpLayerSet (p : Packet) : Laws.WellFormed.Statement (.cmpLayerSet p) := Laws.WellFormed_of_packet rfl rfl
theorem Laws.WellFormed.cmpFlip (p : Packet) : Laws.WellFormed.Statement (.cmpFlip p) := Laws.WellFormed_of_packet rfl rfl
theorem Laws.WellFormed.cmpLayerOff (p : Packet) : Laws.WellFormed.Statement (.cmpLayerOff p) := Laws.WellFormed_of_packet rfl rfl
theorem Laws.WellFormed.cmpScalerCoef (p : Packet) : Laws.WellFormed.Statement (.cmpScalerCoef p) := Laws.WellFormed_of_packet rfl rfl
theorem Laws.WellFormed.dspTimingSet (p : Packet) : Laws.WellFormed.Statement (.dspTimingSet p) := Laws.WellFormed_of_packet rfl rfl
theorem Laws.WellFormed.dspLock (p : Packet) : Laws.WellFormed.Statement (.dspLock p) := Laws.WellFormed_of_packet rfl rfl
theorem Laws.WellFormed.dspStill (p : Packet) : Laws.WellFormed.Statement (.dspStill p) := Laws.WellFormed_of_packet rfl rfl
theorem Laws.WellFormed.dspStatus (p : Packet) : Laws.WellFormed.Statement (.dspStatus p) := Laws.WellFormed_of_packet rfl rfl
theorem Laws.WellFormed.dspProfileStore (p : Packet) : Laws.WellFormed.Statement (.dspProfileStore p) := Laws.WellFormed_of_packet rfl rfl
theorem Laws.WellFormed.dspProfileRead (p : Packet) : Laws.WellFormed.Statement (.dspProfileRead p) := Laws.WellFormed_of_packet rfl rfl
theorem Laws.WellFormed.dspOffset (p : Packet) : Laws.WellFormed.Statement (.dspOffset p) := Laws.WellFormed_of_packet rfl rfl
theorem Laws.WellFormed.dspHoldover (p : Packet) : Laws.WellFormed.Statement (.dspHoldover p) := Laws.WellFormed_of_packet rfl rfl
theorem Laws.WellFormed.pnlPowerOn (p : Packet) : Laws.WellFormed.Statement (.pnlPowerOn p) := Laws.WellFormed_of_packet rfl rfl
theorem Laws.WellFormed.pnlPowerOff (p : Packet) : Laws.WellFormed.Statement (.pnlPowerOff p) := Laws.WellFormed_of_packet rfl rfl
theorem Laws.WellFormed.pnlLinkTrain (p : Packet) : Laws.WellFormed.Statement (.pnlLinkTrain p) := Laws.WellFormed_of_packet rfl rfl
theorem Laws.WellFormed.pnlGammaLoad (p : Packet) : Laws.WellFormed.Statement (.pnlGammaLoad p) := Laws.WellFormed_of_packet rfl rfl
theorem Laws.WellFormed.pnlStatus (p : Packet) : Laws.WellFormed.Statement (.pnlStatus p) := Laws.WellFormed_of_packet rfl rfl
theorem Laws.WellFormed.pnlRailSet (p : Packet) : Laws.WellFormed.Statement (.pnlRailSet p) := Laws.WellFormed_of_packet rfl rfl
theorem Laws.WellFormed.pnlVcomSet (p : Packet) : Laws.WellFormed.Statement (.pnlVcomSet p) := Laws.WellFormed_of_packet rfl rfl
theorem Laws.WellFormed.pnlGateTiming (p : Packet) : Laws.WellFormed.Statement (.pnlGateTiming p) := Laws.WellFormed_of_packet rfl rfl
theorem Laws.WellFormed.witConfig (p : Packet) : Laws.WellFormed.Statement (.witConfig p) := Laws.WellFormed_of_packet rfl rfl
theorem Laws.WellFormed.witStart (p : Packet) : Laws.WellFormed.Statement (.witStart p) := Laws.WellFormed_of_packet rfl rfl
theorem Laws.WellFormed.witStop (p : Packet) : Laws.WellFormed.Statement (.witStop p) := Laws.WellFormed_of_packet rfl rfl
theorem Laws.WellFormed.witExport (p : Packet) : Laws.WellFormed.Statement (.witExport p) := Laws.WellFormed_of_packet rfl rfl
theorem Laws.WellFormed.encOpen (p : Packet) : Laws.WellFormed.Statement (.encOpen p) := Laws.WellFormed_of_packet rfl rfl
theorem Laws.WellFormed.encFrame (p : Packet) : Laws.WellFormed.Statement (.encFrame p) := Laws.WellFormed_of_packet rfl rfl
theorem Laws.WellFormed.encClose (p : Packet) : Laws.WellFormed.Statement (.encClose p) := Laws.WellFormed_of_packet rfl rfl
theorem Laws.WellFormed.encRate (p : Packet) : Laws.WellFormed.Statement (.encRate p) := Laws.WellFormed_of_packet rfl rfl
theorem Laws.WellFormed.encSearch (p : Packet) : Laws.WellFormed.Statement (.encSearch p) := Laws.WellFormed_of_packet rfl rfl
theorem Laws.WellFormed.bltSurfaceSet (p : Packet) : Laws.WellFormed.Statement (.bltSurfaceSet p) := Laws.WellFormed_of_packet rfl rfl
theorem Laws.WellFormed.bltRun (p : Packet) : Laws.WellFormed.Statement (.bltRun p) := Laws.WellFormed_of_packet rfl rfl
theorem Laws.WellFormed.timeRead (p : Packet) : Laws.WellFormed.Statement (.timeRead p) := Laws.WellFormed_of_packet rfl rfl
theorem Laws.WellFormed.timePortConfig (p : Packet) : Laws.WellFormed.Statement (.timePortConfig p) := Laws.WellFormed_of_packet rfl rfl
theorem Laws.WellFormed.timePtpConfig (p : Packet) : Laws.WellFormed.Statement (.timePtpConfig p) := Laws.WellFormed_of_packet rfl rfl
theorem Laws.WellFormed.timeEvtConfig (p : Packet) : Laws.WellFormed.Statement (.timeEvtConfig p) := Laws.WellFormed_of_packet rfl rfl
theorem Laws.WellFormed.timeSetEt (p : Packet) : Laws.WellFormed.Statement (.timeSetEt p) := Laws.WellFormed_of_packet rfl rfl
theorem Laws.WellFormed.timeRelease (p : Packet) : Laws.WellFormed.Statement (.timeRelease p) := Laws.WellFormed_of_packet rfl rfl
theorem Laws.WellFormed.timeIncrement (p : Packet) : Laws.WellFormed.Statement (.timeIncrement p) := Laws.WellFormed_of_packet rfl rfl
theorem Laws.WellFormed.timeStep (p : Packet) : Laws.WellFormed.Statement (.timeStep p) := Laws.WellFormed_of_packet rfl rfl
theorem Laws.WellFormed.memStatus (p : Packet) : Laws.WellFormed.Statement (.memStatus p) := Laws.WellFormed_of_packet rfl rfl
theorem Laws.WellFormed.memEccRegion (p : Packet) : Laws.WellFormed.Statement (.memEccRegion p) := Laws.WellFormed_of_packet rfl rfl
theorem Laws.WellFormed.memRelease (p : Packet) : Laws.WellFormed.Statement (.memRelease p) := Laws.WellFormed_of_packet rfl rfl
theorem Laws.WellFormed.memRegulator (p : Packet) : Laws.WellFormed.Statement (.memRegulator p) := Laws.WellFormed_of_packet rfl rfl
theorem Laws.WellFormed.memClass (p : Packet) : Laws.WellFormed.Statement (.memClass p) := Laws.WellFormed_of_packet rfl rfl
theorem Laws.WellFormed.memRetrain (p : Packet) : Laws.WellFormed.Statement (.memRetrain p) := Laws.WellFormed_of_packet rfl rfl
theorem Laws.WellFormed.nvmRecordRead (p : Packet) : Laws.WellFormed.Statement (.nvmRecordRead p) := Laws.WellFormed_of_packet rfl rfl
theorem Laws.WellFormed.nvmRecordStore (p : Packet) : Laws.WellFormed.Statement (.nvmRecordStore p) := Laws.WellFormed_of_packet rfl rfl
theorem Laws.WellFormed.nvmRawRead (p : Packet) : Laws.WellFormed.Statement (.nvmRawRead p) := Laws.WellFormed_of_packet rfl rfl
theorem Laws.WellFormed.nvmRawWrite (p : Packet) : Laws.WellFormed.Statement (.nvmRawWrite p) := Laws.WellFormed_of_packet rfl rfl
theorem Laws.WellFormed.nvmStatus (p : Packet) : Laws.WellFormed.Statement (.nvmStatus p) := Laws.WellFormed_of_packet rfl rfl
theorem Laws.WellFormed.nvmRelease (p : Packet) : Laws.WellFormed.Statement (.nvmRelease p) := Laws.WellFormed_of_packet rfl rfl
theorem Laws.WellFormed.nvmRefreshPolicy (p : Packet) : Laws.WellFormed.Statement (.nvmRefreshPolicy p) := Laws.WellFormed_of_packet rfl rfl
theorem Laws.WellFormed.thmRead (p : Packet) : Laws.WellFormed.Statement (.thmRead p) := Laws.WellFormed_of_packet rfl rfl
theorem Laws.WellFormed.thmCalRun (p : Packet) : Laws.WellFormed.Statement (.thmCalRun p) := Laws.WellFormed_of_packet rfl rfl
theorem Laws.WellFormed.thmRelease (p : Packet) : Laws.WellFormed.Statement (.thmRelease p) := Laws.WellFormed_of_packet rfl rfl
theorem Laws.WellFormed.thmLimits (p : Packet) : Laws.WellFormed.Statement (.thmLimits p) := Laws.WellFormed_of_packet rfl rfl
theorem Laws.WellFormed.thmThresholds (p : Packet) : Laws.WellFormed.Statement (.thmThresholds p) := Laws.WellFormed_of_packet rfl rfl
theorem Laws.WellFormed.thmCalPolicy (p : Packet) : Laws.WellFormed.Statement (.thmCalPolicy p) := Laws.WellFormed_of_packet rfl rfl
theorem Laws.WellFormed.evtLogRead (p : Packet) : Laws.WellFormed.Statement (.evtLogRead p) := Laws.WellFormed_of_packet rfl rfl
theorem Laws.WellFormed.evtCounters (p : Packet) : Laws.WellFormed.Statement (.evtCounters p) := Laws.WellFormed_of_packet rfl rfl
theorem Laws.WellFormed.evtMask (p : Packet) : Laws.WellFormed.Statement (.evtMask p) := Laws.WellFormed_of_packet rfl rfl
theorem Laws.WellFormed.evtInject (p : Packet) : Laws.WellFormed.Statement (.evtInject p) := Laws.WellFormed_of_packet rfl rfl
theorem Laws.WellFormed.fwVersion (p : Packet) : Laws.WellFormed.Statement (.fwVersion p) := Laws.WellFormed_of_packet rfl rfl
theorem Laws.WellFormed.fwUpdate (p : Packet) : Laws.WellFormed.Statement (.fwUpdate p) := Laws.WellFormed_of_packet rfl rfl
theorem Laws.WellFormed.fwCertRead (p : Packet) : Laws.WellFormed.Statement (.fwCertRead p) := Laws.WellFormed_of_packet rfl rfl
theorem Laws.WellFormed.fwAttest (p : Packet) : Laws.WellFormed.Statement (.fwAttest p) := Laws.WellFormed_of_packet rfl rfl
theorem Laws.WellFormed.fwDebugUnlock (p : Packet) : Laws.WellFormed.Statement (.fwDebugUnlock p) := Laws.WellFormed_of_packet rfl rfl
theorem Laws.WellFormed.submissionTailDoorbell (f : Func) (n : Fin 16) (value : Word) : Laws.WellFormed.Statement (.submissionTailDoorbell f n value) := Laws.WellFormed_of_none rfl
theorem Laws.WellFormed.completionHeadDoorbell (f : Func) (n : Fin 16) (value : Word) : Laws.WellFormed.Statement (.completionHeadDoorbell f n value) := Laws.WellFormed_of_none rfl
theorem Laws.WellFormed.eventHeadDoorbell (f : Func) (value : Word) : Laws.WellFormed.Statement (.eventHeadDoorbell f value) := Laws.WellFormed_of_none rfl
theorem Laws.WellFormed.ringEnable (f : Func) (k : RingKind) (n : Fin 16) (ctrl : Word) : Laws.WellFormed.Statement (.ringEnable f k n ctrl) := Laws.WellFormed_of_none rfl
theorem Laws.WellFormed.ringDisable (f : Func) (k : RingKind) (n : Fin 16) (ctrl : Word) : Laws.WellFormed.Statement (.ringDisable f k n ctrl) := Laws.WellFormed_of_none rfl
theorem Laws.WellFormed.packetStart (src : Src) : Laws.WellFormed.Statement (.packetStart src) := Laws.WellFormed_of_none rfl
theorem Laws.WellFormed.registerWrite (f : Func) (offset size : Nat) (value : Word) : Laws.WellFormed.Statement (.registerWrite f offset size value) := Laws.WellFormed_of_none rfl
theorem Laws.WellFormed.tripClr (value : Word) : Laws.WellFormed.Statement (.tripClr value) := Laws.WellFormed_of_none rfl
theorem Laws.WellFormed.pfCtrlLevelWrite (value : Word) : Laws.WellFormed.Statement (.pfCtrlLevelWrite value) := Laws.WellFormed_of_none rfl
theorem Laws.WellFormed.bootLenWrite (value : Word) : Laws.WellFormed.Statement (.bootLenWrite value) := Laws.WellFormed_of_none rfl
theorem Laws.WellFormed.wakeReq (value : Word) : Laws.WellFormed.Statement (.wakeReq value) := Laws.WellFormed_of_none rfl
theorem Laws.WellFormed.watchdogControlWrite (value : Word) : Laws.WellFormed.Statement (.watchdogControlWrite value) := Laws.WellFormed_of_none rfl
theorem Laws.WellFormed.kick (value : Word) : Laws.WellFormed.Statement (.kick value) := Laws.WellFormed_of_none rfl
theorem Laws.WellFormed.timeLatchRead : Laws.WellFormed.Statement (.timeLatchRead) := Laws.WellFormed_of_none rfl
theorem Laws.WellFormed.snapshot : Laws.WellFormed.Statement (.snapshot) := Laws.WellFormed_of_none rfl
theorem Laws.WellFormed.supRestart (key : Half) : Laws.WellFormed.Statement (.supRestart key) := Laws.WellFormed_of_none rfl
theorem Laws.WellFormed.panelOff (key : Half) : Laws.WellFormed.Statement (.panelOff key) := Laws.WellFormed_of_none rfl
theorem Laws.WellFormed.deviceReset (key : Half) : Laws.WellFormed.Statement (.deviceReset key) := Laws.WellFormed_of_none rfl
theorem Laws.WellFormed.bar2Read (f : Func) (addr len : Nat) : Laws.WellFormed.Statement (.bar2Read f addr len) := Laws.WellFormed_of_none rfl
theorem Laws.WellFormed.bar2Write (f : Func) (addr : Nat) (bytes : List Byte) : Laws.WellFormed.Statement (.bar2Write f addr bytes) := Laws.WellFormed_of_none rfl
theorem Laws.WellFormed.smbPacketWrite (bytes : List Byte) (pecOk : Bool) : Laws.WellFormed.Statement (.smbPacketWrite bytes pecOk) := Laws.WellFormed_of_none rfl
theorem Laws.WellFormed.smbCompletionRead : Laws.WellFormed.Statement (.smbCompletionRead) := Laws.WellFormed_of_none rfl
theorem Laws.WellFormed.smbEventRead : Laws.WellFormed.Statement (.smbEventRead) := Laws.WellFormed_of_none rfl
theorem Laws.WellFormed.smbStatusRead : Laws.WellFormed.Statement (.smbStatusRead) := Laws.WellFormed_of_none rfl
theorem Laws.WellFormed.smbAlertResponse : Laws.WellFormed.Statement (.smbAlertResponse) := Laws.WellFormed_of_none rfl
theorem Laws.WellFormed.heartbeatTick : Laws.WellFormed.Statement (.heartbeatTick) := Laws.WellFormed_of_none rfl
theorem Laws.WellFormed.watchdogWarn : Laws.WellFormed.Statement (.watchdogWarn) := Laws.WellFormed_of_none rfl
theorem Laws.WellFormed.watchdogExpiry : Laws.WellFormed.Statement (.watchdogExpiry) := Laws.WellFormed_of_none rfl
theorem Laws.WellFormed.datagramReceived (port : Port) (d : Datagram) : Laws.WellFormed.Statement (.datagramReceived port d) := Laws.WellFormed_of_none rfl
theorem Laws.WellFormed.strmSubmitBufferRead (ctx : Fin 4) : Laws.WellFormed.Statement (.strmSubmitBufferRead ctx) := Laws.WellFormed_of_none rfl
theorem Laws.WellFormed.fragmentGapExpiry (ctx : Fin 4) (au : Word) : Laws.WellFormed.Statement (.fragmentGapExpiry ctx au) := Laws.WellFormed_of_none rfl
theorem Laws.WellFormed.stallTimerExpiry (ctx : Fin 4) : Laws.WellFormed.Statement (.stallTimerExpiry ctx) := Laws.WellFormed_of_none rfl
theorem Laws.WellFormed.contextFallsBehind (ctx : Fin 4) : Laws.WellFormed.Statement (.contextFallsBehind ctx) := Laws.WellFormed_of_none rfl
theorem Laws.WellFormed.codecItemStart (core : Fin 12) : Laws.WellFormed.Statement (.codecItemStart core) := Laws.WellFormed_of_none rfl
theorem Laws.WellFormed.partComplete (core : Fin 12) : Laws.WellFormed.Statement (.partComplete core) := Laws.WellFormed_of_none rfl
theorem Laws.WellFormed.syncInEdge (sub : Nat) : Laws.WellFormed.Statement (.syncInEdge sub) := Laws.WellFormed_of_none rfl
theorem Laws.WellFormed.missedEdge : Laws.WellFormed.Statement (.missedEdge) := Laws.WellFormed_of_none rfl
theorem Laws.WellFormed.scheduledInstant : Laws.WellFormed.Statement (.scheduledInstant) := Laws.WellFormed_of_none rfl
theorem Laws.WellFormed.freeRunPeriod : Laws.WellFormed.Statement (.freeRunPeriod) := Laws.WellFormed_of_none rfl
theorem Laws.WellFormed.holdoverExpiry : Laws.WellFormed.Statement (.holdoverExpiry) := Laws.WellFormed_of_none rfl
theorem Laws.WellFormed.dspLockTimeout : Laws.WellFormed.Statement (.dspLockTimeout) := Laws.WellFormed_of_none rfl
theorem Laws.WellFormed.stillStepDown : Laws.WellFormed.Statement (.stillStepDown) := Laws.WellFormed_of_none rfl
theorem Laws.WellFormed.synthesisWindowOpen : Laws.WellFormed.Statement (.synthesisWindowOpen) := Laws.WellFormed_of_none rfl
theorem Laws.WellFormed.rayModelChecksDone : Laws.WellFormed.Statement (.rayModelChecksDone) := Laws.WellFormed_of_none rfl
theorem Laws.WellFormed.tileDispatch (core : Fin 96) : Laws.WellFormed.Statement (.tileDispatch core) := Laws.WellFormed_of_none rfl
theorem Laws.WellFormed.tileSteal (cluster : Fin 4) : Laws.WellFormed.Statement (.tileSteal cluster) := Laws.WellFormed_of_none rfl
theorem Laws.WellFormed.tileCommit (core : Fin 96) (cycles : Nat) : Laws.WellFormed.Statement (.tileCommit core cycles) := Laws.WellFormed_of_none rfl
theorem Laws.WellFormed.qualityRepredict : Laws.WellFormed.Statement (.qualityRepredict) := Laws.WellFormed_of_none rfl
theorem Laws.WellFormed.viewCacheAgePromotion (cluster : Fin 4) : Laws.WellFormed.Statement (.viewCacheAgePromotion cluster) := Laws.WellFormed_of_none rfl
theorem Laws.WellFormed.tileContextAgePromotion (cluster : Fin 4) : Laws.WellFormed.Statement (.tileContextAgePromotion cluster) := Laws.WellFormed_of_none rfl
theorem Laws.WellFormed.encodeRowComplete (core : Fin 12) : Laws.WellFormed.Statement (.encodeRowComplete core) := Laws.WellFormed_of_none rfl
theorem Laws.WellFormed.encRingPoll (session : Fin 4) : Laws.WellFormed.Statement (.encRingPoll session) := Laws.WellFormed_of_none rfl
theorem Laws.WellFormed.signatureComplete : Laws.WellFormed.Statement (.signatureComplete) := Laws.WellFormed_of_none rfl
theorem Laws.WellFormed.flipSurfaceRelease (layer : Fin 8) : Laws.WellFormed.Statement (.flipSurfaceRelease layer) := Laws.WellFormed_of_none rfl
theorem Laws.WellFormed.exportAckReceived (port : Port) (payload : List Byte) : Laws.WellFormed.Statement (.exportAckReceived port payload) := Laws.WellFormed_of_none rfl
theorem Laws.WellFormed.exportResendTimeout : Laws.WellFormed.Statement (.exportResendTimeout) := Laws.WellFormed_of_none rfl
theorem Laws.WellFormed.bltEntryStart (list entry : Nat) : Laws.WellFormed.Statement (.bltEntryStart list entry) := Laws.WellFormed_of_none rfl
theorem Laws.WellFormed.bltEntryComplete (list entry : Nat) : Laws.WellFormed.Statement (.bltEntryComplete list entry) := Laws.WellFormed_of_none rfl
theorem Laws.WellFormed.scanoutLineSlot (wovenNs : Nat) (layerNs : List Nat) : Laws.WellFormed.Statement (.scanoutLineSlot wovenNs layerNs) := Laws.WellFormed_of_none rfl
theorem Laws.WellFormed.panelRailStep (good : Bool) : Laws.WellFormed.Statement (.panelRailStep good) := Laws.WellFormed_of_none rfl
theorem Laws.WellFormed.railFault (rail : Fin 5) (cause : Fin 5) : Laws.WellFormed.Statement (.railFault rail cause) := Laws.WellFormed_of_none rfl
theorem Laws.WellFormed.trainingStep (lockOk : Bool) : Laws.WellFormed.Statement (.trainingStep lockOk) := Laws.WellFormed_of_none rfl
theorem Laws.WellFormed.trainingTimeout : Laws.WellFormed.Statement (.trainingTimeout) := Laws.WellFormed_of_none rfl
theorem Laws.WellFormed.linkLockLoss : Laws.WellFormed.Statement (.linkLockLoss) := Laws.WellFormed_of_none rfl
theorem Laws.WellFormed.laneDeviceFault (lane : Nat) : Laws.WellFormed.Statement (.laneDeviceFault lane) := Laws.WellFormed_of_none rfl
theorem Laws.WellFormed.fastRetrainEnd (ok : Bool) : Laws.WellFormed.Statement (.fastRetrainEnd ok) := Laws.WellFormed_of_none rfl
theorem Laws.WellFormed.dischargeStart : Laws.WellFormed.Statement (.dischargeStart) := Laws.WellFormed_of_none rfl
theorem Laws.WellFormed.dischargeStep : Laws.WellFormed.Statement (.dischargeStep) := Laws.WellFormed_of_none rfl
theorem Laws.WellFormed.powerLossDischargeStart : Laws.WellFormed.Statement (.powerLossDischargeStart) := Laws.WellFormed_of_none rfl
theorem Laws.WellFormed.panelLockout : Laws.WellFormed.Statement (.panelLockout) := Laws.WellFormed_of_none rfl
theorem Laws.WellFormed.panelLockoutRelease : Laws.WellFormed.Statement (.panelLockoutRelease) := Laws.WellFormed_of_none rfl
theorem Laws.WellFormed.retrainPauseDue (ch : Fin 8) : Laws.WellFormed.Statement (.retrainPauseDue ch) := Laws.WellFormed_of_none rfl
theorem Laws.WellFormed.retrainPauseStart (ch : Fin 8) : Laws.WellFormed.Statement (.retrainPauseStart ch) := Laws.WellFormed_of_none rfl
theorem Laws.WellFormed.retrainPauseEnd (ch : Fin 8) : Laws.WellFormed.Statement (.retrainPauseEnd ch) := Laws.WellFormed_of_none rfl
theorem Laws.WellFormed.linkCrcFail (ch : Fin 8) (write : Bool) : Laws.WellFormed.Statement (.linkCrcFail ch write) := Laws.WellFormed_of_none rfl
theorem Laws.WellFormed.errorRetrainStart (ch : Fin 8) : Laws.WellFormed.Statement (.errorRetrainStart ch) := Laws.WellFormed_of_none rfl
theorem Laws.WellFormed.errorRetrainEnd (ch : Fin 8) (ok : Bool) : Laws.WellFormed.Statement (.errorRetrainEnd ch ok) := Laws.WellFormed_of_none rfl
theorem Laws.WellFormed.requestAgeLimit (port : Fin 10) : Laws.WellFormed.Statement (.requestAgeLimit port) := Laws.WellFormed_of_none rfl
theorem Laws.WellFormed.regulatorRecompute (means : List Nat) : Laws.WellFormed.Statement (.regulatorRecompute means) := Laws.WellFormed_of_none rfl
theorem Laws.WellFormed.eccScrubStep : Laws.WellFormed.Statement (.eccScrubStep) := Laws.WellFormed_of_none rfl
theorem Laws.WellFormed.poisonedRead (owner : PoisonOwner) : Laws.WellFormed.Statement (.poisonedRead owner) := Laws.WellFormed_of_none rfl
theorem Laws.WellFormed.nvmPageProgramDone (verifyOk : Bool) : Laws.WellFormed.Statement (.nvmPageProgramDone verifyOk) := Laws.WellFormed_of_none rfl
theorem Laws.WellFormed.marginReadStep (weak : Bool) (corrected bad : Byte) : Laws.WellFormed.Statement (.marginReadStep weak corrected bad) := Laws.WellFormed_of_none rfl
theorem Laws.WellFormed.nvmScanEnd : Laws.WellFormed.Statement (.nvmScanEnd) := Laws.WellFormed_of_none rfl
theorem Laws.WellFormed.sensorSampleCycle (readings : List SensorSample) : Laws.WellFormed.Statement (.sensorSampleCycle readings) := Laws.WellFormed_of_none rfl
theorem Laws.WellFormed.shutdownDeadline : Laws.WellFormed.Statement (.shutdownDeadline) := Laws.WellFormed_of_none rfl
theorem Laws.WellFormed.island0SensorSample (readings : List SensorSample) : Laws.WellFormed.Statement (.island0SensorSample readings) := Laws.WellFormed_of_none rfl
theorem Laws.WellFormed.hardwareTrip (sensor : Fin 40) : Laws.WellFormed.Statement (.hardwareTrip sensor) := Laws.WellFormed_of_none rfl
theorem Laws.WellFormed.ladderStep : Laws.WellFormed.Statement (.ladderStep) := Laws.WellFormed_of_none rfl
theorem Laws.WellFormed.powerLimitTick (pEst : Nat) : Laws.WellFormed.Statement (.powerLimitTick pEst) := Laws.WellFormed_of_none rfl
theorem Laws.WellFormed.calibrationDue (item : Fin 4) : Laws.WellFormed.Statement (.calibrationDue item) := Laws.WellFormed_of_none rfl
theorem Laws.WellFormed.calibrationRunEnd (m : CalMeasure) : Laws.WellFormed.Statement (.calibrationRunEnd m) := Laws.WellFormed_of_none rfl
theorem Laws.WellFormed.avsRegulatorFault (south : Bool) : Laws.WellFormed.Statement (.avsRegulatorFault south) := Laws.WellFormed_of_none rfl
theorem Laws.WellFormed.lockstepMismatch (restartNs : Nat) : Laws.WellFormed.Statement (.lockstepMismatch restartNs) := Laws.WellFormed_of_none rfl
theorem Laws.WellFormed.rayCoreFault (core : Fin 96) : Laws.WellFormed.Statement (.rayCoreFault core) := Laws.WellFormed_of_none rfl
theorem Laws.WellFormed.coreSelfTestEnd (core : Fin 96) (pass : Bool) : Laws.WellFormed.Statement (.coreSelfTestEnd core pass) := Laws.WellFormed_of_none rfl
theorem Laws.WellFormed.fabricFault (cluster : Fin 4) : Laws.WellFormed.Statement (.fabricFault cluster) := Laws.WellFormed_of_none rfl
theorem Laws.WellFormed.codecCoreFault (core : Fin 12) : Laws.WellFormed.Statement (.codecCoreFault core) := Laws.WellFormed_of_none rfl
theorem Laws.WellFormed.islandStall (island : Fin 128) : Laws.WellFormed.Statement (.islandStall island) := Laws.WellFormed_of_none rfl
theorem Laws.WellFormed.dieLinkCrcError : Laws.WellFormed.Statement (.dieLinkCrcError) := Laws.WellFormed_of_none rfl
theorem Laws.WellFormed.frameReceived (port : Port) (f : EthFrame) : Laws.WellFormed.Statement (.frameReceived port f) := Laws.WellFormed_of_none rfl
theorem Laws.WellFormed.ptpSyncReceived (m : PtpSync) : Laws.WellFormed.Statement (.ptpSyncReceived m) := Laws.WellFormed_of_none rfl
theorem Laws.WellFormed.ptpAnnounceReceived (m : PtpAnnounce) : Laws.WellFormed.Statement (.ptpAnnounceReceived m) := Laws.WellFormed_of_none rfl
theorem Laws.WellFormed.delayRespReceived (m : PtpDelayResp) : Laws.WellFormed.Statement (.delayRespReceived m) := Laws.WellFormed_of_none rfl
theorem Laws.WellFormed.delayReqInterval : Laws.WellFormed.Statement (.delayReqInterval) := Laws.WellFormed_of_none rfl
theorem Laws.WellFormed.pdelayReqInterval (port : Port) : Laws.WellFormed.Statement (.pdelayReqInterval port) := Laws.WellFormed_of_none rfl
theorem Laws.WellFormed.ptpSyncTimeout (reason : Fin 3) : Laws.WellFormed.Statement (.ptpSyncTimeout reason) := Laws.WellFormed_of_none rfl
theorem Laws.WellFormed.portLink (port : Port) (up : Bool) : Laws.WellFormed.Statement (.portLink port up) := Laws.WellFormed_of_none rfl
theorem Laws.WellFormed.portModeReady (port : Port) : Laws.WellFormed.Statement (.portModeReady port) := Laws.WellFormed_of_none rfl
theorem Laws.WellFormed.evtInEdge (pin : Fin 4) (rising : Bool) : Laws.WellFormed.Statement (.evtInEdge pin rising) := Laws.WellFormed_of_none rfl
theorem Laws.WellFormed.evtOutPulse (pin : Fin 4) : Laws.WellFormed.Statement (.evtOutPulse pin) := Laws.WellFormed_of_none rfl
theorem Laws.WellFormed.evtOutPulseEnd (pin : Fin 4) : Laws.WellFormed.Statement (.evtOutPulseEnd pin) := Laws.WellFormed_of_none rfl
theorem Laws.WellFormed.ref10mPresenceChange (present : Bool) : Laws.WellFormed.Statement (.ref10mPresenceChange present) := Laws.WellFormed_of_none rfl
theorem Laws.WellFormed.vddAonRise : Laws.WellFormed.Statement (.vddAonRise) := Laws.WellFormed_of_none rfl
theorem Laws.WellFormed.resetNAssert : Laws.WellFormed.Statement (.resetNAssert) := Laws.WellFormed_of_none rfl
theorem Laws.WellFormed.resetNRelease (straps : Straps) : Laws.WellFormed.Statement (.resetNRelease straps) := Laws.WellFormed_of_none rfl
theorem Laws.WellFormed.vsenseReset : Laws.WellFormed.Statement (.vsenseReset) := Laws.WellFormed_of_none rfl
theorem Laws.WellFormed.vsenseResetRelease (straps : Straps) : Laws.WellFormed.Statement (.vsenseResetRelease straps) := Laws.WellFormed_of_none rfl
theorem Laws.WellFormed.memoryTrainingDone (m : MemTraining) : Laws.WellFormed.Statement (.memoryTrainingDone m) := Laws.WellFormed_of_none rfl
theorem Laws.WellFormed.imageCheckDone : Laws.WellFormed.Statement (.imageCheckDone) := Laws.WellFormed_of_none rfl
theorem Laws.WellFormed.commandReady : Laws.WellFormed.Statement (.commandReady) := Laws.WellFormed_of_none rfl
theorem Laws.WellFormed.warningCrossing (vsenseMv : Nat) : Laws.WellFormed.Statement (.warningCrossing vsenseMv) := Laws.WellFormed_of_none rfl
theorem Laws.WellFormed.powerLossSeal : Laws.WellFormed.Statement (.powerLossSeal) := Laws.WellFormed_of_none rfl
theorem Laws.WellFormed.brownout : Laws.WellFormed.Statement (.brownout) := Laws.WellFormed_of_none rfl
theorem Laws.WellFormed.perstNAssert : Laws.WellFormed.Statement (.perstNAssert) := Laws.WellFormed_of_none rfl
theorem Laws.WellFormed.perstNRelease : Laws.WellFormed.Statement (.perstNRelease) := Laws.WellFormed_of_none rfl
theorem Laws.WellFormed.wakeNAssert : Laws.WellFormed.Statement (.wakeNAssert) := Laws.WellFormed_of_none rfl
theorem Laws.WellFormed.pmcsrD0Write : Laws.WellFormed.Statement (.pmcsrD0Write) := Laws.WellFormed_of_none rfl
theorem Laws.WellFormed.duskEntryComplete : Laws.WellFormed.Statement (.duskEntryComplete) := Laws.WellFormed_of_none rfl
theorem Laws.WellFormed.duskExitReady : Laws.WellFormed.Statement (.duskExitReady) := Laws.WellFormed_of_none rfl
theorem Laws.WellFormed.fwUpdateReadbackDone : Laws.WellFormed.Statement (.fwUpdateReadbackDone) := Laws.WellFormed_of_none rfl
theorem Laws.WellFormed.powerFailWarningEnd : Laws.WellFormed.Statement (.powerFailWarningEnd) := Laws.WellFormed_of_none rfl
theorem Laws.WellFormed.functionLevelReset (vf : Fin 8) : Laws.WellFormed.Statement (.functionLevelReset vf) := Laws.WellFormed_of_none rfl
theorem Laws.WellFormed.srIovVfEnable (count : Fin 9) : Laws.WellFormed.Statement (.srIovVfEnable count) := Laws.WellFormed_of_none rfl
theorem Laws.WellFormed.vddAonFall : Laws.WellFormed.Statement (.vddAonFall) := Laws.WellFormed_of_none rfl
theorem Laws.WellFormed.clockStretch (island : Fin 128) (cycles : Nat) : Laws.WellFormed.Statement (.clockStretch island cycles) := Laws.WellFormed_of_none rfl

end Sys2Proof
end

