-- ==== Sys2Proof/Laws/State.lean ====
section
/-!
SUPPORT. One lemma per part of State and named update: the update leaves the part alone. Each cites the frame of its operation.
-/

namespace Sys2Proof.Machine

@[simp] theorem State.updFn_pending (s : State) (f : Func) (g : FnState → FnState) : (s.updFn f g).pending = s.pending :=
  (State.updFn_agree ..).same .pending (by decide)
@[simp] theorem State.updFn_free (s : State) (f : Func) (g : FnState → FnState) : (s.updFn f g).free = s.free :=
  (State.updFn_agree ..).same .free (by decide)
@[simp] theorem State.updFn_hmem (s : State) (f : Func) (g : FnState → FnState) : (s.updFn f g).hmem = s.hmem :=
  (State.updFn_agree ..).same .hmem (by decide)
@[simp] theorem State.updFn_dmem (s : State) (f : Func) (g : FnState → FnState) : (s.updFn f g).dmem = s.dmem :=
  (State.updFn_agree ..).same .dmem (by decide)
@[simp] theorem State.updFn_pwr (s : State) (f : Func) (g : FnState → FnState) : (s.updFn f g).pwr = s.pwr :=
  (State.updFn_agree ..).same .pwr (by decide)
@[simp] theorem State.updFn_regs (s : State) (f : Func) (g : FnState → FnState) : (s.updFn f g).regs = s.regs :=
  (State.updFn_agree ..).same .regs (by decide)
@[simp] theorem State.updFn_cmd (s : State) (f : Func) (g : FnState → FnState) : (s.updFn f g).cmd = s.cmd :=
  (State.updFn_agree ..).same .cmd (by decide)
@[simp] theorem State.updFn_smb (s : State) (f : Func) (g : FnState → FnState) : (s.updFn f g).smb = s.smb :=
  (State.updFn_agree ..).same .smb (by decide)
@[simp] theorem State.updFn_time (s : State) (f : Func) (g : FnState → FnState) : (s.updFn f g).time = s.time :=
  (State.updFn_agree ..).same .time (by decide)
@[simp] theorem State.updFn_net (s : State) (f : Func) (g : FnState → FnState) : (s.updFn f g).net = s.net :=
  (State.updFn_agree ..).same .net (by decide)
@[simp] theorem State.updFn_sup (s : State) (f : Func) (g : FnState → FnState) : (s.updFn f g).sup = s.sup :=
  (State.updFn_agree ..).same .sup (by decide)
@[simp] theorem State.updFn_strm (s : State) (f : Func) (g : FnState → FnState) : (s.updFn f g).strm = s.strm :=
  (State.updFn_agree ..).same .strm (by decide)
@[simp] theorem State.updFn_dec (s : State) (f : Func) (g : FnState → FnState) : (s.updFn f g).dec = s.dec :=
  (State.updFn_agree ..).same .dec (by decide)
@[simp] theorem State.updFn_ray (s : State) (f : Func) (g : FnState → FnState) : (s.updFn f g).ray = s.ray :=
  (State.updFn_agree ..).same .ray (by decide)
@[simp] theorem State.updFn_cmp (s : State) (f : Func) (g : FnState → FnState) : (s.updFn f g).cmp = s.cmp :=
  (State.updFn_agree ..).same .cmp (by decide)
@[simp] theorem State.updFn_blt (s : State) (f : Func) (g : FnState → FnState) : (s.updFn f g).blt = s.blt :=
  (State.updFn_agree ..).same .blt (by decide)
@[simp] theorem State.updFn_wit (s : State) (f : Func) (g : FnState → FnState) : (s.updFn f g).wit = s.wit :=
  (State.updFn_agree ..).same .wit (by decide)
@[simp] theorem State.updFn_enc (s : State) (f : Func) (g : FnState → FnState) : (s.updFn f g).enc = s.enc :=
  (State.updFn_agree ..).same .enc (by decide)
@[simp] theorem State.updFn_chain (s : State) (f : Func) (g : FnState → FnState) : (s.updFn f g).chain = s.chain :=
  (State.updFn_agree ..).same .chain (by decide)
@[simp] theorem State.updFn_dsp (s : State) (f : Func) (g : FnState → FnState) : (s.updFn f g).dsp = s.dsp :=
  (State.updFn_agree ..).same .dsp (by decide)
@[simp] theorem State.updFn_pnl (s : State) (f : Func) (g : FnState → FnState) : (s.updFn f g).pnl = s.pnl :=
  (State.updFn_agree ..).same .pnl (by decide)
@[simp] theorem State.updFn_nvm (s : State) (f : Func) (g : FnState → FnState) : (s.updFn f g).nvm = s.nvm :=
  (State.updFn_agree ..).same .nvm (by decide)
@[simp] theorem State.updFn_fw (s : State) (f : Func) (g : FnState → FnState) : (s.updFn f g).fw = s.fw :=
  (State.updFn_agree ..).same .fw (by decide)
@[simp] theorem State.updFn_thm (s : State) (f : Func) (g : FnState → FnState) : (s.updFn f g).thm = s.thm :=
  (State.updFn_agree ..).same .thm (by decide)
@[simp] theorem State.updFn_memc (s : State) (f : Func) (g : FnState → FnState) : (s.updFn f g).memc = s.memc :=
  (State.updFn_agree ..).same .memc (by decide)

@[simp] theorem State.updSub_pending (s : State) (f : Func) (n : Nat) (g : SubRing → SubRing) : (s.updSub f n g).pending = s.pending :=
  (State.updSub_agree ..).same .pending (by decide)
@[simp] theorem State.updSub_free (s : State) (f : Func) (n : Nat) (g : SubRing → SubRing) : (s.updSub f n g).free = s.free :=
  (State.updSub_agree ..).same .free (by decide)
@[simp] theorem State.updSub_hmem (s : State) (f : Func) (n : Nat) (g : SubRing → SubRing) : (s.updSub f n g).hmem = s.hmem :=
  (State.updSub_agree ..).same .hmem (by decide)
@[simp] theorem State.updSub_dmem (s : State) (f : Func) (n : Nat) (g : SubRing → SubRing) : (s.updSub f n g).dmem = s.dmem :=
  (State.updSub_agree ..).same .dmem (by decide)
@[simp] theorem State.updSub_pwr (s : State) (f : Func) (n : Nat) (g : SubRing → SubRing) : (s.updSub f n g).pwr = s.pwr :=
  (State.updSub_agree ..).same .pwr (by decide)
@[simp] theorem State.updSub_regs (s : State) (f : Func) (n : Nat) (g : SubRing → SubRing) : (s.updSub f n g).regs = s.regs :=
  (State.updSub_agree ..).same .regs (by decide)
@[simp] theorem State.updSub_cmd (s : State) (f : Func) (n : Nat) (g : SubRing → SubRing) : (s.updSub f n g).cmd = s.cmd :=
  (State.updSub_agree ..).same .cmd (by decide)
@[simp] theorem State.updSub_smb (s : State) (f : Func) (n : Nat) (g : SubRing → SubRing) : (s.updSub f n g).smb = s.smb :=
  (State.updSub_agree ..).same .smb (by decide)
@[simp] theorem State.updSub_time (s : State) (f : Func) (n : Nat) (g : SubRing → SubRing) : (s.updSub f n g).time = s.time :=
  (State.updSub_agree ..).same .time (by decide)
@[simp] theorem State.updSub_net (s : State) (f : Func) (n : Nat) (g : SubRing → SubRing) : (s.updSub f n g).net = s.net :=
  (State.updSub_agree ..).same .net (by decide)
@[simp] theorem State.updSub_sup (s : State) (f : Func) (n : Nat) (g : SubRing → SubRing) : (s.updSub f n g).sup = s.sup :=
  (State.updSub_agree ..).same .sup (by decide)
@[simp] theorem State.updSub_strm (s : State) (f : Func) (n : Nat) (g : SubRing → SubRing) : (s.updSub f n g).strm = s.strm :=
  (State.updSub_agree ..).same .strm (by decide)
@[simp] theorem State.updSub_dec (s : State) (f : Func) (n : Nat) (g : SubRing → SubRing) : (s.updSub f n g).dec = s.dec :=
  (State.updSub_agree ..).same .dec (by decide)
@[simp] theorem State.updSub_ray (s : State) (f : Func) (n : Nat) (g : SubRing → SubRing) : (s.updSub f n g).ray = s.ray :=
  (State.updSub_agree ..).same .ray (by decide)
@[simp] theorem State.updSub_cmp (s : State) (f : Func) (n : Nat) (g : SubRing → SubRing) : (s.updSub f n g).cmp = s.cmp :=
  (State.updSub_agree ..).same .cmp (by decide)
@[simp] theorem State.updSub_blt (s : State) (f : Func) (n : Nat) (g : SubRing → SubRing) : (s.updSub f n g).blt = s.blt :=
  (State.updSub_agree ..).same .blt (by decide)
@[simp] theorem State.updSub_wit (s : State) (f : Func) (n : Nat) (g : SubRing → SubRing) : (s.updSub f n g).wit = s.wit :=
  (State.updSub_agree ..).same .wit (by decide)
@[simp] theorem State.updSub_enc (s : State) (f : Func) (n : Nat) (g : SubRing → SubRing) : (s.updSub f n g).enc = s.enc :=
  (State.updSub_agree ..).same .enc (by decide)
@[simp] theorem State.updSub_chain (s : State) (f : Func) (n : Nat) (g : SubRing → SubRing) : (s.updSub f n g).chain = s.chain :=
  (State.updSub_agree ..).same .chain (by decide)
@[simp] theorem State.updSub_dsp (s : State) (f : Func) (n : Nat) (g : SubRing → SubRing) : (s.updSub f n g).dsp = s.dsp :=
  (State.updSub_agree ..).same .dsp (by decide)
@[simp] theorem State.updSub_pnl (s : State) (f : Func) (n : Nat) (g : SubRing → SubRing) : (s.updSub f n g).pnl = s.pnl :=
  (State.updSub_agree ..).same .pnl (by decide)
@[simp] theorem State.updSub_nvm (s : State) (f : Func) (n : Nat) (g : SubRing → SubRing) : (s.updSub f n g).nvm = s.nvm :=
  (State.updSub_agree ..).same .nvm (by decide)
@[simp] theorem State.updSub_fw (s : State) (f : Func) (n : Nat) (g : SubRing → SubRing) : (s.updSub f n g).fw = s.fw :=
  (State.updSub_agree ..).same .fw (by decide)
@[simp] theorem State.updSub_thm (s : State) (f : Func) (n : Nat) (g : SubRing → SubRing) : (s.updSub f n g).thm = s.thm :=
  (State.updSub_agree ..).same .thm (by decide)
@[simp] theorem State.updSub_memc (s : State) (f : Func) (n : Nat) (g : SubRing → SubRing) : (s.updSub f n g).memc = s.memc :=
  (State.updSub_agree ..).same .memc (by decide)

@[simp] theorem State.updCpl_pending (s : State) (f : Func) (n : Nat) (g : CplRing → CplRing) : (s.updCpl f n g).pending = s.pending :=
  (State.updCpl_agree ..).same .pending (by decide)
@[simp] theorem State.updCpl_free (s : State) (f : Func) (n : Nat) (g : CplRing → CplRing) : (s.updCpl f n g).free = s.free :=
  (State.updCpl_agree ..).same .free (by decide)
@[simp] theorem State.updCpl_hmem (s : State) (f : Func) (n : Nat) (g : CplRing → CplRing) : (s.updCpl f n g).hmem = s.hmem :=
  (State.updCpl_agree ..).same .hmem (by decide)
@[simp] theorem State.updCpl_dmem (s : State) (f : Func) (n : Nat) (g : CplRing → CplRing) : (s.updCpl f n g).dmem = s.dmem :=
  (State.updCpl_agree ..).same .dmem (by decide)
@[simp] theorem State.updCpl_pwr (s : State) (f : Func) (n : Nat) (g : CplRing → CplRing) : (s.updCpl f n g).pwr = s.pwr :=
  (State.updCpl_agree ..).same .pwr (by decide)
@[simp] theorem State.updCpl_regs (s : State) (f : Func) (n : Nat) (g : CplRing → CplRing) : (s.updCpl f n g).regs = s.regs :=
  (State.updCpl_agree ..).same .regs (by decide)
@[simp] theorem State.updCpl_cmd (s : State) (f : Func) (n : Nat) (g : CplRing → CplRing) : (s.updCpl f n g).cmd = s.cmd :=
  (State.updCpl_agree ..).same .cmd (by decide)
@[simp] theorem State.updCpl_smb (s : State) (f : Func) (n : Nat) (g : CplRing → CplRing) : (s.updCpl f n g).smb = s.smb :=
  (State.updCpl_agree ..).same .smb (by decide)
@[simp] theorem State.updCpl_time (s : State) (f : Func) (n : Nat) (g : CplRing → CplRing) : (s.updCpl f n g).time = s.time :=
  (State.updCpl_agree ..).same .time (by decide)
@[simp] theorem State.updCpl_net (s : State) (f : Func) (n : Nat) (g : CplRing → CplRing) : (s.updCpl f n g).net = s.net :=
  (State.updCpl_agree ..).same .net (by decide)
@[simp] theorem State.updCpl_sup (s : State) (f : Func) (n : Nat) (g : CplRing → CplRing) : (s.updCpl f n g).sup = s.sup :=
  (State.updCpl_agree ..).same .sup (by decide)
@[simp] theorem State.updCpl_strm (s : State) (f : Func) (n : Nat) (g : CplRing → CplRing) : (s.updCpl f n g).strm = s.strm :=
  (State.updCpl_agree ..).same .strm (by decide)
@[simp] theorem State.updCpl_dec (s : State) (f : Func) (n : Nat) (g : CplRing → CplRing) : (s.updCpl f n g).dec = s.dec :=
  (State.updCpl_agree ..).same .dec (by decide)
@[simp] theorem State.updCpl_ray (s : State) (f : Func) (n : Nat) (g : CplRing → CplRing) : (s.updCpl f n g).ray = s.ray :=
  (State.updCpl_agree ..).same .ray (by decide)
@[simp] theorem State.updCpl_cmp (s : State) (f : Func) (n : Nat) (g : CplRing → CplRing) : (s.updCpl f n g).cmp = s.cmp :=
  (State.updCpl_agree ..).same .cmp (by decide)
@[simp] theorem State.updCpl_blt (s : State) (f : Func) (n : Nat) (g : CplRing → CplRing) : (s.updCpl f n g).blt = s.blt :=
  (State.updCpl_agree ..).same .blt (by decide)
@[simp] theorem State.updCpl_wit (s : State) (f : Func) (n : Nat) (g : CplRing → CplRing) : (s.updCpl f n g).wit = s.wit :=
  (State.updCpl_agree ..).same .wit (by decide)
@[simp] theorem State.updCpl_enc (s : State) (f : Func) (n : Nat) (g : CplRing → CplRing) : (s.updCpl f n g).enc = s.enc :=
  (State.updCpl_agree ..).same .enc (by decide)
@[simp] theorem State.updCpl_chain (s : State) (f : Func) (n : Nat) (g : CplRing → CplRing) : (s.updCpl f n g).chain = s.chain :=
  (State.updCpl_agree ..).same .chain (by decide)
@[simp] theorem State.updCpl_dsp (s : State) (f : Func) (n : Nat) (g : CplRing → CplRing) : (s.updCpl f n g).dsp = s.dsp :=
  (State.updCpl_agree ..).same .dsp (by decide)
@[simp] theorem State.updCpl_pnl (s : State) (f : Func) (n : Nat) (g : CplRing → CplRing) : (s.updCpl f n g).pnl = s.pnl :=
  (State.updCpl_agree ..).same .pnl (by decide)
@[simp] theorem State.updCpl_nvm (s : State) (f : Func) (n : Nat) (g : CplRing → CplRing) : (s.updCpl f n g).nvm = s.nvm :=
  (State.updCpl_agree ..).same .nvm (by decide)
@[simp] theorem State.updCpl_fw (s : State) (f : Func) (n : Nat) (g : CplRing → CplRing) : (s.updCpl f n g).fw = s.fw :=
  (State.updCpl_agree ..).same .fw (by decide)
@[simp] theorem State.updCpl_thm (s : State) (f : Func) (n : Nat) (g : CplRing → CplRing) : (s.updCpl f n g).thm = s.thm :=
  (State.updCpl_agree ..).same .thm (by decide)
@[simp] theorem State.updCpl_memc (s : State) (f : Func) (n : Nat) (g : CplRing → CplRing) : (s.updCpl f n g).memc = s.memc :=
  (State.updCpl_agree ..).same .memc (by decide)

@[simp] theorem State.updEvt_pending (s : State) (f : Func) (g : EvtRing → EvtRing) : (s.updEvt f g).pending = s.pending :=
  (State.updEvt_agree ..).same .pending (by decide)
@[simp] theorem State.updEvt_free (s : State) (f : Func) (g : EvtRing → EvtRing) : (s.updEvt f g).free = s.free :=
  (State.updEvt_agree ..).same .free (by decide)
@[simp] theorem State.updEvt_hmem (s : State) (f : Func) (g : EvtRing → EvtRing) : (s.updEvt f g).hmem = s.hmem :=
  (State.updEvt_agree ..).same .hmem (by decide)
@[simp] theorem State.updEvt_dmem (s : State) (f : Func) (g : EvtRing → EvtRing) : (s.updEvt f g).dmem = s.dmem :=
  (State.updEvt_agree ..).same .dmem (by decide)
@[simp] theorem State.updEvt_pwr (s : State) (f : Func) (g : EvtRing → EvtRing) : (s.updEvt f g).pwr = s.pwr :=
  (State.updEvt_agree ..).same .pwr (by decide)
@[simp] theorem State.updEvt_regs (s : State) (f : Func) (g : EvtRing → EvtRing) : (s.updEvt f g).regs = s.regs :=
  (State.updEvt_agree ..).same .regs (by decide)
@[simp] theorem State.updEvt_cmd (s : State) (f : Func) (g : EvtRing → EvtRing) : (s.updEvt f g).cmd = s.cmd :=
  (State.updEvt_agree ..).same .cmd (by decide)
@[simp] theorem State.updEvt_smb (s : State) (f : Func) (g : EvtRing → EvtRing) : (s.updEvt f g).smb = s.smb :=
  (State.updEvt_agree ..).same .smb (by decide)
@[simp] theorem State.updEvt_time (s : State) (f : Func) (g : EvtRing → EvtRing) : (s.updEvt f g).time = s.time :=
  (State.updEvt_agree ..).same .time (by decide)
@[simp] theorem State.updEvt_net (s : State) (f : Func) (g : EvtRing → EvtRing) : (s.updEvt f g).net = s.net :=
  (State.updEvt_agree ..).same .net (by decide)
@[simp] theorem State.updEvt_sup (s : State) (f : Func) (g : EvtRing → EvtRing) : (s.updEvt f g).sup = s.sup :=
  (State.updEvt_agree ..).same .sup (by decide)
@[simp] theorem State.updEvt_strm (s : State) (f : Func) (g : EvtRing → EvtRing) : (s.updEvt f g).strm = s.strm :=
  (State.updEvt_agree ..).same .strm (by decide)
@[simp] theorem State.updEvt_dec (s : State) (f : Func) (g : EvtRing → EvtRing) : (s.updEvt f g).dec = s.dec :=
  (State.updEvt_agree ..).same .dec (by decide)
@[simp] theorem State.updEvt_ray (s : State) (f : Func) (g : EvtRing → EvtRing) : (s.updEvt f g).ray = s.ray :=
  (State.updEvt_agree ..).same .ray (by decide)
@[simp] theorem State.updEvt_cmp (s : State) (f : Func) (g : EvtRing → EvtRing) : (s.updEvt f g).cmp = s.cmp :=
  (State.updEvt_agree ..).same .cmp (by decide)
@[simp] theorem State.updEvt_blt (s : State) (f : Func) (g : EvtRing → EvtRing) : (s.updEvt f g).blt = s.blt :=
  (State.updEvt_agree ..).same .blt (by decide)
@[simp] theorem State.updEvt_wit (s : State) (f : Func) (g : EvtRing → EvtRing) : (s.updEvt f g).wit = s.wit :=
  (State.updEvt_agree ..).same .wit (by decide)
@[simp] theorem State.updEvt_enc (s : State) (f : Func) (g : EvtRing → EvtRing) : (s.updEvt f g).enc = s.enc :=
  (State.updEvt_agree ..).same .enc (by decide)
@[simp] theorem State.updEvt_chain (s : State) (f : Func) (g : EvtRing → EvtRing) : (s.updEvt f g).chain = s.chain :=
  (State.updEvt_agree ..).same .chain (by decide)
@[simp] theorem State.updEvt_dsp (s : State) (f : Func) (g : EvtRing → EvtRing) : (s.updEvt f g).dsp = s.dsp :=
  (State.updEvt_agree ..).same .dsp (by decide)
@[simp] theorem State.updEvt_pnl (s : State) (f : Func) (g : EvtRing → EvtRing) : (s.updEvt f g).pnl = s.pnl :=
  (State.updEvt_agree ..).same .pnl (by decide)
@[simp] theorem State.updEvt_nvm (s : State) (f : Func) (g : EvtRing → EvtRing) : (s.updEvt f g).nvm = s.nvm :=
  (State.updEvt_agree ..).same .nvm (by decide)
@[simp] theorem State.updEvt_fw (s : State) (f : Func) (g : EvtRing → EvtRing) : (s.updEvt f g).fw = s.fw :=
  (State.updEvt_agree ..).same .fw (by decide)
@[simp] theorem State.updEvt_thm (s : State) (f : Func) (g : EvtRing → EvtRing) : (s.updEvt f g).thm = s.thm :=
  (State.updEvt_agree ..).same .thm (by decide)
@[simp] theorem State.updEvt_memc (s : State) (f : Func) (g : EvtRing → EvtRing) : (s.updEvt f g).memc = s.memc :=
  (State.updEvt_agree ..).same .memc (by decide)

@[simp] theorem State.raiseVector_pending (s : State) (f : Func) (v : Nat) : (s.raiseVector f v).pending = s.pending :=
  (State.raiseVector_agree ..).same .pending (by decide)
@[simp] theorem State.raiseVector_free (s : State) (f : Func) (v : Nat) : (s.raiseVector f v).free = s.free :=
  (State.raiseVector_agree ..).same .free (by decide)
@[simp] theorem State.raiseVector_hmem (s : State) (f : Func) (v : Nat) : (s.raiseVector f v).hmem = s.hmem :=
  (State.raiseVector_agree ..).same .hmem (by decide)
@[simp] theorem State.raiseVector_dmem (s : State) (f : Func) (v : Nat) : (s.raiseVector f v).dmem = s.dmem :=
  (State.raiseVector_agree ..).same .dmem (by decide)
@[simp] theorem State.raiseVector_pwr (s : State) (f : Func) (v : Nat) : (s.raiseVector f v).pwr = s.pwr :=
  (State.raiseVector_agree ..).same .pwr (by decide)
@[simp] theorem State.raiseVector_regs (s : State) (f : Func) (v : Nat) : (s.raiseVector f v).regs = s.regs :=
  (State.raiseVector_agree ..).same .regs (by decide)
@[simp] theorem State.raiseVector_cmd (s : State) (f : Func) (v : Nat) : (s.raiseVector f v).cmd = s.cmd :=
  (State.raiseVector_agree ..).same .cmd (by decide)
@[simp] theorem State.raiseVector_smb (s : State) (f : Func) (v : Nat) : (s.raiseVector f v).smb = s.smb :=
  (State.raiseVector_agree ..).same .smb (by decide)
@[simp] theorem State.raiseVector_time (s : State) (f : Func) (v : Nat) : (s.raiseVector f v).time = s.time :=
  (State.raiseVector_agree ..).same .time (by decide)
@[simp] theorem State.raiseVector_net (s : State) (f : Func) (v : Nat) : (s.raiseVector f v).net = s.net :=
  (State.raiseVector_agree ..).same .net (by decide)
@[simp] theorem State.raiseVector_sup (s : State) (f : Func) (v : Nat) : (s.raiseVector f v).sup = s.sup :=
  (State.raiseVector_agree ..).same .sup (by decide)
@[simp] theorem State.raiseVector_strm (s : State) (f : Func) (v : Nat) : (s.raiseVector f v).strm = s.strm :=
  (State.raiseVector_agree ..).same .strm (by decide)
@[simp] theorem State.raiseVector_dec (s : State) (f : Func) (v : Nat) : (s.raiseVector f v).dec = s.dec :=
  (State.raiseVector_agree ..).same .dec (by decide)
@[simp] theorem State.raiseVector_ray (s : State) (f : Func) (v : Nat) : (s.raiseVector f v).ray = s.ray :=
  (State.raiseVector_agree ..).same .ray (by decide)
@[simp] theorem State.raiseVector_cmp (s : State) (f : Func) (v : Nat) : (s.raiseVector f v).cmp = s.cmp :=
  (State.raiseVector_agree ..).same .cmp (by decide)
@[simp] theorem State.raiseVector_blt (s : State) (f : Func) (v : Nat) : (s.raiseVector f v).blt = s.blt :=
  (State.raiseVector_agree ..).same .blt (by decide)
@[simp] theorem State.raiseVector_wit (s : State) (f : Func) (v : Nat) : (s.raiseVector f v).wit = s.wit :=
  (State.raiseVector_agree ..).same .wit (by decide)
@[simp] theorem State.raiseVector_enc (s : State) (f : Func) (v : Nat) : (s.raiseVector f v).enc = s.enc :=
  (State.raiseVector_agree ..).same .enc (by decide)
@[simp] theorem State.raiseVector_chain (s : State) (f : Func) (v : Nat) : (s.raiseVector f v).chain = s.chain :=
  (State.raiseVector_agree ..).same .chain (by decide)
@[simp] theorem State.raiseVector_dsp (s : State) (f : Func) (v : Nat) : (s.raiseVector f v).dsp = s.dsp :=
  (State.raiseVector_agree ..).same .dsp (by decide)
@[simp] theorem State.raiseVector_pnl (s : State) (f : Func) (v : Nat) : (s.raiseVector f v).pnl = s.pnl :=
  (State.raiseVector_agree ..).same .pnl (by decide)
@[simp] theorem State.raiseVector_nvm (s : State) (f : Func) (v : Nat) : (s.raiseVector f v).nvm = s.nvm :=
  (State.raiseVector_agree ..).same .nvm (by decide)
@[simp] theorem State.raiseVector_fw (s : State) (f : Func) (v : Nat) : (s.raiseVector f v).fw = s.fw :=
  (State.raiseVector_agree ..).same .fw (by decide)
@[simp] theorem State.raiseVector_thm (s : State) (f : Func) (v : Nat) : (s.raiseVector f v).thm = s.thm :=
  (State.raiseVector_agree ..).same .thm (by decide)
@[simp] theorem State.raiseVector_memc (s : State) (f : Func) (v : Nat) : (s.raiseVector f v).memc = s.memc :=
  (State.raiseVector_agree ..).same .memc (by decide)

@[simp] theorem State.writeAt_pending (s : State) (l : Loc) (bs : List Byte) : (s.writeAt l bs).pending = s.pending :=
  (State.writeAt_agree ..).same .pending (by decide)
@[simp] theorem State.writeAt_free (s : State) (l : Loc) (bs : List Byte) : (s.writeAt l bs).free = s.free :=
  (State.writeAt_agree ..).same .free (by decide)
@[simp] theorem State.writeAt_pwr (s : State) (l : Loc) (bs : List Byte) : (s.writeAt l bs).pwr = s.pwr :=
  (State.writeAt_agree ..).same .pwr (by decide)
@[simp] theorem State.writeAt_regs (s : State) (l : Loc) (bs : List Byte) : (s.writeAt l bs).regs = s.regs :=
  (State.writeAt_agree ..).same .regs (by decide)
@[simp] theorem State.writeAt_fns (s : State) (l : Loc) (bs : List Byte) : (s.writeAt l bs).fns = s.fns :=
  (State.writeAt_agree ..).same .fns (by decide)
@[simp] theorem State.writeAt_cmd (s : State) (l : Loc) (bs : List Byte) : (s.writeAt l bs).cmd = s.cmd :=
  (State.writeAt_agree ..).same .cmd (by decide)
@[simp] theorem State.writeAt_smb (s : State) (l : Loc) (bs : List Byte) : (s.writeAt l bs).smb = s.smb :=
  (State.writeAt_agree ..).same .smb (by decide)
@[simp] theorem State.writeAt_time (s : State) (l : Loc) (bs : List Byte) : (s.writeAt l bs).time = s.time :=
  (State.writeAt_agree ..).same .time (by decide)
@[simp] theorem State.writeAt_net (s : State) (l : Loc) (bs : List Byte) : (s.writeAt l bs).net = s.net :=
  (State.writeAt_agree ..).same .net (by decide)
@[simp] theorem State.writeAt_sup (s : State) (l : Loc) (bs : List Byte) : (s.writeAt l bs).sup = s.sup :=
  (State.writeAt_agree ..).same .sup (by decide)
@[simp] theorem State.writeAt_strm (s : State) (l : Loc) (bs : List Byte) : (s.writeAt l bs).strm = s.strm :=
  (State.writeAt_agree ..).same .strm (by decide)
@[simp] theorem State.writeAt_dec (s : State) (l : Loc) (bs : List Byte) : (s.writeAt l bs).dec = s.dec :=
  (State.writeAt_agree ..).same .dec (by decide)
@[simp] theorem State.writeAt_ray (s : State) (l : Loc) (bs : List Byte) : (s.writeAt l bs).ray = s.ray :=
  (State.writeAt_agree ..).same .ray (by decide)
@[simp] theorem State.writeAt_cmp (s : State) (l : Loc) (bs : List Byte) : (s.writeAt l bs).cmp = s.cmp :=
  (State.writeAt_agree ..).same .cmp (by decide)
@[simp] theorem State.writeAt_blt (s : State) (l : Loc) (bs : List Byte) : (s.writeAt l bs).blt = s.blt :=
  (State.writeAt_agree ..).same .blt (by decide)
@[simp] theorem State.writeAt_wit (s : State) (l : Loc) (bs : List Byte) : (s.writeAt l bs).wit = s.wit :=
  (State.writeAt_agree ..).same .wit (by decide)
@[simp] theorem State.writeAt_enc (s : State) (l : Loc) (bs : List Byte) : (s.writeAt l bs).enc = s.enc :=
  (State.writeAt_agree ..).same .enc (by decide)
@[simp] theorem State.writeAt_chain (s : State) (l : Loc) (bs : List Byte) : (s.writeAt l bs).chain = s.chain :=
  (State.writeAt_agree ..).same .chain (by decide)
@[simp] theorem State.writeAt_dsp (s : State) (l : Loc) (bs : List Byte) : (s.writeAt l bs).dsp = s.dsp :=
  (State.writeAt_agree ..).same .dsp (by decide)
@[simp] theorem State.writeAt_pnl (s : State) (l : Loc) (bs : List Byte) : (s.writeAt l bs).pnl = s.pnl :=
  (State.writeAt_agree ..).same .pnl (by decide)
@[simp] theorem State.writeAt_nvm (s : State) (l : Loc) (bs : List Byte) : (s.writeAt l bs).nvm = s.nvm :=
  (State.writeAt_agree ..).same .nvm (by decide)
@[simp] theorem State.writeAt_fw (s : State) (l : Loc) (bs : List Byte) : (s.writeAt l bs).fw = s.fw :=
  (State.writeAt_agree ..).same .fw (by decide)
@[simp] theorem State.writeAt_thm (s : State) (l : Loc) (bs : List Byte) : (s.writeAt l bs).thm = s.thm :=
  (State.writeAt_agree ..).same .thm (by decide)
@[simp] theorem State.writeAt_memc (s : State) (l : Loc) (bs : List Byte) : (s.writeAt l bs).memc = s.memc :=
  (State.writeAt_agree ..).same .memc (by decide)

@[simp] theorem State.raiseCause_pending (s : State) (b : Nat) : (s.raiseCause b).pending = s.pending :=
  (State.raiseCause_agree ..).same .pending (by decide)
@[simp] theorem State.raiseCause_free (s : State) (b : Nat) : (s.raiseCause b).free = s.free :=
  (State.raiseCause_agree ..).same .free (by decide)
@[simp] theorem State.raiseCause_hmem (s : State) (b : Nat) : (s.raiseCause b).hmem = s.hmem :=
  (State.raiseCause_agree ..).same .hmem (by decide)
@[simp] theorem State.raiseCause_dmem (s : State) (b : Nat) : (s.raiseCause b).dmem = s.dmem :=
  (State.raiseCause_agree ..).same .dmem (by decide)
@[simp] theorem State.raiseCause_pwr (s : State) (b : Nat) : (s.raiseCause b).pwr = s.pwr :=
  (State.raiseCause_agree ..).same .pwr (by decide)
@[simp] theorem State.raiseCause_cmd (s : State) (b : Nat) : (s.raiseCause b).cmd = s.cmd :=
  (State.raiseCause_agree ..).same .cmd (by decide)
@[simp] theorem State.raiseCause_smb (s : State) (b : Nat) : (s.raiseCause b).smb = s.smb :=
  (State.raiseCause_agree ..).same .smb (by decide)
@[simp] theorem State.raiseCause_time (s : State) (b : Nat) : (s.raiseCause b).time = s.time :=
  (State.raiseCause_agree ..).same .time (by decide)
@[simp] theorem State.raiseCause_net (s : State) (b : Nat) : (s.raiseCause b).net = s.net :=
  (State.raiseCause_agree ..).same .net (by decide)
@[simp] theorem State.raiseCause_sup (s : State) (b : Nat) : (s.raiseCause b).sup = s.sup :=
  (State.raiseCause_agree ..).same .sup (by decide)
@[simp] theorem State.raiseCause_strm (s : State) (b : Nat) : (s.raiseCause b).strm = s.strm :=
  (State.raiseCause_agree ..).same .strm (by decide)
@[simp] theorem State.raiseCause_dec (s : State) (b : Nat) : (s.raiseCause b).dec = s.dec :=
  (State.raiseCause_agree ..).same .dec (by decide)
@[simp] theorem State.raiseCause_ray (s : State) (b : Nat) : (s.raiseCause b).ray = s.ray :=
  (State.raiseCause_agree ..).same .ray (by decide)
@[simp] theorem State.raiseCause_cmp (s : State) (b : Nat) : (s.raiseCause b).cmp = s.cmp :=
  (State.raiseCause_agree ..).same .cmp (by decide)
@[simp] theorem State.raiseCause_blt (s : State) (b : Nat) : (s.raiseCause b).blt = s.blt :=
  (State.raiseCause_agree ..).same .blt (by decide)
@[simp] theorem State.raiseCause_wit (s : State) (b : Nat) : (s.raiseCause b).wit = s.wit :=
  (State.raiseCause_agree ..).same .wit (by decide)
@[simp] theorem State.raiseCause_enc (s : State) (b : Nat) : (s.raiseCause b).enc = s.enc :=
  (State.raiseCause_agree ..).same .enc (by decide)
@[simp] theorem State.raiseCause_chain (s : State) (b : Nat) : (s.raiseCause b).chain = s.chain :=
  (State.raiseCause_agree ..).same .chain (by decide)
@[simp] theorem State.raiseCause_dsp (s : State) (b : Nat) : (s.raiseCause b).dsp = s.dsp :=
  (State.raiseCause_agree ..).same .dsp (by decide)
@[simp] theorem State.raiseCause_pnl (s : State) (b : Nat) : (s.raiseCause b).pnl = s.pnl :=
  (State.raiseCause_agree ..).same .pnl (by decide)
@[simp] theorem State.raiseCause_nvm (s : State) (b : Nat) : (s.raiseCause b).nvm = s.nvm :=
  (State.raiseCause_agree ..).same .nvm (by decide)
@[simp] theorem State.raiseCause_fw (s : State) (b : Nat) : (s.raiseCause b).fw = s.fw :=
  (State.raiseCause_agree ..).same .fw (by decide)
@[simp] theorem State.raiseCause_thm (s : State) (b : Nat) : (s.raiseCause b).thm = s.thm :=
  (State.raiseCause_agree ..).same .thm (by decide)
@[simp] theorem State.raiseCause_memc (s : State) (b : Nat) : (s.raiseCause b).memc = s.memc :=
  (State.raiseCause_agree ..).same .memc (by decide)

@[simp] theorem State.writeCompletion_pending (s : State) (f : Func) (n : Nat) (r : CplRing) (c : Completion) : (s.writeCompletion f n r c).pending = s.pending :=
  (State.writeCompletion_agree ..).same .pending (by decide)
@[simp] theorem State.writeCompletion_free (s : State) (f : Func) (n : Nat) (r : CplRing) (c : Completion) : (s.writeCompletion f n r c).free = s.free :=
  (State.writeCompletion_agree ..).same .free (by decide)
@[simp] theorem State.writeCompletion_pwr (s : State) (f : Func) (n : Nat) (r : CplRing) (c : Completion) : (s.writeCompletion f n r c).pwr = s.pwr :=
  (State.writeCompletion_agree ..).same .pwr (by decide)
@[simp] theorem State.writeCompletion_regs (s : State) (f : Func) (n : Nat) (r : CplRing) (c : Completion) : (s.writeCompletion f n r c).regs = s.regs :=
  (State.writeCompletion_agree ..).same .regs (by decide)
@[simp] theorem State.writeCompletion_cmd (s : State) (f : Func) (n : Nat) (r : CplRing) (c : Completion) : (s.writeCompletion f n r c).cmd = s.cmd :=
  (State.writeCompletion_agree ..).same .cmd (by decide)
@[simp] theorem State.writeCompletion_smb (s : State) (f : Func) (n : Nat) (r : CplRing) (c : Completion) : (s.writeCompletion f n r c).smb = s.smb :=
  (State.writeCompletion_agree ..).same .smb (by decide)
@[simp] theorem State.writeCompletion_time (s : State) (f : Func) (n : Nat) (r : CplRing) (c : Completion) : (s.writeCompletion f n r c).time = s.time :=
  (State.writeCompletion_agree ..).same .time (by decide)
@[simp] theorem State.writeCompletion_net (s : State) (f : Func) (n : Nat) (r : CplRing) (c : Completion) : (s.writeCompletion f n r c).net = s.net :=
  (State.writeCompletion_agree ..).same .net (by decide)
@[simp] theorem State.writeCompletion_sup (s : State) (f : Func) (n : Nat) (r : CplRing) (c : Completion) : (s.writeCompletion f n r c).sup = s.sup :=
  (State.writeCompletion_agree ..).same .sup (by decide)
@[simp] theorem State.writeCompletion_strm (s : State) (f : Func) (n : Nat) (r : CplRing) (c : Completion) : (s.writeCompletion f n r c).strm = s.strm :=
  (State.writeCompletion_agree ..).same .strm (by decide)
@[simp] theorem State.writeCompletion_dec (s : State) (f : Func) (n : Nat) (r : CplRing) (c : Completion) : (s.writeCompletion f n r c).dec = s.dec :=
  (State.writeCompletion_agree ..).same .dec (by decide)
@[simp] theorem State.writeCompletion_ray (s : State) (f : Func) (n : Nat) (r : CplRing) (c : Completion) : (s.writeCompletion f n r c).ray = s.ray :=
  (State.writeCompletion_agree ..).same .ray (by decide)
@[simp] theorem State.writeCompletion_cmp (s : State) (f : Func) (n : Nat) (r : CplRing) (c : Completion) : (s.writeCompletion f n r c).cmp = s.cmp :=
  (State.writeCompletion_agree ..).same .cmp (by decide)
@[simp] theorem State.writeCompletion_blt (s : State) (f : Func) (n : Nat) (r : CplRing) (c : Completion) : (s.writeCompletion f n r c).blt = s.blt :=
  (State.writeCompletion_agree ..).same .blt (by decide)
@[simp] theorem State.writeCompletion_wit (s : State) (f : Func) (n : Nat) (r : CplRing) (c : Completion) : (s.writeCompletion f n r c).wit = s.wit :=
  (State.writeCompletion_agree ..).same .wit (by decide)
@[simp] theorem State.writeCompletion_enc (s : State) (f : Func) (n : Nat) (r : CplRing) (c : Completion) : (s.writeCompletion f n r c).enc = s.enc :=
  (State.writeCompletion_agree ..).same .enc (by decide)
@[simp] theorem State.writeCompletion_chain (s : State) (f : Func) (n : Nat) (r : CplRing) (c : Completion) : (s.writeCompletion f n r c).chain = s.chain :=
  (State.writeCompletion_agree ..).same .chain (by decide)
@[simp] theorem State.writeCompletion_dsp (s : State) (f : Func) (n : Nat) (r : CplRing) (c : Completion) : (s.writeCompletion f n r c).dsp = s.dsp :=
  (State.writeCompletion_agree ..).same .dsp (by decide)
@[simp] theorem State.writeCompletion_pnl (s : State) (f : Func) (n : Nat) (r : CplRing) (c : Completion) : (s.writeCompletion f n r c).pnl = s.pnl :=
  (State.writeCompletion_agree ..).same .pnl (by decide)
@[simp] theorem State.writeCompletion_nvm (s : State) (f : Func) (n : Nat) (r : CplRing) (c : Completion) : (s.writeCompletion f n r c).nvm = s.nvm :=
  (State.writeCompletion_agree ..).same .nvm (by decide)
@[simp] theorem State.writeCompletion_fw (s : State) (f : Func) (n : Nat) (r : CplRing) (c : Completion) : (s.writeCompletion f n r c).fw = s.fw :=
  (State.writeCompletion_agree ..).same .fw (by decide)
@[simp] theorem State.writeCompletion_thm (s : State) (f : Func) (n : Nat) (r : CplRing) (c : Completion) : (s.writeCompletion f n r c).thm = s.thm :=
  (State.writeCompletion_agree ..).same .thm (by decide)
@[simp] theorem State.writeCompletion_memc (s : State) (f : Func) (n : Nat) (r : CplRing) (c : Completion) : (s.writeCompletion f n r c).memc = s.memc :=
  (State.writeCompletion_agree ..).same .memc (by decide)

@[simp] theorem State.postCompletion_pending (s : State) (f : Func) (n : Nat) (c : Completion) : (s.postCompletion f n c).pending = s.pending :=
  (State.postCompletion_agree ..).same .pending (by decide)
@[simp] theorem State.postCompletion_free (s : State) (f : Func) (n : Nat) (c : Completion) : (s.postCompletion f n c).free = s.free :=
  (State.postCompletion_agree ..).same .free (by decide)
@[simp] theorem State.postCompletion_pwr (s : State) (f : Func) (n : Nat) (c : Completion) : (s.postCompletion f n c).pwr = s.pwr :=
  (State.postCompletion_agree ..).same .pwr (by decide)
@[simp] theorem State.postCompletion_regs (s : State) (f : Func) (n : Nat) (c : Completion) : (s.postCompletion f n c).regs = s.regs :=
  (State.postCompletion_agree ..).same .regs (by decide)
@[simp] theorem State.postCompletion_cmd (s : State) (f : Func) (n : Nat) (c : Completion) : (s.postCompletion f n c).cmd = s.cmd :=
  (State.postCompletion_agree ..).same .cmd (by decide)
@[simp] theorem State.postCompletion_smb (s : State) (f : Func) (n : Nat) (c : Completion) : (s.postCompletion f n c).smb = s.smb :=
  (State.postCompletion_agree ..).same .smb (by decide)
@[simp] theorem State.postCompletion_time (s : State) (f : Func) (n : Nat) (c : Completion) : (s.postCompletion f n c).time = s.time :=
  (State.postCompletion_agree ..).same .time (by decide)
@[simp] theorem State.postCompletion_net (s : State) (f : Func) (n : Nat) (c : Completion) : (s.postCompletion f n c).net = s.net :=
  (State.postCompletion_agree ..).same .net (by decide)
@[simp] theorem State.postCompletion_sup (s : State) (f : Func) (n : Nat) (c : Completion) : (s.postCompletion f n c).sup = s.sup :=
  (State.postCompletion_agree ..).same .sup (by decide)
@[simp] theorem State.postCompletion_strm (s : State) (f : Func) (n : Nat) (c : Completion) : (s.postCompletion f n c).strm = s.strm :=
  (State.postCompletion_agree ..).same .strm (by decide)
@[simp] theorem State.postCompletion_dec (s : State) (f : Func) (n : Nat) (c : Completion) : (s.postCompletion f n c).dec = s.dec :=
  (State.postCompletion_agree ..).same .dec (by decide)
@[simp] theorem State.postCompletion_ray (s : State) (f : Func) (n : Nat) (c : Completion) : (s.postCompletion f n c).ray = s.ray :=
  (State.postCompletion_agree ..).same .ray (by decide)
@[simp] theorem State.postCompletion_cmp (s : State) (f : Func) (n : Nat) (c : Completion) : (s.postCompletion f n c).cmp = s.cmp :=
  (State.postCompletion_agree ..).same .cmp (by decide)
@[simp] theorem State.postCompletion_blt (s : State) (f : Func) (n : Nat) (c : Completion) : (s.postCompletion f n c).blt = s.blt :=
  (State.postCompletion_agree ..).same .blt (by decide)
@[simp] theorem State.postCompletion_wit (s : State) (f : Func) (n : Nat) (c : Completion) : (s.postCompletion f n c).wit = s.wit :=
  (State.postCompletion_agree ..).same .wit (by decide)
@[simp] theorem State.postCompletion_enc (s : State) (f : Func) (n : Nat) (c : Completion) : (s.postCompletion f n c).enc = s.enc :=
  (State.postCompletion_agree ..).same .enc (by decide)
@[simp] theorem State.postCompletion_chain (s : State) (f : Func) (n : Nat) (c : Completion) : (s.postCompletion f n c).chain = s.chain :=
  (State.postCompletion_agree ..).same .chain (by decide)
@[simp] theorem State.postCompletion_dsp (s : State) (f : Func) (n : Nat) (c : Completion) : (s.postCompletion f n c).dsp = s.dsp :=
  (State.postCompletion_agree ..).same .dsp (by decide)
@[simp] theorem State.postCompletion_pnl (s : State) (f : Func) (n : Nat) (c : Completion) : (s.postCompletion f n c).pnl = s.pnl :=
  (State.postCompletion_agree ..).same .pnl (by decide)
@[simp] theorem State.postCompletion_nvm (s : State) (f : Func) (n : Nat) (c : Completion) : (s.postCompletion f n c).nvm = s.nvm :=
  (State.postCompletion_agree ..).same .nvm (by decide)
@[simp] theorem State.postCompletion_fw (s : State) (f : Func) (n : Nat) (c : Completion) : (s.postCompletion f n c).fw = s.fw :=
  (State.postCompletion_agree ..).same .fw (by decide)
@[simp] theorem State.postCompletion_thm (s : State) (f : Func) (n : Nat) (c : Completion) : (s.postCompletion f n c).thm = s.thm :=
  (State.postCompletion_agree ..).same .thm (by decide)
@[simp] theorem State.postCompletion_memc (s : State) (f : Func) (n : Nat) (c : Completion) : (s.postCompletion f n c).memc = s.memc :=
  (State.postCompletion_agree ..).same .memc (by decide)

@[simp] theorem State.postSideband_pending (s : State) (c : Completion) : (s.postSideband c).pending = s.pending :=
  (State.postSideband_agree ..).same .pending (by decide)
@[simp] theorem State.postSideband_free (s : State) (c : Completion) : (s.postSideband c).free = s.free :=
  (State.postSideband_agree ..).same .free (by decide)
@[simp] theorem State.postSideband_hmem (s : State) (c : Completion) : (s.postSideband c).hmem = s.hmem :=
  (State.postSideband_agree ..).same .hmem (by decide)
@[simp] theorem State.postSideband_dmem (s : State) (c : Completion) : (s.postSideband c).dmem = s.dmem :=
  (State.postSideband_agree ..).same .dmem (by decide)
@[simp] theorem State.postSideband_pwr (s : State) (c : Completion) : (s.postSideband c).pwr = s.pwr :=
  (State.postSideband_agree ..).same .pwr (by decide)
@[simp] theorem State.postSideband_regs (s : State) (c : Completion) : (s.postSideband c).regs = s.regs :=
  (State.postSideband_agree ..).same .regs (by decide)
@[simp] theorem State.postSideband_fns (s : State) (c : Completion) : (s.postSideband c).fns = s.fns :=
  (State.postSideband_agree ..).same .fns (by decide)
@[simp] theorem State.postSideband_cmd (s : State) (c : Completion) : (s.postSideband c).cmd = s.cmd :=
  (State.postSideband_agree ..).same .cmd (by decide)
@[simp] theorem State.postSideband_time (s : State) (c : Completion) : (s.postSideband c).time = s.time :=
  (State.postSideband_agree ..).same .time (by decide)
@[simp] theorem State.postSideband_net (s : State) (c : Completion) : (s.postSideband c).net = s.net :=
  (State.postSideband_agree ..).same .net (by decide)
@[simp] theorem State.postSideband_sup (s : State) (c : Completion) : (s.postSideband c).sup = s.sup :=
  (State.postSideband_agree ..).same .sup (by decide)
@[simp] theorem State.postSideband_strm (s : State) (c : Completion) : (s.postSideband c).strm = s.strm :=
  (State.postSideband_agree ..).same .strm (by decide)
@[simp] theorem State.postSideband_dec (s : State) (c : Completion) : (s.postSideband c).dec = s.dec :=
  (State.postSideband_agree ..).same .dec (by decide)
@[simp] theorem State.postSideband_ray (s : State) (c : Completion) : (s.postSideband c).ray = s.ray :=
  (State.postSideband_agree ..).same .ray (by decide)
@[simp] theorem State.postSideband_cmp (s : State) (c : Completion) : (s.postSideband c).cmp = s.cmp :=
  (State.postSideband_agree ..).same .cmp (by decide)
@[simp] theorem State.postSideband_blt (s : State) (c : Completion) : (s.postSideband c).blt = s.blt :=
  (State.postSideband_agree ..).same .blt (by decide)
@[simp] theorem State.postSideband_wit (s : State) (c : Completion) : (s.postSideband c).wit = s.wit :=
  (State.postSideband_agree ..).same .wit (by decide)
@[simp] theorem State.postSideband_enc (s : State) (c : Completion) : (s.postSideband c).enc = s.enc :=
  (State.postSideband_agree ..).same .enc (by decide)
@[simp] theorem State.postSideband_chain (s : State) (c : Completion) : (s.postSideband c).chain = s.chain :=
  (State.postSideband_agree ..).same .chain (by decide)
@[simp] theorem State.postSideband_dsp (s : State) (c : Completion) : (s.postSideband c).dsp = s.dsp :=
  (State.postSideband_agree ..).same .dsp (by decide)
@[simp] theorem State.postSideband_pnl (s : State) (c : Completion) : (s.postSideband c).pnl = s.pnl :=
  (State.postSideband_agree ..).same .pnl (by decide)
@[simp] theorem State.postSideband_nvm (s : State) (c : Completion) : (s.postSideband c).nvm = s.nvm :=
  (State.postSideband_agree ..).same .nvm (by decide)
@[simp] theorem State.postSideband_fw (s : State) (c : Completion) : (s.postSideband c).fw = s.fw :=
  (State.postSideband_agree ..).same .fw (by decide)
@[simp] theorem State.postSideband_thm (s : State) (c : Completion) : (s.postSideband c).thm = s.thm :=
  (State.postSideband_agree ..).same .thm (by decide)
@[simp] theorem State.postSideband_memc (s : State) (c : Completion) : (s.postSideband c).memc = s.memc :=
  (State.postSideband_agree ..).same .memc (by decide)

@[simp] theorem State.writeEvent_pending (s : State) (f : Func) (e : EventRec) : (s.writeEvent f e).pending = s.pending :=
  (State.writeEvent_agree ..).same .pending (by decide)
@[simp] theorem State.writeEvent_free (s : State) (f : Func) (e : EventRec) : (s.writeEvent f e).free = s.free :=
  (State.writeEvent_agree ..).same .free (by decide)
@[simp] theorem State.writeEvent_pwr (s : State) (f : Func) (e : EventRec) : (s.writeEvent f e).pwr = s.pwr :=
  (State.writeEvent_agree ..).same .pwr (by decide)
@[simp] theorem State.writeEvent_regs (s : State) (f : Func) (e : EventRec) : (s.writeEvent f e).regs = s.regs :=
  (State.writeEvent_agree ..).same .regs (by decide)
@[simp] theorem State.writeEvent_cmd (s : State) (f : Func) (e : EventRec) : (s.writeEvent f e).cmd = s.cmd :=
  (State.writeEvent_agree ..).same .cmd (by decide)
@[simp] theorem State.writeEvent_smb (s : State) (f : Func) (e : EventRec) : (s.writeEvent f e).smb = s.smb :=
  (State.writeEvent_agree ..).same .smb (by decide)
@[simp] theorem State.writeEvent_time (s : State) (f : Func) (e : EventRec) : (s.writeEvent f e).time = s.time :=
  (State.writeEvent_agree ..).same .time (by decide)
@[simp] theorem State.writeEvent_net (s : State) (f : Func) (e : EventRec) : (s.writeEvent f e).net = s.net :=
  (State.writeEvent_agree ..).same .net (by decide)
@[simp] theorem State.writeEvent_sup (s : State) (f : Func) (e : EventRec) : (s.writeEvent f e).sup = s.sup :=
  (State.writeEvent_agree ..).same .sup (by decide)
@[simp] theorem State.writeEvent_strm (s : State) (f : Func) (e : EventRec) : (s.writeEvent f e).strm = s.strm :=
  (State.writeEvent_agree ..).same .strm (by decide)
@[simp] theorem State.writeEvent_dec (s : State) (f : Func) (e : EventRec) : (s.writeEvent f e).dec = s.dec :=
  (State.writeEvent_agree ..).same .dec (by decide)
@[simp] theorem State.writeEvent_ray (s : State) (f : Func) (e : EventRec) : (s.writeEvent f e).ray = s.ray :=
  (State.writeEvent_agree ..).same .ray (by decide)
@[simp] theorem State.writeEvent_cmp (s : State) (f : Func) (e : EventRec) : (s.writeEvent f e).cmp = s.cmp :=
  (State.writeEvent_agree ..).same .cmp (by decide)
@[simp] theorem State.writeEvent_blt (s : State) (f : Func) (e : EventRec) : (s.writeEvent f e).blt = s.blt :=
  (State.writeEvent_agree ..).same .blt (by decide)
@[simp] theorem State.writeEvent_wit (s : State) (f : Func) (e : EventRec) : (s.writeEvent f e).wit = s.wit :=
  (State.writeEvent_agree ..).same .wit (by decide)
@[simp] theorem State.writeEvent_enc (s : State) (f : Func) (e : EventRec) : (s.writeEvent f e).enc = s.enc :=
  (State.writeEvent_agree ..).same .enc (by decide)
@[simp] theorem State.writeEvent_chain (s : State) (f : Func) (e : EventRec) : (s.writeEvent f e).chain = s.chain :=
  (State.writeEvent_agree ..).same .chain (by decide)
@[simp] theorem State.writeEvent_dsp (s : State) (f : Func) (e : EventRec) : (s.writeEvent f e).dsp = s.dsp :=
  (State.writeEvent_agree ..).same .dsp (by decide)
@[simp] theorem State.writeEvent_pnl (s : State) (f : Func) (e : EventRec) : (s.writeEvent f e).pnl = s.pnl :=
  (State.writeEvent_agree ..).same .pnl (by decide)
@[simp] theorem State.writeEvent_nvm (s : State) (f : Func) (e : EventRec) : (s.writeEvent f e).nvm = s.nvm :=
  (State.writeEvent_agree ..).same .nvm (by decide)
@[simp] theorem State.writeEvent_fw (s : State) (f : Func) (e : EventRec) : (s.writeEvent f e).fw = s.fw :=
  (State.writeEvent_agree ..).same .fw (by decide)
@[simp] theorem State.writeEvent_thm (s : State) (f : Func) (e : EventRec) : (s.writeEvent f e).thm = s.thm :=
  (State.writeEvent_agree ..).same .thm (by decide)
@[simp] theorem State.writeEvent_memc (s : State) (f : Func) (e : EventRec) : (s.writeEvent f e).memc = s.memc :=
  (State.writeEvent_agree ..).same .memc (by decide)

@[simp] theorem State.deliverEvent_pending (s : State) (f : Func) (e : EventRec) : (s.deliverEvent f e).pending = s.pending :=
  (State.deliverEvent_agree ..).same .pending (by decide)
@[simp] theorem State.deliverEvent_free (s : State) (f : Func) (e : EventRec) : (s.deliverEvent f e).free = s.free :=
  (State.deliverEvent_agree ..).same .free (by decide)
@[simp] theorem State.deliverEvent_pwr (s : State) (f : Func) (e : EventRec) : (s.deliverEvent f e).pwr = s.pwr :=
  (State.deliverEvent_agree ..).same .pwr (by decide)
@[simp] theorem State.deliverEvent_regs (s : State) (f : Func) (e : EventRec) : (s.deliverEvent f e).regs = s.regs :=
  (State.deliverEvent_agree ..).same .regs (by decide)
@[simp] theorem State.deliverEvent_cmd (s : State) (f : Func) (e : EventRec) : (s.deliverEvent f e).cmd = s.cmd :=
  (State.deliverEvent_agree ..).same .cmd (by decide)
@[simp] theorem State.deliverEvent_smb (s : State) (f : Func) (e : EventRec) : (s.deliverEvent f e).smb = s.smb :=
  (State.deliverEvent_agree ..).same .smb (by decide)
@[simp] theorem State.deliverEvent_time (s : State) (f : Func) (e : EventRec) : (s.deliverEvent f e).time = s.time :=
  (State.deliverEvent_agree ..).same .time (by decide)
@[simp] theorem State.deliverEvent_net (s : State) (f : Func) (e : EventRec) : (s.deliverEvent f e).net = s.net :=
  (State.deliverEvent_agree ..).same .net (by decide)
@[simp] theorem State.deliverEvent_sup (s : State) (f : Func) (e : EventRec) : (s.deliverEvent f e).sup = s.sup :=
  (State.deliverEvent_agree ..).same .sup (by decide)
@[simp] theorem State.deliverEvent_strm (s : State) (f : Func) (e : EventRec) : (s.deliverEvent f e).strm = s.strm :=
  (State.deliverEvent_agree ..).same .strm (by decide)
@[simp] theorem State.deliverEvent_dec (s : State) (f : Func) (e : EventRec) : (s.deliverEvent f e).dec = s.dec :=
  (State.deliverEvent_agree ..).same .dec (by decide)
@[simp] theorem State.deliverEvent_ray (s : State) (f : Func) (e : EventRec) : (s.deliverEvent f e).ray = s.ray :=
  (State.deliverEvent_agree ..).same .ray (by decide)
@[simp] theorem State.deliverEvent_cmp (s : State) (f : Func) (e : EventRec) : (s.deliverEvent f e).cmp = s.cmp :=
  (State.deliverEvent_agree ..).same .cmp (by decide)
@[simp] theorem State.deliverEvent_blt (s : State) (f : Func) (e : EventRec) : (s.deliverEvent f e).blt = s.blt :=
  (State.deliverEvent_agree ..).same .blt (by decide)
@[simp] theorem State.deliverEvent_wit (s : State) (f : Func) (e : EventRec) : (s.deliverEvent f e).wit = s.wit :=
  (State.deliverEvent_agree ..).same .wit (by decide)
@[simp] theorem State.deliverEvent_enc (s : State) (f : Func) (e : EventRec) : (s.deliverEvent f e).enc = s.enc :=
  (State.deliverEvent_agree ..).same .enc (by decide)
@[simp] theorem State.deliverEvent_chain (s : State) (f : Func) (e : EventRec) : (s.deliverEvent f e).chain = s.chain :=
  (State.deliverEvent_agree ..).same .chain (by decide)
@[simp] theorem State.deliverEvent_dsp (s : State) (f : Func) (e : EventRec) : (s.deliverEvent f e).dsp = s.dsp :=
  (State.deliverEvent_agree ..).same .dsp (by decide)
@[simp] theorem State.deliverEvent_pnl (s : State) (f : Func) (e : EventRec) : (s.deliverEvent f e).pnl = s.pnl :=
  (State.deliverEvent_agree ..).same .pnl (by decide)
@[simp] theorem State.deliverEvent_nvm (s : State) (f : Func) (e : EventRec) : (s.deliverEvent f e).nvm = s.nvm :=
  (State.deliverEvent_agree ..).same .nvm (by decide)
@[simp] theorem State.deliverEvent_fw (s : State) (f : Func) (e : EventRec) : (s.deliverEvent f e).fw = s.fw :=
  (State.deliverEvent_agree ..).same .fw (by decide)
@[simp] theorem State.deliverEvent_thm (s : State) (f : Func) (e : EventRec) : (s.deliverEvent f e).thm = s.thm :=
  (State.deliverEvent_agree ..).same .thm (by decide)
@[simp] theorem State.deliverEvent_memc (s : State) (f : Func) (e : EventRec) : (s.deliverEvent f e).memc = s.memc :=
  (State.deliverEvent_agree ..).same .memc (by decide)

@[simp] theorem State.deliverSideband_pending (s : State) (e : EventRec) : (s.deliverSideband e).pending = s.pending :=
  (State.deliverSideband_agree ..).same .pending (by decide)
@[simp] theorem State.deliverSideband_free (s : State) (e : EventRec) : (s.deliverSideband e).free = s.free :=
  (State.deliverSideband_agree ..).same .free (by decide)
@[simp] theorem State.deliverSideband_hmem (s : State) (e : EventRec) : (s.deliverSideband e).hmem = s.hmem :=
  (State.deliverSideband_agree ..).same .hmem (by decide)
@[simp] theorem State.deliverSideband_dmem (s : State) (e : EventRec) : (s.deliverSideband e).dmem = s.dmem :=
  (State.deliverSideband_agree ..).same .dmem (by decide)
@[simp] theorem State.deliverSideband_pwr (s : State) (e : EventRec) : (s.deliverSideband e).pwr = s.pwr :=
  (State.deliverSideband_agree ..).same .pwr (by decide)
@[simp] theorem State.deliverSideband_regs (s : State) (e : EventRec) : (s.deliverSideband e).regs = s.regs :=
  (State.deliverSideband_agree ..).same .regs (by decide)
@[simp] theorem State.deliverSideband_fns (s : State) (e : EventRec) : (s.deliverSideband e).fns = s.fns :=
  (State.deliverSideband_agree ..).same .fns (by decide)
@[simp] theorem State.deliverSideband_cmd (s : State) (e : EventRec) : (s.deliverSideband e).cmd = s.cmd :=
  (State.deliverSideband_agree ..).same .cmd (by decide)
@[simp] theorem State.deliverSideband_time (s : State) (e : EventRec) : (s.deliverSideband e).time = s.time :=
  (State.deliverSideband_agree ..).same .time (by decide)
@[simp] theorem State.deliverSideband_net (s : State) (e : EventRec) : (s.deliverSideband e).net = s.net :=
  (State.deliverSideband_agree ..).same .net (by decide)
@[simp] theorem State.deliverSideband_sup (s : State) (e : EventRec) : (s.deliverSideband e).sup = s.sup :=
  (State.deliverSideband_agree ..).same .sup (by decide)
@[simp] theorem State.deliverSideband_strm (s : State) (e : EventRec) : (s.deliverSideband e).strm = s.strm :=
  (State.deliverSideband_agree ..).same .strm (by decide)
@[simp] theorem State.deliverSideband_dec (s : State) (e : EventRec) : (s.deliverSideband e).dec = s.dec :=
  (State.deliverSideband_agree ..).same .dec (by decide)
@[simp] theorem State.deliverSideband_ray (s : State) (e : EventRec) : (s.deliverSideband e).ray = s.ray :=
  (State.deliverSideband_agree ..).same .ray (by decide)
@[simp] theorem State.deliverSideband_cmp (s : State) (e : EventRec) : (s.deliverSideband e).cmp = s.cmp :=
  (State.deliverSideband_agree ..).same .cmp (by decide)
@[simp] theorem State.deliverSideband_blt (s : State) (e : EventRec) : (s.deliverSideband e).blt = s.blt :=
  (State.deliverSideband_agree ..).same .blt (by decide)
@[simp] theorem State.deliverSideband_wit (s : State) (e : EventRec) : (s.deliverSideband e).wit = s.wit :=
  (State.deliverSideband_agree ..).same .wit (by decide)
@[simp] theorem State.deliverSideband_enc (s : State) (e : EventRec) : (s.deliverSideband e).enc = s.enc :=
  (State.deliverSideband_agree ..).same .enc (by decide)
@[simp] theorem State.deliverSideband_chain (s : State) (e : EventRec) : (s.deliverSideband e).chain = s.chain :=
  (State.deliverSideband_agree ..).same .chain (by decide)
@[simp] theorem State.deliverSideband_dsp (s : State) (e : EventRec) : (s.deliverSideband e).dsp = s.dsp :=
  (State.deliverSideband_agree ..).same .dsp (by decide)
@[simp] theorem State.deliverSideband_pnl (s : State) (e : EventRec) : (s.deliverSideband e).pnl = s.pnl :=
  (State.deliverSideband_agree ..).same .pnl (by decide)
@[simp] theorem State.deliverSideband_nvm (s : State) (e : EventRec) : (s.deliverSideband e).nvm = s.nvm :=
  (State.deliverSideband_agree ..).same .nvm (by decide)
@[simp] theorem State.deliverSideband_fw (s : State) (e : EventRec) : (s.deliverSideband e).fw = s.fw :=
  (State.deliverSideband_agree ..).same .fw (by decide)
@[simp] theorem State.deliverSideband_thm (s : State) (e : EventRec) : (s.deliverSideband e).thm = s.thm :=
  (State.deliverSideband_agree ..).same .thm (by decide)
@[simp] theorem State.deliverSideband_memc (s : State) (e : EventRec) : (s.deliverSideband e).memc = s.memc :=
  (State.deliverSideband_agree ..).same .memc (by decide)

@[simp] theorem State.logEvent_pending (s : State) (e : EventRec) (i : Bool) : (s.logEvent e i).pending = s.pending :=
  (State.logEvent_agree ..).same .pending (by decide)
@[simp] theorem State.logEvent_free (s : State) (e : EventRec) (i : Bool) : (s.logEvent e i).free = s.free :=
  (State.logEvent_agree ..).same .free (by decide)
@[simp] theorem State.logEvent_hmem (s : State) (e : EventRec) (i : Bool) : (s.logEvent e i).hmem = s.hmem :=
  (State.logEvent_agree ..).same .hmem (by decide)
@[simp] theorem State.logEvent_dmem (s : State) (e : EventRec) (i : Bool) : (s.logEvent e i).dmem = s.dmem :=
  (State.logEvent_agree ..).same .dmem (by decide)
@[simp] theorem State.logEvent_pwr (s : State) (e : EventRec) (i : Bool) : (s.logEvent e i).pwr = s.pwr :=
  (State.logEvent_agree ..).same .pwr (by decide)
@[simp] theorem State.logEvent_regs (s : State) (e : EventRec) (i : Bool) : (s.logEvent e i).regs = s.regs :=
  (State.logEvent_agree ..).same .regs (by decide)
@[simp] theorem State.logEvent_fns (s : State) (e : EventRec) (i : Bool) : (s.logEvent e i).fns = s.fns :=
  (State.logEvent_agree ..).same .fns (by decide)
@[simp] theorem State.logEvent_cmd (s : State) (e : EventRec) (i : Bool) : (s.logEvent e i).cmd = s.cmd :=
  (State.logEvent_agree ..).same .cmd (by decide)
@[simp] theorem State.logEvent_smb (s : State) (e : EventRec) (i : Bool) : (s.logEvent e i).smb = s.smb :=
  (State.logEvent_agree ..).same .smb (by decide)
@[simp] theorem State.logEvent_time (s : State) (e : EventRec) (i : Bool) : (s.logEvent e i).time = s.time :=
  (State.logEvent_agree ..).same .time (by decide)
@[simp] theorem State.logEvent_net (s : State) (e : EventRec) (i : Bool) : (s.logEvent e i).net = s.net :=
  (State.logEvent_agree ..).same .net (by decide)
@[simp] theorem State.logEvent_strm (s : State) (e : EventRec) (i : Bool) : (s.logEvent e i).strm = s.strm :=
  (State.logEvent_agree ..).same .strm (by decide)
@[simp] theorem State.logEvent_dec (s : State) (e : EventRec) (i : Bool) : (s.logEvent e i).dec = s.dec :=
  (State.logEvent_agree ..).same .dec (by decide)
@[simp] theorem State.logEvent_ray (s : State) (e : EventRec) (i : Bool) : (s.logEvent e i).ray = s.ray :=
  (State.logEvent_agree ..).same .ray (by decide)
@[simp] theorem State.logEvent_cmp (s : State) (e : EventRec) (i : Bool) : (s.logEvent e i).cmp = s.cmp :=
  (State.logEvent_agree ..).same .cmp (by decide)
@[simp] theorem State.logEvent_blt (s : State) (e : EventRec) (i : Bool) : (s.logEvent e i).blt = s.blt :=
  (State.logEvent_agree ..).same .blt (by decide)
@[simp] theorem State.logEvent_wit (s : State) (e : EventRec) (i : Bool) : (s.logEvent e i).wit = s.wit :=
  (State.logEvent_agree ..).same .wit (by decide)
@[simp] theorem State.logEvent_enc (s : State) (e : EventRec) (i : Bool) : (s.logEvent e i).enc = s.enc :=
  (State.logEvent_agree ..).same .enc (by decide)
@[simp] theorem State.logEvent_chain (s : State) (e : EventRec) (i : Bool) : (s.logEvent e i).chain = s.chain :=
  (State.logEvent_agree ..).same .chain (by decide)
@[simp] theorem State.logEvent_dsp (s : State) (e : EventRec) (i : Bool) : (s.logEvent e i).dsp = s.dsp :=
  (State.logEvent_agree ..).same .dsp (by decide)
@[simp] theorem State.logEvent_pnl (s : State) (e : EventRec) (i : Bool) : (s.logEvent e i).pnl = s.pnl :=
  (State.logEvent_agree ..).same .pnl (by decide)
@[simp] theorem State.logEvent_nvm (s : State) (e : EventRec) (i : Bool) : (s.logEvent e i).nvm = s.nvm :=
  (State.logEvent_agree ..).same .nvm (by decide)
@[simp] theorem State.logEvent_fw (s : State) (e : EventRec) (i : Bool) : (s.logEvent e i).fw = s.fw :=
  (State.logEvent_agree ..).same .fw (by decide)
@[simp] theorem State.logEvent_thm (s : State) (e : EventRec) (i : Bool) : (s.logEvent e i).thm = s.thm :=
  (State.logEvent_agree ..).same .thm (by decide)
@[simp] theorem State.logEvent_memc (s : State) (e : EventRec) (i : Bool) : (s.logEvent e i).memc = s.memc :=
  (State.logEvent_agree ..).same .memc (by decide)

@[simp] theorem State.raise_pending (s : State) (e : Event) : (s.raise e).pending = s.pending :=
  (State.raise_agree ..).same .pending (by decide)
@[simp] theorem State.raise_free (s : State) (e : Event) : (s.raise e).free = s.free :=
  (State.raise_agree ..).same .free (by decide)
@[simp] theorem State.raise_pwr (s : State) (e : Event) : (s.raise e).pwr = s.pwr :=
  (State.raise_agree ..).same .pwr (by decide)
@[simp] theorem State.raise_regs (s : State) (e : Event) : (s.raise e).regs = s.regs :=
  (State.raise_agree ..).same .regs (by decide)
@[simp] theorem State.raise_cmd (s : State) (e : Event) : (s.raise e).cmd = s.cmd :=
  (State.raise_agree ..).same .cmd (by decide)
@[simp] theorem State.raise_time (s : State) (e : Event) : (s.raise e).time = s.time :=
  (State.raise_agree ..).same .time (by decide)
@[simp] theorem State.raise_net (s : State) (e : Event) : (s.raise e).net = s.net :=
  (State.raise_agree ..).same .net (by decide)
@[simp] theorem State.raise_strm (s : State) (e : Event) : (s.raise e).strm = s.strm :=
  (State.raise_agree ..).same .strm (by decide)
@[simp] theorem State.raise_dec (s : State) (e : Event) : (s.raise e).dec = s.dec :=
  (State.raise_agree ..).same .dec (by decide)
@[simp] theorem State.raise_ray (s : State) (e : Event) : (s.raise e).ray = s.ray :=
  (State.raise_agree ..).same .ray (by decide)
@[simp] theorem State.raise_cmp (s : State) (e : Event) : (s.raise e).cmp = s.cmp :=
  (State.raise_agree ..).same .cmp (by decide)
@[simp] theorem State.raise_blt (s : State) (e : Event) : (s.raise e).blt = s.blt :=
  (State.raise_agree ..).same .blt (by decide)
@[simp] theorem State.raise_wit (s : State) (e : Event) : (s.raise e).wit = s.wit :=
  (State.raise_agree ..).same .wit (by decide)
@[simp] theorem State.raise_enc (s : State) (e : Event) : (s.raise e).enc = s.enc :=
  (State.raise_agree ..).same .enc (by decide)
@[simp] theorem State.raise_chain (s : State) (e : Event) : (s.raise e).chain = s.chain :=
  (State.raise_agree ..).same .chain (by decide)
@[simp] theorem State.raise_dsp (s : State) (e : Event) : (s.raise e).dsp = s.dsp :=
  (State.raise_agree ..).same .dsp (by decide)
@[simp] theorem State.raise_pnl (s : State) (e : Event) : (s.raise e).pnl = s.pnl :=
  (State.raise_agree ..).same .pnl (by decide)
@[simp] theorem State.raise_nvm (s : State) (e : Event) : (s.raise e).nvm = s.nvm :=
  (State.raise_agree ..).same .nvm (by decide)
@[simp] theorem State.raise_fw (s : State) (e : Event) : (s.raise e).fw = s.fw := (State.raise_agree ..).same .fw (by decide)
@[simp] theorem State.raise_thm (s : State) (e : Event) : (s.raise e).thm = s.thm :=
  (State.raise_agree ..).same .thm (by decide)
@[simp] theorem State.raise_memc (s : State) (e : Event) : (s.raise e).memc = s.memc :=
  (State.raise_agree ..).same .memc (by decide)

@[simp] theorem State.raiseFree_pending (s : State) (e : Event) : (s.raiseFree e).pending = s.pending :=
  (State.raiseFree_agree ..).same .pending (by decide)
@[simp] theorem State.raiseFree_pwr (s : State) (e : Event) : (s.raiseFree e).pwr = s.pwr :=
  (State.raiseFree_agree ..).same .pwr (by decide)
@[simp] theorem State.raiseFree_regs (s : State) (e : Event) : (s.raiseFree e).regs = s.regs :=
  (State.raiseFree_agree ..).same .regs (by decide)
@[simp] theorem State.raiseFree_cmd (s : State) (e : Event) : (s.raiseFree e).cmd = s.cmd :=
  (State.raiseFree_agree ..).same .cmd (by decide)
@[simp] theorem State.raiseFree_time (s : State) (e : Event) : (s.raiseFree e).time = s.time :=
  (State.raiseFree_agree ..).same .time (by decide)
@[simp] theorem State.raiseFree_net (s : State) (e : Event) : (s.raiseFree e).net = s.net :=
  (State.raiseFree_agree ..).same .net (by decide)
@[simp] theorem State.raiseFree_strm (s : State) (e : Event) : (s.raiseFree e).strm = s.strm :=
  (State.raiseFree_agree ..).same .strm (by decide)
@[simp] theorem State.raiseFree_dec (s : State) (e : Event) : (s.raiseFree e).dec = s.dec :=
  (State.raiseFree_agree ..).same .dec (by decide)
@[simp] theorem State.raiseFree_ray (s : State) (e : Event) : (s.raiseFree e).ray = s.ray :=
  (State.raiseFree_agree ..).same .ray (by decide)
@[simp] theorem State.raiseFree_cmp (s : State) (e : Event) : (s.raiseFree e).cmp = s.cmp :=
  (State.raiseFree_agree ..).same .cmp (by decide)
@[simp] theorem State.raiseFree_blt (s : State) (e : Event) : (s.raiseFree e).blt = s.blt :=
  (State.raiseFree_agree ..).same .blt (by decide)
@[simp] theorem State.raiseFree_wit (s : State) (e : Event) : (s.raiseFree e).wit = s.wit :=
  (State.raiseFree_agree ..).same .wit (by decide)
@[simp] theorem State.raiseFree_enc (s : State) (e : Event) : (s.raiseFree e).enc = s.enc :=
  (State.raiseFree_agree ..).same .enc (by decide)
@[simp] theorem State.raiseFree_chain (s : State) (e : Event) : (s.raiseFree e).chain = s.chain :=
  (State.raiseFree_agree ..).same .chain (by decide)
@[simp] theorem State.raiseFree_dsp (s : State) (e : Event) : (s.raiseFree e).dsp = s.dsp :=
  (State.raiseFree_agree ..).same .dsp (by decide)
@[simp] theorem State.raiseFree_pnl (s : State) (e : Event) : (s.raiseFree e).pnl = s.pnl :=
  (State.raiseFree_agree ..).same .pnl (by decide)
@[simp] theorem State.raiseFree_nvm (s : State) (e : Event) : (s.raiseFree e).nvm = s.nvm :=
  (State.raiseFree_agree ..).same .nvm (by decide)
@[simp] theorem State.raiseFree_fw (s : State) (e : Event) : (s.raiseFree e).fw = s.fw :=
  (State.raiseFree_agree ..).same .fw (by decide)
@[simp] theorem State.raiseFree_thm (s : State) (e : Event) : (s.raiseFree e).thm = s.thm :=
  (State.raiseFree_agree ..).same .thm (by decide)
@[simp] theorem State.raiseFree_memc (s : State) (e : Event) : (s.raiseFree e).memc = s.memc :=
  (State.raiseFree_agree ..).same .memc (by decide)

@[simp] theorem State.recovered_pending (s : State) (c u : Nat) (i : Bool) : (s.recovered c u i).pending = s.pending :=
  (State.recovered_agree ..).same .pending (by decide)
@[simp] theorem State.recovered_pwr (s : State) (c u : Nat) (i : Bool) : (s.recovered c u i).pwr = s.pwr :=
  (State.recovered_agree ..).same .pwr (by decide)
@[simp] theorem State.recovered_regs (s : State) (c u : Nat) (i : Bool) : (s.recovered c u i).regs = s.regs :=
  (State.recovered_agree ..).same .regs (by decide)
@[simp] theorem State.recovered_cmd (s : State) (c u : Nat) (i : Bool) : (s.recovered c u i).cmd = s.cmd :=
  (State.recovered_agree ..).same .cmd (by decide)
@[simp] theorem State.recovered_time (s : State) (c u : Nat) (i : Bool) : (s.recovered c u i).time = s.time :=
  (State.recovered_agree ..).same .time (by decide)
@[simp] theorem State.recovered_net (s : State) (c u : Nat) (i : Bool) : (s.recovered c u i).net = s.net :=
  (State.recovered_agree ..).same .net (by decide)
@[simp] theorem State.recovered_strm (s : State) (c u : Nat) (i : Bool) : (s.recovered c u i).strm = s.strm :=
  (State.recovered_agree ..).same .strm (by decide)
@[simp] theorem State.recovered_dec (s : State) (c u : Nat) (i : Bool) : (s.recovered c u i).dec = s.dec :=
  (State.recovered_agree ..).same .dec (by decide)
@[simp] theorem State.recovered_ray (s : State) (c u : Nat) (i : Bool) : (s.recovered c u i).ray = s.ray :=
  (State.recovered_agree ..).same .ray (by decide)
@[simp] theorem State.recovered_cmp (s : State) (c u : Nat) (i : Bool) : (s.recovered c u i).cmp = s.cmp :=
  (State.recovered_agree ..).same .cmp (by decide)
@[simp] theorem State.recovered_blt (s : State) (c u : Nat) (i : Bool) : (s.recovered c u i).blt = s.blt :=
  (State.recovered_agree ..).same .blt (by decide)
@[simp] theorem State.recovered_wit (s : State) (c u : Nat) (i : Bool) : (s.recovered c u i).wit = s.wit :=
  (State.recovered_agree ..).same .wit (by decide)
@[simp] theorem State.recovered_enc (s : State) (c u : Nat) (i : Bool) : (s.recovered c u i).enc = s.enc :=
  (State.recovered_agree ..).same .enc (by decide)
@[simp] theorem State.recovered_chain (s : State) (c u : Nat) (i : Bool) : (s.recovered c u i).chain = s.chain :=
  (State.recovered_agree ..).same .chain (by decide)
@[simp] theorem State.recovered_dsp (s : State) (c u : Nat) (i : Bool) : (s.recovered c u i).dsp = s.dsp :=
  (State.recovered_agree ..).same .dsp (by decide)
@[simp] theorem State.recovered_pnl (s : State) (c u : Nat) (i : Bool) : (s.recovered c u i).pnl = s.pnl :=
  (State.recovered_agree ..).same .pnl (by decide)
@[simp] theorem State.recovered_nvm (s : State) (c u : Nat) (i : Bool) : (s.recovered c u i).nvm = s.nvm :=
  (State.recovered_agree ..).same .nvm (by decide)
@[simp] theorem State.recovered_fw (s : State) (c u : Nat) (i : Bool) : (s.recovered c u i).fw = s.fw :=
  (State.recovered_agree ..).same .fw (by decide)
@[simp] theorem State.recovered_thm (s : State) (c u : Nat) (i : Bool) : (s.recovered c u i).thm = s.thm :=
  (State.recovered_agree ..).same .thm (by decide)
@[simp] theorem State.recovered_memc (s : State) (c u : Nat) (i : Bool) : (s.recovered c u i).memc = s.memc :=
  (State.recovered_agree ..).same .memc (by decide)

@[simp] theorem State.countDetected_pending (s : State) (c : Nat) : (s.countDetected c).pending = s.pending :=
  (State.countDetected_agree ..).same .pending (by decide)
@[simp] theorem State.countDetected_free (s : State) (c : Nat) : (s.countDetected c).free = s.free :=
  (State.countDetected_agree ..).same .free (by decide)
@[simp] theorem State.countDetected_hmem (s : State) (c : Nat) : (s.countDetected c).hmem = s.hmem :=
  (State.countDetected_agree ..).same .hmem (by decide)
@[simp] theorem State.countDetected_dmem (s : State) (c : Nat) : (s.countDetected c).dmem = s.dmem :=
  (State.countDetected_agree ..).same .dmem (by decide)
@[simp] theorem State.countDetected_pwr (s : State) (c : Nat) : (s.countDetected c).pwr = s.pwr :=
  (State.countDetected_agree ..).same .pwr (by decide)
@[simp] theorem State.countDetected_regs (s : State) (c : Nat) : (s.countDetected c).regs = s.regs :=
  (State.countDetected_agree ..).same .regs (by decide)
@[simp] theorem State.countDetected_fns (s : State) (c : Nat) : (s.countDetected c).fns = s.fns :=
  (State.countDetected_agree ..).same .fns (by decide)
@[simp] theorem State.countDetected_cmd (s : State) (c : Nat) : (s.countDetected c).cmd = s.cmd :=
  (State.countDetected_agree ..).same .cmd (by decide)
@[simp] theorem State.countDetected_smb (s : State) (c : Nat) : (s.countDetected c).smb = s.smb :=
  (State.countDetected_agree ..).same .smb (by decide)
@[simp] theorem State.countDetected_time (s : State) (c : Nat) : (s.countDetected c).time = s.time :=
  (State.countDetected_agree ..).same .time (by decide)
@[simp] theorem State.countDetected_net (s : State) (c : Nat) : (s.countDetected c).net = s.net :=
  (State.countDetected_agree ..).same .net (by decide)
@[simp] theorem State.countDetected_strm (s : State) (c : Nat) : (s.countDetected c).strm = s.strm :=
  (State.countDetected_agree ..).same .strm (by decide)
@[simp] theorem State.countDetected_dec (s : State) (c : Nat) : (s.countDetected c).dec = s.dec :=
  (State.countDetected_agree ..).same .dec (by decide)
@[simp] theorem State.countDetected_ray (s : State) (c : Nat) : (s.countDetected c).ray = s.ray :=
  (State.countDetected_agree ..).same .ray (by decide)
@[simp] theorem State.countDetected_cmp (s : State) (c : Nat) : (s.countDetected c).cmp = s.cmp :=
  (State.countDetected_agree ..).same .cmp (by decide)
@[simp] theorem State.countDetected_blt (s : State) (c : Nat) : (s.countDetected c).blt = s.blt :=
  (State.countDetected_agree ..).same .blt (by decide)
@[simp] theorem State.countDetected_wit (s : State) (c : Nat) : (s.countDetected c).wit = s.wit :=
  (State.countDetected_agree ..).same .wit (by decide)
@[simp] theorem State.countDetected_enc (s : State) (c : Nat) : (s.countDetected c).enc = s.enc :=
  (State.countDetected_agree ..).same .enc (by decide)
@[simp] theorem State.countDetected_chain (s : State) (c : Nat) : (s.countDetected c).chain = s.chain :=
  (State.countDetected_agree ..).same .chain (by decide)
@[simp] theorem State.countDetected_dsp (s : State) (c : Nat) : (s.countDetected c).dsp = s.dsp :=
  (State.countDetected_agree ..).same .dsp (by decide)
@[simp] theorem State.countDetected_pnl (s : State) (c : Nat) : (s.countDetected c).pnl = s.pnl :=
  (State.countDetected_agree ..).same .pnl (by decide)
@[simp] theorem State.countDetected_nvm (s : State) (c : Nat) : (s.countDetected c).nvm = s.nvm :=
  (State.countDetected_agree ..).same .nvm (by decide)
@[simp] theorem State.countDetected_fw (s : State) (c : Nat) : (s.countDetected c).fw = s.fw :=
  (State.countDetected_agree ..).same .fw (by decide)
@[simp] theorem State.countDetected_thm (s : State) (c : Nat) : (s.countDetected c).thm = s.thm :=
  (State.countDetected_agree ..).same .thm (by decide)
@[simp] theorem State.countDetected_memc (s : State) (c : Nat) : (s.countDetected c).memc = s.memc :=
  (State.countDetected_agree ..).same .memc (by decide)

@[simp] theorem State.signalFence_pending (s : State) (i : Nat) : (s.signalFence i).pending = s.pending :=
  (State.signalFence_agree ..).same .pending (by decide)
@[simp] theorem State.signalFence_free (s : State) (i : Nat) : (s.signalFence i).free = s.free :=
  (State.signalFence_agree ..).same .free (by decide)
@[simp] theorem State.signalFence_hmem (s : State) (i : Nat) : (s.signalFence i).hmem = s.hmem :=
  (State.signalFence_agree ..).same .hmem (by decide)
@[simp] theorem State.signalFence_dmem (s : State) (i : Nat) : (s.signalFence i).dmem = s.dmem :=
  (State.signalFence_agree ..).same .dmem (by decide)
@[simp] theorem State.signalFence_pwr (s : State) (i : Nat) : (s.signalFence i).pwr = s.pwr :=
  (State.signalFence_agree ..).same .pwr (by decide)
@[simp] theorem State.signalFence_regs (s : State) (i : Nat) : (s.signalFence i).regs = s.regs :=
  (State.signalFence_agree ..).same .regs (by decide)
@[simp] theorem State.signalFence_fns (s : State) (i : Nat) : (s.signalFence i).fns = s.fns :=
  (State.signalFence_agree ..).same .fns (by decide)
@[simp] theorem State.signalFence_smb (s : State) (i : Nat) : (s.signalFence i).smb = s.smb :=
  (State.signalFence_agree ..).same .smb (by decide)
@[simp] theorem State.signalFence_time (s : State) (i : Nat) : (s.signalFence i).time = s.time :=
  (State.signalFence_agree ..).same .time (by decide)
@[simp] theorem State.signalFence_net (s : State) (i : Nat) : (s.signalFence i).net = s.net :=
  (State.signalFence_agree ..).same .net (by decide)
@[simp] theorem State.signalFence_sup (s : State) (i : Nat) : (s.signalFence i).sup = s.sup :=
  (State.signalFence_agree ..).same .sup (by decide)
@[simp] theorem State.signalFence_strm (s : State) (i : Nat) : (s.signalFence i).strm = s.strm :=
  (State.signalFence_agree ..).same .strm (by decide)
@[simp] theorem State.signalFence_dec (s : State) (i : Nat) : (s.signalFence i).dec = s.dec :=
  (State.signalFence_agree ..).same .dec (by decide)
@[simp] theorem State.signalFence_ray (s : State) (i : Nat) : (s.signalFence i).ray = s.ray :=
  (State.signalFence_agree ..).same .ray (by decide)
@[simp] theorem State.signalFence_cmp (s : State) (i : Nat) : (s.signalFence i).cmp = s.cmp :=
  (State.signalFence_agree ..).same .cmp (by decide)
@[simp] theorem State.signalFence_blt (s : State) (i : Nat) : (s.signalFence i).blt = s.blt :=
  (State.signalFence_agree ..).same .blt (by decide)
@[simp] theorem State.signalFence_wit (s : State) (i : Nat) : (s.signalFence i).wit = s.wit :=
  (State.signalFence_agree ..).same .wit (by decide)
@[simp] theorem State.signalFence_enc (s : State) (i : Nat) : (s.signalFence i).enc = s.enc :=
  (State.signalFence_agree ..).same .enc (by decide)
@[simp] theorem State.signalFence_chain (s : State) (i : Nat) : (s.signalFence i).chain = s.chain :=
  (State.signalFence_agree ..).same .chain (by decide)
@[simp] theorem State.signalFence_dsp (s : State) (i : Nat) : (s.signalFence i).dsp = s.dsp :=
  (State.signalFence_agree ..).same .dsp (by decide)
@[simp] theorem State.signalFence_pnl (s : State) (i : Nat) : (s.signalFence i).pnl = s.pnl :=
  (State.signalFence_agree ..).same .pnl (by decide)
@[simp] theorem State.signalFence_nvm (s : State) (i : Nat) : (s.signalFence i).nvm = s.nvm :=
  (State.signalFence_agree ..).same .nvm (by decide)
@[simp] theorem State.signalFence_fw (s : State) (i : Nat) : (s.signalFence i).fw = s.fw :=
  (State.signalFence_agree ..).same .fw (by decide)
@[simp] theorem State.signalFence_thm (s : State) (i : Nat) : (s.signalFence i).thm = s.thm :=
  (State.signalFence_agree ..).same .thm (by decide)
@[simp] theorem State.signalFence_memc (s : State) (i : Nat) : (s.signalFence i).memc = s.memc :=
  (State.signalFence_agree ..).same .memc (by decide)

@[simp] theorem State.signalOf_pending (s : State) (p : Packet) : (s.signalOf p).pending = s.pending :=
  (State.signalOf_agree ..).same .pending (by decide)
@[simp] theorem State.signalOf_free (s : State) (p : Packet) : (s.signalOf p).free = s.free :=
  (State.signalOf_agree ..).same .free (by decide)
@[simp] theorem State.signalOf_hmem (s : State) (p : Packet) : (s.signalOf p).hmem = s.hmem :=
  (State.signalOf_agree ..).same .hmem (by decide)
@[simp] theorem State.signalOf_dmem (s : State) (p : Packet) : (s.signalOf p).dmem = s.dmem :=
  (State.signalOf_agree ..).same .dmem (by decide)
@[simp] theorem State.signalOf_pwr (s : State) (p : Packet) : (s.signalOf p).pwr = s.pwr :=
  (State.signalOf_agree ..).same .pwr (by decide)
@[simp] theorem State.signalOf_regs (s : State) (p : Packet) : (s.signalOf p).regs = s.regs :=
  (State.signalOf_agree ..).same .regs (by decide)
@[simp] theorem State.signalOf_fns (s : State) (p : Packet) : (s.signalOf p).fns = s.fns :=
  (State.signalOf_agree ..).same .fns (by decide)
@[simp] theorem State.signalOf_smb (s : State) (p : Packet) : (s.signalOf p).smb = s.smb :=
  (State.signalOf_agree ..).same .smb (by decide)
@[simp] theorem State.signalOf_time (s : State) (p : Packet) : (s.signalOf p).time = s.time :=
  (State.signalOf_agree ..).same .time (by decide)
@[simp] theorem State.signalOf_net (s : State) (p : Packet) : (s.signalOf p).net = s.net :=
  (State.signalOf_agree ..).same .net (by decide)
@[simp] theorem State.signalOf_sup (s : State) (p : Packet) : (s.signalOf p).sup = s.sup :=
  (State.signalOf_agree ..).same .sup (by decide)
@[simp] theorem State.signalOf_strm (s : State) (p : Packet) : (s.signalOf p).strm = s.strm :=
  (State.signalOf_agree ..).same .strm (by decide)
@[simp] theorem State.signalOf_dec (s : State) (p : Packet) : (s.signalOf p).dec = s.dec :=
  (State.signalOf_agree ..).same .dec (by decide)
@[simp] theorem State.signalOf_ray (s : State) (p : Packet) : (s.signalOf p).ray = s.ray :=
  (State.signalOf_agree ..).same .ray (by decide)
@[simp] theorem State.signalOf_cmp (s : State) (p : Packet) : (s.signalOf p).cmp = s.cmp :=
  (State.signalOf_agree ..).same .cmp (by decide)
@[simp] theorem State.signalOf_blt (s : State) (p : Packet) : (s.signalOf p).blt = s.blt :=
  (State.signalOf_agree ..).same .blt (by decide)
@[simp] theorem State.signalOf_wit (s : State) (p : Packet) : (s.signalOf p).wit = s.wit :=
  (State.signalOf_agree ..).same .wit (by decide)
@[simp] theorem State.signalOf_enc (s : State) (p : Packet) : (s.signalOf p).enc = s.enc :=
  (State.signalOf_agree ..).same .enc (by decide)
@[simp] theorem State.signalOf_chain (s : State) (p : Packet) : (s.signalOf p).chain = s.chain :=
  (State.signalOf_agree ..).same .chain (by decide)
@[simp] theorem State.signalOf_dsp (s : State) (p : Packet) : (s.signalOf p).dsp = s.dsp :=
  (State.signalOf_agree ..).same .dsp (by decide)
@[simp] theorem State.signalOf_pnl (s : State) (p : Packet) : (s.signalOf p).pnl = s.pnl :=
  (State.signalOf_agree ..).same .pnl (by decide)
@[simp] theorem State.signalOf_nvm (s : State) (p : Packet) : (s.signalOf p).nvm = s.nvm :=
  (State.signalOf_agree ..).same .nvm (by decide)
@[simp] theorem State.signalOf_fw (s : State) (p : Packet) : (s.signalOf p).fw = s.fw :=
  (State.signalOf_agree ..).same .fw (by decide)
@[simp] theorem State.signalOf_thm (s : State) (p : Packet) : (s.signalOf p).thm = s.thm :=
  (State.signalOf_agree ..).same .thm (by decide)
@[simp] theorem State.signalOf_memc (s : State) (p : Packet) : (s.signalOf p).memc = s.memc :=
  (State.signalOf_agree ..).same .memc (by decide)

@[simp] theorem State.complete_pending (s : State) (p : Packet) (st : Status) (a b : Word) : (s.complete p st a b).pending = s.pending :=
  (State.complete_agree ..).same .pending (by decide)
@[simp] theorem State.complete_free (s : State) (p : Packet) (st : Status) (a b : Word) : (s.complete p st a b).free = s.free :=
  (State.complete_agree ..).same .free (by decide)
@[simp] theorem State.complete_pwr (s : State) (p : Packet) (st : Status) (a b : Word) : (s.complete p st a b).pwr = s.pwr :=
  (State.complete_agree ..).same .pwr (by decide)
@[simp] theorem State.complete_regs (s : State) (p : Packet) (st : Status) (a b : Word) : (s.complete p st a b).regs = s.regs :=
  (State.complete_agree ..).same .regs (by decide)
@[simp] theorem State.complete_time (s : State) (p : Packet) (st : Status) (a b : Word) : (s.complete p st a b).time = s.time :=
  (State.complete_agree ..).same .time (by decide)
@[simp] theorem State.complete_net (s : State) (p : Packet) (st : Status) (a b : Word) : (s.complete p st a b).net = s.net :=
  (State.complete_agree ..).same .net (by decide)
@[simp] theorem State.complete_sup (s : State) (p : Packet) (st : Status) (a b : Word) : (s.complete p st a b).sup = s.sup :=
  (State.complete_agree ..).same .sup (by decide)
@[simp] theorem State.complete_strm (s : State) (p : Packet) (st : Status) (a b : Word) : (s.complete p st a b).strm = s.strm :=
  (State.complete_agree ..).same .strm (by decide)
@[simp] theorem State.complete_dec (s : State) (p : Packet) (st : Status) (a b : Word) : (s.complete p st a b).dec = s.dec :=
  (State.complete_agree ..).same .dec (by decide)
@[simp] theorem State.complete_ray (s : State) (p : Packet) (st : Status) (a b : Word) : (s.complete p st a b).ray = s.ray :=
  (State.complete_agree ..).same .ray (by decide)
@[simp] theorem State.complete_cmp (s : State) (p : Packet) (st : Status) (a b : Word) : (s.complete p st a b).cmp = s.cmp :=
  (State.complete_agree ..).same .cmp (by decide)
@[simp] theorem State.complete_blt (s : State) (p : Packet) (st : Status) (a b : Word) : (s.complete p st a b).blt = s.blt :=
  (State.complete_agree ..).same .blt (by decide)
@[simp] theorem State.complete_wit (s : State) (p : Packet) (st : Status) (a b : Word) : (s.complete p st a b).wit = s.wit :=
  (State.complete_agree ..).same .wit (by decide)
@[simp] theorem State.complete_enc (s : State) (p : Packet) (st : Status) (a b : Word) : (s.complete p st a b).enc = s.enc :=
  (State.complete_agree ..).same .enc (by decide)
@[simp] theorem State.complete_chain (s : State) (p : Packet) (st : Status) (a b : Word) : (s.complete p st a b).chain = s.chain :=
  (State.complete_agree ..).same .chain (by decide)
@[simp] theorem State.complete_dsp (s : State) (p : Packet) (st : Status) (a b : Word) : (s.complete p st a b).dsp = s.dsp :=
  (State.complete_agree ..).same .dsp (by decide)
@[simp] theorem State.complete_pnl (s : State) (p : Packet) (st : Status) (a b : Word) : (s.complete p st a b).pnl = s.pnl :=
  (State.complete_agree ..).same .pnl (by decide)
@[simp] theorem State.complete_nvm (s : State) (p : Packet) (st : Status) (a b : Word) : (s.complete p st a b).nvm = s.nvm :=
  (State.complete_agree ..).same .nvm (by decide)
@[simp] theorem State.complete_fw (s : State) (p : Packet) (st : Status) (a b : Word) : (s.complete p st a b).fw = s.fw :=
  (State.complete_agree ..).same .fw (by decide)
@[simp] theorem State.complete_thm (s : State) (p : Packet) (st : Status) (a b : Word) : (s.complete p st a b).thm = s.thm :=
  (State.complete_agree ..).same .thm (by decide)
@[simp] theorem State.complete_memc (s : State) (p : Packet) (st : Status) (a b : Word) : (s.complete p st a b).memc = s.memc :=
  (State.complete_agree ..).same .memc (by decide)

@[simp] theorem State.dropFlight_pending (s : State) (t : Nat) : (s.dropFlight t).pending = s.pending :=
  (State.dropFlight_agree ..).same .pending (by decide)
@[simp] theorem State.dropFlight_free (s : State) (t : Nat) : (s.dropFlight t).free = s.free :=
  (State.dropFlight_agree ..).same .free (by decide)
@[simp] theorem State.dropFlight_hmem (s : State) (t : Nat) : (s.dropFlight t).hmem = s.hmem :=
  (State.dropFlight_agree ..).same .hmem (by decide)
@[simp] theorem State.dropFlight_dmem (s : State) (t : Nat) : (s.dropFlight t).dmem = s.dmem :=
  (State.dropFlight_agree ..).same .dmem (by decide)
@[simp] theorem State.dropFlight_pwr (s : State) (t : Nat) : (s.dropFlight t).pwr = s.pwr :=
  (State.dropFlight_agree ..).same .pwr (by decide)
@[simp] theorem State.dropFlight_regs (s : State) (t : Nat) : (s.dropFlight t).regs = s.regs :=
  (State.dropFlight_agree ..).same .regs (by decide)
@[simp] theorem State.dropFlight_fns (s : State) (t : Nat) : (s.dropFlight t).fns = s.fns :=
  (State.dropFlight_agree ..).same .fns (by decide)
@[simp] theorem State.dropFlight_smb (s : State) (t : Nat) : (s.dropFlight t).smb = s.smb :=
  (State.dropFlight_agree ..).same .smb (by decide)
@[simp] theorem State.dropFlight_time (s : State) (t : Nat) : (s.dropFlight t).time = s.time :=
  (State.dropFlight_agree ..).same .time (by decide)
@[simp] theorem State.dropFlight_net (s : State) (t : Nat) : (s.dropFlight t).net = s.net :=
  (State.dropFlight_agree ..).same .net (by decide)
@[simp] theorem State.dropFlight_sup (s : State) (t : Nat) : (s.dropFlight t).sup = s.sup :=
  (State.dropFlight_agree ..).same .sup (by decide)
@[simp] theorem State.dropFlight_strm (s : State) (t : Nat) : (s.dropFlight t).strm = s.strm :=
  (State.dropFlight_agree ..).same .strm (by decide)
@[simp] theorem State.dropFlight_dec (s : State) (t : Nat) : (s.dropFlight t).dec = s.dec :=
  (State.dropFlight_agree ..).same .dec (by decide)
@[simp] theorem State.dropFlight_ray (s : State) (t : Nat) : (s.dropFlight t).ray = s.ray :=
  (State.dropFlight_agree ..).same .ray (by decide)
@[simp] theorem State.dropFlight_cmp (s : State) (t : Nat) : (s.dropFlight t).cmp = s.cmp :=
  (State.dropFlight_agree ..).same .cmp (by decide)
@[simp] theorem State.dropFlight_blt (s : State) (t : Nat) : (s.dropFlight t).blt = s.blt :=
  (State.dropFlight_agree ..).same .blt (by decide)
@[simp] theorem State.dropFlight_wit (s : State) (t : Nat) : (s.dropFlight t).wit = s.wit :=
  (State.dropFlight_agree ..).same .wit (by decide)
@[simp] theorem State.dropFlight_enc (s : State) (t : Nat) : (s.dropFlight t).enc = s.enc :=
  (State.dropFlight_agree ..).same .enc (by decide)
@[simp] theorem State.dropFlight_chain (s : State) (t : Nat) : (s.dropFlight t).chain = s.chain :=
  (State.dropFlight_agree ..).same .chain (by decide)
@[simp] theorem State.dropFlight_dsp (s : State) (t : Nat) : (s.dropFlight t).dsp = s.dsp :=
  (State.dropFlight_agree ..).same .dsp (by decide)
@[simp] theorem State.dropFlight_pnl (s : State) (t : Nat) : (s.dropFlight t).pnl = s.pnl :=
  (State.dropFlight_agree ..).same .pnl (by decide)
@[simp] theorem State.dropFlight_nvm (s : State) (t : Nat) : (s.dropFlight t).nvm = s.nvm :=
  (State.dropFlight_agree ..).same .nvm (by decide)
@[simp] theorem State.dropFlight_fw (s : State) (t : Nat) : (s.dropFlight t).fw = s.fw :=
  (State.dropFlight_agree ..).same .fw (by decide)
@[simp] theorem State.dropFlight_thm (s : State) (t : Nat) : (s.dropFlight t).thm = s.thm :=
  (State.dropFlight_agree ..).same .thm (by decide)
@[simp] theorem State.dropFlight_memc (s : State) (t : Nat) : (s.dropFlight t).memc = s.memc :=
  (State.dropFlight_agree ..).same .memc (by decide)

@[simp] theorem State.putFlight_pending (s : State) (o : Op) (p : Packet) (c : Bool) : (s.putFlight o p c).pending = s.pending :=
  (State.putFlight_agree ..).same .pending (by decide)
@[simp] theorem State.putFlight_free (s : State) (o : Op) (p : Packet) (c : Bool) : (s.putFlight o p c).free = s.free :=
  (State.putFlight_agree ..).same .free (by decide)
@[simp] theorem State.putFlight_hmem (s : State) (o : Op) (p : Packet) (c : Bool) : (s.putFlight o p c).hmem = s.hmem :=
  (State.putFlight_agree ..).same .hmem (by decide)
@[simp] theorem State.putFlight_dmem (s : State) (o : Op) (p : Packet) (c : Bool) : (s.putFlight o p c).dmem = s.dmem :=
  (State.putFlight_agree ..).same .dmem (by decide)
@[simp] theorem State.putFlight_pwr (s : State) (o : Op) (p : Packet) (c : Bool) : (s.putFlight o p c).pwr = s.pwr :=
  (State.putFlight_agree ..).same .pwr (by decide)
@[simp] theorem State.putFlight_regs (s : State) (o : Op) (p : Packet) (c : Bool) : (s.putFlight o p c).regs = s.regs :=
  (State.putFlight_agree ..).same .regs (by decide)
@[simp] theorem State.putFlight_fns (s : State) (o : Op) (p : Packet) (c : Bool) : (s.putFlight o p c).fns = s.fns :=
  (State.putFlight_agree ..).same .fns (by decide)
@[simp] theorem State.putFlight_smb (s : State) (o : Op) (p : Packet) (c : Bool) : (s.putFlight o p c).smb = s.smb :=
  (State.putFlight_agree ..).same .smb (by decide)
@[simp] theorem State.putFlight_time (s : State) (o : Op) (p : Packet) (c : Bool) : (s.putFlight o p c).time = s.time :=
  (State.putFlight_agree ..).same .time (by decide)
@[simp] theorem State.putFlight_net (s : State) (o : Op) (p : Packet) (c : Bool) : (s.putFlight o p c).net = s.net :=
  (State.putFlight_agree ..).same .net (by decide)
@[simp] theorem State.putFlight_sup (s : State) (o : Op) (p : Packet) (c : Bool) : (s.putFlight o p c).sup = s.sup :=
  (State.putFlight_agree ..).same .sup (by decide)
@[simp] theorem State.putFlight_strm (s : State) (o : Op) (p : Packet) (c : Bool) : (s.putFlight o p c).strm = s.strm :=
  (State.putFlight_agree ..).same .strm (by decide)
@[simp] theorem State.putFlight_dec (s : State) (o : Op) (p : Packet) (c : Bool) : (s.putFlight o p c).dec = s.dec :=
  (State.putFlight_agree ..).same .dec (by decide)
@[simp] theorem State.putFlight_ray (s : State) (o : Op) (p : Packet) (c : Bool) : (s.putFlight o p c).ray = s.ray :=
  (State.putFlight_agree ..).same .ray (by decide)
@[simp] theorem State.putFlight_cmp (s : State) (o : Op) (p : Packet) (c : Bool) : (s.putFlight o p c).cmp = s.cmp :=
  (State.putFlight_agree ..).same .cmp (by decide)
@[simp] theorem State.putFlight_blt (s : State) (o : Op) (p : Packet) (c : Bool) : (s.putFlight o p c).blt = s.blt :=
  (State.putFlight_agree ..).same .blt (by decide)
@[simp] theorem State.putFlight_wit (s : State) (o : Op) (p : Packet) (c : Bool) : (s.putFlight o p c).wit = s.wit :=
  (State.putFlight_agree ..).same .wit (by decide)
@[simp] theorem State.putFlight_enc (s : State) (o : Op) (p : Packet) (c : Bool) : (s.putFlight o p c).enc = s.enc :=
  (State.putFlight_agree ..).same .enc (by decide)
@[simp] theorem State.putFlight_chain (s : State) (o : Op) (p : Packet) (c : Bool) : (s.putFlight o p c).chain = s.chain :=
  (State.putFlight_agree ..).same .chain (by decide)
@[simp] theorem State.putFlight_dsp (s : State) (o : Op) (p : Packet) (c : Bool) : (s.putFlight o p c).dsp = s.dsp :=
  (State.putFlight_agree ..).same .dsp (by decide)
@[simp] theorem State.putFlight_pnl (s : State) (o : Op) (p : Packet) (c : Bool) : (s.putFlight o p c).pnl = s.pnl :=
  (State.putFlight_agree ..).same .pnl (by decide)
@[simp] theorem State.putFlight_nvm (s : State) (o : Op) (p : Packet) (c : Bool) : (s.putFlight o p c).nvm = s.nvm :=
  (State.putFlight_agree ..).same .nvm (by decide)
@[simp] theorem State.putFlight_fw (s : State) (o : Op) (p : Packet) (c : Bool) : (s.putFlight o p c).fw = s.fw :=
  (State.putFlight_agree ..).same .fw (by decide)
@[simp] theorem State.putFlight_thm (s : State) (o : Op) (p : Packet) (c : Bool) : (s.putFlight o p c).thm = s.thm :=
  (State.putFlight_agree ..).same .thm (by decide)
@[simp] theorem State.putFlight_memc (s : State) (o : Op) (p : Packet) (c : Bool) : (s.putFlight o p c).memc = s.memc :=
  (State.putFlight_agree ..).same .memc (by decide)

@[simp] theorem State.countCommit_pending (s : State) : (s.countCommit).pending = s.pending :=
  (State.countCommit_agree ..).same .pending (by decide)
@[simp] theorem State.countCommit_free (s : State) : (s.countCommit).free = s.free :=
  (State.countCommit_agree ..).same .free (by decide)
@[simp] theorem State.countCommit_hmem (s : State) : (s.countCommit).hmem = s.hmem :=
  (State.countCommit_agree ..).same .hmem (by decide)
@[simp] theorem State.countCommit_dmem (s : State) : (s.countCommit).dmem = s.dmem :=
  (State.countCommit_agree ..).same .dmem (by decide)
@[simp] theorem State.countCommit_pwr (s : State) : (s.countCommit).pwr = s.pwr :=
  (State.countCommit_agree ..).same .pwr (by decide)
@[simp] theorem State.countCommit_regs (s : State) : (s.countCommit).regs = s.regs :=
  (State.countCommit_agree ..).same .regs (by decide)
@[simp] theorem State.countCommit_fns (s : State) : (s.countCommit).fns = s.fns :=
  (State.countCommit_agree ..).same .fns (by decide)
@[simp] theorem State.countCommit_smb (s : State) : (s.countCommit).smb = s.smb :=
  (State.countCommit_agree ..).same .smb (by decide)
@[simp] theorem State.countCommit_time (s : State) : (s.countCommit).time = s.time :=
  (State.countCommit_agree ..).same .time (by decide)
@[simp] theorem State.countCommit_net (s : State) : (s.countCommit).net = s.net :=
  (State.countCommit_agree ..).same .net (by decide)
@[simp] theorem State.countCommit_sup (s : State) : (s.countCommit).sup = s.sup :=
  (State.countCommit_agree ..).same .sup (by decide)
@[simp] theorem State.countCommit_strm (s : State) : (s.countCommit).strm = s.strm :=
  (State.countCommit_agree ..).same .strm (by decide)
@[simp] theorem State.countCommit_dec (s : State) : (s.countCommit).dec = s.dec :=
  (State.countCommit_agree ..).same .dec (by decide)
@[simp] theorem State.countCommit_ray (s : State) : (s.countCommit).ray = s.ray :=
  (State.countCommit_agree ..).same .ray (by decide)
@[simp] theorem State.countCommit_cmp (s : State) : (s.countCommit).cmp = s.cmp :=
  (State.countCommit_agree ..).same .cmp (by decide)
@[simp] theorem State.countCommit_blt (s : State) : (s.countCommit).blt = s.blt :=
  (State.countCommit_agree ..).same .blt (by decide)
@[simp] theorem State.countCommit_wit (s : State) : (s.countCommit).wit = s.wit :=
  (State.countCommit_agree ..).same .wit (by decide)
@[simp] theorem State.countCommit_enc (s : State) : (s.countCommit).enc = s.enc :=
  (State.countCommit_agree ..).same .enc (by decide)
@[simp] theorem State.countCommit_chain (s : State) : (s.countCommit).chain = s.chain :=
  (State.countCommit_agree ..).same .chain (by decide)
@[simp] theorem State.countCommit_dsp (s : State) : (s.countCommit).dsp = s.dsp :=
  (State.countCommit_agree ..).same .dsp (by decide)
@[simp] theorem State.countCommit_pnl (s : State) : (s.countCommit).pnl = s.pnl :=
  (State.countCommit_agree ..).same .pnl (by decide)
@[simp] theorem State.countCommit_nvm (s : State) : (s.countCommit).nvm = s.nvm :=
  (State.countCommit_agree ..).same .nvm (by decide)
@[simp] theorem State.countCommit_fw (s : State) : (s.countCommit).fw = s.fw :=
  (State.countCommit_agree ..).same .fw (by decide)
@[simp] theorem State.countCommit_thm (s : State) : (s.countCommit).thm = s.thm :=
  (State.countCommit_agree ..).same .thm (by decide)
@[simp] theorem State.countCommit_memc (s : State) : (s.countCommit).memc = s.memc :=
  (State.countCommit_agree ..).same .memc (by decide)

@[simp] theorem State.commitFlight_pending (s : State) (t : Nat) : (s.commitFlight t).pending = s.pending :=
  (State.commitFlight_agree ..).same .pending (by decide)
@[simp] theorem State.commitFlight_free (s : State) (t : Nat) : (s.commitFlight t).free = s.free :=
  (State.commitFlight_agree ..).same .free (by decide)
@[simp] theorem State.commitFlight_hmem (s : State) (t : Nat) : (s.commitFlight t).hmem = s.hmem :=
  (State.commitFlight_agree ..).same .hmem (by decide)
@[simp] theorem State.commitFlight_dmem (s : State) (t : Nat) : (s.commitFlight t).dmem = s.dmem :=
  (State.commitFlight_agree ..).same .dmem (by decide)
@[simp] theorem State.commitFlight_pwr (s : State) (t : Nat) : (s.commitFlight t).pwr = s.pwr :=
  (State.commitFlight_agree ..).same .pwr (by decide)
@[simp] theorem State.commitFlight_regs (s : State) (t : Nat) : (s.commitFlight t).regs = s.regs :=
  (State.commitFlight_agree ..).same .regs (by decide)
@[simp] theorem State.commitFlight_fns (s : State) (t : Nat) : (s.commitFlight t).fns = s.fns :=
  (State.commitFlight_agree ..).same .fns (by decide)
@[simp] theorem State.commitFlight_smb (s : State) (t : Nat) : (s.commitFlight t).smb = s.smb :=
  (State.commitFlight_agree ..).same .smb (by decide)
@[simp] theorem State.commitFlight_time (s : State) (t : Nat) : (s.commitFlight t).time = s.time :=
  (State.commitFlight_agree ..).same .time (by decide)
@[simp] theorem State.commitFlight_net (s : State) (t : Nat) : (s.commitFlight t).net = s.net :=
  (State.commitFlight_agree ..).same .net (by decide)
@[simp] theorem State.commitFlight_sup (s : State) (t : Nat) : (s.commitFlight t).sup = s.sup :=
  (State.commitFlight_agree ..).same .sup (by decide)
@[simp] theorem State.commitFlight_strm (s : State) (t : Nat) : (s.commitFlight t).strm = s.strm :=
  (State.commitFlight_agree ..).same .strm (by decide)
@[simp] theorem State.commitFlight_dec (s : State) (t : Nat) : (s.commitFlight t).dec = s.dec :=
  (State.commitFlight_agree ..).same .dec (by decide)
@[simp] theorem State.commitFlight_ray (s : State) (t : Nat) : (s.commitFlight t).ray = s.ray :=
  (State.commitFlight_agree ..).same .ray (by decide)
@[simp] theorem State.commitFlight_cmp (s : State) (t : Nat) : (s.commitFlight t).cmp = s.cmp :=
  (State.commitFlight_agree ..).same .cmp (by decide)
@[simp] theorem State.commitFlight_blt (s : State) (t : Nat) : (s.commitFlight t).blt = s.blt :=
  (State.commitFlight_agree ..).same .blt (by decide)
@[simp] theorem State.commitFlight_wit (s : State) (t : Nat) : (s.commitFlight t).wit = s.wit :=
  (State.commitFlight_agree ..).same .wit (by decide)
@[simp] theorem State.commitFlight_enc (s : State) (t : Nat) : (s.commitFlight t).enc = s.enc :=
  (State.commitFlight_agree ..).same .enc (by decide)
@[simp] theorem State.commitFlight_chain (s : State) (t : Nat) : (s.commitFlight t).chain = s.chain :=
  (State.commitFlight_agree ..).same .chain (by decide)
@[simp] theorem State.commitFlight_dsp (s : State) (t : Nat) : (s.commitFlight t).dsp = s.dsp :=
  (State.commitFlight_agree ..).same .dsp (by decide)
@[simp] theorem State.commitFlight_pnl (s : State) (t : Nat) : (s.commitFlight t).pnl = s.pnl :=
  (State.commitFlight_agree ..).same .pnl (by decide)
@[simp] theorem State.commitFlight_nvm (s : State) (t : Nat) : (s.commitFlight t).nvm = s.nvm :=
  (State.commitFlight_agree ..).same .nvm (by decide)
@[simp] theorem State.commitFlight_fw (s : State) (t : Nat) : (s.commitFlight t).fw = s.fw :=
  (State.commitFlight_agree ..).same .fw (by decide)
@[simp] theorem State.commitFlight_thm (s : State) (t : Nat) : (s.commitFlight t).thm = s.thm :=
  (State.commitFlight_agree ..).same .thm (by decide)
@[simp] theorem State.commitFlight_memc (s : State) (t : Nat) : (s.commitFlight t).memc = s.memc :=
  (State.commitFlight_agree ..).same .memc (by decide)

@[simp] theorem State.finish_pending (s : State) (t : Nat) (st : Status) (a b : Nat) : (s.finish t st a b).pending = s.pending :=
  (State.finish_agree ..).same .pending (by decide)
@[simp] theorem State.finish_free (s : State) (t : Nat) (st : Status) (a b : Nat) : (s.finish t st a b).free = s.free :=
  (State.finish_agree ..).same .free (by decide)
@[simp] theorem State.finish_pwr (s : State) (t : Nat) (st : Status) (a b : Nat) : (s.finish t st a b).pwr = s.pwr :=
  (State.finish_agree ..).same .pwr (by decide)
@[simp] theorem State.finish_regs (s : State) (t : Nat) (st : Status) (a b : Nat) : (s.finish t st a b).regs = s.regs :=
  (State.finish_agree ..).same .regs (by decide)
@[simp] theorem State.finish_time (s : State) (t : Nat) (st : Status) (a b : Nat) : (s.finish t st a b).time = s.time :=
  (State.finish_agree ..).same .time (by decide)
@[simp] theorem State.finish_net (s : State) (t : Nat) (st : Status) (a b : Nat) : (s.finish t st a b).net = s.net :=
  (State.finish_agree ..).same .net (by decide)
@[simp] theorem State.finish_sup (s : State) (t : Nat) (st : Status) (a b : Nat) : (s.finish t st a b).sup = s.sup :=
  (State.finish_agree ..).same .sup (by decide)
@[simp] theorem State.finish_strm (s : State) (t : Nat) (st : Status) (a b : Nat) : (s.finish t st a b).strm = s.strm :=
  (State.finish_agree ..).same .strm (by decide)
@[simp] theorem State.finish_dec (s : State) (t : Nat) (st : Status) (a b : Nat) : (s.finish t st a b).dec = s.dec :=
  (State.finish_agree ..).same .dec (by decide)
@[simp] theorem State.finish_ray (s : State) (t : Nat) (st : Status) (a b : Nat) : (s.finish t st a b).ray = s.ray :=
  (State.finish_agree ..).same .ray (by decide)
@[simp] theorem State.finish_cmp (s : State) (t : Nat) (st : Status) (a b : Nat) : (s.finish t st a b).cmp = s.cmp :=
  (State.finish_agree ..).same .cmp (by decide)
@[simp] theorem State.finish_blt (s : State) (t : Nat) (st : Status) (a b : Nat) : (s.finish t st a b).blt = s.blt :=
  (State.finish_agree ..).same .blt (by decide)
@[simp] theorem State.finish_wit (s : State) (t : Nat) (st : Status) (a b : Nat) : (s.finish t st a b).wit = s.wit :=
  (State.finish_agree ..).same .wit (by decide)
@[simp] theorem State.finish_enc (s : State) (t : Nat) (st : Status) (a b : Nat) : (s.finish t st a b).enc = s.enc :=
  (State.finish_agree ..).same .enc (by decide)
@[simp] theorem State.finish_chain (s : State) (t : Nat) (st : Status) (a b : Nat) : (s.finish t st a b).chain = s.chain :=
  (State.finish_agree ..).same .chain (by decide)
@[simp] theorem State.finish_dsp (s : State) (t : Nat) (st : Status) (a b : Nat) : (s.finish t st a b).dsp = s.dsp :=
  (State.finish_agree ..).same .dsp (by decide)
@[simp] theorem State.finish_pnl (s : State) (t : Nat) (st : Status) (a b : Nat) : (s.finish t st a b).pnl = s.pnl :=
  (State.finish_agree ..).same .pnl (by decide)
@[simp] theorem State.finish_nvm (s : State) (t : Nat) (st : Status) (a b : Nat) : (s.finish t st a b).nvm = s.nvm :=
  (State.finish_agree ..).same .nvm (by decide)
@[simp] theorem State.finish_fw (s : State) (t : Nat) (st : Status) (a b : Nat) : (s.finish t st a b).fw = s.fw :=
  (State.finish_agree ..).same .fw (by decide)
@[simp] theorem State.finish_thm (s : State) (t : Nat) (st : Status) (a b : Nat) : (s.finish t st a b).thm = s.thm :=
  (State.finish_agree ..).same .thm (by decide)
@[simp] theorem State.finish_memc (s : State) (t : Nat) (st : Status) (a b : Nat) : (s.finish t st a b).memc = s.memc :=
  (State.finish_agree ..).same .memc (by decide)

@[simp] theorem State.outcome_pending (s : State) (t : Nat) (st : Status) (d : Nat) : (s.outcome t st d).pending = s.pending :=
  (State.outcome_agree ..).same .pending (by decide)
@[simp] theorem State.outcome_free (s : State) (t : Nat) (st : Status) (d : Nat) : (s.outcome t st d).free = s.free :=
  (State.outcome_agree ..).same .free (by decide)
@[simp] theorem State.outcome_pwr (s : State) (t : Nat) (st : Status) (d : Nat) : (s.outcome t st d).pwr = s.pwr :=
  (State.outcome_agree ..).same .pwr (by decide)
@[simp] theorem State.outcome_regs (s : State) (t : Nat) (st : Status) (d : Nat) : (s.outcome t st d).regs = s.regs :=
  (State.outcome_agree ..).same .regs (by decide)
@[simp] theorem State.outcome_time (s : State) (t : Nat) (st : Status) (d : Nat) : (s.outcome t st d).time = s.time :=
  (State.outcome_agree ..).same .time (by decide)
@[simp] theorem State.outcome_net (s : State) (t : Nat) (st : Status) (d : Nat) : (s.outcome t st d).net = s.net :=
  (State.outcome_agree ..).same .net (by decide)
@[simp] theorem State.outcome_strm (s : State) (t : Nat) (st : Status) (d : Nat) : (s.outcome t st d).strm = s.strm :=
  (State.outcome_agree ..).same .strm (by decide)
@[simp] theorem State.outcome_dec (s : State) (t : Nat) (st : Status) (d : Nat) : (s.outcome t st d).dec = s.dec :=
  (State.outcome_agree ..).same .dec (by decide)
@[simp] theorem State.outcome_ray (s : State) (t : Nat) (st : Status) (d : Nat) : (s.outcome t st d).ray = s.ray :=
  (State.outcome_agree ..).same .ray (by decide)
@[simp] theorem State.outcome_cmp (s : State) (t : Nat) (st : Status) (d : Nat) : (s.outcome t st d).cmp = s.cmp :=
  (State.outcome_agree ..).same .cmp (by decide)
@[simp] theorem State.outcome_blt (s : State) (t : Nat) (st : Status) (d : Nat) : (s.outcome t st d).blt = s.blt :=
  (State.outcome_agree ..).same .blt (by decide)
@[simp] theorem State.outcome_wit (s : State) (t : Nat) (st : Status) (d : Nat) : (s.outcome t st d).wit = s.wit :=
  (State.outcome_agree ..).same .wit (by decide)
@[simp] theorem State.outcome_enc (s : State) (t : Nat) (st : Status) (d : Nat) : (s.outcome t st d).enc = s.enc :=
  (State.outcome_agree ..).same .enc (by decide)
@[simp] theorem State.outcome_chain (s : State) (t : Nat) (st : Status) (d : Nat) : (s.outcome t st d).chain = s.chain :=
  (State.outcome_agree ..).same .chain (by decide)
@[simp] theorem State.outcome_dsp (s : State) (t : Nat) (st : Status) (d : Nat) : (s.outcome t st d).dsp = s.dsp :=
  (State.outcome_agree ..).same .dsp (by decide)
@[simp] theorem State.outcome_pnl (s : State) (t : Nat) (st : Status) (d : Nat) : (s.outcome t st d).pnl = s.pnl :=
  (State.outcome_agree ..).same .pnl (by decide)
@[simp] theorem State.outcome_nvm (s : State) (t : Nat) (st : Status) (d : Nat) : (s.outcome t st d).nvm = s.nvm :=
  (State.outcome_agree ..).same .nvm (by decide)
@[simp] theorem State.outcome_fw (s : State) (t : Nat) (st : Status) (d : Nat) : (s.outcome t st d).fw = s.fw :=
  (State.outcome_agree ..).same .fw (by decide)
@[simp] theorem State.outcome_thm (s : State) (t : Nat) (st : Status) (d : Nat) : (s.outcome t st d).thm = s.thm :=
  (State.outcome_agree ..).same .thm (by decide)
@[simp] theorem State.outcome_memc (s : State) (t : Nat) (st : Status) (d : Nat) : (s.outcome t st d).memc = s.memc :=
  (State.outcome_agree ..).same .memc (by decide)

@[simp] theorem State.authEvent_pending (s : State) (p : Packet) (st : Status) : (s.authEvent p st).pending = s.pending :=
  (State.authEvent_agree ..).same .pending (by decide)
@[simp] theorem State.authEvent_pwr (s : State) (p : Packet) (st : Status) : (s.authEvent p st).pwr = s.pwr :=
  (State.authEvent_agree ..).same .pwr (by decide)
@[simp] theorem State.authEvent_regs (s : State) (p : Packet) (st : Status) : (s.authEvent p st).regs = s.regs :=
  (State.authEvent_agree ..).same .regs (by decide)
@[simp] theorem State.authEvent_cmd (s : State) (p : Packet) (st : Status) : (s.authEvent p st).cmd = s.cmd :=
  (State.authEvent_agree ..).same .cmd (by decide)
@[simp] theorem State.authEvent_time (s : State) (p : Packet) (st : Status) : (s.authEvent p st).time = s.time :=
  (State.authEvent_agree ..).same .time (by decide)
@[simp] theorem State.authEvent_net (s : State) (p : Packet) (st : Status) : (s.authEvent p st).net = s.net :=
  (State.authEvent_agree ..).same .net (by decide)
@[simp] theorem State.authEvent_strm (s : State) (p : Packet) (st : Status) : (s.authEvent p st).strm = s.strm :=
  (State.authEvent_agree ..).same .strm (by decide)
@[simp] theorem State.authEvent_dec (s : State) (p : Packet) (st : Status) : (s.authEvent p st).dec = s.dec :=
  (State.authEvent_agree ..).same .dec (by decide)
@[simp] theorem State.authEvent_ray (s : State) (p : Packet) (st : Status) : (s.authEvent p st).ray = s.ray :=
  (State.authEvent_agree ..).same .ray (by decide)
@[simp] theorem State.authEvent_cmp (s : State) (p : Packet) (st : Status) : (s.authEvent p st).cmp = s.cmp :=
  (State.authEvent_agree ..).same .cmp (by decide)
@[simp] theorem State.authEvent_blt (s : State) (p : Packet) (st : Status) : (s.authEvent p st).blt = s.blt :=
  (State.authEvent_agree ..).same .blt (by decide)
@[simp] theorem State.authEvent_wit (s : State) (p : Packet) (st : Status) : (s.authEvent p st).wit = s.wit :=
  (State.authEvent_agree ..).same .wit (by decide)
@[simp] theorem State.authEvent_enc (s : State) (p : Packet) (st : Status) : (s.authEvent p st).enc = s.enc :=
  (State.authEvent_agree ..).same .enc (by decide)
@[simp] theorem State.authEvent_chain (s : State) (p : Packet) (st : Status) : (s.authEvent p st).chain = s.chain :=
  (State.authEvent_agree ..).same .chain (by decide)
@[simp] theorem State.authEvent_dsp (s : State) (p : Packet) (st : Status) : (s.authEvent p st).dsp = s.dsp :=
  (State.authEvent_agree ..).same .dsp (by decide)
@[simp] theorem State.authEvent_pnl (s : State) (p : Packet) (st : Status) : (s.authEvent p st).pnl = s.pnl :=
  (State.authEvent_agree ..).same .pnl (by decide)
@[simp] theorem State.authEvent_nvm (s : State) (p : Packet) (st : Status) : (s.authEvent p st).nvm = s.nvm :=
  (State.authEvent_agree ..).same .nvm (by decide)
@[simp] theorem State.authEvent_fw (s : State) (p : Packet) (st : Status) : (s.authEvent p st).fw = s.fw :=
  (State.authEvent_agree ..).same .fw (by decide)
@[simp] theorem State.authEvent_thm (s : State) (p : Packet) (st : Status) : (s.authEvent p st).thm = s.thm :=
  (State.authEvent_agree ..).same .thm (by decide)
@[simp] theorem State.authEvent_memc (s : State) (p : Packet) (st : Status) : (s.authEvent p st).memc = s.memc :=
  (State.authEvent_agree ..).same .memc (by decide)

@[simp] theorem State.sent_pending (s : State) (p : Packet) : (s.sent p).pending = s.pending :=
  (State.sent_agree ..).same .pending (by decide)
@[simp] theorem State.sent_free (s : State) (p : Packet) : (s.sent p).free = s.free :=
  (State.sent_agree ..).same .free (by decide)
@[simp] theorem State.sent_hmem (s : State) (p : Packet) : (s.sent p).hmem = s.hmem :=
  (State.sent_agree ..).same .hmem (by decide)
@[simp] theorem State.sent_dmem (s : State) (p : Packet) : (s.sent p).dmem = s.dmem :=
  (State.sent_agree ..).same .dmem (by decide)
@[simp] theorem State.sent_pwr (s : State) (p : Packet) : (s.sent p).pwr = s.pwr := (State.sent_agree ..).same .pwr (by decide)
@[simp] theorem State.sent_regs (s : State) (p : Packet) : (s.sent p).regs = s.regs :=
  (State.sent_agree ..).same .regs (by decide)
@[simp] theorem State.sent_fns (s : State) (p : Packet) : (s.sent p).fns = s.fns := (State.sent_agree ..).same .fns (by decide)
@[simp] theorem State.sent_time (s : State) (p : Packet) : (s.sent p).time = s.time :=
  (State.sent_agree ..).same .time (by decide)
@[simp] theorem State.sent_net (s : State) (p : Packet) : (s.sent p).net = s.net := (State.sent_agree ..).same .net (by decide)
@[simp] theorem State.sent_sup (s : State) (p : Packet) : (s.sent p).sup = s.sup := (State.sent_agree ..).same .sup (by decide)
@[simp] theorem State.sent_strm (s : State) (p : Packet) : (s.sent p).strm = s.strm :=
  (State.sent_agree ..).same .strm (by decide)
@[simp] theorem State.sent_dec (s : State) (p : Packet) : (s.sent p).dec = s.dec := (State.sent_agree ..).same .dec (by decide)
@[simp] theorem State.sent_ray (s : State) (p : Packet) : (s.sent p).ray = s.ray := (State.sent_agree ..).same .ray (by decide)
@[simp] theorem State.sent_cmp (s : State) (p : Packet) : (s.sent p).cmp = s.cmp := (State.sent_agree ..).same .cmp (by decide)
@[simp] theorem State.sent_blt (s : State) (p : Packet) : (s.sent p).blt = s.blt := (State.sent_agree ..).same .blt (by decide)
@[simp] theorem State.sent_wit (s : State) (p : Packet) : (s.sent p).wit = s.wit := (State.sent_agree ..).same .wit (by decide)
@[simp] theorem State.sent_enc (s : State) (p : Packet) : (s.sent p).enc = s.enc := (State.sent_agree ..).same .enc (by decide)
@[simp] theorem State.sent_chain (s : State) (p : Packet) : (s.sent p).chain = s.chain :=
  (State.sent_agree ..).same .chain (by decide)
@[simp] theorem State.sent_dsp (s : State) (p : Packet) : (s.sent p).dsp = s.dsp := (State.sent_agree ..).same .dsp (by decide)
@[simp] theorem State.sent_pnl (s : State) (p : Packet) : (s.sent p).pnl = s.pnl := (State.sent_agree ..).same .pnl (by decide)
@[simp] theorem State.sent_nvm (s : State) (p : Packet) : (s.sent p).nvm = s.nvm := (State.sent_agree ..).same .nvm (by decide)
@[simp] theorem State.sent_fw (s : State) (p : Packet) : (s.sent p).fw = s.fw := (State.sent_agree ..).same .fw (by decide)
@[simp] theorem State.sent_thm (s : State) (p : Packet) : (s.sent p).thm = s.thm := (State.sent_agree ..).same .thm (by decide)
@[simp] theorem State.sent_memc (s : State) (p : Packet) : (s.sent p).memc = s.memc :=
  (State.sent_agree ..).same .memc (by decide)

end Sys2Proof.Machine
end

