-- ==== Sys2Proof/Machine/Balls.lean ====
section
/-!
DEFINITION. The balls of the package: where they lie (R620 to R626), and the state each group takes while the device is held,
in Dusk and running (R617). Nothing here changes State; a ball's state is a function of it.
-/

namespace Sys2Proof.Machine

/-- The row letters of the array, rows 1 to 30 in order (R620). -/
def ballRows : List String :=
  ["A", "B", "C", "D", "E", "F", "G", "H", "J", "K", "L", "M", "N", "P", "T"] ++
    ["U", "V", "W", "Y", "AA", "AB", "AC", "AD", "AE", "AF", "AG", "AH", "AJ", "AK", "AL"]

/-- A position of the array: row and column, both 1 to 30 (R620). -/
structure BallPos where
  /-- Row number, 1 for row A. -/
  row : Nat
  /-- Column number. -/
  col : Nat
  deriving DecidableEq, Repr

/-- The name of a position, such as AK4 (R620). -/
def BallPos.name (b : BallPos) : String := ballRows.getD (b.row - 1) "" ++ toString b.col

/-- The regions of the array (R620). -/
inductive BallRegion where
  | westMemory | eastMemory | panelBand | railRows | core | hostBand
  deriving DecidableEq, Repr

/-- The region of a position (R620). -/
def BallPos.region (b : BallPos) : BallRegion :=
  if b.col ≤ 6 then .westMemory
  else if 25 ≤ b.col then .eastMemory
  else if b.row ≤ 8 then .panelBand
  else if b.row ≤ 10 then .railRows
  else if b.row ≤ 22 then .core
  else .hostBand

/-- The ball of slot `s` of memory channel `n` (R621). -/
def memBall (n s : Nat) : BallPos :=
  let k := n / 2
  let row0 := if k < 2 then 1 else 16
  let rows := if n % 2 = 0 then [0, 1, 3, 4, 5, 6] else [8, 9, 10, 11, 13, 14]
  let j := s % 6
  { row := row0 + rows.getD (s / 6) 0, col := if k % 2 = 0 then 1 + j else 30 - j }

/-- The positive or the negative ball of source-link lane `n` (R622). -/
def laneBall (n : Nat) (negative : Bool) : BallPos :=
  let m := n % 16
  { row := 3 * (n / 16) + (if negative then 2 else 1), col := 7 + m + m / 8 }

/-- The ball of gate output `i`: GCK1 to GCK12, then STV1, STV2, GRST and GALL (R622). -/
def gateBall (i : Nat) : BallPos := { row := 3, col := 9 + i }

/-- The receive balls of PCIe lane `l` (R624). -/
def pcieRxBall (l : Nat) (negative : Bool) : BallPos := { row := if negative then 27 else 26, col := 7 + l }

/-- The transmit balls of PCIe lane `l` (R624). -/
def pcieTxBall (l : Nat) (negative : Bool) : BallPos := { row := if negative then 30 else 29, col := 7 + l }

/-- The nets of the rail rows (R623). -/
inductive RailNet where
  | vinPnl | swAvdd | swNavdd | swVgh | swVgl | pgnd | fbAvdd | fbNavdd | fbVgh | fbVgl | vcom | vcomFb
  deriving DecidableEq, Repr

/-- The net of a ball of rows J and K (R623). -/
def railNet (b : BallPos) : RailNet :=
  if b.row = 9 then
    if b.col ≤ 14 then .vinPnl
    else if b.col ≤ 20 then .swAvdd
    else if b.col ≤ 23 then .swNavdd
    else .swVgh
  else if b.col = 7 then .swVgl
  else if b.col ≤ 17 then .pgnd
  else if b.col = 18 then .fbAvdd
  else if b.col = 19 then .fbNavdd
  else if b.col = 20 then .fbVgh
  else if b.col = 21 then .fbVgl
  else if b.col ≤ 23 then .vcom
  else .vcomFb

/-- The power and ground nets of the core rows (R625, R626). -/
inductive PowerNet where
  | vss | vddqMem | vddRayN | vddRayS | vddSoc | vddPhy | vddAon | vddIo18 | vddIo33 | sense
  deriving DecidableEq, Repr

/-- The net of a ball of rows L to AC in columns 21 to 23 (R625); the rows are 11 to 22. -/
def coreEdgeNet (row col : Nat) : PowerNet :=
  if row = 11 then (if col = 23 then .vddAon else .sense)
  else if row = 12 then (if col = 23 then .vddAon else .vddPhy)
  else if row ≤ 17 then .vddPhy
  else if row = 18 then (if col = 23 then .vddPhy else .vddIo18)
  else if row ≤ 20 then .vddIo18
  else if row = 21 then .vddIo33
  else if col = 23 then .vddIo33
  else .sense

/-- The net of a ball of the core rows (R625). -/
def coreNet (b : BallPos) : PowerNet :=
  if b.col = 7 ∨ b.col = 24 then .vddqMem
  else if b.col = 8 ∨ b.col = 10 ∨ b.col = 14 ∨ b.col = 18 then .vss
  else if b.col = 12 ∨ b.col = 16 ∨ b.col = 20 then .vddSoc
  else if b.col ≤ 19 then (if b.row ≤ 16 then .vddRayN else .vddRayS)
  else coreEdgeNet b.row b.col

/-! ## The whole array (R620 to R626) -/

/-- What a ball carries. -/
inductive BallSignal where
  /-- A signal of a memory channel, by its slot (R621). -/
  | memory (channel slot : Nat)
  /-- A half of a source-link pair (R622). -/
  | sourceLane (n : Nat) (negative : Bool)
  /-- LINK_LOCK (R622). -/
  | linkLock
  /-- A gate output: GCK1 to GCK12, STV1, STV2, GRST, GALL (R622). -/
  | gateOut (i : Nat)
  /-- A ball of the rail rows (R623). -/
  | railRow (net : RailNet)
  /-- A half of a PCIe pair (R624). -/
  | pcieRx (lane : Nat) (negative : Bool)
  /-- A half of a PCIe pair (R624). -/
  | pcieTx (lane : Nat) (negative : Bool)
  /-- Another signal of the host band, by name (R624). -/
  | named (signal : String)
  /-- A supply, ground or sense ball (R625, R626). -/
  | supply (net : PowerNet)
  deriving DecidableEq, Repr

/-- The place of a row in a memory block: sub-channel and index among its six rows, none for a VSS row (R621). -/
def blockRow (r : Nat) : Option (Nat × Nat) :=
  match [0, 1, 3, 4, 5, 6].findIdx? (· == r) with
  | some i => some (0, i)
  | none => ([8, 9, 10, 11, 13, 14].findIdx? (· == r)).map fun i => (1, i)

/-- What a ball of a memory band carries: block rows 2, 7 and 12 are VSS (R621). -/
def memorySignal (b : BallPos) : BallSignal :=
  let pair := (if b.row ≤ 15 then 0 else 2) + (if b.col ≤ 6 then 0 else 1)
  match blockRow ((b.row - 1) % 15) with
  | some (sub, i) => .memory (2 * pair + sub) (6 * i + (if b.col ≤ 6 then b.col - 1 else 30 - b.col))
  | none => .supply .vss

/-- What a ball of the panel band carries (R622). -/
def panelSignal (b : BallPos) : BallSignal :=
  if b.row = 3 then
    if b.col = 7 then .supply .vss else if b.col = 8 then .linkLock else .gateOut (b.col - 9)
  else if b.row = 6 then .supply (if b.col % 2 = 1 then .vss else .vddPhy)
  else if b.col = 15 ∨ b.col = 24 then .supply .vss
  else
    let m := if b.col < 15 then b.col - 7 else b.col - 8
    .sourceLane (16 * ((b.row - 1) / 3) + m) (decide (b.row % 3 = 2))

/-- The named signals of rows AD, AE and AF, columns 7 to 24 (R624). -/
def hostNames : List (List String) :=
  [["ETHA_TXP", "ETHA_TXN", "ETHA_RXP", "ETHA_RXN", "ETH_REFCLKP", "ETH_REFCLKN", "ETHB_TXP", "ETHB_TXN", "ETHB_RXP"] ++
    ["ETHB_RXN", "SFPA_TX_DISABLE", "SFPA_LOS", "SFPA_MOD_ABS", "SFPB_TX_DISABLE", "SFPB_LOS", "SFPB_MOD_ABS", "XIN", "XOUT"],
   ["REF10M", "SYNC_IN", "SYNC_OUT", "EVT_IN0", "EVT_IN1", "EVT_IN2", "EVT_IN3", "EVT_OUT0", "EVT_OUT1"] ++
    ["EVT_OUT2", "EVT_OUT3", "RESET_N", "VSENSE", "VREF_CAL", "SMB_SCL", "SMB_SDA", "SMB_ALERT_N", "FAN_PWM"],
   ["QSPI_CLK", "QSPI_CS_N", "QSPI_IO0", "QSPI_IO1", "QSPI_IO2", "QSPI_IO3", "JTAG_TCK", "JTAG_TMS", "JTAG_TDI"] ++
    ["JTAG_TDO", "JTAG_TRST_N", "UART_TX", "UART_RX", "AVS_CLK", "AVS_MDATA", "AVS_SDATA", "AVS_ALERT_N", "FAN_TACH"]]

/-- The last two balls of rows AG, AH, AK and AL (R624). -/
def hostEnds (row : Nat) : List String :=
  match row with
  | 26 => ["PE_REFCLKP", "PERST_N"]
  | 27 => ["PE_REFCLKN", "WAKE_N"]
  | 29 => ["CLKREQ_N", "STRAP_BOOT1"]
  | _ => ["STRAP_NVMSCAN", "STRAP_SPARE"]

/-- The balls of row AJ: the remote diodes, STRAP_BOOT0, and VSS (R624). -/
def diodeRow : List String :=
  ["DIODE0_P", "DIODE0_N", "DIODE1_P", "DIODE1_N", "DIODE2_P", "DIODE2_N", "DIODE3_P", "DIODE3_N", "STRAP_BOOT0"]

/-- What a ball of the host band carries (R624). -/
def hostSignal (b : BallPos) : BallSignal :=
  let c := b.col - 7
  if b.row ≤ 25 then .named ((hostNames.getD (b.row - 23) []).getD c "")
  else if b.row = 28 then (if c < 9 then .named (diodeRow.getD c "") else .supply .vss)
  else if 16 ≤ c then .named ((hostEnds b.row).getD (c - 16) "")
  else if b.row ≤ 27 then .pcieRx c (decide (b.row = 27))
  else .pcieTx c (decide (b.row = 30))

/-- What a ball carries (R620 to R625): every position has a signal, a supply or ground. -/
def BallPos.signal (b : BallPos) : BallSignal :=
  match b.region with
  | .westMemory | .eastMemory => memorySignal b
  | .panelBand => panelSignal b
  | .railRows => .railRow (railNet b)
  | .core => .supply (coreNet b)
  | .hostBand => hostSignal b

/-- The 900 positions (R620). -/
def allBalls : List BallPos := (List.range 900).map fun i => ⟨i / 30 + 1, i % 30 + 1⟩

/-- Number of balls of a net (R626). -/
def ballsOf (net : PowerNet) : Nat := (allBalls.filter fun b => b.signal == .supply net).length

/-! ## Signal attributes (R627) -/

/-- The rows of R627. -/
inductive PadRow where
  | gddrData | gddrCommand | zcal | pcieData | pcieRefclk | perstWake | clkreq | ethData | ethRefclk | sfpTxDisable
  | sfpStatus | sourceLinks | linkLock | gates | rails | diodes | xin | xout | ref10m | syncIn | syncOutEvtOut | evtIn
  | resetN | vsenseVref | smbus | qspi | jtagIn | jtagTrst | jtagOutUartTx | uartRxFanTach | straps | avsOut | avsIn | fanPwm
  deriving DecidableEq, Repr

/-- Electrical types of balls (R627). -/
inductive PadType where
  | gddr6Pod | analog | pcieCml | hcsl | lvcmos33 | openDrain | sfiCml | lvds | cml | pushPull | power | lvcmos18
  | lvcmos18OrSine | smbusOpenDrain | lvcmos18OrOpenDrain
  deriving DecidableEq, Repr

/-- Directions of balls (R627). -/
inductive PadDir where
  | input | output | both | outputOrInput | outputOrBoth | none_
  deriving DecidableEq, Repr

/-- Supply domains of balls (R627). -/
inductive PadDomain where
  | vddqMem | vddPhy | vddIo33 | vddIo18 | vddAon | vinPnl
  deriving DecidableEq, Repr

/-- Internal pulls of balls, 50 kOhm while the domain is supplied (R627). -/
inductive PadPull where
  | none_ | up | down
  deriving DecidableEq, Repr

/-- What R627 gives for a state of the device. -/
inductive PadState where
  /-- As R617 says. -/
  | asR617
  | idle | ignored | sampled | inputs
  /-- A 25 MHz copy of XIN. -/
  | copyOfXin
  /-- May stop under CLKREQ_N. -/
  | mayStop
  /-- As configured (R612). -/
  | asConfigured
  deriving DecidableEq, Repr

/-- A row of R627. -/
structure PadAttr where
  type : PadType
  dir : PadDir
  domain : PadDomain
  pull : PadPull
  failSafe : Bool
  held : PadState
  dusk : PadState
  deriving DecidableEq, Repr

/-- The attributes of a signal (R627). -/
def PadRow.attr : PadRow → PadAttr
  | .gddrData => ⟨.gddr6Pod, .both, .vddqMem, .none_, false, .asR617, .asR617⟩
  | .gddrCommand => ⟨.gddr6Pod, .output, .vddqMem, .none_, false, .asR617, .asR617⟩
  | .zcal => ⟨.analog, .none_, .vddqMem, .none_, false, .idle, .idle⟩
  | .pcieData => ⟨.pcieCml, .outputOrInput, .vddPhy, .none_, false, .asR617, .asR617⟩
  | .pcieRefclk => ⟨.hcsl, .input, .vddPhy, .none_, false, .ignored, .mayStop⟩
  | .perstWake => ⟨.lvcmos33, .input, .vddIo33, .none_, true, .asR617, .asR617⟩
  | .clkreq => ⟨.openDrain, .both, .vddIo33, .none_, true, .asR617, .asR617⟩
  | .ethData => ⟨.sfiCml, .outputOrInput, .vddPhy, .none_, false, .asR617, .asR617⟩
  | .ethRefclk => ⟨.lvds, .input, .vddPhy, .none_, false, .ignored, .ignored⟩
  | .sfpTxDisable => ⟨.lvcmos33, .output, .vddIo33, .none_, false, .asR617, .asR617⟩
  | .sfpStatus => ⟨.lvcmos33, .input, .vddIo33, .none_, false, .ignored, .ignored⟩
  | .sourceLinks => ⟨.cml, .output, .vddPhy, .none_, false, .asR617, .asR617⟩
  | .linkLock => ⟨.openDrain, .input, .vddIo18, .none_, false, .ignored, .ignored⟩
  | .gates => ⟨.pushPull, .output, .vinPnl, .none_, false, .asR617, .asR617⟩
  | .rails => ⟨.power, .none_, .vinPnl, .none_, false, .asR617, .asR617⟩
  | .diodes => ⟨.analog, .input, .vinPnl, .none_, false, .sampled, .sampled⟩
  | .xin => ⟨.lvcmos18OrSine, .input, .vddIo18, .none_, false, .asR617, .asR617⟩
  | .xout => ⟨.lvcmos18, .output, .vddIo18, .none_, false, .copyOfXin, .copyOfXin⟩
  | .ref10m => ⟨.lvcmos18, .input, .vddIo18, .none_, false, .ignored, .ignored⟩
  | .syncIn => ⟨.lvcmos18, .input, .vddIo18, .down, false, .ignored, .ignored⟩
  | .syncOutEvtOut => ⟨.lvcmos18, .output, .vddIo18, .none_, false, .asR617, .asR617⟩
  | .evtIn => ⟨.lvcmos18, .input, .vddIo18, .down, false, .asR617, .asConfigured⟩
  | .resetN => ⟨.lvcmos18, .input, .vddIo18, .none_, true, .asR617, .asR617⟩
  | .vsenseVref => ⟨.analog, .input, .vddAon, .none_, false, .asR617, .asR617⟩
  | .smbus => ⟨.smbusOpenDrain, .both, .vddIo18, .none_, true, .asR617, .asR617⟩
  | .qspi => ⟨.lvcmos18, .outputOrBoth, .vddIo18, .none_, false, .asR617, .asR617⟩
  | .jtagIn => ⟨.lvcmos18, .input, .vddIo18, .up, false, .inputs, .inputs⟩
  | .jtagTrst => ⟨.lvcmos18, .input, .vddIo18, .down, false, .inputs, .inputs⟩
  | .jtagOutUartTx => ⟨.lvcmos18, .output, .vddIo18, .none_, false, .asR617, .asR617⟩
  | .uartRxFanTach => ⟨.lvcmos18, .input, .vddIo18, .up, false, .ignored, .ignored⟩
  | .straps => ⟨.lvcmos18, .input, .vddIo18, .none_, false, .sampled, .ignored⟩
  | .avsOut => ⟨.lvcmos18, .output, .vddIo18, .none_, false, .asR617, .asR617⟩
  | .avsIn => ⟨.lvcmos18OrOpenDrain, .input, .vddIo18, .none_, false, .asR617, .asR617⟩
  | .fanPwm => ⟨.lvcmos18, .output, .vddIo18, .none_, false, .asR617, .asR617⟩

/-! ## What the balls do (R617) -/

/-- The groups of balls of R617. -/
inductive BallGroup where
  | gddr6 | pcieData | perstWake | clkreq | ethData | sfpTxDisable | sourceLinks | gates | rails | syncOut
  | evtOut (n : Fin 4) | qspi | smb | smbAlert | avs | fanPwm | uartTx | jtagTdo | inputs
  deriving DecidableEq, Repr

/-- What a ball or a group of balls does. -/
inductive BallState where
  /-- High impedance. -/
  | highZ
  /-- An input, or an open-drain output released. -/
  | input
  /-- Driven low. -/
  | low
  /-- Driven high. -/
  | high
  /-- Electrical idle. -/
  | idle
  /-- GDDR6: DRAM RESET_n low and the clocks stopped. -/
  | dramReset
  /-- GDDR6: self-refresh, CKE low, DRAM RESET_n high. -/
  | dramSelfRefresh
  /-- PCIe: the link sleeps in L1 or L1.2. -/
  | linkSleep
  /-- QSPI: CS_N high; held, the other balls are at high impedance. -/
  | deselected
  /-- Gate outputs at PGND. -/
  | atPgnd
  /-- Rails: converters off, bleeds closed. -/
  | bleeding
  /-- FAN_PWM: a duty in percent. -/
  | duty (percent : Nat)
  /-- SMBus: the target answers its address. -/
  | answering
  /-- SMBus: every address is refused by a NACK. -/
  | nack
  /-- The unit that owns the group drives it as its chapter says. -/
  | active
  deriving DecidableEq, Repr

/-- RESET_N, the reset level or a trip holds the device (R590, R591, R617). -/
def State.isHeld (s : State) : Bool := s.pwr.resetLow || s.pwr.vsenseReset || s.regs.tripHeld

/-- A level as a ball drives it. -/
def levelOf (b : Bool) : BallState := if b then .high else .low

/-- The level that an EVT_OUT ball drives: while held its inactive level, which is low with the settings of reset
(R459, R590). -/
def State.evtLevel (s : State) (n : Fin 4) : BallState := levelOf ((s.time.evtOut.getD n.val {}).level)

/-- The state of a group of balls while the device is held (R617). -/
def heldBall (s : State) : BallGroup → BallState
  | .gddr6 => .dramReset
  | .pcieData | .ethData | .sourceLinks => .idle
  | .perstWake | .clkreq | .inputs | .smb | .smbAlert => .input
  | .sfpTxDisable => .high
  | .gates => .atPgnd
  | .rails => .bleeding
  | .syncOut => .low
  | .evtOut n => s.evtLevel n
  | .qspi => .deselected
  | .avs => .idle
  | .fanPwm => .duty 100
  | .uartTx => .high
  | .jtagTdo => .highZ

/-- A wake has been seen in Dusk and is held under R546. -/
def State.holdsWake (s : State) : Bool := s.pwr.wakePending != 0 && s.wakeHeld

/-- The state of a group of balls in Dusk (R617); FAN_PWM drives 100 % while a wake is held under R546. -/
def duskBall (s : State) : BallGroup → BallState
  | .gddr6 => .dramSelfRefresh
  | .pcieData => .linkSleep
  | .perstWake | .clkreq | .inputs | .smbAlert => .input
  | .smb => .nack
  | .ethData | .sourceLinks | .avs => .idle
  | .sfpTxDisable => .high
  | .gates => .atPgnd
  | .rails => .bleeding
  | .syncOut => .low
  | .evtOut n => s.evtLevel n
  | .qspi => .deselected
  | .fanPwm => .duty (if s.holdsWake then 100 else 0)
  | .uartTx => .high
  | .jtagTdo => .highZ

/-- The state of a group of balls while the device is neither held nor in Dusk: the levels that State gives, and the group's
own unit elsewhere (R92, R461, R463). -/
def runningBall (s : State) : BallGroup → BallState
  | .perstWake | .inputs => .input
  | .sfpTxDisable => if s.net.ports.all (·.txDisable) then .high else .active
  | .evtOut n => s.evtLevel n
  | .smb => .answering
  | .smbAlert => if s.smb.alert then .low else .input
  -- the converters are off and their bleeds closed, or some converter runs (R326, R358)
  | .rails => if s.pnl.bleeds.all id then .bleeding else .active
  | _ => .active

/-- The state of a group of balls of a device that is supplied (R617, R627). -/
def State.ball (s : State) (g : BallGroup) : BallState :=
  if s.isHeld then heldBall s g
  else if s.pwr.dusk = .asleep then duskBall s g
  else runningBall s g

/-- The state of a group of balls of a device that is not supplied (R617). -/
def unpoweredBall : BallGroup → BallState
  | .gates => .atPgnd
  | .rails => .bleeding
  | .inputs => .input
  | _ => .highZ

/-- The groups whose balls tolerate a driven signal while their rail is absent (R618); VSENSE and RESET_N of the inputs do
too. -/
def BallGroup.failSafe : BallGroup → Bool
  | .perstWake | .clkreq | .smb | .smbAlert => true
  | _ => false

end Sys2Proof.Machine
end

