-- ==== Sys2Proof/Machine/Electrical.lean ====
section
/-!
DEFINITION. Figures of the panel-power die and of the electrical chapter that are formulas or limits (R328, R329, R656 to
R668): what a board can check, not what a
command changes. Voltages are in millivolts, powers in milliwatts, temperatures in units of 0.01 degrees C, thermal resistances in
units of 0.001 degrees C per watt.
-/

namespace Sys2Proof.Machine

/-! ## The panel rails (R328, R329) -/

/-- Figures of a panel rail: accuracy once trimmed, in tenths of a percent, current limit in mA, external inductor in units of
0.1 uH, bleed switch in ohms, greatest board capacitance in units of 0.1 uF (R328). -/
structure RailFigures where
  accuracy : Nat
  limitMa : Nat
  inductor : Nat
  bleedOhm : Nat
  boardCap : Nat
  deriving DecidableEq, Repr

/-- The figures of AVDD, NAVDD, VGH and VGL (R328). -/
def railFigures : Nat → RailFigures
  | 0 => ⟨10, 1500, 47, 10, 180⟩
  | 1 => ⟨10, 500, 100, 10, 330⟩
  | 2 => ⟨20, 60, 220, 200, 33⟩
  | _ => ⟨20, 60, 220, 200, 22⟩

/-- The accuracy of a rail now, in tenths of a percent: doubled while the rail trims last ran UNTRACED (R328). -/
def State.railAccuracy (s : State) (rail : Nat) : Nat :=
  (railFigures rail).accuracy * (if s.pnl.untraced then 2 else 1)

/-- Magnitude of the setting of a rail, mV (R330). -/
def RailSet.mv (r : RailSet) : Nat → Nat
  | 0 => r.avdd
  | 1 => r.navdd
  | 2 => r.vgh
  | _ => r.vgl

/-- The greatest distance of a rail from its setting in operation, uV (R328). -/
def State.railTolerance (s : State) (rail : Nat) : Nat :=
  s.pnl.rails.elim 0 fun r => r.mv rail * s.railAccuracy rail

/-- Time that the bleed of a rail has before the discharge ends, us (R358). -/
def bleedTime : Nat → Nat
  | 0 => 450
  | 1 => 900
  | 2 => 1800
  | _ => 1350

/-- With a board capacitance in units of 0.1 uF a rail falls below 10 % of its setting in its bleed time: t >= 2.30 RC
(R328). -/
def bleedsInTime (rail cap : Nat) : Bool :=
  decide (230 * (railFigures rail).bleedOhm * cap ≤ 1000 * bleedTime rail)

/-- VCOM is regulated to code x V_AVDD / 1023 of the AVDD setting, here in uV, rounded down (R329). -/
def State.vcomTarget (s : State) : Nat := s.pnl.rails.elim 0 fun r => s.pnl.vcomCode * r.avdd * 1000 / 1023

/-- The greatest distance of VCOM from its target, uV: 10 mV and the accuracy of AVDD (R329). -/
def State.vcomTolerance (s : State) : Nat := 10000 + s.vcomTarget * s.railAccuracy 0 / 1000

/-- Current that the VCOM buffer sources and sinks, mA: at its peak and continuously (R329). -/
def vcomCurrent : Nat × Nat := (250, 50)

/-- VCOM settles to within 10 mV of a new code in 1.0 us (R329), here in ns. -/
def vcomSettleNs : Nat := 1000

/-! ## Supplies (R656 to R668) -/

/-- The supply rails of R584. -/
inductive Rail where
  | vddAon | vddSoc | vddRayN | vddRayS | vddPhy | vddqMem | vddIo18 | vddIo33 | vinPnl
  deriving DecidableEq, Repr

/-- Least and greatest voltage of a rail in operation (R657); `set` is the value last written to a ray rail (R587), and `low`
says that VDDQ_MEM runs at 1.25 V (R466). Bounds are in units of 0.01 mV. -/
def Rail.limits (set : Nat) (low : Bool) : Rail → Nat × Nat
  | .vddAon => (77600, 82400)
  | .vddSoc => (72750, 77250)
  | .vddRayN | .vddRayS => (100 * set - 2500, 100 * set + 3000)
  | .vddPhy => (87300, 92700)
  | .vddqMem => if low then (121250, 128750) else (130950, 139050)
  | .vddIo18 => (171000, 189000)
  | .vddIo33 => (313500, 346500)
  | .vinPnl => (900000, 1600000)

/-- The greatest voltage that a rail stands without damage, mV (R656). -/
def Rail.absMax : Rail → Nat
  | .vddAon | .vddSoc | .vddRayN | .vddRayS => 1000
  | .vddPhy => 1050
  | .vddqMem => 1500
  | .vddIo18 => 2000
  | .vddIo33 => 3800
  | .vinPnl => 20000

/-- The greatest current of a rail at full load, 0.1 mA (R659). -/
def Rail.maxCurrent : Rail → Nat
  | .vddRayN | .vddRayS => 71000
  | .vddSoc => 128000
  | .vddPhy => 50000
  | .vddqMem => 11100
  | .vddAon => 1250
  | .vddIo18 => 1100
  | .vddIo33 => 300
  | .vinPnl => 1670

/-- The current that a regulator must deliver for up to 10 us, 0.1 mA (R659). -/
def Rail.peakCurrent : Rail → Nat
  | .vddRayN | .vddRayS => 160000
  | .vddSoc => 140000
  | .vddPhy => 65000
  | .vddqMem => 20000
  | .vddAon | .vddIo18 | .vinPnl => 3000
  | .vddIo33 => 2000

/-- Typical current of a rail at full load and in Dusk, 0.1 mA (R659). -/
def Rail.typCurrent : Rail → Nat × Nat
  | .vddRayN | .vddRayS => (64000, 1500)
  | .vddSoc => (112000, 4000)
  | .vddPhy => (48000, 1000)
  | .vddqMem => (10000, 200)
  | .vddAon => (1200, 1500)
  | .vddIo18 => (1000, 500)
  | .vddIo33 => (300, 100)
  | .vinPnl => (1500, 60)

/-- Balls that are not supplies, as R656 rates them. -/
inductive RatedBall where
  | avddSide | vghSide | negativeSide | ordinary | failSafe18 | failSafe33 | vsense
  deriving DecidableEq, Repr

/-- The least and the greatest voltage of a ball, mV, with its own rail at `own` and VGL at `vgl` (R656). -/
def RatedBall.absLimits (own vgl : Int) : RatedBall → Int × Int
  | .avddSide => (-700, 20000)
  | .vghSide => (vgl - 300, 40000)
  | .negativeSide => (-18000, 700)
  | .ordinary => (-300, own + 300)
  | .failSafe18 | .vsense => (-300, 2000)
  | .failSafe33 => (-300, 3800)

/-- Absolute junction and storage temperatures, and the operating junction range, degrees C (R656, R657). -/
def junctionAbs : Int × Int := (-55, 125)
/-- Storage temperatures (R656). -/
def storageAbs : Int × Int := (-55, 150)
/-- The operating junction range (R657). -/
def junctionRange : Int × Int := (-40, 110)

/-! ## Levels, clocks and timing (R661, R662, R664) -/

/-- Types of digital balls that R661 gives levels for. -/
inductive LevelType where
  | lvcmos18 | lvcmos33 | openDrain18 | smbus | clkreq
  deriving DecidableEq, Repr

/-- The greatest low and the least high input voltage of a type, mV, with VDD_IO18 at `v18` mV (R661). -/
def LevelType.inputLevels (v18 : Nat) : LevelType → Nat × Nat
  | .lvcmos18 | .openDrain18 => (35 * v18 / 100, 65 * v18 / 100)
  | .lvcmos33 => (800, 2000)
  | .smbus => (600, 1200)
  | .clkreq => (800, 2000)

/-- The greatest low output voltage and the least high one, mV; an open drain has no high output (R661). -/
def LevelType.outputLevels (v18 : Nat) : LevelType → Nat × Option Nat
  | .lvcmos18 => (450, some (v18 - 450))
  | .lvcmos33 => (400, some 2400)
  | .openDrain18 | .smbus | .clkreq => (400, none)

/-- The levels that the gate outputs reach, mV: at least VGH - 1.0 V, at most VGL + 1.0 V (R661). -/
def gateLimits (vgh vgl : Int) : Int × Int := (vgh - 1000, vgl + 1000)

/-- The clock inputs: frequency in Hz and accuracy in units of 0.1 ppm (R662). -/
inductive ClockInput where
  | xin | peRefclk | ethRefclk | ref10m
  deriving DecidableEq, Repr

/-- Frequency and accuracy of a clock input (R662). -/
def ClockInput.figures : ClockInput → Nat × Nat
  | .xin => (25000000, 25)
  | .peRefclk => (100000000, 3000)
  | .ethRefclk => (156250000, 1000)
  | .ref10m => (10000000, 10)

/-- VREF_CAL: voltage in units of 0.1 mV, accuracy in units of 0.01 % (R662). -/
def vrefCal : Nat × Nat := (12500, 2)

/-- Delays at the balls with a least and a greatest value, ps: SYNC_IN to the frame-start event, and from it to SYNC_OUT
(R19, R307, R664). -/
def syncInDelay : Nat × Nat := (4500, 5500)
/-- Frame-start event to the active edge of SYNC_OUT, ps (R664). -/
def syncOutDelay : Nat × Nat := (2500, 3500)
/-- Interval between SYNC_IN edges, us (R664). -/
def syncInInterval : Nat × Nat := (4000, 42000)
/-- Least pulse widths of SYNC_IN, EVT_IN and RESET_N, ns (R664). -/
def leastPulses : Nat × Nat × Nat := (50, 10, 10000)
/-- Greatest errors of EVT_IN captures, EVT_OUT edges and network time-stamps, ps (R664). -/
def stampErrors : Nat × Nat × Nat := (1500, 1000, 800)
/-- Source-link lane rate, Mb/s, and the greatest skew of a slot start between lanes, ns (R664). -/
def laneLimits : Nat × Nat × Nat := (1500, 8000, 2)

/-- The losses of the panel-power die for a delivered power, in units of 0.01 mW (R660). -/
def dieLosses (delivered : Nat) : Nat := 10000 + 6 * delivered

/-- AVDD is regulated by switching (R666): its setting is at least VIN_PNL + 1.0 V. Both are in millivolts. -/
def avddSwitches (avdd vin : Nat) : Bool := decide (vin + 1000 ≤ avdd)

/-- A converter of R665: switching frequency in kHz, typical efficiency in percent, line and load regulation in tenths of a
percent. -/
structure Converter where
  khz : Nat
  efficiency : Nat
  line : Nat
  load : Nat
  deriving DecidableEq, Repr

/-- The converters of AVDD, NAVDD, VGH and VGL (R665). -/
def converterOf : Nat → Converter
  | 0 => ⟨1200, 91, 2, 5⟩
  | 1 => ⟨1200, 86, 2, 5⟩
  | 2 => ⟨600, 82, 3, 10⟩
  | _ => ⟨600, 80, 3, 10⟩

/-- Thermal resistances, 0.001 degrees C per watt: junction to lid, junction to board, junction to the lid-centre thermocouple,
and junction to still air (R667). -/
def thermalPaths : List Nat := [100, 2500, 50, 11000]

/-- The greatest AVDD load in the mode that the setting gives, mA (R328, R666). -/
def avddLimit (avdd vin rated : Nat) : Nat := if avddSwitches avdd vin then rated else 300

/-- The junction temperature at a power, in units of 0.01 degrees C (R667, R668). -/
def junctionTemp (ambient power theta : Nat) : Nat := ambient + power * theta / 10000

/-- The greatest whole number of watts whose junction temperature stays at or below a threshold (R668). -/
def sustainedWatts (threshold ambient theta : Nat) : Nat := (threshold - ambient) * 10 / theta

end Sys2Proof.Machine
end

