-- ==== Sys2Proof/Machine/Figures.lean ====
section
/-!
DEFINITION. Figures and conditions of the manual that no command reads: the headline figures, the parts of the die that share a
rail or a quadrant, the budgets, the life of the store, what the board must do, and the package (R1, R2, R11, R12, R16, R18, R20 to
R26, R39, R521, R524, R561, R586, R602, R619, R629 to R635, R669, R670). No step of the machine reads these definitions.
-/

namespace Sys2Proof.Machine

/-! ## The part (R1, R2, R11, R12) -/

/-- Rays that a panel needs in a second: one for each subpixel of each refresh (R1). -/
def raysNeeded (width height hz : Nat) : Nat := 3 * width * height * hz

/-- Rays that `cores` cores give in a second at `mhz`, where a ray costs `tenths` tenths of a core cycle (R1). -/
def raysGiven (cores mhz tenths : Nat) : Nat := cores * mhz * 10000000 / tenths

/-- The panel profiles of R1: width, height and refresh in Hz. -/
def panelProfiles : List (Nat × Nat × Nat) :=
  [(15360, 8640, 60), (11520, 6480, 60), (11520, 6480, 90), (7680, 4320, 120), (7680, 4320, 60), (3840, 2160, 240)]

/-- Power at full load, greatest and typical, and in Dusk, mW; what the part delivers into the panel rails is not counted (R1,
R2). -/
def devicePower : Nat × Nat × Nat := (30000, 27000, 900)

/-- The longest interruption that a single fault makes of the raster, of command service or of a channel, ns (R1). -/
def longestInterruption : Nat := 25000

/-- Ordering codes and how many parts a tray or a reel holds (R11). -/
def orderingCodes : List (String × Nat) := [("USH9616-B1-X", 21), ("USH9616-B1-XT", 200)]

/-- A driver written to the manual may enable the expert level: the stepping is B1 and the firmware's major version 3 (R12). -/
def driverMayUse (stepping : String) (major : Nat) : Bool := stepping == "B1" && major == 3

/-! ## Islands (R16, R18, R20 to R24) -/

/-- Time that a transfer between two islands takes, ps: typical and greatest (R16). -/
def transferTime : Nat × Nat := (1800, 3000)

/-- Islands that the supervisor may stop or gate by itself in operation; 1 to 7 are gated in Dusk only, 0 never (R18). -/
def gatesAlone (i : Nat) : Bool := decide (8 ≤ i ∧ i ≤ 127)

/-- The quadrant of a ray core: 0 NW, 1 NE, 2 SW, 3 SE (R21). -/
def quadrantOfCore (n : Nat) : Nat := 2 * (n / 48) + n % 24 / 12

/-- The ray cores of a quadrant. -/
def coresOfQuadrant (q : Nat) : List Nat := (List.range 96).filter fun n => quadrantOfCore n == q

/-- The ray cores of one cluster that a fault confined to a quadrant can take: never the whole cluster (R23). -/
def coresAtRisk (q cluster : Nat) : List Nat := (coresOfQuadrant q).filter fun n => n / 24 == cluster

/-- The domain agent's island that owns an island; none for the supervisor and the agents themselves (R20). -/
def agentOf (i : Nat) : Option Nat :=
  if 8 ≤ i ∧ i ≤ 103 then some (2 + quadrantOfCore (i - 8))
  else if 108 ≤ i ∧ i ≤ 119 then some (2 + (i - 108) / 3)
  else if i = 122 then some 7
  else if 104 ≤ i ∧ i ≤ 127 then some 6
  else none

/-- The rail that supplies an island (R24). -/
def railOfIsland (i : Nat) : Rail :=
  if i = 0 then .vddAon
  else if 8 ≤ i ∧ i ≤ 55 then .vddRayN
  else if 56 ≤ i ∧ i ≤ 103 then .vddRayS
  else .vddSoc

/-- What sensor `n` beyond the quadrants lies beside: a converter of the panel-power die, or a remote diode of the panel (R22). -/
inductive FarSensor where
  | avdd | navdd | vgh | vgl
  | diode (pair : Nat)
  deriving DecidableEq, Repr

/-- Where TS32 to TS39 lie (R22). -/
def farSensor : Nat → Option FarSensor
  | 32 => some .avdd
  | 33 => some .navdd
  | 34 => some .vgh
  | 35 => some .vgl
  | n => if 36 ≤ n ∧ n ≤ 39 then some (.diode (n - 36)) else none

/-! ## Budgets (R25, R26, R39) -/

/-- Blocks that R25 gives a figure. -/
inductive PowerBlock where
  | ray | codec | memory | pcie | scan | blit | network | management | panelDie
  deriving DecidableEq, Repr

/-- The most that a block draws at the full-load operating point, in 0.1 W (R25). -/
def PowerBlock.most : PowerBlock → Nat
  | .ray => 135
  | .codec => 30
  | .memory => 45
  | .pcie => 16
  | .scan => 22
  | .blit => 6
  | .network => 6
  | .management => 20
  | .panelDie => 20

/-- Every block of R25. -/
def powerBlocks : List PowerBlock := [.ray, .codec, .memory, .pcie, .scan, .blit, .network, .management, .panelDie]

/-- Memory traffic at the full-load operating point: port, and 0.1 GB/s (the memory budget behind R25). -/
def trafficBudget : List (Nat × Nat) := [(5, 189), (4, 470), (2, 300), (3, 318), (0, 318), (1, 100), (6, 40)]

/-- A board may drive a panel: the largest one needs 18 Gb/s per pin and all 8 channels (R26). -/
def boardDrives (width height gbps channels : Nat) : Bool :=
  !(width == 15360 && height == 8640) || decide (18 ≤ gbps ∧ channels = 8)

/-- Stream to first light in half refresh periods: least, typical and greatest (R39). -/
def firstLight : Nat × Nat × Nat := (5, 6, 7)

/-! ## The store's life (R521, R524) -/

/-- Years that a page keeps its data at 85 degrees C without power (R521). -/
def retentionYears : Nat := 2

/-- Programs that a word withstands (R524). -/
def wordPrograms : Nat := 1000000000

/-- Stores that a host may make of one record over the life of the product: its slots take turns (R524). -/
def recordStores : Nat := 2 * wordPrograms

/-- Seconds until each slot of a record stored every `ms` milliseconds has been programmed as often as a word withstands
(R524). -/
def storeLife (ms : Nat) : Nat := recordStores * ms / 1000

/-! ## When the recovery guarantee holds (R561) -/

/-- R560 holds: no recovery was in progress, supplies and temperature lay within their ranges, the hold-up was met, and the
firmware is a signed image with debug locked since Dawn (R561). -/
def guaranteeHolds (recovering supplies temps holdUp signed debugOpened : Bool) : Bool :=
  !recovering && supplies && temps && holdUp && signed && !debugOpened

/-! ## Supplies and debug (R585, R586, R602, R619) -/

/-- The groups of rails in the order of power-up (R585); VIN_PNL may rise at any point. -/
def powerUpOrder : List (List Rail) := [[.vddAon], [.vddSoc, .vddRayN, .vddRayS], [.vddPhy], [.vddIo18], [.vddIo33, .vddqMem]]

/-- The groups in the order in which a board removes them, with RESET_N low or the device in Dusk (R586). -/
def powerDownOrder : List (List Rail) := powerUpOrder.reverse

/-- A deliberate removal is allowed now (R586). -/
def State.mayRemove (s : State) : Bool := s.pwr.resetLow || s.inDusk

/-- What JTAG offers. -/
inductive JtagInstr where
  | idcode | bypass | sample | extest | debug
  deriving DecidableEq, Repr

/-- JTAG takes an instruction: all but debug while debug is locked (R602). -/
def State.jtagTakes (s : State) (i : JtagInstr) : Bool := i != .debug || s.sup.debugOpen

/-- UART_RX is heard; UART_TX carries the firmware log at 115,200 baud, 8N1 (R602). -/
def State.uartHears (s : State) : Bool := s.sup.debugOpen

/-- Network frames pass through the device: neither while it is held nor in Dusk (R619). -/
def State.passesFrames (s : State) : Bool := !s.isHeld && !s.inDusk && s.pwr.vddAon

/-! ## Balls that the board does not use (R629, R630) -/

/-- How the board handles a ball that it does not use (R629). -/
inductive Handling where
  | open_
  | pullUp33 | pullUp18 | downEach | down10k
  | toPartner
  deriving DecidableEq, Repr

/-- Groups of balls that a board may leave unused (R629). -/
inductive UnusedGroup where
  | pcieLane | sourceLane | gateClock | ethPair | sfpIn | sfpDisable | ethRefclk | ref10m | pulledIn | outputs | qspi | smbus
  | smbAlert | vrefCal | diode
  deriving DecidableEq, Repr

/-- The handling of an unused group (R629). -/
def UnusedGroup.handling : UnusedGroup → Handling
  | .pcieLane | .sourceLane | .gateClock | .ethPair | .sfpDisable | .pulledIn | .outputs | .qspi | .smbAlert | .vrefCal => .open_
  | .sfpIn => .pullUp33
  | .smbus => .pullUp18
  | .ethRefclk => .downEach
  | .ref10m => .down10k
  | .diode => .toPartner

/-- What a diode input without a diode samples as: absent when its balls are joined, below the range when they are open (R630). -/
def unusedDiode (joined : Bool) : SensorSample := if joined then .absent else .reading (-100 * 16)

/-! ## Rules for the board (R631 to R635) -/

/-- GDDR6 groups: impedances of single-ended traces and pairs and of ZCAL in ohms, mismatch of data and of command traces and
greatest length in mm (R631). -/
structure MemoryRules where
  single : Nat := 40
  pair : Nat := 80
  zcal : Nat := 240
  dataMm : Nat := 2
  commandMm : Nat := 5
  longestMm : Nat := 25
  deriving DecidableEq, Repr

/-- A channel's traces obey R631: the mismatches and the length in mm. -/
def MemoryRules.holds (r : MemoryRules) (dataMm commandMm longestMm : Nat) : Bool :=
  decide (dataMm ≤ r.dataMm ∧ commandMm ≤ r.commandMm ∧ longestMm ≤ r.longestMm)

/-- A coupling capacitor of a PE_TX line in nF is allowed (R632). -/
def pcieCoupling (nf : Nat) : Bool := decide (176 ≤ nf ∧ nf ≤ 265)

/-- The high-speed interfaces of the board. -/
inductive PairGroup where
  | pcie | sfi | sourceLink
  deriving DecidableEq, Repr

/-- A board may swap P and N within a pair, and reverse the order of the lanes (R632 to R634). -/
def PairGroup.maySwap (g : PairGroup) : Bool := g != .sfi

/-- SFI: no coupling on the pairs, 100 nF on ETH_REFCLK, pull-ups of the module signals between these values in 0.1 kOhm
(R633). -/
def sfiPullUps : Nat × Nat := (47, 100)

/-- Source-link pairs: ohms, nF at the column driver, skew in ps, insertion loss in dB at 3 GHz, and the pull-up of LINK_LOCK in
0.1 kOhm (R634). -/
def sourcePairs : Nat × Nat × Nat × Nat × Nat := (100, 100, 5, 12, 22)

/-- The supply side of the inductor of a rail's converter: VIN_PNL, or PGND for the negative rails (R635). -/
def inductorSide (rail : Nat) : RailNet := if rail = 0 ∨ rail = 2 then .vinPnl else .pgnd

/-- The greatest series resistance of a gate trace, ohms (R635). -/
def gateTraceOhm : Nat := 10

/-! ## The package (R669, R670) -/

/-- Mechanical figures: body, pitch, seated height and lid in 0.01 mm, ball diameter and coplanarity in 0.01 mm, mass in 0.1 g,
reflow peak in degrees C (R669). -/
structure PackageFigures where
  body : Nat := 3100
  rows : Nat := 30
  pitch : Nat := 100
  ball : Nat := 60
  height : Nat := 320
  coplanarity : Nat := 5
  lid : Nat := 2900
  flatness : Nat := 5
  lidLoadN : Nat := 300
  mass : Nat := 95
  moisture : Nat := 3
  reflow : Nat := 260
  reflows : Nat := 3
  deriving DecidableEq, Repr

/-- Balls of the package (R669). -/
def PackageFigures.balls (p : PackageFigures) : Nat := p.rows * p.rows

/-- The lines of marking on the lid, for an ordering code, a date and a lot (R670). -/
def lidMarking (code date lot : String) : List String := ["CAWALD", code, date ++ " " ++ lot]

end Sys2Proof.Machine
end

