-- ==== Sys2Proof/Machine/Lanes.lean ====
section
/-!
DEFINITION. What the source links and the gate outputs carry, as functions of State (R338 to R343, R346, R347, R353, R357,
R358). Nothing here changes State.
-/

namespace Sys2Proof.Machine

/-! ## Blocks (R339, R340, R342) -/

/-- A 66-bit block before scrambling: its sync header is that of a control block (10) or of a data block (01), and eight
payload bytes (R339). -/
structure LinkBlock where
  control : Bool
  bytes : List Byte
  deriving DecidableEq, Repr

/-- A control block from its type and the bytes that follow; bytes not listed are 0 (R340). -/
def controlBlock (type : Nat) (rest : List Byte) : LinkBlock := ⟨true, sliceZ (byte type :: rest) 0 8⟩

/-- IDLE. -/
def idleBlock : LinkBlock := controlBlock 0x1E []
/-- LATCH. -/
def latchBlock : LinkBlock := controlBlock 0x5A []
/-- DISCHARGE. -/
def dischargeBlock : LinkBlock := controlBlock 0x6C []
/-- LINE_START of a line, with flags, before `n` data blocks. -/
def lineStartBlock (line flags n : Nat) : LinkBlock := controlBlock 0x33 (leBytes 2 line ++ [byte flags] ++ leBytes 2 n)
/-- LINE_REPEAT of a line. -/
def lineRepeatBlock (line flags : Nat) : LinkBlock := controlBlock 0x55 (leBytes 2 line ++ [byte flags])
/-- CONFIG_START of a register, before `n` data blocks. -/
def configStartBlock (first : Nat) (commit : Bool) (n : Nat) : LinkBlock :=
  controlBlock 0x66 (leBytes 2 first ++ [byte (b2n commit)] ++ leBytes 2 n)

/-- END, with the CRC over bytes 1 to 7 of the starting block and the payload of the data blocks (R342). -/
def endBlock (start : LinkBlock) (payload : List Byte) : LinkBlock :=
  controlBlock 0x4B ([0, 0, 0] ++ leBytes 4 (crc32c (start.bytes.drop 1 ++ payload)))

/-- Payload bytes as data blocks, the last one filled up with zeros. -/
def dataBlocks (payload : List Byte) : List LinkBlock :=
  (List.range (ceilDiv payload.length 8)).map fun k => ⟨false, sliceZ payload (8 * k) 8⟩

/-- A packet: its start, its data, its END. -/
def linkPacket (start : LinkBlock) (payload : List Byte) : List LinkBlock :=
  start :: dataBlocks payload ++ [endBlock start payload]

/-- Subpixels as one little-endian number, subpixel k in bits 10k + 9 to 10k (R342). -/
def subpixelsNat : List Nat → Nat
  | [] => 0
  | v :: vs => v % 1024 + 1024 * subpixelsNat vs

/-- The payload of a line packet for the subpixels of one lane (R342). -/
def linePayload (vs : List Nat) : List Byte := leBytes (8 * ceilDiv (10 * vs.length) 64) (subpixelsNat vs)

/-! ## The bits of a lane (R339) -/

/-- Bits of a byte, the least significant first. -/
def byteBits (b : Byte) : List Bool := (List.range 8).map fun i => b.getLsbD i

/-- The scrambler 1 + x^39 + x^58 of IEEE 802.3 clause 49: what it sends for payload bits, and the 58 bits that it keeps, the
last one sent as bit 0 (R339, log 116). -/
def scramble (kept : BitVec 58) : List Bool → List Bool × BitVec 58
  | [] => ([], kept)
  | d :: ds =>
    let sent := d ^^ kept.getLsbD 38 ^^ kept.getLsbD 57
    let (rest, last) := scramble ((kept <<< 1) ||| BitVec.ofNat 58 (b2n sent)) ds
    (sent :: rest, last)

/-- The bits of a block in the order in which they are sent: the sync header as it stands, then the payload scrambled. -/
def LinkBlock.sent (kept : BitVec 58) (b : LinkBlock) : List Bool × BitVec 58 :=
  let (bits, last) := scramble kept (b.bytes.flatMap byteBits)
  (b.control :: (!b.control) :: bits, last)

/-- The bits of consecutive blocks of a lane. -/
def laneBits (kept : BitVec 58) : List LinkBlock → List Bool × BitVec 58
  | [] => ([], kept)
  | b :: bs =>
    let (x, k) := b.sent kept
    let (y, last) := laneBits k bs
    (x ++ y, last)

/-- POLARITY inverts the pair of lane `i` (R344). -/
def LinkSet.inverts (k : LinkSet) (i : Nat) : Bool := bitOf k.polarity i

/-- Differential swing of the lanes, mV peak to peak (R344). -/
def LinkSet.swingMv (k : LinkSet) : Nat := 400 + 200 * (k.tx % 4)

/-- De-emphasis of the lanes, dB (R344). -/
def LinkSet.deemphasisDb (k : LinkSet) : Int := -2 * (k.tx / 4 % 4 : Nat)

/-! ## Lanes (R338, R346, R347) -/

/-- What a lane carries. -/
inductive LaneSignal where
  /-- Electrical idle. -/
  | electricalIdle
  /-- The pattern 1010… of a training (R346, R347). -/
  | pattern
  /-- Scrambled blocks; IDLE blocks fill the rest of the slot (R341). -/
  | blocks (bs : List LinkBlock)
  deriving DecidableEq, Repr

/-- The part of a line, counted in lanes, that lane `i` carries; REVERSE turns the order round (R338). -/
def LinkSet.partOf (k : LinkSet) (i : Nat) : Nat := if bitOf k.tx 4 then k.lanes - 1 - i else i

/-- Flags of LINE_START and LINE_REPEAT: POL and RATE (R340). -/
def State.lineFlags (s : State) : Nat := s.dsp.dfn.toNat % 2 + 2 * s.dsp.rate

/-- The bytes of a CONFIG packet for driver `i`: LANE_ID is the driver's own number (R349). -/
def ConfigPacket.bytesFor (c : ConfigPacket) (i : Nat) : List Byte :=
  let b := if c.first = 0 then spliceAt c.bytes 0 (leBytes 2 i) else c.bytes
  sliceZ b 0 (8 * ceilDiv b.length 8)

/-- The blocks of the slot in progress on lane `i` (R341, R342): the slot's number is one less than the next one's. -/
def State.slotBlocks (s : State) (k : LinkSet) (t : Timing) (i : Nat) : List LinkBlock :=
  let n := (s.dsp.slot - 1).toNat
  match s.dsp.block with
  | .lineStart =>
    let ppl := k.ppl t
    let payload := linePayload ((s.dsp.line.drop (3 * ppl * k.partOf i)).take (3 * ppl))
    linkPacket (lineStartBlock n s.lineFlags (lineBlocks ppl)) payload
  | .lineRepeat => [lineRepeatBlock n s.lineFlags]
  | .config => match s.pnl.config with
    | some c =>
      if bitOf c.lanes i then
        linkPacket (configStartBlock c.first c.commit (packetBlocks c)) (c.bytesFor i)
      else [latchBlock]
    | none => [latchBlock]
  | .latch => [latchBlock]
  | .discharge => [dischargeBlock]

/-- STATE as the lanes and the gates show it: a discharge shows from its first slot start on, until which the line packet in
progress completes and the gates run (R358). -/
def State.modeShown (s : State) : PanelMode :=
  match s.pnl.discharge with
  | some d => if d.start.isNone then d.from_ else s.pnl.mode
  | none => s.pnl.mode

/-- What a lane of a fast retrain carries: the pattern for 4 us, then IDLE blocks, 256 of them and on while LINK_LOCK is
awaited (R347). -/
def State.retrainSignal (s : State) (r : Retrain) : LaneSignal :=
  if s.mtNs < r.since + 4000 then .pattern else .blocks [idleBlock]

/-- The bound on a fast retrain at a lane rate in Mb/s, ns, rounded up: 4 us, 256 blocks and 2 us (R347). -/
def retrainBound (rate : Nat) : Nat := 6000 + ceilDiv (256 * 66 * 1000) rate

/-- What lane `i` carries (R326, R338, R346, R347, R356, R358). In RAILS_UP the lanes in use send IDLE blocks behind a timing
that they no longer fit, and are idle otherwise; in lockout they carry nothing (log 116). -/
def State.laneSignal (s : State) (i : Nat) : LaneSignal :=
  match s.pnl.link, s.dsp.timing with
  | some k, some t =>
    if k.lanes ≤ i then .electricalIdle
    else match s.modeShown with
    | .off | .fault | .rampingUp => .electricalIdle
    | .railsUp => if s.pnl.linkInvalid then .blocks [idleBlock] else .electricalIdle
    | .training =>
      if s.pnl.train.all fun x => x.step == 1 then .pattern
      else if s.dsp.block == .config then .blocks (s.slotBlocks k t i)
      else .blocks [idleBlock]
    | .driving =>
      match s.pnl.retrain with
      | some r => if bitOf r.lanes i then s.retrainSignal r else .blocks (s.slotBlocks k t i)
      | none => .blocks (s.slotBlocks k t i)
    | .discharging =>
      if s.pnl.discharge.isNone then .electricalIdle
      else .blocks (if s.dsp.block == .discharge then [dischargeBlock] else [idleBlock])
  | _, _ => .electricalIdle

/-- The bits that lane `i` puts on its pair, with what the scrambler keeps after them; none in electrical idle (R339, R344,
R346). The pattern is given over the length of a block. -/
def State.pairBits (s : State) (i : Nat) (kept : BitVec 58) : Option (List Bool × BitVec 58) :=
  let flip (bs : List Bool) : List Bool := if s.pnl.link.any (·.inverts i) then bs.map (!·) else bs
  match s.laneSignal i with
  | .electricalIdle => none
  | .pattern => some (flip ((List.range 66).map fun n => n % 2 == 0), kept)
  | .blocks bs =>
    let (sent, last) := laneBits kept bs
    some (flip sent, last)

/-! ## Gate outputs (R326, R353, R357, R358, R363) -/

/-- The level of a gate output. -/
inductive GateLevel where
  | pgnd | vgl | vgh
  deriving DecidableEq, Repr

/-- An interval of pixel clocks from the start of slot 0 holds an instant. -/
def within (x start width : Int) : Bool := decide (start ≤ x ∧ x < start + width)

/-- GCK `c`, counted from 0, is high `x` pixel clocks from the start of slot 0: in the slots of the rows, and in the lead and
flush slots (R353). -/
def gckHigh (t : Timing) (g : GateSet) (c : Nat) (x : Int) : Bool :=
  decide (c < g.phases) &&
    (List.range (t.vactive + g.phases + g.lead)).any fun n =>
      let slot : Int := (n : Int) + 1 - g.lead
      (slot - 1) % g.phases == c && within x (slot * t.htotal + g.rise) g.gck

/-- STV1 is high (R353). -/
def stvHigh (t : Timing) (g : GateSet) (x : Int) : Bool :=
  within x ((1 - (g.lead : Int)) * t.htotal + g.rise) (g.width * t.htotal : Nat)

/-- GRST is high (R353). -/
def grstHigh (t : Timing) (g : GateSet) (x : Int) : Bool :=
  within x ((t.vactive + g.phases + g.grstLine) * t.htotal : Nat) g.grst

/-- Gate output `i` (GCK1 to GCK12, STV1, STV2, GRST, GALL) is high while the panel is driven, `x` pixel clocks from the start
of slot 0 of a refresh; negative slots lie in the tail of the one before (R341, R353). -/
def gateHigh (t : Timing) (g : GateSet) (i : Nat) (x : Int) : Bool :=
  if i < 12 then gckHigh t g i x
  else if i = 12 then stvHigh t g x
  else if i = 13 then g.stv2 != 0 && stvHigh t g (x - (g.stv2 * t.htotal : Nat))
  else if i = 14 then grstHigh t g x
  else false

/-- GRST is pulsed once VGH is good: for grst_width from that instant (R336). -/
def State.grstAtPower (s : State) : Bool :=
  match s.pnl.grstSince, s.pnl.gate, s.dsp.timing with
  | some t0, some g, some t => decide (s.time.mt < t0 * 0x100000000 + t.span g.grst)
  | _, _, _ => false

/-- DRIVING follows at the next frame-start event: every image of the training has been sent (R346). -/
def State.drivingNext (s : State) : Bool :=
  s.pnl.train.any fun tr => decide (3 ≤ tr.step) && decide (imageBlocks s.trainingImages ≤ tr.sent)

/-- The level of gate output `i`, `x` pixel clocks from the start of slot 0 (R326, R336, R346, R353, R358, R363). Lockout
drives GALL high and every other output low whatever STATE is; a die that has not answered leaves them clamped (R628). -/
def State.gateLevel (s : State) (i : Nat) (x : Int) : GateLevel :=
  if s.pnl.silent then .pgnd
  else if s.pnl.lockout then (if i == 15 then .vgh else .vgl)
  else match s.modeShown with
  | .off | .fault => .pgnd
  | .rampingUp => if s.pnl.good.getD 3 false then .vgl else .pgnd
  | .railsUp => if i == 14 && s.grstAtPower then .vgh else .vgl
  | .training => match s.dsp.timing, s.pnl.gate with
    | some t, some g => if i == 14 && s.drivingNext && grstHigh t g x then .vgh else .vgl
    | _, _ => .vgl
  | .discharging => if s.pnl.gallOn && i == 15 then .vgh else .vgl
  | .driving => match s.dsp.timing, s.pnl.gate with
    | some t, some g => if gateHigh t g i x then .vgh else .vgl
    | _, _ => .vgl

end Sys2Proof.Machine
end

