-- ==== Sys2Proof/Machine/Verify.lean ====
section
/-!
DEFINITION. What a verifier does with the records of one chain (R415): the steps that the manual states. The certificates of step 1
and the decoding of step 6 lie with their own standards. No step of the machine reads these definitions.
-/

namespace Sys2Proof.Machine

/-! ## Step 2: each record by itself (R397, R399) -/

/-- Record type. -/
def recType (b : List Byte) : Nat := fieldAt b 4 1
/-- Record flags. -/
def recFlags (b : List Byte) : Nat := fieldAt b 6 2
/-- seq of a record. -/
def recSeq (b : List Byte) : Nat := fieldAt b 16 8
/-- DFN of a record. -/
def recDfn (b : List Byte) : Nat := fieldAt b 24 8
/-- Epoch of a record. -/
def recEpoch (b : List Byte) : Nat := fieldAt b 50 2
/-- The digest of the record before. -/
def recPrev (b : List Byte) : List Byte := sliceZ b 64 32

/-- Bytes of a range that are all zero. -/
def zeroAt (b : List Byte) (off n : Nat) : Bool := (sliceZ b off n).all (· == 0)

/-- The length that the type fixes, if any (R399, R402). -/
def typeLength (b : List Byte) : Option Nat :=
  match recType b with
  | 1 => some 144
  | 2 => some 256
  | 3 => some (128 + roundUp (fieldAt b 100 4) 16)
  | 4 => some 192
  | 5 => some 176
  | _ => none

/-- The reserved bytes of a record's own fields (R402, R403, R408, R409). -/
def bodyReserved (b : List Byte) : Bool :=
  match recType b with
  | 1 => zeroAt b 99 13
  | 2 => zeroAt b 170 2 && zeroAt b 185 3 && zeroAt b 238 18
  | 3 => decide (fieldAt b 112 1 < 32) && zeroAt b 113 15
  | 4 => zeroAt b 97 7 && zeroAt b 112 16
  | 5 => zeroAt b 97 1 && zeroAt b 168 8
  | _ => false

/-- Step 2 of R415: magic, version, length and reserved fields, for a chain. -/
def recordWhole (chainId : Nat) (b : List Byte) : Bool :=
  fieldAt b 0 4 == 0x3148544E && fieldAt b 5 1 == 1 && fieldAt b 8 4 == b.length && typeLength b == some b.length &&
    fieldAt b 12 4 == chainId && zeroAt b 52 12 && bodyReserved b

/-! ## Step 3: the links (R398, R408) -/

/-- A record follows the one before it in the chain without a break. -/
def follows (a b : List Byte) : Bool := recSeq b == recSeq a + 1 && recPrev b == sha256 a

/-- A RESUME record states the break between the record held last and itself: it names that record by number and digest, and
counts what is lost where that can be counted (R408, R415). -/
def resumes (a b : List Byte) : Bool :=
  recType b == 5 && fieldAt b 104 8 + 1 == recSeq b && fieldAt b 112 8 == recSeq a && sliceZ b 120 32 == sha256 a &&
    (fieldAt b 96 1 != 0 || fieldAt b 152 8 == fieldAt b 104 8 - fieldAt b 112 8)

/-- Step 3 of R415: the records of a chain in the order held. -/
def linked : List (List Byte) → Bool
  | a :: b :: rest => (follows a b || resumes a b) && linked (b :: rest)
  | _ => true

/-! ## Step 4: the signatures (R404) -/

/-- A SIGN record carries the signature that the device key makes over its first 128 bytes (log 141). -/
def signVerifies (b : List Byte) : Bool :=
  recType b == 4 && beNat (sliceZ b 128 32) == Config.signR (b.take 128) && beNat (sliceZ b 160 32) == Config.signS (b.take 128)

/-- The records that a later verified SIGN covers: those at and before the last one (R415). -/
def trusted (rs : List (List Byte)) : List (List Byte) := (rs.reverse.dropWhile fun b => !signVerifies b).reverse

/-! ## Step 5: the records of each DFN (R399, R406) -/

/-- What has been read of the DFN in progress: how many SLICE records are due and read, and how the last one ended. -/
structure OpenDfn where
  /-- Its DFN. -/
  dfn : Nat
  /-- SLICE records that its FRAME record states. -/
  due : Nat
  /-- SLICE records read. -/
  got : Nat := 0
  /-- The last one has LAST set. -/
  last : Bool := false
  /-- The last one has CUT set. -/
  cut : Bool := false
  deriving DecidableEq, Repr

/-- The DFN has all its SLICE records, or fewer with the last one cut. -/
def OpenDfn.ends (o : OpenDfn) : Bool := (o.last && o.got == o.due) || (o.cut && decide (o.got ≤ o.due))

/-- A SLICE record of the DFN. -/
def OpenDfn.slice (o : OpenDfn) (b : List Byte) : OpenDfn :=
  { o with got := o.got + 1, last := bitOf (fieldAt b 112 1) 1, cut := bitOf (fieldAt b 112 1) 4 }

/-- The records of one epoch from a point on: `done` is the DFN before, `o` the one in progress. -/
def framesFrom : Option OpenDfn → Option Nat → List (List Byte) → Bool
  | o, _, [] => o.all OpenDfn.ends
  | o, done, b :: rest =>
    match recType b with
    | 2 => o.all OpenDfn.ends && done.all (fun d => decide (d < recDfn b)) &&
        framesFrom (some { dfn := recDfn b, due := fieldAt b 237 1 }) (some (recDfn b)) rest
    | 3 => match o with
      | none => false
      | some x => !x.last && !x.cut && recDfn b == x.dfn && framesFrom (some (x.slice b)) done rest
    | 4 => o.all (fun x => x.ends && (!x.cut || fieldAt b 96 1 == 2 || fieldAt b 96 1 == 4)) && framesFrom none done rest
    | _ => o.all OpenDfn.ends && framesFrom none done rest

/-- Step 5 of R415, epoch by epoch. -/
def framesWhole (rs : List (List Byte)) : Bool :=
  (rs.map recEpoch).eraseDups.all fun e => framesFrom none none (rs.filter fun b => recEpoch b == e)

/-- Steps 2 to 5 of R415 for the records of one chain. -/
def evidenceHolds (chainId : Nat) (rs : List (List Byte)) : Bool :=
  rs.all (recordWhole chainId) && linked rs && framesWhole (trusted rs)

end Sys2Proof.Machine
end

