-- ==== Sys2Proof/Tests/Slice0.lean ====
section
/-!
SUPPORT. Tests: what WellFormed refuses, one step of a command here and there against the manual's own numbers, and for every statement states
and operands that meet the hypotheses of each of its clauses.
-/

set_option Elab.async false
set_option linter.unusedVariables false

open Sys2Proof Sys2Proof.Machine

namespace Sys2Proof.Tests

/-! ## Small states and packets -/

/-- A command-ready device at MT 10 s whose PF ring 0 reports to completion ring 0, both of 16 entries in host memory. -/
def rdy : State :=
  let s := { State.reset with
    pwr := { State.reset.pwr with ready := true, phase := .ready, resetLow := false, perst := false, linkUp := true }
    sup.supState := 0
    memc.trained := 0xFF
    nvm.halted := false
    nvm.scan := 2
    nvm.dirReady := true
    time.mt := 10 * secUnits
    time.nt := 10 * secUnits }
  let s := s.updSub .pf 0 fun r => { r with enable := true, sizeLog2 := 4, baseLo := 0x10000, target := 0, wbLo := 0x30000 }
  s.updCpl .pf 0 fun r => { r with enable := true, sizeLog2 := 4, baseLo := 0x20000 }

/-- The same with every class of ring 0 at the expert level. -/
def rdyX : State := rdy.updSub .pf 0 fun r => { r with classes := 0xFFFF }

/-- The same with an event ring of the PF. -/
def rdyE : State := rdy.updEvt .pf fun r => { r with enable := true, baseLo := 0x40000 }

/-- A packet of PF ring 0 with a body. -/
def pk (body : List Byte) : Packet :=
  { src := .ring .pf 0, length := BitVec.ofNat 16 (4 + body.length / 4), tag := 0x1234, flags := 0, resv7 := 0, waitFence := 0,
    signalFence := 0, resv10 := 0, waitValue := 0, body := body }

/-- Fields of a body, each a size in bytes and a value. -/
def bs (l : List (Nat × Nat)) : List Byte := l.flatMap fun x => leBytes x.1 x.2

/-- Ring 0 of the PF and completion ring 0 as `rdy` has them. -/
def sub0 : SubRing := (rdy.subRing .pf 0).getD {}
/-- Completion ring 0 of the PF as `rdy` has it. -/
def cpl0 : CplRing := (rdy.cplRing .pf 0).getD {}

/-- A packet like another on another ring. -/
def on (x : Src) (p : Packet) : Packet := { p with src := x }

/-- A packet like another with flags. -/
def flagged (f : Byte) (p : Packet) : Packet := { p with flags := f }

/-- VF 1 with the two rings of `rdy`, and a window of 64 MiB at 0x10000000. -/
def rdyV : State :=
  let s := rdy.updSub (.vf 0) 0 fun r => { r with enable := true, sizeLog2 := 4, baseLo := 0x50000, target := 0, wbLo := 0x31000 }
  let s := s.updCpl (.vf 0) 0 fun r => { r with enable := true, sizeLog2 := 4, baseLo := 0x60000 }
  { s.updFn (.vf 0) fun f => { f with grant := { f.grant with windowMib := 64, windowBase := 0x10000000, layers := 0xF0, streams := 1, sessions := 1, descFirst := 512, descCount := 256 } } with cmd.vfsEnabled := 2 }

/-- A packet of `n` words with fields, each an offset, a size in bytes and a value. -/
def pf (n : Nat) (l : List (Nat × Nat × Nat)) : Packet :=
  pk (l.foldl (fun b x => spliceAt b (x.1 - 16) (leBytes x.2.1 x.2.2)) (List.replicate (4 * n - 16) 0))

/-- Byte `a` of device memory as packets name it. -/
def dev (a : Nat) : Nat := 0x8000000000000000 + a

/-- Stream context `n` with values. -/
def ctxAt (s : State) (n : Nat) (g : StreamCtx → StreamCtx) : State := s.updCtx n g

/-- A parameter set of two views of 32 by 16 samples. -/
def ps2 : ParamSet :=
  { scene := bs [(2,1),(1,2),(1,0),(2,32),(2,16),(1,0),(1,10),(1,10),(1,0),(4,65536),(4,65536),(4,131072),(4,65536),(4,0),(4,0),(4,0)],
    layout := [] }

/-- An access unit of it with no NAL unit. -/
def au2 : AccessUnit :=
  { number := 5, truncated := false, clean := true, unbroken := true, ptsBase := 0, effPts := 0, rapMask := 3, params := ps2, nals := [],
    space := 0 }

/-- Its decode in slot 0: core 0 works on the only part of the colour of view 0. -/
def job2 : DecodeJob :=
  { ctx := 0, slot := 0, au := au2,
    comps := [{ view := 0, depth := false, mask := 0xFFF, mode := 4, parts := [{ load := 512, state := .running }], refs := [] },
      { view := 1, depth := false, mask := 0xFFF, mode := 4, parts := [{ load := 512 }, { load := 512 }], refs := [] }] }

/-- A device that decodes it. -/
def rdyD : State :=
  { rdy with
    dec.jobs := [job2]
    dec.slots := { ({} : Slot) with state := .decoding, au := 5, params := some ps2 } :: List.replicate 7 {}
    dec.cores := some (.part 0 0 0) :: List.replicate 11 none }

/-- Fields, each an offset, a size in bytes and a value, in `n` bytes. -/
def fl (n : Nat) (l : List (Nat × Nat × Nat)) : List Byte :=
  l.foldl (fun b x => spliceAt b x.1 (leBytes x.2.1 x.2.2)) (List.replicate n 0)

/-- A ray-model blob for a panel of 256 by 256 without parallax. -/
def blobA : List Byte :=
  fl 904 [(0,4,0x424D5255),(4,2,1),(8,4,904),(12,2,256),(14,2,256),(16,4,1),(20,4,1),(24,4,1),(28,4,1),(44,4,0x2000000),(88,2,5),
    (90,2,5),(644,1,3),(646,1,3),(712,1,3),(714,1,3),(780,1,3),(782,1,3),(900,4,28714581)]

/-- A store whose first copy is that blob. -/
def rdyB : State :=
  (rdy.putPages (pagesOf 15 1025 blobA)).putWords 1024 (wordsFrom 8 0 (copyHeader 0x5A 1 904 28714581))

/-- A timing of 1024 by 1024 at 60 Hz. -/
def tmg : Timing :=
  { hactive := 1024, vactive := 1024, hblank := 128, vblank := 64, refresh := 60000, parallax := 0, chanMap := 0x24, blank := 0, nb := 0,
    fb := 0 }

/-- A device with that timing in force whose raster runs. -/
def rdyR : State := { rdy with dsp.timing := some tmg, dsp.nextGrid := some (11 * secUnits) }

/-- A store that holds record 0x200 of 8 bytes in slot 0 of frame 64. -/
def rdyN : State := rdy.putPages (pagesOf 1 (slotPage 64 0) (slotBytes 0x200 0 3 [1, 2, 3, 4, 5, 6, 7, 8]))

/-- A log entry. -/
def logE : LogEntry :=
  { code := 0x0D01, severity := 1, injected := false, suppressed := 0, mtSec := 10, mtNs := 0, source := 0xFFFF, data0 := 1, data1 := 2 }

/-- The device with its log's entry 0 in the store. -/
def rdyL : State :=
  { rdy.putWords (rdy.logProgram logE 0).1 (rdy.logProgram logE 0).2 with sup.logNextSeq := 1 }

/-- `rdy` with its memory at 12 Gb/s and channel `k` changed. -/
def chanAt (k : Nat) (g : MemChan → MemChan) : State :=
  { rdy with memc.rate := 12, memc.chans := (List.replicate 8 { state := .ready }).modify k g }

/-- A PNL_RAIL_SET of 12.0 V, 10.0 V, 24.0 V and 10.0 V with 1.0 ms between the rails. -/
def railsP : Packet := pf 8 [(16,2,12000),(18,2,10000),(20,2,24000),(22,2,10000),(24,1,10)]
/-- Its settings. -/
def railsV : RailSet := railsOf railsP.body

/-- Its 24 bytes, in a packet of 10 words. -/
def tmgP : Packet := pf 10 [(16,2,1024),(18,2,1024),(20,2,128),(22,2,64),(24,4,60000),(29,1,0x24)]

/-- A panel-profile blob without sections. -/
def profA : List Byte := fl 68 [(0,4,0x42505055),(4,2,1),(8,4,68),(16,4,77),(64,4,1669519882)]

/-- A store whose first copy is that blob. -/
def rdyP : State := rdy.putPages (pagesOf 2 3904 profA)

/-- The raster of `rdyR` with its next instant at MT 10 s. -/
def rdyF : State := { rdyR with dsp.nextGrid := some (10 * secUnits), dsp.lockState := .free }

/-- An output pin that gives five pulses, one each 2 s of MT, and has given four. -/
def evoA : EvtOut :=
  { base := 3, enable := true, activeLow := true, start := 0, period := 2000000000 * 65536, width := 10, count := 5, next := 4, emitted := 4,
    level := true }

/-- What a window of the scene of `ps2` with the blob `blobA` is made from. -/
def inpA : SynthIn :=
  { slot := 0, au := 5, ctx := 0, params := ps2, concealed := 0, dMin := 0, dMax := 4095, histCount := 0, matrix := 1, range := 0,
    blob := blobA, dt16 := 0, curve := [0, 512, 1024, 1536, 2048, 2560, 3072, 3584, 4095], rung := 4, chanMap := 0x24 }

/-- A woven frame of it. -/
def wovA : Woven := { inp := inpA, buffer := 0, degraded := false, before := none, changedBefore := false }

/-- A device whose slave is port A, which has a link. -/
def rdyT : State :=
  { rdy with net.slave := 1, net.servo := .listening, net.ports := [{ mode := 1, link := true }, { mode := 1, link := true }] }

/-- A master's Announce. -/
def annA : PtpAnnounce :=
  { port := .a, transport := 0, domain := 0, sender := 9, priority1 := 128, clockClass := 6, accuracy := 33, variance := 0, priority2 := 128,
    grandmaster := 9, steps := 0, utcOffset := 37, utcValid := true }

/-- Its Sync: NT 10 s arrives `n` ns early. -/
def syncA (n : Nat) : PtpSync := { port := .a, transport := 0, domain := 0, sender := 9, origin := (10000000000 + n) * 65536, correction := 0, logInterval := -3 }

/-- A CMP_LAYER_SET of layer 7 with 64 by 64 pixels of format 1. -/
def lsP : Packet := pf 12 [(16,1,7),(18,1,1),(24,2,64),(26,2,64),(32,2,64),(34,2,64)]
/-- The surface of a CMP_FLIP to it. -/
def plA : Planes := { addrs := [0x1000, 0, 0], pitches := [256, 0, 0] }
/-- Coefficients of a vertical filter that takes the first tap. -/
def coefA : List Byte := (List.replicate 64 ([0,1,0,0,0,0,0,0] : List Byte)).flatten
/-- A blit entry without effect. -/
def entA : BltEntry := entryOf (List.replicate 64 0)

/-- The geometry of a coded picture of 64 by 64. -/
def geomA : EncGeom :=
  { width := 64, height := 64, profile := 0, sliceRows := 16, wpp := false, rotation := 0, rate := 30000, bitrate := 1000, gop := 30, refs := 1,
    ring := 65536 }

/-- A picture of it that waits. -/
def picA : EncPic := { order := 0, ticket := some 3, index := 0, source := none, buf := none, forceIdr := false, geom := geomA }

/-- A device with a picture in slot 0 to be synthesised for `blobA`. -/
def rdyW : State :=
  { rdy with
    dsp.timing := some { tmg with hactive := 256, vactive := 256 }
    dsp.nextGrid := some (11 * secUnits)
    ray.active := some blobA
    ray.armed := true
    strm.onAir := some 0
    dec.slots := { ({} : Slot) with state := .complete, au := 5, params := some ps2, outputPending := true, effPts := 0, unbroken := true } ::
      List.replicate 7 {}
    cmd.policies := (rdy.cmd.policies.set policyQuality true).set policyDepth true }.updCtx 0 fun c => { c with state := .running }

/-- A tile of a window. -/
def tileA (tx : Nat) (st : TileState) (core : Nat) : Tile :=
  { witness := false, tx := tx, ty := 0, band := 0, pos := tx, home := 0, cluster := 0, state := st, core := core, deadline := 100, lines := 32,
    pixels := 64, est := 1000 }

/-- A window of tiles. -/
def winA (ts : List Tile) : Window :=
  { seq := 1, inp := inpA, opened := 9999000000, target := 10100000000, buffer := 1, tiles := ts, resynth := false, before := none,
    changedBefore := false }

/-- A device with that window. -/
def rdyG (ts : List Tile) : State := { rdyW with ray.armed := false, ray.window := some (winA ts) }

/-- An ENC_OPEN of 64 by 64. -/
def eoP : Packet := pf 12 [(18,1,16),(20,2,64),(22,2,64),(24,4,30000),(28,4,1000),(32,2,30),(34,1,1),(36,4,65536),(40,8,0x100000)]

/-- A device whose session 1 is open. -/
def rdyS (g : EncSession → EncSession) : State :=
  { rdyX with enc := rdyX.enc.modify 1 fun e => g { e with isOpen := true, owner := .pf, geom := some geomA, ring := (false, 0x100000) } }

/-- A device whose two ports have links and forward. -/
def rdyQ : State :=
  { rdy with net.ports := List.replicate 2 { mode := 1, link := true, forward := true } }

/-- A frame of a type without meaning to the device. -/
def frmA : EthFrame := { bytes := ethFrame 0x0A0000000001 7 0x88B5 (List.replicate 46 0), fcsOk := true, raw := 0 }

/-- The picture of a DFN in a buffer. -/
def picW (d : DWord) : WitPicture :=
  { config := {}, dfn := d, psn := 1, stamp := [0, 0, 0, 0], inp := some inpA, blob := none, timing := tmg, layers := List.replicate 8 none,
    flags := 0, skipped := 0, missed := 0, lockWord := 0, panelWord := 0, forceIdr := false }

/-- The same device with one witness frame of tiles in rendering. -/
def rdyH (ts : List Tile) : State :=
  { rdyG [] with
    ray.window := none
    ray.witFrames := [{ seq := 1, dfn := 1, inp := inpA, tiles := ts }]
    wit.bufs := [{ mark := .rendering, pic := some (picW 1) }, {}, {}] }

/-- The destination of a frame built so is the one given. -/
theorem ethDst_frame (d src ty : Nat) (r : List Byte) (h : d < 2 ^ 48) : ethDst (ethFrame d src ty r) = d := by
  simp [ethDst, ethFrame, beBytes, leBytes, beNat, leNat]
  omega

/-- An address is not that of both ports. -/
theorem mac_other (d : Nat) : d ≠ macOf (portIdx .a) ∨ d ≠ macOf (portIdx .b) := by
  simp only [macOf, portIdx]
  omega

/-! ## What WellFormed refuses -/

/-- A packet whose body is shorter than its length says. -/
theorem test_wf_body : Instr.wf (.devNop { pk [] with length := 5 }) = false := by decide
/-- A packet on ring 2 of a VF. -/
theorem test_wf_source : Instr.wf (.devNop (on (.ring (.vf 0) 2) (pk []))) = false := by decide
/-- A sideband packet of 17 words (R90). -/
theorem test_wf_sideband : Instr.wf (.evtInject (on .smbus (pf 17 []))) = false := by decide
/-- Ring 2 of a VF. -/
theorem test_wf_tail : Instr.wf (.submissionTailDoorbell (.vf 3) 2 1) = false := by decide
/-- Completion ring 2 of a VF. -/
theorem test_wf_head : Instr.wf (.completionHeadDoorbell (.vf 3) 2 1) = false := by decide
/-- A second event ring. -/
theorem test_wf_event_ring : Instr.wf (.ringEnable .pf .event 1 1) = false := by decide
/-- An enable that writes ENABLE 0. -/
theorem test_wf_enable : Instr.wf (.ringEnable .pf .submission 0 0) = false := by decide
/-- A disable that writes ENABLE 1. -/
theorem test_wf_disable : Instr.wf (.ringDisable .pf .submission 0 1) = false := by decide
/-- The start of a packet of a ring that no VF has. -/
theorem test_wf_start : Instr.wf (.packetStart (.ring (.vf 0) 5)) = false := by decide
/-- An access of 3 bytes. -/
theorem test_wf_size : Instr.wf (.registerWrite .pf 0x1000 3 0) = false := by decide
/-- A BAR2 read of no byte. -/
theorem test_wf_read : Instr.wf (.bar2Read .pf 0 0) = false := by decide
/-- A BAR2 write of no byte. -/
theorem test_wf_write : Instr.wf (.bar2Write .pf 0 []) = false := by decide
/-- A block write of 256 bytes. -/
theorem test_wf_block : Instr.wf (.smbPacketWrite (List.replicate 256 0) true) = false := by decide +kernel
/-- A datagram to a port of 17 bits. -/
theorem test_wf_datagram :
    Instr.wf (.datagramReceived .a
      { srcIp := 0, dstIp := 0, dstPort := 65536, checksumOk := true, fragmented := false, payload := [] }) = false := by decide
/-- Samples of 39 sensors. -/
theorem test_wf_samples : Instr.wf (.sensorSampleCycle (List.replicate 39 .absent)) = false := by decide
/-- Samples of 41 sensors for island 0. -/
theorem test_wf_island0 : Instr.wf (.island0SensorSample (List.replicate 41 .absent)) = false := by decide
/-- A trip of a sensor that has no comparator. -/
theorem test_wf_trip : Instr.wf (.hardwareTrip 36) = false := by decide
/-- Lane 48. -/
theorem test_wf_lane : Instr.wf (.laneDeviceFault 48) = false := by decide
/-- Line slots of seven layers. -/
theorem test_wf_layers : Instr.wf (.scanoutLineSlot 0 (List.replicate 7 0)) = false := by decide
/-- Means of nine ports. -/
theorem test_wf_means : Instr.wf (.regulatorRecompute (List.replicate 9 0)) = false := by decide
/-- A frame without a whole header. -/
theorem test_wf_frame : Instr.wf (.frameReceived .a { bytes := List.replicate 13 0, fcsOk := true, raw := 0 }) =
    false := by decide
/-- A Sync of domain 256. -/
theorem test_wf_sync : Instr.wf (.ptpSyncReceived { syncA 0 with domain := 256 }) = false := by decide
/-- An Announce of 65536 steps. -/
theorem test_wf_announce : Instr.wf (.ptpAnnounceReceived { annA with steps := 65536 }) = false := by decide
/-- A Delay_Resp of sequence 65536. -/
theorem test_wf_delay : Instr.wf (.delayRespReceived { port := .a, transport := 0, domain := 0, sender := 0, seq := 65536, received := 0, correction := 0, logInterval := 0 }) =
    false := by decide
/-- A training at 21 Gb/s per pin (R466). -/
theorem test_wf_training : Instr.wf (.memoryTrainingDone { gib16 := false, clamshell := false, rate := 21, failed := 0 }) = false := by decide
/-- A packet that is well formed. -/
theorem test_wf_good : Instr.wf (.timeRead (pf 5 [(16, 1, 3)])) = true := by decide

/-! ## The manual's worked examples -/

/-- A limited-range BT.709 pixel gives 670, 478 and 376 (example of R169). -/
theorem test_colour : (List.range 3).map (fun c => yuvChannel (yuvCoef 1 0) c 502 448 600) = [670, 478, 376] := by decide
/-- The blob of the largest panel has 66,404 bytes (example of R207). -/
theorem test_blob_length : 128 + profileBytes 0 + 204 + gridBytes 0 241 136 + 4 = 66404 := by decide
/-- The drift terms of the ray model's example. -/
theorem test_drift : (driftCoef 916259690 (-27500) 264, driftCoef (-305419897) 9167 264) = (915805940, -305268641) := by decide
/-- The crosstalk bin of the example's angle. -/
theorem test_cross_bin : crossBin (-4467) = 5 := by decide
/-- The vertical built-in set at phases 16 and 32 (example of R284). -/
theorem test_keys : builtIn 4 4 16 = [-18, 222, 58, -6] ∧ builtIn 4 4 32 = [-16, 144, 144, -16] := by decide +kernel
/-- The alpha and the blend of the composition example. -/
theorem test_blend : div1023 (766 * 900) = 674 ∧ div1023 (839 * 674 + 611 * 349) = 761 := by decide
/-- Instants 1 and 3 of a schedule at 60,000 mHz (example of R304). -/
theorem test_schedule : scheduled 0 60000 1 = 1092266666666 * 65536 ∧ scheduled 0 60000 3 = 50000000 * 65536 * 65536 := by decide
/-- The residence of the transparent clock's example (R451). -/
theorem test_residence : residence 47398912 0x200001AD8 = 0x02D34026 := by decide
/-- The ball of Mn_CA3 of channel 5 is AK4 (example of R621). -/
theorem test_ball : memBall 5 27 = { row := 29, col := 4 } := by decide
/-- A packet that waits for 1 holds at 0xFFFF_FFFE and starts at 0x1_0000_0001 (example of R68). -/
theorem test_fence : fenceReached 0xFFFFFFFE 1 = false ∧ fenceReached 0x100000001 1 = true := by decide
/-- The targets of the witness at its defaults (example of R393). -/
theorem test_targets :
    let g : EncGeom :=
      { width := 1920, height := 1080, profile := 0, sliceRows := 4, wpp := false, rotation := 0, rate := 30000, bitrate := 8000,
        gop := 30, refs := 1, ring := 33554432 }
    g.target {} true = 969696 ∧ g.target {} false = 242424 ∧ g.capOf {} 242424 = 727272 ∧ g.slices = 9 ∧ g.rows = 34 ∧ g.cols = 60 := by
  decide
/-- At 7680 x 4320 and 120 Hz a lane carries 160 pixels in 5,214 bits (example of R345). -/
theorem test_line_bits : 66 * (lineBlocks 160 + 4) = 5214 ∧ 66 * (lineBlocks 320 + 4) = 10164 := by decide
/-- The zero-parallax code of the stream's example is 1995. -/
theorem test_zero_parallax : zpCode (fl 64 [(16, 4, 0x01F40000), (20, 4, 0x4E200000), (24, 4, 0x03E80000)]) = 1995 := by decide +kernel

/-- The check value of CRC-32C, of the digits 1 to 9. -/
theorem test_crc : crc32c [0x31, 0x32, 0x33, 0x34, 0x35, 0x36, 0x37, 0x38, 0x39] = 0xE3069283 := by decide +kernel

/-! ## One step -/

/-- A submission ring enabled before the completion ring it names gets ERR_CODE 5 and stays disabled (example of R649). -/
theorem test_ring_order : (match exec (.ringEnable .pf .submission 2 0x00010A01) rdy with
    | .next t => (t.subRing .pf 2).map fun r => (r.enable, r.errCode, r.error)
    | _ => none) = some (false, 5, true) := by decide +kernel
/-- In order, the completion ring of 4096 entries is enabled with the default vector. -/
theorem test_ring_enabled : (match exec (.ringEnable .pf .completion 1 0x00FF0C01) rdy with
    | .next t => (t.cplRing .pf 1).map fun r => (r.enable, r.sizeLog2, r.errCode)
    | _ => none) = some (true, 12, 0) := by decide +kernel
/-- A packet longer than 64 words completes with BAD_LENGTH in its completion ring (R48, R51, R56). -/
theorem test_bad_length : (match exec (.devNop { pk [] with length := 65 }) rdy with
    | .next t => t.readAt ⟨false, 0x20000⟩ 8
    | _ => []) ≠ (State.readAt rdy ⟨false, 0x20000⟩ 8) := by decide +kernel
/-- A tick of the timing clock moves MT by 2 ns (R437). -/
theorem test_tick : rdy.tick.time.mt = rdy.time.mt + 0x200000000 := by decide +kernel
/-- With nothing pending a step is a tick. -/
theorem test_idle : step rdy = .next rdy.tick := rfl
/-- No word of the table spells a command (log 1). -/
theorem test_no_word : State.withFetchWord rdy 64 0x1234 = rdy := rfl

/-! ## Figures -/

/-- The blocks of the full-load operating point draw 30.0 W together (R25). -/
theorem test_block_powers : sumNat (powerBlocks.map PowerBlock.most) = 300 := by decide
/-- The 15360 x 8640 panel at 60 Hz needs 23.888 x 10^9 rays a second (R1). -/
theorem test_rays_needed : raysNeeded 15360 8640 60 = 23887872000 := by decide

/-! ## States and operands that meet the hypotheses of each clause -/

theorem meets_StepTicks_0 : ∃ (s : State),
    (s.pending = []) ∧
    (s.pwr.vddAon = false) :=
  ⟨{ State.reset with pwr.vddAon := false }, by decide +kernel⟩

theorem meets_StepTicks_1 : ∃ (s : State),
    (s.pending = []) ∧
    (s.pwr.vddAon = true) :=
  ⟨rdy, by decide +kernel⟩

theorem meets_MemoryCanonical_0 : ∃ (s : State) (t : State),
    (s.MemWf) ∧
    (step s = Host.Outcome.next t) :=
  ⟨rdy, rdy.tick, by decide +kernel, rfl⟩

theorem meets_IncrementsInRange_0 : ∃ (s : State) (t : State),
    (s.IncOk) ∧
    (step s = Host.Outcome.next t) :=
  ⟨rdy, rdy.tick, by decide +kernel, rfl⟩

theorem meets_IncrementsInRange_1 : ∃ (s : State) (p : Packet),
    (s.Starts Op.timeIncrement p) ∧
    (p.u8 16 ≤ 3) ∧
    (p.u64 24 < 8581344657 ∨ 8598524527 < p.u64 24) :=
  ⟨rdyX, pk (bs [(1,0),(7,0),(8,0x20083126F+1)]), by decide +kernel⟩

theorem meets_ResetState_8 : ∃ (x : FnState),
    (x ∈ State.reset.fns) :=
  ⟨State.reset.fn (.vf 7), by decide +kernel⟩

theorem meets_ResetState_9 : ∃ (x : FnState),
    (x ∈ State.reset.fns) :=
  ⟨State.reset.fn .pf, by decide +kernel⟩

theorem meets_ResetState_10 : ∃ (x : FnState) (r : SubRing),
    (x ∈ State.reset.fns) ∧
    (r ∈ x.sub) :=
  ⟨State.reset.fn .pf, {}, by decide +kernel⟩

theorem meets_ResetState_11 : ∃ (x : FnState) (r : CplRing),
    (x ∈ State.reset.fns) ∧
    (r ∈ x.cpl) :=
  ⟨State.reset.fn .pf, {}, by decide +kernel⟩

theorem meets_ResetState_17 : ∃ (k : Nat),
    (k < 4) :=
  ⟨3, by decide +kernel⟩

theorem meets_ResetState_19 : ∃ (q : PortState),
    (q ∈ State.reset.net.ports) :=
  ⟨{}, by decide +kernel⟩

theorem meets_ResetState_29 : ∃ (l : Layer),
    (l ∈ State.reset.cmp.layers) :=
  ⟨State.reset.layer 7, by decide +kernel⟩

theorem meets_ResetState_30 : ∃ (x : Slot),
    (x ∈ State.reset.dec.slots) :=
  ⟨{}, by decide +kernel⟩

theorem meets_Completions_0 : ∃ (s : State) (p : Packet) (st : Status) (r0 : Word) (r1 : Word) (f : Func) (n : Fin 16) (r : SubRing) (c : CplRing),
    (p.signals = false) ∧
    (p.src = Src.ring f n) ∧
    (s.subRing f ↑n = some r) ∧
    (s.cplRing f (BitVec.toNat r.target) = some c) ∧
    (p.quiet = true → st ≠ Status.ok) ∧
    (c.enable = true) ∧
    (c.used < 2 ^ c.sizeLog2.toNat) ∧
    (c.held = []) ∧
    (c.locDev = false ∨ s.stopped = false) :=
  ⟨rdy, pk [], .badParam, 16, 3, .pf, 0, sub0, cpl0, by decide +kernel⟩

theorem meets_Completions_1 : ∃ (s : State) (p : Packet) (st : Status) (r0 : Word) (r1 : Word) (f : Func) (n : Fin 16) (r : SubRing) (c : CplRing),
    (p.signals = false) ∧
    (p.src = Src.ring f n) ∧
    (s.subRing f ↑n = some r) ∧
    (s.cplRing f (BitVec.toNat r.target) = some c) ∧
    (p.quiet = true → st ≠ Status.ok) ∧
    (c.enable = true) ∧
    (2 ^ c.sizeLog2.toNat ≤ c.used ∨ c.held ≠ []) ∧
    (c.locDev = false ∨ s.stopped = false) :=
  ⟨rdy.updCpl .pf 0 fun r => { r with used := 16, next := 3 }, pk [], .ok, 16, 3, .pf, 0, sub0, { cpl0 with used := 16, next := 3 }, by decide +kernel⟩

theorem meets_Completions_2 : ∃ (s : State) (p : Packet) (st : Status) (r0 : Word) (r1 : Word) (f : Func) (n : Fin 16) (r : SubRing) (c : CplRing),
    (p.signals = false) ∧
    (p.src = Src.ring f n) ∧
    (s.subRing f ↑n = some r) ∧
    (s.cplRing f (BitVec.toNat r.target) = some c) ∧
    (p.quiet = true → st ≠ Status.ok) ∧
    (c.enable = false ∨ c.locDev = true ∧ s.stopped = true) :=
  ⟨rdy.updCpl .pf 0 fun r => { r with enable := false }, pk [], .ok, 16, 3, .pf, 0, sub0, { cpl0 with enable := false }, by decide +kernel⟩

theorem meets_Completions_3 : ∃ (s : State) (p : Packet) (st : Status) (r0 : Word) (r1 : Word) (f : Func) (n : Fin 16),
    (p.signals = false) ∧
    (p.src = Src.ring f n) ∧
    (p.quiet = true) :=
  ⟨rdy, flagged 16 (pk []), .ok, 1, 2, .pf, 0, by decide +kernel⟩

theorem meets_Completions_4 : ∃ (s : State) (p : Packet) (st : Status) (r0 : Word) (r1 : Word),
    (p.signals = false) ∧
    (p.src = Src.smbus) ∧
    (p.quiet = true → st ≠ Status.ok) :=
  ⟨rdy, on .smbus (pk []), .badParam, 1, 2, by decide +kernel⟩

theorem meets_Completions_5 : ∃ (s : State) (p : Packet) (st : Status) (r0 : Word) (r1 : Word),
    (p.signals = false) ∧
    (p.src = Src.smbus) ∧
    (p.quiet = true) :=
  ⟨rdy, on .smbus (flagged 16 (pk [])), .ok, 1, 2, by decide +kernel⟩

theorem meets_CompletionVectors_0 : ∃ (s : State) (p : Packet) (st : Status) (r0 : Word) (r1 : Word) (f : Func) (n : Fin 16) (r : SubRing) (c : CplRing),
    (p.src = Src.ring f n) ∧
    (s.subRing f ↑n = some r) ∧
    (s.cplRing f (BitVec.toNat r.target) = some c) ∧
    (c.enable = true) ∧
    (c.used < 2 ^ c.sizeLog2.toNat) ∧
    (c.held = []) ∧
    (c.locDev = false ∨ s.stopped = false) ∧
    (256 ≤ BitVec.toNat st.code) :=
  ⟨rdy.updCpl .pf 0 fun r => { r with used := 15, next := 15 }, pk [], .badOpcode, 0, 0, .pf, 0, sub0, { cpl0 with used := 15, next := 15 }, by decide +kernel⟩

theorem meets_CompletionVectors_1 : ∃ (s : State) (p : Packet) (st : Status) (r0 : Word) (r1 : Word) (f : Func) (n : Fin 16) (r : SubRing) (c : CplRing) (g : Func),
    (p.src = Src.ring f n) ∧
    (s.subRing f ↑n = some r) ∧
    (s.cplRing f (BitVec.toNat r.target) = some c) ∧
    (p.quiet = true ∧ st = Status.ok ∨
  c.enable = false ∨ 2 ^ c.sizeLog2.toNat ≤ c.used ∨ c.held ≠ [] ∨ c.locDev = true ∧ s.stopped = true) :=
  ⟨rdy.updCpl .pf 0 fun r => { r with used := 16 }, pk [], .badOpcode, 0, 0, .pf, 0, sub0, { cpl0 with used := 16 }, .pf, by decide +kernel⟩

theorem meets_Events_0 : ∃ (s : State) (f : Func) (r : EvtRing) (e : EventRec),
    ((s.fn f).evt = r) ∧
    (r.enable = true) ∧
    (¬e.code ∈ r.masked) ∧
    (r.locDev = false ∨ s.stopped = false) ∧
    (r.used < 256) :=
  ⟨rdyE, .pf, (rdyE.fn .pf).evt, { code := 0x0D01, severity := 1, mtSec := 10, mtNs := 0, source := 0xFFFF, tag := 0, ring := 0xFF, data0 := 1, data1 := 2 }, by decide +kernel⟩

theorem meets_Events_1 : ∃ (s : State) (f : Func) (r : EvtRing) (e : EventRec),
    ((s.fn f).evt = r) ∧
    (r.enable = true) ∧
    (¬e.code ∈ r.masked) ∧
    (r.locDev = false ∨ s.stopped = false) ∧
    (256 ≤ r.used) :=
  ⟨rdyE.updEvt .pf fun r => { r with used := 256 }, .pf, { (rdyE.fn .pf).evt with used := 256 }, { code := 0x0D01, severity := 1, mtSec := 10, mtNs := 0, source := 0xFFFF, tag := 0, ring := 0xFF, data0 := 1, data1 := 2 }, by decide +kernel⟩

theorem meets_Events_2 : ∃ (s : State) (f : Func) (r : EvtRing) (e : EventRec),
    ((s.fn f).evt = r) ∧
    (r.enable = false ∨ e.code ∈ r.masked ∨ r.locDev = true ∧ s.stopped = true) :=
  ⟨rdyE.updEvt .pf fun r => { r with masked := [0x0D01] }, .pf, { (rdyE.fn .pf).evt with masked := [0x0D01] }, { code := 0x0D01, severity := 1, mtSec := 10, mtNs := 0, source := 0xFFFF, tag := 0, ring := 0xFF, data0 := 1, data1 := 2 }, by decide +kernel⟩

theorem meets_Events_3 : ∃ (s : State) (f : Func) (r : EvtRing) (e : Event),
    ((s.fn f).evt = r) :=
  ⟨rdyE, .pf, (rdyE.fn .pf).evt, { code := .flipMissed, data0 := 1, data1 := 2 }, by decide +kernel⟩

theorem meets_Events_4 : ∃ (s : State) (f : Func) (r : EvtRing) (v : Word),
    ((s.fn f).evt = r) ∧
    (s.fnAnswers f = true) ∧
    (s.sup.supState ≠ 2) ∧
    (s.inDusk = false) ∧
    (s.pwr.dusk = DuskState.awake) ∧
    (s.thm.shutdown = none) ∧
    (r.locDev = false ∨ s.stopped = false) ∧
    (r.enable = true) ∧
    (r.lost ≠ 0) ∧
    (¬EventCode.eventsLost.code ∈ r.masked) ∧
    (headValid 256 r.head r.used (BitVec.toNat v % 65536) = true) ∧
    (hasRing f 0 = true) :=
  ⟨rdyE.updEvt .pf fun r => { r with used := 256, lost := 3, seq := 256, phase := false }, .pf, { (rdyE.fn .pf).evt with used := 256, lost := 3, seq := 256, phase := false }, 10, by decide +kernel⟩

theorem meets_FenceSignals_0 : ∃ (s : State) (p : Packet) (st : Status) (r0 : Word) (r1 : Word) (i : Nat),
    (p.signals = true) ∧
    (fenceIndex p.src.func (BitVec.toNat p.signalFence) = some i) ∧
    (i < s.cmd.fences.length) :=
  ⟨rdy, { flagged 24 (pk []) with signalFence := 191 }, .aborted, 0, 0, 191, by decide +kernel⟩

theorem meets_FenceSignals_1 : ∃ (s : State) (p : Packet) (st : Status) (r0 : Word) (r1 : Word) (i : Nat) (j : Nat),
    (p.signals = true) ∧
    (fenceIndex p.src.func (BitVec.toNat p.signalFence) = some i) ∧
    (j ≠ i) :=
  ⟨rdy, { flagged 24 (pk []) with signalFence := 191 }, .ok, 0, 0, 191, 0, by decide +kernel⟩

theorem meets_FenceSignals_2 : ∃ (s : State) (p : Packet) (st : Status) (r0 : Word) (r1 : Word) (i : Nat),
    (p.signals = true) ∧
    (fenceIndex p.src.func (BitVec.toNat p.signalFence) = some i) :=
  ⟨rdy, { flagged 24 (pk []) with signalFence := 191 }, .ok, 0, 0, 191, by decide +kernel⟩

theorem meets_HeaderChecks_0 : ∃ (s : State) (o : Op) (p : Packet),
    (s.takes p.src = false ∨ p.src = Src.smbus ∧ s.smb.outstanding = true) :=
  ⟨rdy, .devInfo, on (.ring .pf 1) (pk []), by decide +kernel⟩

theorem meets_HeaderChecks_1 : ∃ (s : State) (o : Op) (p : Packet),
    (s.takes p.src = true) ∧
    (p.src = Src.smbus → s.smb.outstanding = false) ∧
    (s.queued p.src ≠ [] ∨ s.canStart p = false) :=
  ⟨rdy.updSub .pf 0 fun r => { r with fetched := [{ opcode := 0x100, pkt := pk [] }] }, .devNop, pk [], by decide +kernel⟩

theorem meets_HeaderChecks_3 : ∃ (s : State) (o : Op) (p : Packet),
    (s.takes p.src = true) ∧
    (p.src = Src.smbus → s.smb.outstanding = false) ∧
    (s.queued p.src = []) ∧
    (s.canStart p = true) ∧
    (BitVec.toNat p.length < 4 ∨ 64 < BitVec.toNat p.length) :=
  ⟨rdy, .devNop, { pk [] with length := 65 }, by decide +kernel⟩

theorem meets_HeaderChecks_4 : ∃ (s : State) (o : Op) (p : Packet) (n : Fin 8) (k : Fin 16),
    (s.takes p.src = true) ∧
    (p.src = Src.smbus → s.smb.outstanding = false) ∧
    (s.queued p.src = []) ∧
    (s.canStart p = true) ∧
    (4 ≤ BitVec.toNat p.length) ∧
    (BitVec.toNat p.length ≤ 64) ∧
    (p.src = Src.ring (Func.vf n) k) ∧
    (o.info.vf = false ∨ o.info.expert = true) :=
  ⟨rdyV, .decStatus, on (.ring (.vf 0) 0) (pk []), 0, 0, by decide +kernel⟩

theorem meets_HeaderChecks_5 : ∃ (s : State) (o : Op) (p : Packet),
    (s.takes p.src = true) ∧
    (p.src = Src.smbus → s.smb.outstanding = false) ∧
    (s.queued p.src = []) ∧
    (s.canStart p = true) ∧
    (4 ≤ BitVec.toNat p.length) ∧
    (BitVec.toNat p.length ≤ 64) ∧
    (p.src.isVf = false) ∧
    (o.info.expert = true) ∧
    (BitVec.getLsbD (s.classesOf p.src) o.cls = false) :=
  ⟨rdy, .devFenceSet, pk [], by decide +kernel⟩

theorem meets_HeaderChecks_6 : ∃ (s : State) (o : Op) (p : Packet),
    (s.takes p.src = true) ∧
    (p.src = Src.smbus → s.smb.outstanding = false) ∧
    (s.queued p.src = []) ∧
    (s.canStart p = true) ∧
    (4 ≤ BitVec.toNat p.length) ∧
    (BitVec.toNat p.length ≤ 64) ∧
    (p.src.isVf = true → o.info.vf = true ∧ o.info.expert = false) ∧
    (p.src.isVf = false → o.info.expert = true → BitVec.getLsbD (s.classesOf p.src) o.cls = true) ∧
    (32 ≤ BitVec.toNat p.flags) :=
  ⟨rdy, .devNop, flagged 32 (pk []), by decide +kernel⟩

theorem meets_HeaderChecks_7 : ∃ (s : State) (o : Op) (p : Packet),
    (s.takes p.src = true) ∧
    (p.src = Src.smbus → s.smb.outstanding = false) ∧
    (s.queued p.src = []) ∧
    (s.canStart p = true) ∧
    (4 ≤ BitVec.toNat p.length) ∧
    (BitVec.toNat p.length ≤ 64) ∧
    (p.src.isVf = true → o.info.vf = true ∧ o.info.expert = false) ∧
    (p.src.isVf = false → o.info.expert = true → BitVec.getLsbD (s.classesOf p.src) o.cls = true) ∧
    (BitVec.toNat p.flags < 32) ∧
    (p.resv7 ≠ 0) :=
  ⟨rdy, .devNop, { pk [] with resv7 := 1 }, by decide +kernel⟩

theorem meets_HeaderChecks_8 : ∃ (s : State) (o : Op) (p : Packet),
    (s.takes p.src = true) ∧
    (p.src = Src.smbus → s.smb.outstanding = false) ∧
    (s.queued p.src = []) ∧
    (s.canStart p = true) ∧
    (4 ≤ BitVec.toNat p.length) ∧
    (BitVec.toNat p.length ≤ 64) ∧
    (p.src.isVf = true → o.info.vf = true ∧ o.info.expert = false) ∧
    (p.src.isVf = false → o.info.expert = true → BitVec.getLsbD (s.classesOf p.src) o.cls = true) ∧
    (BitVec.toNat p.flags < 32) ∧
    (p.resv7 = 0) ∧
    (p.resv10 ≠ 0) :=
  ⟨rdy, .devNop, { pk [] with resv10 := 256 }, by decide +kernel⟩

theorem meets_HeaderChecks_9 : ∃ (s : State) (o : Op) (p : Packet),
    (s.takes p.src = true) ∧
    (p.src = Src.smbus → s.smb.outstanding = false) ∧
    (s.queued p.src = []) ∧
    (s.canStart p = true) ∧
    (4 ≤ BitVec.toNat p.length) ∧
    (BitVec.toNat p.length ≤ 64) ∧
    (p.src.isVf = true → o.info.vf = true ∧ o.info.expert = false) ∧
    (p.src.isVf = false → o.info.expert = true → BitVec.getLsbD (s.classesOf p.src) o.cls = true) ∧
    (BitVec.toNat p.flags < 32) ∧
    (p.resv7 = 0) ∧
    (p.resv10 = 0) ∧
    (p.src = Src.smbus) ∧
    (p.signals = true ∨ p.waits = true ∨ p.irq = true) :=
  ⟨rdyN, .devNop, flagged 2 (on .smbus (pk [])), by decide +kernel⟩

theorem meets_HeaderChecks_10 : ∃ (s : State) (o : Op) (p : Packet),
    (s.takes p.src = true) ∧
    (p.src = Src.smbus → s.smb.outstanding = false) ∧
    (s.queued p.src = []) ∧
    (s.canStart p = true) ∧
    (4 ≤ BitVec.toNat p.length) ∧
    (BitVec.toNat p.length ≤ 64) ∧
    (p.src.isVf = true → o.info.vf = true ∧ o.info.expert = false) ∧
    (p.src.isVf = false → o.info.expert = true → BitVec.getLsbD (s.classesOf p.src) o.cls = true) ∧
    (BitVec.toNat p.flags < 32) ∧
    (p.resv7 = 0) ∧
    (p.resv10 = 0) ∧
    (p.src ≠ Src.smbus) ∧
    (p.waits = true) ∧
    (fenceIndex p.src.func (BitVec.toNat p.waitFence) = none) :=
  ⟨rdy, .devNop, { flagged 4 (pk []) with waitFence := 192 }, by decide +kernel⟩

theorem meets_HeaderChecks_11 : ∃ (s : State) (o : Op) (p : Packet),
    (s.takes p.src = true) ∧
    (p.src = Src.smbus → s.smb.outstanding = false) ∧
    (s.queued p.src = []) ∧
    (s.canStart p = true) ∧
    (4 ≤ BitVec.toNat p.length) ∧
    (BitVec.toNat p.length ≤ 64) ∧
    (p.src.isVf = true → o.info.vf = true ∧ o.info.expert = false) ∧
    (p.src.isVf = false → o.info.expert = true → BitVec.getLsbD (s.classesOf p.src) o.cls = true) ∧
    (BitVec.toNat p.flags < 32) ∧
    (p.resv7 = 0) ∧
    (p.resv10 = 0) ∧
    (p.src ≠ Src.smbus) ∧
    (p.waits = true → (fenceIndex p.src.func (BitVec.toNat p.waitFence)).isSome = true) ∧
    (p.signals = true) ∧
    (fenceIndex p.src.func (BitVec.toNat p.signalFence) = none) :=
  ⟨rdyV, .devNop, { flagged 8 (on (.ring (.vf 0) 0) (pk [])) with signalFence := 8 }, by decide +kernel⟩

theorem meets_HeaderChecks_12 : ∃ (s : State) (o : Op) (p : Packet),
    (s.takes p.src = true) ∧
    (p.src = Src.smbus → s.smb.outstanding = false) ∧
    (s.queued p.src = []) ∧
    (s.canStart p = true) ∧
    (4 ≤ BitVec.toNat p.length) ∧
    (BitVec.toNat p.length ≤ 64) ∧
    (p.src.isVf = true → o.info.vf = true ∧ o.info.expert = false) ∧
    (p.src.isVf = false → o.info.expert = true → BitVec.getLsbD (s.classesOf p.src) o.cls = true) ∧
    (BitVec.toNat p.flags < 32) ∧
    (p.resv7 = 0) ∧
    (p.resv10 = 0) ∧
    (p.src = Src.smbus → p.signals = false ∧ p.waits = false ∧ p.irq = false) ∧
    (p.waits = true → (fenceIndex p.src.func (BitVec.toNat p.waitFence)).isSome = true) ∧
    (p.signals = true → (fenceIndex p.src.func (BitVec.toNat p.signalFence)).isSome = true) ∧
    (∃ n, o.info.length = some n ∧ n ≠ BitVec.toNat p.length) :=
  ⟨rdy, .devInfo, pk [], by decide +kernel⟩

theorem meets_HeaderChecks_13 : ∃ (s : State) (o : Op) (p : Packet),
    (s.takes p.src = true) ∧
    (p.src = Src.smbus → s.smb.outstanding = false) ∧
    (s.queued p.src = []) ∧
    (s.canStart p = true) ∧
    (4 ≤ BitVec.toNat p.length) ∧
    (BitVec.toNat p.length ≤ 64) ∧
    (p.src.isVf = true → o.info.vf = true ∧ o.info.expert = false) ∧
    (p.src.isVf = false → o.info.expert = true → BitVec.getLsbD (s.classesOf p.src) o.cls = true) ∧
    (BitVec.toNat p.flags < 32) ∧
    (p.resv7 = 0) ∧
    (p.resv10 = 0) ∧
    (p.src = Src.smbus → p.signals = false ∧ p.waits = false ∧ p.irq = false) ∧
    (p.waits = true → (fenceIndex p.src.func (BitVec.toNat p.waitFence)).isSome = true) ∧
    (p.signals = true → (fenceIndex p.src.func (BitVec.toNat p.signalFence)).isSome = true) ∧
    (∀ (n : Nat), o.info.length = some n → n = BitVec.toNat p.length) ∧
    ((firstReserved (namedIn o p) 16 (List.take (4 * BitVec.toNat p.length - 16) p.body)).isSome = true) :=
  ⟨rdy, .devInfo, pk (bs [(1,7),(2,0),(1,1)]), by decide +kernel⟩

theorem meets_HeaderChecks_14 : ∃ (s : State) (o : Op) (p : Packet),
    (s.takes p.src = true) ∧
    (p.src = Src.smbus → s.smb.outstanding = false) ∧
    (s.queued p.src = []) ∧
    (s.canStart p = true) ∧
    (4 ≤ BitVec.toNat p.length) ∧
    (BitVec.toNat p.length ≤ 64) ∧
    (p.src.isVf = true → o.info.vf = true ∧ o.info.expert = false) ∧
    (p.src.isVf = false → o.info.expert = true → BitVec.getLsbD (s.classesOf p.src) o.cls = true) ∧
    (BitVec.toNat p.flags < 32) ∧
    (p.resv7 = 0) ∧
    (p.resv10 = 0) ∧
    (p.src = Src.smbus → p.signals = false ∧ p.waits = false ∧ p.irq = false) ∧
    (p.waits = true → (fenceIndex p.src.func (BitVec.toNat p.waitFence)).isSome = true) ∧
    (p.signals = true → (fenceIndex p.src.func (BitVec.toNat p.signalFence)).isSome = true) ∧
    (∀ (n : Nat), o.info.length = some n → n = BitVec.toNat p.length) ∧
    (p.src ≠ Src.smbus) ∧
    (firstReserved (namedIn o p) 16 (List.take (4 * BitVec.toNat p.length - 16) p.body) = none) ∧
    (s.sup.fault = true) ∧
    (¬o ∈ [Op.devInfo, Op.devStatus, Op.evtLogRead, Op.evtCounters, Op.fwVersion, Op.fwCertRead]) :=
  ⟨{ rdy with sup.fault := true }, .devNop, pk [], by decide +kernel⟩

theorem meets_HeaderChecks_15 : ∃ (s : State) (o : Op) (p : Packet),
    (s.takes p.src = true) ∧
    (p.src = Src.smbus → s.smb.outstanding = false) ∧
    (s.queued p.src = []) ∧
    (s.canStart p = true) ∧
    (checkHeader s o p = none) :=
  ⟨rdy, .devInfo, pk (bs [(1,7),(3,0)]), by decide +kernel⟩

theorem meets_DevReports_0 : ∃ (s : State) (p : Packet),
    (s.Starts Op.devNop p) :=
  ⟨rdy, pk [], by decide +kernel⟩

theorem meets_DevReports_1 : ∃ (s : State) (p : Packet),
    (s.Starts Op.devInfo p) ∧
    (p.u8 16 ≤ 6) :=
  ⟨rdy, pf 5 [(16,1,6)], by decide +kernel⟩

theorem meets_DevReports_2 : ∃ (s : State) (p : Packet),
    (s.Starts Op.fwVersion p) :=
  ⟨rdyV, on (.ring (.vf 0) 0) (pk []), by decide +kernel⟩

theorem meets_DevReports_3 : ∃ (s : State) (p : Packet) (i : Nat),
    (s.Starts Op.devFenceRead p) ∧
    (fenceIndex p.src.func (p.u8 16) = some i) :=
  ⟨rdyV, on (.ring (.vf 0) 0) (pf 5 [(16,1,7)]), 199, by decide +kernel⟩

theorem meets_DevReports_4 : ∃ (s : State) (p : Packet),
    (s.Starts Op.devStatus p) ∧
    (p.u64 24 = 0) :=
  ⟨rdy, pf 8 [], by decide +kernel⟩

theorem meets_DevReports_5 : ∃ (s : State) (p : Packet) (l : Loc),
    (s.MemWf) ∧
    (s.Starts Op.devStatus p) ∧
    (p.u64 24 ≠ 0) ∧
    (p.u64 24 % 64 = 0) ∧
    (s.resolve p.src (p.u64 24) 256 = some l) ∧
    (l.dev = true → l.addr + 256 ≤ s.capacity) :=
  ⟨rdy, pf 8 [(24,8,dev 0x40)], ⟨true, 0x40⟩, by decide +kernel⟩

theorem meets_DevSettings_0 : ∃ (s : State) (p : Packet) (i : Nat),
    (s.Starts Op.devFenceSet p) ∧
    (fenceIndex p.src.func (p.u8 16) = some i) ∧
    (s.fenceWaited i = false) :=
  ⟨rdyX, pf 8 [(16,1,191),(24,8,0xFFFFFFFFFFFFFFFF)], 191, by decide +kernel⟩

theorem meets_DevSettings_1 : ∃ (s : State) (p : Packet),
    (s.Starts Op.devSetLevel p) ∧
    (p.src = Src.ring Func.pf 0) ∧
    (p.u8 16 ≤ 15 ∨ p.u8 16 = 128) ∧
    (p.u8 17 ≤ 1) ∧
    (p.u16 18 % 2 = 0) :=
  ⟨rdy, pf 5 [(16,1,15),(17,1,1),(18,2,0xFFFE)], by decide +kernel⟩

theorem meets_GrantsAndAborts_0 : ∃ (s : State) (p : Packet) (n : Fin 8),
    (s.Starts Op.devVfGrant p) ∧
    (s.grantRange p = none) ∧
    (p.u8 16 = ↑n + 1) ∧
    (↑n < s.cmd.vfsEnabled) ∧
    (s.grantTaken (↑n + 1) (grantNamed p) = none) ∧
    ((s.fn (Func.vf n)).grant.shrinks (grantNamed p) = false) :=
  ⟨rdyV, pf 12 [(16,1,2),(17,1,0x0A),(18,1,1),(19,1,1),(20,2,0),(22,2,16),(24,4,64),(32,8,dev 0)], 1, by decide +kernel⟩

theorem meets_GrantsAndAborts_1 : ∃ (s : State) (p : Packet) (n : Fin 8),
    (s.Starts Op.devVfGrant p) ∧
    (s.grantRange p = none) ∧
    (p.u8 16 = ↑n + 1) ∧
    (↑n < s.cmd.vfsEnabled) ∧
    (s.grantTaken (↑n + 1) (grantNamed p) = none) ∧
    ((s.fn (Func.vf n)).grant.shrinks (grantNamed p) = true) :=
  ⟨rdyV, pf 12 [(16,1,1),(17,1,0xE0),(18,1,1),(19,1,1),(20,2,512),(22,2,256),(24,4,64),(32,8,dev 0x10000000)], 0, by decide +kernel⟩

theorem meets_GrantsAndAborts_2 : ∃ (s : State) (p : Packet) (f : Func) (n : Fin 16) (m : Fin 16) (r : SubRing) (e : Fetched) (rest : List Fetched),
    (s.Starts Op.devAbort p) ∧
    (p.src = Src.ring f n) ∧
    (p.u8 16 = ↑m) ∧
    (m ∈ ringsOf f) ∧
    (∀ (x : Flight), x ∈ s.cmd.flights → x.pkt.src ≠ Src.ring f m) ∧
    (s.subRing f ↑m = some r) ∧
    (r.fetched = e :: rest) ∧
    (e.pkt.tag = BitVec.ofNat 16 (p.u16 18)) ∧
    (m ≠ n) :=
  ⟨(rdy.updSub .pf 1 fun r => { r with enable := true, target := 0, fetched := [{ opcode := 0x100, pkt := on (.ring .pf 1) (pk []) }] }), pf 5 [(16,1,1),(18,2,0x1234)], .pf, 0, 1, { enable := true, target := 0, fetched := [{ opcode := 0x100, pkt := on (.ring .pf 1) (pk []) }] }, { opcode := 0x100, pkt := on (.ring .pf 1) (pk []) }, [], by decide +kernel⟩

theorem meets_GrantsAndAborts_3 : ∃ (s : State) (p : Packet) (f : Func) (n : Fin 16) (m : Fin 16) (r : SubRing) (e : Fetched) (rest : List Fetched) (x : Flight),
    (s.Starts Op.devAbort p) ∧
    (p.src = Src.ring f n) ∧
    (p.u8 16 = ↑m) ∧
    (m ∈ ringsOf f) ∧
    (List.find?
    (fun y => y.pkt.src == Src.ring f m && y.pkt.tag == BitVec.ofNat 16 (p.u16 18) && y.ticket != s.cmd.nextTicket)
    s.cmd.flights =
  some x) ∧
    (x.committed = true) :=
  ⟨{ rdy with cmd.flights := [{ ticket := 7, opcode := 0x201, pkt := on (.ring .pf 1) (pk []), committed := true }], cmd.nextTicket := 8 }, pf 5 [(16,1,1),(18,2,0x1234)], .pf, 0, 1, {}, { opcode := 0, pkt := pk [] }, [], { ticket := 7, opcode := 0x201, pkt := on (.ring .pf 1) (pk []), committed := true }, by decide +kernel⟩

theorem meets_GrantsAndAborts_4 : ∃ (s : State) (p : Packet) (f : Func) (n : Fin 16) (m : Fin 16) (r : SubRing) (e : Fetched) (rest : List Fetched) (x : Flight),
    (s.Starts Op.devAbort p) ∧
    (p.src = Src.ring f n) ∧
    (p.u8 16 = ↑m) ∧
    (m ∈ ringsOf f) ∧
    (List.find?
    (fun y => y.pkt.src == Src.ring f m && y.pkt.tag == BitVec.ofNat 16 (p.u16 18) && y.ticket != s.cmd.nextTicket)
    s.cmd.flights =
  some x) ∧
    (x.committed = false) ∧
    (∀ (y : Flight), y ∈ s.cmd.flights → y.ticket ≠ s.cmd.nextTicket) :=
  ⟨{ rdy with cmd.flights := [{ ticket := 7, opcode := 0x500, pkt := on (.ring .pf 1) (pk []), committed := false }], cmd.nextTicket := 8 }, pf 5 [(16,1,1),(18,2,0x1234)], .pf, 0, 1, {}, { opcode := 0, pkt := pk [] }, [], { ticket := 7, opcode := 0x500, pkt := on (.ring .pf 1) (pk []), committed := false }, by decide +kernel⟩

theorem meets_GrantsAndAborts_5 : ∃ (s : State) (p : Packet) (f : Func) (n : Fin 16) (m : Fin 16) (r : SubRing) (e : Fetched) (rest : List Fetched),
    (s.Starts Op.devAbort p) ∧
    (p.src = Src.ring f n) ∧
    (p.u8 16 = ↑m) ∧
    (m ∈ ringsOf f) ∧
    (∀ (x : Flight), x ∈ s.cmd.flights → x.pkt.src ≠ Src.ring f m) ∧
    (∀ (r : SubRing), s.subRing f ↑m = some r → ∀ (e : Fetched), e ∈ r.fetched → e.pkt.tag ≠ BitVec.ofNat 16 (p.u16 18)) :=
  ⟨rdy, pf 5 [(16,1,15),(18,2,0x1234)], .pf, 0, 15, {}, { opcode := 0, pkt := pk [] }, [], by decide +kernel⟩

theorem meets_StrmContexts_0 : ∃ (s : State) (p : Packet) (i : Nat) (rest : List Nat),
    (s.Starts Op.strmOpen p) ∧
    (p.u8 16 ≤ 2) ∧
    (p.u8 16 ≠ 0 → p.u32 24 = 0 ∨ 3758096384 ≤ p.u32 24 ∧ p.u32 24 < 4026531840) ∧
    (p.u8 16 ≠ 0 →
  ∀ (c : StreamCtx),
    c ∈ s.strm.ctxs →
      c.state = CtxState.closed ∨
        c.source ≠ p.u8 16 ∨
          (c.udpPort ≠ if p.u16 18 = 0 then 47811 else p.u16 18) ∨ idsOverlap c.streamId (p.u32 20) = false) ∧
    (List.filter (fun i => (s.ctx i).state == CtxState.closed) (List.range 4) = i :: rest) ∧
    (if p.src.isVf = true then s.openedBy p.src.func < (s.grantOf p.src).streams else s.reservedCtxs < rest.length + 1) :=
  ⟨rdy, pf 8 [(16,1,1),(18,2,0),(20,4,77),(24,4,0xEFFFFFFF)], 0, [1,2,3], by decide +kernel⟩

theorem meets_StrmContexts_1 : ∃ (s : State) (p : Packet) (i : Nat),
    (p.u8 16 = i) ∧
    (i ≤ 3) ∧
    (s.Starts Op.strmClose p) ∧
    (s.ctxAllowed p i = true) ∧
    ((s.ctx i).state ≠ CtxState.closed) ∧
    ((s.ctx i).submits = []) ∧
    (∀ (x : Nat × Nat), s.strm.cut = some x → x.snd ≠ i) :=
  ⟨{ rdy.updCtx 2 (fun c => { c with state := .running, source := 1, group := 0xE0000000 }) with strm.onAir := some 2 }, pf 5 [(16,1,2)], 2, by decide +kernel⟩

theorem meets_StrmContexts_2 : ∃ (s : State) (p : Packet) (i : Nat),
    (p.u8 16 = i) ∧
    (i ≤ 3) ∧
    (s.Starts Op.strmClose p) ∧
    (s.ctxAllowed p i = true) ∧
    ((s.ctx i).state ≠ CtxState.closed) :=
  ⟨{ (rdy.updCtx 2 fun c => { c with state := .running, source := 0, submits := [⟨7, 8, 0x100000⟩] }) with strm.onAir := some 2, cmd.flights := [{ ticket := 7, opcode := 0x201, pkt := on (.ring .pf 1) (pk []) }], cmd.nextTicket := 8 }, pf 5 [(16,1,2)], 2, by decide +kernel⟩

theorem meets_StrmContexts_3 : ∃ (s : State) (p : Packet) (i : Nat),
    (p.u8 16 = i) ∧
    (i ≤ 3) ∧
    (s.Starts Op.strmTimeouts p) ∧
    (1 ≤ p.u16 18) ∧
    (p.u16 18 ≤ 1000) ∧
    (p.u16 20 = 0 ∨ 10 ≤ p.u16 20 ∧ p.u16 20 ≤ 60000 ∧ p.u16 18 < p.u16 20) :=
  ⟨rdyX, pf 6 [(16,1,3),(18,2,1000),(20,2,1001)], 3, by decide +kernel⟩

theorem meets_StrmContexts_4 : ∃ (s : State) (p : Packet) (i : Nat),
    (p.u8 16 = i) ∧
    (i ≤ 3) ∧
    (s.Starts Op.strmFilter p) ∧
    ((s.ctx i).state ≠ CtxState.closed) ∧
    ((s.ctx i).source ≠ 0) ∧
    (p.u16 18 ≠ 0) ∧
    (p.u32 28 = 0 ∨ 3758096384 ≤ p.u32 28 ∧ p.u32 28 < 4026531840) :=
  ⟨rdyX.updCtx 1 (fun c => { c with state := .seeking, source := 2, group := 0xE0000001 }), pf 8 [(16,1,1),(18,2,65535),(20,4,0x0A000001),(24,4,0xFFFFFFFF),(28,4,0xE0000002)], 1, by decide +kernel⟩

theorem meets_StrmContexts_5 : ∃ (s : State) (p : Packet) (i : Nat),
    (p.u8 16 = i) ∧
    (i ≤ 3) ∧
    (s.Starts Op.strmStatus p) ∧
    (s.ctxAllowed p i = true) ∧
    (([(s.ctxStateWord i, BitVec.toNat (s.ctx i).lastHanded),
    (BitVec.toNat (s.ctx i).nComplete, BitVec.toNat (s.ctx i).nTruncated),
    (BitVec.toNat (s.ctx i).nRejected, BitVec.toNat (s.ctx i).nDiscarded),
    (BitVec.toNat (s.ctx i).nDatagrams, BitVec.toNat (s.ctx i).nDropped),
    (BitVec.toNat (s.ctx i).nMissing, BitVec.toNat (s.ctx i).nSets),
    (BitVec.toNat (s.ctx i).nDuplicates, BitVec.toNat (s.ctx i).nSkipped)][p.u8 17]?).isSome = true) :=
  ⟨rdy, pf 5 [(16,1,3),(17,1,5)], 3, by decide +kernel⟩

theorem meets_StrmBuffers_0 : ∃ (s : State) (p : Packet) (i : Nat),
    (p.u8 16 = i) ∧
    (i ≤ 3) ∧
    ((s.ctx i).state ≠ CtxState.closed) ∧
    (s.Starts Op.strmSubmit p) ∧
    (s.ctxAllowed p i = true) ∧
    ((s.ctx i).source = 0) ∧
    (p.u32 20 % 4 = 0) ∧
    (4 ≤ p.u32 20) ∧
    (p.u32 20 ≤ 33554432) ∧
    (p.u64 24 % 4 = 0) ∧
    ((s.resolve p.src (p.u64 24) (p.u32 20)).isSome = true) :=
  ⟨rdy.updCtx 3 (fun c => { c with state := .seeking, source := 0 }), pf 8 [(16,1,3),(20,4,4),(24,8,0x100000)], 3, by decide +kernel⟩

theorem meets_StrmBuffers_1 : ∃ (s : State) (p : Packet) (i : Nat),
    (p.u8 16 = i) ∧
    (i ≤ 3) ∧
    ((s.ctx i).state ≠ CtxState.closed) ∧
    (s.Starts Op.strmCut p) ∧
    ((s.ctx i).owner = Func.pf) ∧
    (s.strm.onAir ≠ some i) ∧
    (s.strm.cut = none) :=
  ⟨rdy.updCtx 3 (fun c => { c with state := .seeking, source := 0 }), pf 5 [(16,1,3)], 3, by decide +kernel⟩

theorem meets_StrmBuffers_2 : ∃ (s : State) (n : Fin 4) (sub : Submit) (rest : List Submit) (f : Flight) (l : Loc),
    ((s.ctx ↑n).submits = sub :: rest) ∧
    ((s.ctx ↑n).waiting.length < 4) ∧
    (s.bufUsed + bufSpace sub.len ≤ bufLimit) ∧
    (s.flight sub.ticket = some f) ∧
    (s.commitRefusal = none) ∧
    (s.resolve f.pkt.src sub.addr sub.len = some l) ∧
    (s.commitHeld sub.ticket = false) :=
  ⟨{ (rdy.writeAt ⟨false, 0x100000⟩ (leBytes 4 tuSync ++ [1, 1])).updCtx 1 (fun c => { c with state := .running, submits := [⟨7, 8, 0x100000⟩] }) with cmd.flights := [{ ticket := 7, opcode := 0x201, pkt := pk [] }] }, 1, ⟨7, 8, 0x100000⟩, [], { ticket := 7, opcode := 0x201, pkt := pk [] }, ⟨false, 0x100000⟩, by decide +kernel⟩

theorem meets_StrmBuffers_3 : ∃ (s : State) (n : Fin 4) (sub : Submit) (rest : List Submit) (f : Flight) (l : Loc),
    ((s.ctx ↑n).submits = sub :: rest) ∧
    ((s.ctx ↑n).waiting.length < 4) ∧
    (s.bufUsed + bufSpace sub.len ≤ bufLimit) ∧
    (s.flight sub.ticket = some f) ∧
    (s.commitRefusal = none) ∧
    (s.resolve f.pkt.src sub.addr sub.len = some l) ∧
    (s.commitHeld sub.ticket = false) ∧
    (↑n < s.strm.ctxs.length) ∧
    ((s.ctx ↑n).mode ≠ ParseMode.hunting) ∧
    (scanUnit ((s.ctx ↑n).buf ++ s.readAt l sub.len) = Scan.short) :=
  ⟨{ (rdy.writeAt ⟨false, 0x100000⟩ (leBytes 4 tuSync ++ [1, 1])).updCtx 1 (fun c => { c with state := .running, mode := .between, submits := [⟨7, 8, 0x100000⟩] }) with cmd.flights := [{ ticket := 7, opcode := 0x201, pkt := pk [] }] }, 1, ⟨7, 8, 0x100000⟩, [], { ticket := 7, opcode := 0x201, pkt := pk [] }, ⟨false, 0x100000⟩, by decide +kernel⟩

theorem meets_StrmBuffers_4 : ∃ (s : State) (n : Fin 4) (sub : Submit) (rest : List Submit) (f : Flight) (l : Loc) (m : Fin 4),
    ((s.ctx ↑n).submits = sub :: rest) ∧
    ((s.ctx ↑n).waiting.length < 4) ∧
    (s.bufUsed + bufSpace sub.len ≤ bufLimit) ∧
    (s.flight sub.ticket = some f) ∧
    (s.commitRefusal = none) ∧
    (s.resolve f.pkt.src sub.addr sub.len = some l) ∧
    (s.commitHeld sub.ticket = false) ∧
    (4 ≤ (s.ctx ↑m).waiting.length) :=
  ⟨{ (rdy.updCtx 1 (fun c => { c with state := .running, mode := .between, submits := [⟨7, 8, 0x100000⟩] })).updCtx 0 (fun c => { c with state := .running, waiting := [au2, au2, au2, au2] }) with cmd.flights := [{ ticket := 7, opcode := 0x201, pkt := pk [] }] }, 1, ⟨7, 8, 0x100000⟩, [], { ticket := 7, opcode := 0x201, pkt := pk [] }, ⟨false, 0x100000⟩, 0, by decide +kernel⟩

theorem meets_StrmIntake_0 : ∃ (s : State) (n : Fin 4),
    (s.stallDue ↑n = true) :=
  ⟨rdyE.updCtx 3 (fun c => { c with state := .running, lastByte := 9800000000 }), 3, by decide +kernel⟩

theorem meets_StrmIntake_1 : ∃ (s : State) (n : Fin 4),
    (s.stallDue ↑n = false) :=
  ⟨rdy, 2, by decide +kernel⟩

theorem meets_StrmIntake_2 : ∃ (s : State) (n : Fin 4),
    (s.isBehind ↑n = true) :=
  ⟨rdy.updCtx 3 (fun c => { c with state := .running, waiting := [{ au2 with slotSince := some 9800000000 }] }), 3, by decide +kernel⟩

theorem meets_StrmIntake_3 : ∃ (s : State) (n : Fin 4),
    (s.isBehind ↑n = false) :=
  ⟨rdy.updCtx 3 (fun c => { c with state := .running, waiting := [au2] }), 3, by decide +kernel⟩

theorem meets_StrmIntake_4 : ∃ (s : State) (n : Fin 4) (port : Port) (d : Datagram),
    ((s.port (portIdx port)).mode ≠ 0) ∧
    ((s.port (portIdx port)).link = true) ∧
    (s.fabricUp = true) ∧
    (∀ (i : Nat), i < 4 → i ≠ ↑n → ctxTakes (s.ctx i) (portIdx port) (s.port (portIdx port)).ipv4 d = false) ∧
    (ctxTakes (s.ctx ↑n) (portIdx port) (s.port (portIdx port)).ipv4 d = true) ∧
    ((s.ctx ↑n).streamId = 0 ∨ (s.ctx ↑n).streamId = fieldAt d.payload 4 4) ∧
    (d.srcIp &&& (s.ctx ↑n).fMask = (s.ctx ↑n).fSource &&& (s.ctx ↑n).fMask) ∧
    (d.fragmented = false) ∧
    (d.checksumOk = true) ∧
    (d.payload.length ≤ 8972) ∧
    (20 ≤ d.payload.length) ∧
    (fieldAt d.payload 0 2 = 17492) ∧
    (fieldAt d.payload 2 1 = 1) ∧
    (fieldAt d.payload 3 1 < 32) ∧
    (bitOf (fieldAt d.payload 3 1) 2 = false) ∧
    (fieldAt d.payload 17 3 = 0) ∧
    (fieldAt d.payload 12 4 + (d.payload.length - 20) ≤ auLimit) ∧
    (s.isLate (↑n) (word (fieldAt d.payload 8 4)) = false) ∧
    (∀ (x : Reassembly), x ∈ (s.ctx ↑n).reasm → x.number = word (fieldAt d.payload 8 4)) ∧
    ((s.ctx ↑n).reasm.length ≤ 1) ∧
    ((s.reasmOf (↑n) (word (fieldAt d.payload 8 4))).isComplete = false) ∧
    ((s.reasmOf (↑n) (word (fieldAt d.payload 8 4))).cut = false) ∧
    (((s.reasmOf (↑n) (word (fieldAt d.payload 8 4))).place d.payload (s.mtNs + (s.ctx ↑n).gapMs * 1000000)
      s.ntNs).isComplete =
  false) ∧
    (((s.reasmOf (↑n) (word (fieldAt d.payload 8 4))).place d.payload (s.mtNs + (s.ctx ↑n).gapMs * 1000000) s.ntNs).cut =
  false) ∧
    (((s.reasmOf (↑n) (word (fieldAt d.payload 8 4))).place d.payload (s.mtNs + (s.ctx ↑n).gapMs * 1000000) s.ntNs).dead =
  false) ∧
    (s.bufUsed + bufSpace (fieldAt d.payload 12 4 + (d.payload.length - 20)) ≤ bufLimit) :=
  ⟨{ rdy.updCtx 0 (fun c => { c with state := .running, source := 1, udpPort := 47811 }) with net.ports := [{ mode := 1, link := true, ipv4 := 0x0A000001 }, {}] }, 0, .a, { srcIp := 0x0A000002, dstIp := 0x0A000001, dstPort := 47811, payload := bs [(2,0x4454),(1,1),(1,0),(4,1),(4,9),(4,0),(1,0),(3,0),(1,7)], fragmented := false, checksumOk := true }, by decide +kernel⟩

theorem meets_StrmIntake_5 : ∃ (s : State) (n : Fin 4) (port : Port) (d : Datagram),
    ((s.port (portIdx port)).mode ≠ 0) ∧
    ((s.port (portIdx port)).link = true) ∧
    (s.fabricUp = true) ∧
    (∀ (i : Nat), i < 4 → ctxTakes (s.ctx i) (portIdx port) (s.port (portIdx port)).ipv4 d = false) :=
  ⟨{ rdy with net.ports := [{ mode := 1, link := true, ipv4 := 0x0A000001 }, {}] }, 0, .a, { srcIp := 0x0A000002, dstIp := 0x0A000001, dstPort := 47811, payload := bs [(2,0x4454),(1,1),(1,0),(4,1),(4,9),(4,0),(1,0),(3,0),(1,7)], fragmented := false, checksumOk := true }, by decide +kernel⟩

theorem meets_StrmIntake_6 : ∃ (s : State) (n : Fin 4) (au : Word) (r : Reassembly),
    ((s.ctx ↑n).reasm = [r]) ∧
    (r.number = au) ∧
    (r.deadline ≤ s.mtNs) ∧
    (r.isComplete = false) ∧
    (r.cut = false) ∧
    (r.hasStart = false) ∧
    ((s.ctx ↑n).refNum = none) :=
  ⟨rdyE.updCtx 2 (fun c => { c with state := .running, source := 1, reasm := [{ number := 9, frags := [⟨64, [1]⟩], total := none, deadline := 10000000000 }] }), 2, 9, { number := 9, frags := [⟨64, [1]⟩], total := none, deadline := 10000000000 }, by decide +kernel⟩

theorem meets_StrmIntake_7 : ∃ (s : State) (n : Fin 4) (au : Word) (r : Reassembly) (k : Nat),
    (List.find? (fun x => x.number == au) (s.ctx ↑n).reasm = some r) ∧
    (r.deadline ≤ s.mtNs) ∧
    (r.isComplete = false) ∧
    (r.cut = false) ∧
    (r.hasStart = true) ∧
    (r.total = some k) :=
  ⟨rdyE.updCtx 2 (fun c => { c with state := .running, source := 1, reasm := [{ number := 9, frags := [⟨0, List.replicate 40 1⟩], total := some 64, deadline := 10000000000 }] }), 2, 9, { number := 9, frags := [⟨0, List.replicate 40 1⟩], total := some 64, deadline := 10000000000 }, 64, by decide +kernel⟩

theorem meets_StrmIntake_8 : ∃ (s : State) (n : Fin 4) (au : Word) (r : Reassembly),
    (List.find? (fun x => x.number == au) (s.ctx ↑n).reasm = some r) ∧
    (s.mtNs < r.deadline) :=
  ⟨rdyE.updCtx 2 (fun c => { c with state := .running, source := 1, reasm := [{ number := 9, frags := [⟨64, [1]⟩], total := none, deadline := 10000000001 }] }), 2, 9, { number := 9, frags := [⟨64, [1]⟩], total := none, deadline := 10000000001 }, by decide +kernel⟩

theorem meets_Decoding_0 : ∃ (s : State) (p : Packet),
    (s.Starts Op.decPoolSize p) ∧
    (3 ≤ p.u8 16) ∧
    (p.u8 16 ≤ 8) ∧
    (16 ≤ p.u16 18) ∧
    (p.u16 18 ≤ 8192) ∧
    (∀ (c : StreamCtx), c ∈ s.strm.ctxs → c.state = CtxState.closed) ∧
    (p.u8 16 * p.u16 18 * 65536 + s.ownBytes ≤ s.capacity) :=
  ⟨rdy, pf 5 [(16,1,3),(18,2,16)], by decide +kernel⟩

theorem meets_Decoding_1 : ∃ (s : State) (p : Packet),
    (s.Starts Op.decColour p) ∧
    (p.u8 16 ≤ 3) ∧
    (p.u8 17 ≤ 2) ∧
    (p.u8 17 ≠ 0 → p.u8 18 ≤ 1) ∧
    ((s.ctx (p.u8 16)).state ≠ CtxState.closed) :=
  ⟨rdyX.updCtx 3 (fun c => { c with state := .running }), pf 5 [(16,1,3),(17,1,2),(18,1,1)], by decide +kernel⟩

theorem meets_Decoding_2 : ∃ (s : State) (p : Packet),
    (s.Starts Op.decAssign p) ∧
    (p.u8 16 ≤ 3) ∧
    (p.u8 18 ≤ 2) ∧
    (p.u8 19 ≤ 4) ∧
    (p.u16 20 ≠ 0) ∧
    (p.u16 20 ≤ 4095) ∧
    ((s.ctx (p.u8 16)).state ≠ CtxState.closed) ∧
    (p.u8 17 = 255 ∨
  p.u8 17 <
    match (s.ctx (p.u8 16)).current with
    | some q => scViews q.scene
    | none => 16) :=
  ⟨rdyX.updCtx 0 (fun c => { c with state := .running, current := some ps2 }), pf 6 [(16,1,0),(17,1,1),(18,1,2),(19,1,4),(20,2,0xFFF)], by decide +kernel⟩

theorem meets_Decoding_3 : ∃ (s : State) (p : Packet),
    (s.Starts Op.decStatus p) ∧
    (p.u8 16 = 0 → p.u8 17 = 0) ∧
    (p.u8 16 = 1 → p.u8 17 < s.dec.slotCount) ∧
    (2 ≤ p.u8 16 → p.u8 17 ≤ 3) ∧
    (([(s.dec.slotCount, s.dec.slotBlocks), (s.slotWord (p.u8 17), BitVec.toNat (s.slot (p.u8 17)).au),
    (s.decCtxWord (p.u8 17), BitVec.toNat (s.dec.ctxs.getD (p.u8 17) { }).completed),
    (BitVec.toNat (s.dec.ctxs.getD (p.u8 17) { }).concealedAll, BitVec.toNat (s.dec.ctxs.getD (p.u8 17) { }).cause1),
    (BitVec.toNat (s.dec.ctxs.getD (p.u8 17) { }).cause2, BitVec.toNat (s.dec.ctxs.getD (p.u8 17) { }).cause3),
    (BitVec.toNat (s.dec.ctxs.getD (p.u8 17) { }).fallback, BitVec.toNat (s.dec.ctxs.getD (p.u8 17) { }).slotWaits),
    (BitVec.toNat (s.dec.ctxs.getD (p.u8 17) { }).lastUs,
      BitVec.toNat (s.dec.ctxs.getD (p.u8 17) { }).tooLarge)][p.u8 16]?).isSome = true) :=
  ⟨rdy, pf 5 [(16,1,6),(17,1,3)], by decide +kernel⟩

theorem meets_Decoding_4 : ∃ (s : State) (core : Fin 12) (slot : Nat) (ci : Nat) (k : Nat) (j : DecodeJob) (c : CompJob),
    (s.dec.cores[↑core]? = some (some (CoreItem.part slot ci k))) ∧
    (s.partCanEnd slot ci k = true) ∧
    ((s.slot slot).abandoned = false) ∧
    (List.find? (fun j => j.slot == slot)
    (({ s with dec.cores := s.dec.cores.set core.val none } : State).updJob
          slot
          (setPart ci k fun p =>
            { load := p.load, state := PartState.done, since := p.since, banned := p.banned })).dec.jobs =
  some j) ∧
    (j.comps[ci]? = some c) ∧
    (c.isDone = false) :=
  ⟨{ rdyD with dec.cores := none :: some (.part 0 1 0) :: List.replicate 10 none }, 1, 0, 1, 0, { job2 with comps := [job2.comps.getD 0 { view := 0, depth := false, mask := 0, mode := 0, parts := [], refs := [] }, { view := 1, depth := false, mask := 0xFFF, mode := 4, parts := [{ load := 512, state := .done }, { load := 512 }], refs := [] }] }, { view := 1, depth := false, mask := 0xFFF, mode := 4, parts := [{ load := 512, state := .done }, { load := 512 }], refs := [] }, by decide +kernel⟩

theorem meets_Decoding_5 : ∃ (s : State) (core : Fin 12) (slot : Nat) (ci : Nat) (k : Nat) (j : DecodeJob) (c : CompJob),
    (s.dec.cores[↑core]? = some (some (CoreItem.part slot ci k))) ∧
    (s.partCanEnd slot ci k = true) ∧
    ((s.slot slot).abandoned = false) ∧
    (List.find? (fun j => j.slot == slot)
    (({ s with dec.cores := s.dec.cores.set core.val none } : State).updJob
          slot
          (setPart ci k fun p =>
            { load := p.load, state := PartState.done, since := p.since, banned := p.banned })).dec.jobs =
  some j) ∧
    (j.comps[ci]? = some c) ∧
    (c.isDone = true) ∧
    (∃ d, d ∈ j.comps ∧ d.isDone = false) ∧
    (s.MemWf) :=
  ⟨{ rdyD with dec.jobs := [{ job2 with comps := [{ view := 0, depth := false, mask := 0xFFF, mode := 4, parts := [{ load := 512, state := .running }], refs := [] }, { view := 1, depth := false, mask := 0xFFF, mode := 4, parts := [{ load := 512 }], refs := [] }] }] }, 0, 0, 0, 0, { job2 with comps := [{ view := 0, depth := false, mask := 0xFFF, mode := 4, parts := [{ load := 512, state := .done }], refs := [] }, { view := 1, depth := false, mask := 0xFFF, mode := 4, parts := [{ load := 512 }], refs := [] }] }, { view := 0, depth := false, mask := 0xFFF, mode := 4, parts := [{ load := 512, state := .done }], refs := [] }, by decide +kernel⟩

theorem meets_Decoding_6 : ∃ (s : State) (core : Fin 12) (slot : Nat) (ci : Nat) (k : Nat) (j : DecodeJob) (c : CompJob),
    (s.dec.cores[↑core]? = some (some (CoreItem.part slot ci k))) ∧
    (s.partCanEnd slot ci k = true) ∧
    ((s.slot slot).abandoned = false) ∧
    (List.find? (fun j => j.slot == slot)
    (({ s with dec.cores := s.dec.cores.set core.val none } : State).updJob
          slot
          (setPart ci k fun p =>
            { load := p.load, state := PartState.done, since := p.since, banned := p.banned })).dec.jobs =
  some j) ∧
    (j.comps[ci]? = some c) ∧
    (∀ (d : CompJob), d ∈ j.comps → d.isDone = true) ∧
    (slot < s.dec.slots.length) :=
  ⟨{ rdyD with dec.jobs := [{ job2 with comps := [{ view := 0, depth := false, mask := 0xFFF, mode := 4, parts := [{ load := 512, state := .running }], refs := [] }] }] }, 0, 0, 0, 0, { job2 with comps := [{ view := 0, depth := false, mask := 0xFFF, mode := 4, parts := [{ load := 512, state := .done }], refs := [] }] }, { view := 0, depth := false, mask := 0xFFF, mode := 4, parts := [{ load := 512, state := .done }], refs := [] }, by decide +kernel⟩

theorem meets_Decoding_7 : ∃ (s : State) (core : Fin 12) (slot : Nat) (ci : Nat) (k : Nat),
    (s.dec.cores[↑core]? = some (some (CoreItem.part slot ci k))) ∧
    (s.partCanEnd slot ci k = false) :=
  ⟨{ rdyD with dec.cores := (some (.part 0 1 1)) :: List.replicate 11 none }, 0, 0, 1, 1, by decide +kernel⟩

theorem meets_Decoding_8 : ∃ (s : State) (core : Fin 12),
    (∀ (slot ci k : Nat), s.dec.cores[↑core]? ≠ some (some (CoreItem.part slot ci k))) :=
  ⟨rdyD, 11, fun slot ci k h => by
    have e : rdyD.dec.cores[11]? = some none := by decide +kernel
    exact nomatch e.symm.trans h⟩

theorem meets_RayPackets_0 : ∃ (s : State) (p : Packet),
    (s.Starts Op.raySetRung p) ∧
    (p.u8 16 ≤ 4) :=
  ⟨rdyX, pf 5 [(16,1,0)], by decide +kernel⟩

theorem meets_RayPackets_1 : ∃ (s : State) (p : Packet),
    (s.Starts Op.raySetDepthCurve p) ∧
    (∀ (k : Nat), k < 9 → p.u16 (16 + 2 * k) < 4096) ∧
    (∀ (k : Nat), k < 8 → p.u16 (16 + 2 * k) ≤ p.u16 (18 + 2 * k)) :=
  ⟨rdyX, pf 9 [(32,2,4095)], by decide +kernel⟩

theorem meets_RayPackets_2 : ∃ (s : State) (p : Packet),
    (s.Starts Op.rayCoreMask p) ∧
    (p.num 16 12 ≠ 2 ^ 96 - 1) :=
  ⟨rdyX, pf 8 [(16,8,0xFFFFFFFFFFFFFFFF),(24,4,0xFFFFFFFE)], by decide +kernel⟩

theorem meets_RayPackets_3 : ∃ (s : State) (p : Packet),
    (s.Starts Op.rayRelease p) :=
  ⟨{ rdyE with cmd.policies := rdyE.cmd.policies.set policyQuality true, ray.nextRung := some (1,2) }, pk [], by decide +kernel⟩

theorem meets_RayPackets_4 : ∃ (s : State) (p : Packet) (i : Nat),
    (s.Starts Op.rayStatus p) ∧
    (p.u16 18 = i) ∧
    (i <
  match p.u8 16 with
  | 8 => 5
  | 9 => s.ray.last.tiles.length
  | 10 => 4
  | x => 1) ∧
    (([(s.frameWord, BitVec.toNat s.ray.last.au),
    ((Option.map blobModelId s.ray.active).getD 0, (Option.map blobCrc s.ray.active).getD 0),
    (unsignedOf 32 s.ray.dt16, s.ray.last.us), (s.ray.predictedUs, unsignedOf 32 s.ray.last.budgetUs),
    (BitVec.toNat s.ray.nMissed, BitVec.toNat s.ray.nRepeats), (BitVec.toNat s.ray.nDown, BitVec.toNat s.ray.nUp),
    (BitVec.toNat s.ray.nReissued, BitVec.toNat s.ray.nDegraded), (BitVec.toNat s.ray.nStolen, s.excluded),
    (s.ray.curve.getD (2 * i) 0 + 65536 * if i = 4 then 0 else s.ray.curve.getD (2 * i + 1) 0,
      s.ray.gn + 65536 * s.ray.gf),
    ((s.ray.last.tiles.getD i (0, 0)).fst, (s.ray.last.tiles.getD i (0, 0)).snd),
    (s.ray.last.ran.getD i 0, s.ray.last.cycles.getD i 0 / 1024)][p.u8 16]?).isSome = true) :=
  ⟨rdyX, pf 5 [(16,1,8),(18,2,4)], 4, by decide +kernel⟩

theorem meets_RayModels_0 : ∃ (s : State) (p : Packet) (l : Loc),
    (s.Starts Op.rayModelLoad p) ∧
    (p.u8 16 = 0) ∧
    (p.u32 20 % 4 = 0) ∧
    (p.u64 24 % 4 = 0) ∧
    (s.modelBusy = false) ∧
    (s.resolve p.src (p.u64 24) (p.u32 20) = some l) :=
  ⟨rdy.writeAt ⟨false, 0x100000⟩ blobA, pf 8 [(20,4,904),(24,8,0x100000)], ⟨false, 0x100000⟩, by decide +kernel⟩

set_option maxRecDepth 100000 in
theorem meets_RayModels_1 : ∃ (s : State) (p : Packet) (b : List Byte),
    (s.Starts Op.rayModelLoad p) ∧
    (1 ≤ p.u8 16) ∧
    (p.u8 16 ≤ 3) ∧
    (p.u32 20 = 0) ∧
    (p.u64 24 = 0) ∧
    (s.modelBusy = false) ∧
    (s.scanning = false) ∧
    (s.modelFrom (p.u8 16) = some b) :=
  ⟨rdyB, pf 8 [(16,1,3)], blobA, by decide +kernel⟩

theorem meets_RayModels_2 : ∃ (s : State) (p : Packet),
    (s.Starts Op.rayModelStore p) ∧
    (s.ray.active.isSome = true) ∧
    (s.modelBusy = false) ∧
    (s.scanning = false) ∧
    (s.nvm.flight.isSome = true ∨ s.nvm.halted = true) :=
  ⟨{ rdy with ray.active := some blobA, nvm.flight := some { page := 1500, words := [], owner := .foreground } }, pk [], by decide +kernel⟩

theorem meets_RayModels_3 : ∃ (s : State) (p : Packet) (q : NvmOp) (h : Nat × List (Nat × List Byte)) (t : List (Nat × List (Nat × List Byte))),
    (s.Starts Op.rayModelStore p) ∧
    (s.ray.active.isSome = true) ∧
    (s.modelBusy = false) ∧
    (s.scanning = false) ∧
    (s.nvm.flight = none) ∧
    (s.nvm.halted = false) ∧
    (s.nvm.ops = []) ∧
    (s.planOp { kind := NvmKind.model, ticket := s.cmd.nextTicket } = some q) ∧
    (q.pages = h :: t) :=
  ⟨{ rdy with ray.active := some blobA }, pk [], (State.planOp { rdy with ray.active := some blobA } { kind := .model, ticket := 0 }).getD { kind := .model, ticket := 0 }, (((State.planOp { rdy with ray.active := some blobA } { kind := .model, ticket := 0 }).getD { kind := .model, ticket := 0 }).pages).headD (0, []), (((State.planOp { rdy with ray.active := some blobA } { kind := .model, ticket := 0 }).getD { kind := .model, ticket := 0 }).pages).tail, by decide +kernel⟩

set_option maxRecDepth 100000 in
theorem meets_RayModels_4 : ∃ (s : State),
    (s.ray.load = none) :=
  ⟨rdy, by decide +kernel⟩

set_option maxRecDepth 100000 in
theorem meets_RayModels_5 : ∃ (s : State) (l : ModelLoad) (t : Nat),
    (s.ray.load = some l) ∧
    (l.ticket = some t) ∧
    (l.checked = false) ∧
    (checkBlob l.blob ≠ 0) :=
  ⟨{ rdy with ray.load := some ⟨some 7, [], false⟩, cmd.flights := [{ ticket := 7, opcode := 0x300, pkt := pk [] }] }, ⟨some 7, [], false⟩, 7, by decide +kernel⟩

set_option maxRecDepth 100000 in
theorem meets_RayModels_6 : ∃ (s : State) (l : ModelLoad) (t : Nat),
    (s.ray.load = some l) ∧
    (l.ticket = some t) ∧
    (l.checked = false) ∧
    (checkBlob l.blob = 0) ∧
    (s.rasterRuns = true) :=
  ⟨{ rdyR with ray.load := some ⟨some 7, blobA, false⟩, cmd.flights := [{ ticket := 7, opcode := 0x300, pkt := pk [] }] }, ⟨some 7, blobA, false⟩, 7, by decide +kernel⟩

set_option maxRecDepth 100000 in
theorem meets_RayModels_7 : ∃ (s : State) (l : ModelLoad) (t : Nat),
    (s.ray.load = some l) ∧
    (l.ticket = some t) ∧
    (l.checked = false) ∧
    (checkBlob l.blob = 0) ∧
    (s.rasterRuns = false) ∧
    (s.blobFits l.blob = false) :=
  ⟨{ rdyR with dsp.nextGrid := none, ray.load := some ⟨some 7, blobA, false⟩, cmd.flights := [{ ticket := 7, opcode := 0x300, pkt := pk [] }] }, ⟨some 7, blobA, false⟩, 7, by decide +kernel⟩

set_option maxRecDepth 100000 in
theorem meets_RayModels_8 : ∃ (s : State) (l : ModelLoad) (t : Nat),
    (s.ray.load = some l) ∧
    (l.ticket = some t) ∧
    (l.checked = false) ∧
    (checkBlob l.blob = 0) ∧
    (s.rasterRuns = false) ∧
    (s.blobFits l.blob = true) ∧
    (s.commitRefusal = none) ∧
    (s.commitHeld t = false) :=
  ⟨{ rdy with dsp.timing := some { tmg with hactive := 256, vactive := 256 }, ray.load := some ⟨some 7, blobA, false⟩, cmd.flights := [{ ticket := 7, opcode := 0x300, pkt := pk [] }] }, ⟨some 7, blobA, false⟩, 7, by decide +kernel⟩

theorem meets_NvmReads_0 : ∃ (s : State) (p : Packet) (v : RecordView),
    (s.Starts Op.nvmRecordRead p) ∧
    (p.u16 16 ≤ 767) ∧
    (p.u16 18 % 4 = 0) ∧
    (p.u16 18 < 992) ∧
    (p.u32 20 = 0) ∧
    (p.u64 24 = 0) ∧
    (s.scanning = false) ∧
    (s.readRecord (p.u16 16) = some v) :=
  ⟨rdyN, pf 8 [(16,2,0x200),(18,2,4)], ⟨[1,2,3,4,5,6,7,8], 0, 3, false⟩, by decide +kernel⟩

theorem meets_NvmReads_1 : ∃ (s : State) (p : Packet) (v : RecordView) (l : Loc),
    (s.Starts Op.nvmRecordRead p) ∧
    (p.u16 16 ≤ 767) ∧
    (p.u16 18 % 4 = 0) ∧
    (p.u16 18 < 992) ∧
    (p.u32 20 % 4 = 0) ∧
    (4 ≤ p.u32 20) ∧
    (p.u32 20 ≤ 992) ∧
    (p.u64 24 % 4 = 0) ∧
    (s.scanning = false) ∧
    (s.readRecord (p.u16 16) = some v) ∧
    (s.resolve p.src (p.u64 24) (min (p.u32 20) (v.body.length - p.u16 18)) = some l) :=
  ⟨rdyN, pf 8 [(16,2,0x200),(18,2,4),(20,4,992),(24,8,0x100000)], ⟨[1,2,3,4,5,6,7,8], 0, 3, false⟩, ⟨false, 0x100000⟩, by decide +kernel⟩

theorem meets_NvmReads_2 : ∃ (s : State) (p : Packet),
    (s.Starts Op.nvmRawRead p) ∧
    (p.u16 16 ≤ 255) ∧
    (p.u8 18 ≤ 15) ∧
    (p.u8 19 = 0) ∧
    (p.u64 24 = 0) ∧
    (s.scanning = false) :=
  ⟨{ rdyN with nvm.soft := [wordNo 16383 7] }, pf 8 [(16,2,255),(18,1,15)], by decide +kernel⟩

theorem meets_NvmReads_3 : ∃ (s : State) (p : Packet) (l : Loc),
    (s.MemWf) ∧
    (s.Starts Op.nvmRawRead p) ∧
    (p.u16 16 ≤ 255) ∧
    (p.u8 18 = 0) ∧
    (p.u8 19 = 1) ∧
    (p.u64 24 % 8 = 0) ∧
    (s.scanning = false) ∧
    (s.resolve p.src (p.u64 24) 64 = some l) :=
  ⟨{ rdyN with nvm.soft := [wordNo 16383 7] }, pf 8 [(16,2,255),(19,1,1),(24,8,0x100000)], ⟨false, 0x100000⟩, by decide +kernel⟩

theorem meets_NvmReads_4 : ∃ (s : State) (p : Packet) (w : Nat × Nat),
    (s.Starts Op.nvmStatus p) ∧
    (p.u8 17 = 0) ∧
    ([(s.nvmWord, if s.nvm.loaded = true then 1 + if s.nvm.head.isSome = true then 3 else 0 else 0),
      (s.recordCount (framesFor 256), s.recordCount (framesFor 512)),
      (BitVec.toNat s.nvm.nMargin, BitVec.toNat s.nvm.nRefreshed),
      (BitVec.toNat s.nvm.nCorrected, BitVec.toNat s.nvm.nBad), (BitVec.toNat s.nvm.nPasses, s.nvm.nextPage),
      (BitVec.toNat s.nvm.nPrograms, BitVec.toNat s.nvm.nStores),
      (BitVec.toNat s.nvm.saveUs, BitVec.toNat s.nvm.scanUs)][p.u8 16]? =
  some w) :=
  ⟨rdyN, pf 5 [(16,1,1)], (0, 1), by decide +kernel⟩

theorem meets_NvmWrites_0 : ∃ (s : State) (p : Packet) (l : Loc),
    (s.scanning = false) ∧
    (s.Starts Op.nvmRecordStore p) ∧
    (256 ≤ p.u16 16) ∧
    (p.u16 16 ≤ 767) ∧
    (p.u16 16 < 512 → ∃ n, deviceLength (p.u16 16) = some n ∧ (p.u16 18 = 0 ∨ p.u16 18 = n)) ∧
    (p.u16 16 ≠ 288) ∧
    (p.u16 16 ≠ 289) ∧
    (p.u16 18 ≤ 992) ∧
    (p.u64 24 = 0 → p.u16 18 ≤ 224) ∧
    (p.u64 24 % 4 = 0) ∧
    (BitVec.toNat p.length = if p.u64 24 = 0 then 8 + ceilDiv (p.u16 18) 4 else 8) ∧
    (p.u16 18 = 0 → s.recordExists (p.u16 16) = true) ∧
    (s.recordExists (p.u16 16) = true ∨ (s.freeFrame (p.u16 16)).isSome = true) ∧
    (s.resolve p.src (p.u64 24) (p.u16 18) = some l) ∧
    (s.nvm.flight.isSome = true ∨ s.nvm.halted = true) :=
  ⟨{ rdyN with nvm.flight := some { page := 1500, words := [], owner := .foreground } }, pf 9 [(16,2,0x200),(18,2,4)], ⟨false, 0⟩, by decide +kernel⟩

theorem meets_NvmWrites_1 : ∃ (s : State) (p : Packet) (l : Loc) (q : NvmOp) (h : Nat × List (Nat × List Byte)) (t : List (Nat × List (Nat × List Byte))),
    (s.scanning = false) ∧
    (s.Starts Op.nvmRecordStore p) ∧
    (256 ≤ p.u16 16) ∧
    (p.u16 16 ≤ 767) ∧
    (p.u16 16 < 512 → ∃ n, deviceLength (p.u16 16) = some n ∧ (p.u16 18 = 0 ∨ p.u16 18 = n)) ∧
    (p.u16 16 ≠ 288) ∧
    (p.u16 16 ≠ 289) ∧
    (p.u16 18 ≤ 992) ∧
    (p.u64 24 = 0 → p.u16 18 ≤ 224) ∧
    (p.u64 24 % 4 = 0) ∧
    (BitVec.toNat p.length = if p.u64 24 = 0 then 8 + ceilDiv (p.u16 18) 4 else 8) ∧
    (p.u16 18 = 0 → s.recordExists (p.u16 16) = true) ∧
    (s.recordExists (p.u16 16) = true ∨ (s.freeFrame (p.u16 16)).isSome = true) ∧
    (s.resolve p.src (p.u64 24) (p.u16 18) = some l) ∧
    (s.nvm.flight = none) ∧
    (s.nvm.halted = false) ∧
    (s.nvm.ops = []) ∧
    (s.planOp
    {
      kind :=
        NvmKind.record (p.u16 16) (p.u16 18 == 0)
          (if p.u64 24 = 0 then p.bytesAt 32 (p.u16 18)
          else (((s.sent p).resolveRecord (p.u16 16)).considerFrames (p.u16 16)).readAt l (p.u16 18)),
      ticket := s.cmd.nextTicket } =
  some q) ∧
    (q.pages = h :: t) :=
  ⟨rdyN, pf 9 [(16,2,0x200),(18,2,4),(32,4,7)], ⟨false, 0⟩, (State.planOp rdyN { kind := .record 0x200 false [7,0,0,0], ticket := 0 }).getD { kind := .model, ticket := 0 }, (((State.planOp rdyN { kind := .record 0x200 false [7,0,0,0], ticket := 0 }).getD { kind := .model, ticket := 0 }).pages).headD (0, []), (((State.planOp rdyN { kind := .record 0x200 false [7,0,0,0], ticket := 0 }).getD { kind := .model, ticket := 0 }).pages).tail, by decide +kernel⟩

theorem meets_NvmWrites_2 : ∃ (s : State) (p : Packet),
    (s.scanning = false) ∧
    (s.Starts Op.nvmRawWrite p) ∧
    (s.nvm.flight.isSome = true ∨ s.nvm.halted = true) ∧
    (p.u16 16 ≤ 255) ∧
    (p.u8 18 ≤ 7) ∧
    (1 ≤ p.u8 19) ∧
    (p.u8 19 ≤ 8) ∧
    (BitVec.toNat p.length = 6 + 2 * p.u8 19) :=
  ⟨{ rdyN with nvm.flight := some { page := 1500, words := [], owner := .foreground } }, pf 22 [(16,2,255),(18,1,7),(19,1,8)], by decide +kernel⟩

theorem meets_NvmWrites_3 : ∃ (s : State) (p : Packet),
    (s.scanning = false) ∧
    (s.Starts Op.nvmRawWrite p) ∧
    (s.nvm.flight = none) ∧
    (s.nvm.halted = false) ∧
    (s.nvm.ops = []) ∧
    (p.u16 16 ≤ 255) ∧
    (p.u8 18 ≤ 7) ∧
    (1 ≤ p.u8 19) ∧
    (p.u8 19 ≤ 8) ∧
    (BitVec.toNat p.length = 6 + 2 * p.u8 19) :=
  ⟨rdyN, pf 8 [(16,2,255),(18,1,7),(19,1,1)], by decide +kernel⟩

theorem meets_NvmWrites_4 : ∃ (s : State) (p : Packet),
    (s.scanning = false) ∧
    (s.Starts Op.nvmRefreshPolicy p) ∧
    (1 ≤ p.u16 16) ∧
    (p.u16 16 ≤ 720) ∧
    (1 ≤ p.u8 18) ∧
    (p.u8 18 ≤ 3) ∧
    (p.u8 19 ≤ 3) :=
  ⟨rdyX, pf 5 [(16,2,720),(18,1,3),(19,1,3)], by decide +kernel⟩

theorem meets_NvmWrites_5 : ∃ (s : State) (p : Packet),
    (s.scanning = false) ∧
    (s.Starts Op.nvmRelease p) :=
  ⟨{ rdyX with cmd.policies := rdyX.cmd.policies.set policyRefresh true, nvm.margin := 3 }, pk [], by decide +kernel⟩

theorem meets_NvmPrograms_0 : ∃ (s : State) (ok : Bool),
    (s.kickNvm false = s) ∧
    (s.nvm.flight = none) :=
  ⟨rdyN, true, by decide +kernel⟩

theorem meets_NvmPrograms_1 : ∃ (s : State) (g : PageProg) (o : NvmOp) (os : List NvmOp) (n : Nat) (ws : List (Nat × List Byte)),
    (s.nvm.flight = some g) ∧
    (g.owner = ProgFor.foreground) ∧
    (s.nvm.ops = o :: os) ∧
    (o.kind = NvmKind.raw n ws) ∧
    (o.broken = false) ∧
    (o.pages.length = o.done + 1) :=
  ⟨{ rdy with nvm.flight := some { page := 16383, words := [(7, [1,2,3,4,5,6,7,8])], owner := .foreground }, nvm.ops := [{ kind := .raw 255 [(7, [1,2,3,4,5,6,7,8])], ticket := 7, begun := true, pages := [(16383, [(7, [1,2,3,4,5,6,7,8])])] }], cmd.flights := [{ ticket := 7, opcode := 0xB03, pkt := pk [], committed := true }] }, { page := 16383, words := [(7, [1,2,3,4,5,6,7,8])], owner := .foreground }, { kind := .raw 255 [(7, [1,2,3,4,5,6,7,8])], ticket := 7, begun := true, pages := [(16383, [(7, [1,2,3,4,5,6,7,8])])] }, [], 255, [(7, [1,2,3,4,5,6,7,8])], by decide +kernel⟩

theorem meets_NvmPrograms_2 : ∃ (s : State) (g : PageProg),
    (s.nvm.flight = some g) ∧
    (g.owner = ProgFor.log) :=
  ⟨{ rdy with nvm.flight := some { page := 15400, words := [(7, [1,2,3,4,5,6,7,8])], owner := .log }, sup.logQueue := [logE] }, { page := 15400, words := [(7, [1,2,3,4,5,6,7,8])], owner := .log }, by decide +kernel⟩

theorem meets_NvmPrograms_3 : ∃ (s : State) (g : PageProg) (o : NvmOp) (os : List NvmOp) (n : Nat) (ws : List (Nat × List Byte)),
    (s.nvm.flight = some g) ∧
    (g.owner = ProgFor.foreground) ∧
    (s.nvm.ops = o :: os) ∧
    (o.kind = NvmKind.raw n ws) ∧
    (2 ≤ g.fails) :=
  ⟨{ rdy with nvm.flight := some { page := 16383, words := [(7, [1,2,3,4,5,6,7,8])], owner := .foreground, fails := 2 }, nvm.ops := [{ kind := .raw 255 [(7, [1,2,3,4,5,6,7,8])], ticket := 7, begun := true, pages := [(16383, [(7, [1,2,3,4,5,6,7,8])])] }], cmd.flights := [{ ticket := 7, opcode := 0xB03, pkt := pk [], committed := true }] }, { page := 16383, words := [(7, [1,2,3,4,5,6,7,8])], owner := .foreground, fails := 2 }, { kind := .raw 255 [(7, [1,2,3,4,5,6,7,8])], ticket := 7, begun := true, pages := [(16383, [(7, [1,2,3,4,5,6,7,8])])] }, [], 255, [(7, [1,2,3,4,5,6,7,8])], by decide +kernel⟩

theorem meets_NvmPrograms_4 : ∃ (s : State) (g : PageProg),
    (s.nvm.flight = some g) ∧
    (g.fails < 2) :=
  ⟨{ rdy with nvm.flight := some { page := 15400, words := [], owner := .log, fails := 1 } }, { page := 15400, words := [], owner := .log, fails := 1 }, by decide +kernel⟩

theorem meets_NvmPrograms_5 : ∃ (s : State) (page : Nat) (w : Nat) (b : List Byte),
    (s.nvm.mem.wf = true) ∧
    (1022 ≤ page) ∧
    (w < 8) ∧
    (b.length = 8) :=
  ⟨rdyN, 16383, 7, [1,2,3,4,5,6,7,8], by decide +kernel⟩

theorem meets_NvmPrograms_6 : ∃ (s : State) (page : Nat) (w : Nat) (b : List Byte),
    (s.nvm.mem.wf = true) ∧
    (1022 ≤ page) ∧
    (w < 8) ∧
    (b.length = 8) :=
  ⟨rdyN, 16383, 7, [1,2,3,4,5,6,7,8], by decide +kernel⟩

theorem meets_NvmPrograms_7 : ∃ (s : State) (page : Nat) (w : Nat) (b : List Byte),
    (s.nvm.mem.wf = true) ∧
    (1022 ≤ page) ∧
    (w < 8) ∧
    (b.length = 8) :=
  ⟨rdyN, 16383, 7, [1,2,3,4,5,6,7,8], by decide +kernel⟩

theorem meets_NvmPrograms_8 : ∃ (s : State) (page : Nat) (w : Nat) (b : List Byte) (a : Nat),
    (s.nvm.mem.wf = true) ∧
    (1022 ≤ page) ∧
    (w < 8) ∧
    (b.length = 8) ∧
    (a < 8 * wordNo page w ∨ 8 * wordNo page w + 8 ≤ a) :=
  ⟨rdyN, 1022, 0, [1,2,3,4,5,6,7,8], 65407, by decide +kernel⟩

theorem meets_NvmPrograms_9 : ∃ (s : State) (page : Nat) (w : Nat) (b : List Byte),
    (s.nvm.mem.wf = true) ∧
    (1022 ≤ page) ∧
    (w < 8) ∧
    (b.length = 8) :=
  ⟨rdyN, 16383, 7, [1,2,3,4,5,6,7,8], by decide +kernel⟩

theorem meets_NvmPrograms_10 : ∃ (s : State) (weak : Bool) (soft : Byte) (bad : Byte),
    (s.nvm.halted = true ∨ s.mtNs < s.nvm.marginNs + s.marginStep ∨ s.pwr.ready = false) :=
  ⟨{ rdyN with nvm.halted := true }, true, 1, 0, by decide +kernel⟩

theorem meets_NvmPrograms_11 : ∃ (s : State) (weak : Bool) (soft : Byte) (bad : Byte),
    (s.nvm.halted = false) ∧
    (s.nvm.marginNs + s.marginStep ≤ s.mtNs) ∧
    (s.pwr.ready = true) :=
  ⟨{ rdyN with nvm.passHours := 1, nvm.nextPage := 16383 }, true, 1, 2, by decide +kernel⟩

theorem meets_NvmPrograms_12 : ∃ (s : State) (weak : Bool) (soft : Byte) (bad : Byte),
    (s.nvm.halted = false) ∧
    (s.nvm.marginNs + s.marginStep ≤ s.mtNs) ∧
    (s.pwr.ready = true) ∧
    (weak = false) ∧
    (s.nvm.refreshAll = false) ∧
    (pageMask
    (s.nvm.bad ++
      List.filter (fun n => !s.nvm.bad.contains n)
        (List.map (fun i => wordNo s.nvm.nextPage i) (List.filter (fun i => BitVec.getLsbD bad i) (List.range 8))))
    s.nvm.nextPage =
  0) ∧
    (pageMask
    (s.nvm.soft ++
      List.filter (fun n => !s.nvm.soft.contains n)
        (List.map (fun i => wordNo s.nvm.nextPage i) (List.filter (fun i => BitVec.getLsbD soft i) (List.range 8))))
    s.nvm.nextPage =
  0) :=
  ⟨{ rdyN with nvm.passHours := 1, nvm.nextPage := 16382 }, false, 0, 0, by decide +kernel⟩

theorem meets_NvmPrograms_13 : ∃ (s : State) (weak : Bool) (soft : Byte) (bad : Byte),
    (s.nvm.halted = false) ∧
    (s.nvm.marginNs + s.marginStep ≤ s.mtNs) ∧
    (s.pwr.ready = true) ∧
    (weak = true) ∧
    (s.nvm.flight.isSome = true) ∧
    (∀ (r : Refresh), r ∈ s.nvm.refreshes → r.page ≠ s.nvm.nextPage) ∧
    (pageMask
    (s.nvm.bad ++
      List.filter (fun n => !s.nvm.bad.contains n)
        (List.map (fun i => wordNo s.nvm.nextPage i) (List.filter (fun i => BitVec.getLsbD bad i) (List.range 8))))
    s.nvm.nextPage =
  0) :=
  ⟨{ rdyN with nvm.passHours := 1, nvm.nextPage := 16383, nvm.flight := some { page := 1500, words := [], owner := .foreground } }, true, 4, 0, by decide +kernel⟩

theorem meets_Resets_0 : ∃ (s : State),
    (s.pwr.vddAon = false) :=
  ⟨{ State.reset with pwr.vddAon := false }, by decide +kernel⟩

theorem meets_Resets_1 : ∃ (s : State),
    (s.pwr.vddAon = true) :=
  ⟨rdyN, by decide +kernel⟩

theorem meets_Resets_2 : ∃ (s : State),
    (s.pwr.vddAon = true) ∧
    (s.pwr.resetLow = false) :=
  ⟨rdyN, by decide +kernel⟩

theorem meets_Resets_3 : ∃ (s : State),
    (s.pwr.vddAon = true) ∧
    (s.pwr.vsenseReset = false) :=
  ⟨rdyN, by decide +kernel⟩

theorem meets_Resets_4 : ∃ (s : State) (n : Fin 40),
    (↑n < 36) ∧
    (s.pwr.vddAon = true) ∧
    (s.pwr.resetLow = false) ∧
    (s.pwr.vsenseReset = false) ∧
    (s.regs.tripHeld = false) ∧
    ((s.sensor ↑n).masked = false) ∧
    (1920 ≤ (s.sensor ↑n).comparator) ∧
    ((s.sensor ↑n).comparator ≤ 2400) :=
  ⟨{ rdyN with thm.sensors := rdyN.thm.sensors.set 35 { rdyN.sensor 35 with comparator := 2400, masked := false } }, 35, by decide +kernel⟩

theorem meets_Resets_5 : ∃ (s : State) (straps : Straps),
    (s.pwr.vddAon = true) ∧
    (s.pwr.resetLow = true) ∧
    (s.pwr.vsenseReset = false) ∧
    (s.regs.tripHeld = true) ∧
    (s.tripHot = true) :=
  ⟨{ rdyN with pwr.resetLow := true, regs.tripHeld := true, regs.trip := true, thm.sensors := rdyN.thm.sensors.set 35 { rdyN.sensor 35 with comparator := 1760, masked := false } }, {}, by decide +kernel⟩

theorem meets_Resets_6 : ∃ (s : State) (straps : Straps),
    (s.pwr.vddAon = true) ∧
    (s.pwr.resetLow = true) ∧
    (s.pwr.vsenseReset = false) ∧
    (s.regs.tripHeld = false) ∧
    (s.pwr.warn = false) ∧
    (1000 ≤ s.pwr.vsenseMv) :=
  ⟨{ rdyN with pwr.resetLow := true, pwr.vsenseMv := 1000 }, { boot := 1 }, by decide +kernel⟩

theorem meets_Resets_7 : ∃ (s : State) (straps : Straps),
    (s.pwr.vddAon = true) ∧
    (s.pwr.resetLow = true) ∧
    (s.pwr.vsenseReset = false) ∧
    (s.regs.tripHeld = false ∨ s.tripHot = false) :=
  ⟨{ rdyN with pwr.resetLow := true }, { boot := 2 }, by decide +kernel⟩

theorem meets_Resets_8 : ∃ (s : State) (straps : Straps),
    (s.pwr.vddAon = true) ∧
    (s.pwr.vsenseReset = true) ∧
    (s.pwr.resetLow = false) ∧
    (s.regs.tripHeld = false ∨ s.tripHot = false) :=
  ⟨{ rdyN with pwr.vsenseReset := true, pwr.vsenseMv := 1000 }, { nvmScan := true }, by decide +kernel⟩

theorem meets_Resets_9 : ∃ (s : State) (straps : Straps),
    (s.pwr.vddAon = true) ∧
    (s.pwr.vsenseReset = true) ∧
    (s.pwr.resetLow = true) :=
  ⟨{ rdyN with pwr.resetLow := true, pwr.vsenseReset := true }, {}, by decide +kernel⟩

theorem meets_Resets_10 : ∃ (s : State) (straps : Straps),
    (s.pwr.vddAon = true) ∧
    (s.pwr.vsenseReset = true) ∧
    (s.pwr.resetLow = false) ∧
    (s.regs.tripHeld = true) ∧
    (s.tripHot = true) :=
  ⟨{ rdyN with pwr.vsenseReset := true, regs.tripHeld := true, regs.trip := true, thm.sensors := rdyN.thm.sensors.set 35 { rdyN.sensor 35 with comparator := 1760, masked := false } }, {}, by decide +kernel⟩

theorem meets_Dawn_0 : ∃ (s : State) (m : MemTraining) (prof : Option MemProfile),
    (s.pwr.phase = DawnPhase.rom) ∧
    (memFits m = true) ∧
    (m.failed = 0) ∧
    (Option.filter (fun q => q.dense == memDense m && q.clamshell == m.clamshell) ((s.deviceRecord 274).bind memProfileOf) =
  prof) ∧
    (rateReached (prof.elim 12 fun x => x.rate) m.rate = true) :=
  ⟨{ rdyN with pwr.phase := .rom }, { gib16 := true, clamshell := true, rate := 12, failed := 0 }, none, by decide +kernel⟩

theorem meets_Dawn_1 : ∃ (s : State) (m : MemTraining),
    (s.pwr.phase = DawnPhase.rom) ∧
    (s.deviceRecord 274 = none) ∧
    (memFits m = true) ∧
    (m.failed = 0) ∧
    (m.rate = 12) ∧
    (s.pwr.straps.boot ≠ 1) :=
  ⟨{ rdyN with pwr.phase := .rom }, { gib16 := true, clamshell := true, rate := 12, failed := 0 }, by decide +kernel⟩

theorem meets_Dawn_2 : ∃ (s : State) (m : MemTraining),
    (s.pwr.phase = DawnPhase.rom) ∧
    (m.failed ≠ 0 ∨ memFits m = false) :=
  ⟨{ rdyN with pwr.phase := .rom }, { gib16 := false, clamshell := false, rate := 0, failed := 0x81 }, by decide +kernel⟩

theorem meets_Dawn_3 : ∃ (s : State) (k : Nat),
    (s.fw.checking = some k) ∧
    (s.pwr.phase = DawnPhase.imageLoad) :=
  ⟨{ rdyN with pwr.phase := .imageLoad, fw.checking := some 1, fw.invalid := [0], pwr.ready := false }, 1, by decide +kernel⟩

theorem meets_Dawn_4 : ∃ (s : State),
    (s.mayBeReady = true) :=
  ⟨{ rdyN with pwr.phase := .init, pwr.ready := false }, by decide +kernel⟩

theorem meets_Dawn_5 : ∃ (s : State),
    (s.nvm.scan = 1) ∧
    (s.nvm.halted = false) ∧
    (s.pwr.loss = none) :=
  ⟨{ rdyN with nvm.scan := 1 }, by decide +kernel⟩

theorem meets_FunctionResets_0 : ∃ (s : State),
    (s.pwr.perst = false) :=
  ⟨rdyE, by decide +kernel⟩

theorem meets_FunctionResets_1 : ∃ (s : State),
    (s.pwr.perst = true) :=
  ⟨{ rdyE with pwr.perst := true, pwr.linkUp := false }, by decide +kernel⟩

theorem meets_FunctionResets_2 : ∃ (s : State) (n : Fin 8),
    (s.pwr.linkUp = true) ∧
    (↑n < s.cmd.vfsEnabled) :=
  ⟨rdyV, 1, by decide +kernel⟩

theorem meets_FunctionResets_3 : ∃ (s : State) (k : Fin 9),
    (s.pwr.linkUp = true) :=
  ⟨rdyV, 8, by decide +kernel⟩

theorem meets_PowerLossSequence_0 : ∃ (s : State) (v : Nat),
    (s.pwr.vddAon = true) ∧
    (s.pwr.warn = false) ∧
    (v < levelMv s.pwr.level) ∧
    (s.linkAlive = false) :=
  ⟨{ rdyN with pwr.resetLow := true }, 999, by decide +kernel⟩

theorem meets_PowerLossSequence_1 : ∃ (s : State) (v : Nat),
    (s.pwr.vddAon = true) ∧
    (s.pwr.warn = false) ∧
    (v < levelMv s.pwr.level) ∧
    (s.linkAlive = true) :=
  ⟨rdyN, 999, by decide +kernel⟩

theorem meets_PowerLossSequence_2 : ∃ (s : State) (v : Nat),
    (levelMv s.pwr.level ≤ v) :=
  ⟨rdyN, 1000, by decide +kernel⟩

theorem meets_PowerLossSequence_3 : ∃ (s : State),
    (s.pwr.warn = true) ∧
    (s.pwr.pendingLevel = none) :=
  ⟨{ rdyN with pwr.warn := true }, by decide +kernel⟩

theorem meets_PowerLossSequence_4 : ∃ (s : State) (l : Nat),
    (s.pwr.warn = true) ∧
    (s.pwr.pendingLevel = some l) ∧
    (l ≤ s.pwr.level) :=
  ⟨{ rdyN with pwr.warn := true, pwr.pendingLevel := some 9 }, 9, by decide +kernel⟩

theorem meets_PowerLossSequence_5 : ∃ (s : State),
    (s.pwr.warn = false) :=
  ⟨rdyN, by decide +kernel⟩

theorem meets_PowerLossSequence_6 : ∃ (s : State) (l : Nat),
    (s.pwr.warn = true) ∧
    (s.pwr.pendingLevel = some l) ∧
    (s.pwr.level + 2 < l) :=
  ⟨{ rdyN with pwr.warn := true, pwr.pendingLevel := some 13 }, 13, by decide +kernel⟩

theorem meets_PowerLossSequence_7 : ∃ (s : State) (l : LossSeq),
    (s.pwr.loss = some l) ∧
    (l.byFault = false) ∧
    (l.sealed = false) ∧
    (s.storesEnded = true) :=
  ⟨{ rdyN with pwr.loss := some { since := 9000000000 } }, { since := 9000000000 }, by decide +kernel⟩

theorem meets_PowerLossSequence_8 : ∃ (s : State) (l : LossSeq),
    (s.pwr.loss = some l) ∧
    (l.byFault = false) ∧
    (l.sealed = true ∨ s.storesEnded = false) :=
  ⟨{ rdyN with pwr.loss := some { since := 9000000000 }, nvm.flight := some { page := 1500, words := [], owner := .foreground } }, { since := 9000000000 }, by decide +kernel⟩

theorem meets_PowerLossSequence_9 : ∃ (s : State) (l : LossSeq),
    (s.pwr.loss = some l) ∧
    (l.byFault = false) ∧
    (l.panelSettled = true ∨ s.mtNs < l.since + 300000) :=
  ⟨{ rdyN with pwr.loss := some { since := 9999700001 } }, { since := 9999700001 }, by decide +kernel⟩

theorem meets_PowerLossSequence_10 : ∃ (s : State) (l : LossSeq),
    (s.pwr.loss = some l) ∧
    (l.byFault = false) ∧
    (l.panelSettled = false) ∧
    (l.since + 300000 ≤ s.mtNs) ∧
    (s.pwr.clearSince = none) ∧
    (s.pnl.mode = PanelMode.off) ∧
    (s.pnl.discharge = none) :=
  ⟨{ rdyN with pwr.loss := some { since := 9000000000 } }, { since := 9000000000 }, by decide +kernel⟩

theorem meets_PowerLossSequence_11 : ∃ (s : State) (l : LossSeq) (c : Nat),
    (s.pwr.loss = some l) ∧
    (l.byFault = false) ∧
    (l.panelSettled = false) ∧
    (l.since + 300000 ≤ s.mtNs) ∧
    (s.pwr.clearSince = some c) ∧
    (c + 100000 ≤ s.mtNs) ∧
    (s.thm.shutdown = none) :=
  ⟨{ rdyN with pwr.loss := some { since := 9000000000 }, pwr.clearSince := some 9999900000 }, { since := 9000000000 }, 9999900000, by decide +kernel⟩

theorem meets_PowerLossSequence_12 : ∃ (s : State) (l : LossSeq),
    (s.pwr.loss = some l) ∧
    (l.byFault = false) ∧
    (l.panelSettled = false) ∧
    (l.since + 300000 ≤ s.mtNs) ∧
    (s.pwr.clearSince = none) ∧
    (s.pnl.mode = PanelMode.driving) ∧
    (s.pnl.discharge = none) ∧
    (s.pnl.lockout = false) ∧
    (s.pnl.gamma = none) ∧
    (s.pnl.train = none) ∧
    (s.pnl.rampTicket = none) :=
  ⟨{ rdyN with pwr.loss := some { since := 9000000000 }, pnl.mode := .driving }, { since := 9000000000 }, by decide +kernel⟩

theorem meets_PowerLossSequence_13 : ∃ (s : State) (l : LossSeq),
    (s.pwr.loss = some l) ∧
    (l.byFault = false) ∧
    (l.inDawn = false) ∧
    (s.sup.fault = false) ∧
    (l.sealed = true) ∧
    (l.panelSettled = true) ∧
    (s.supplyBack = true) ∧
    (s.pnl.discharge = none) ∧
    (s.thm.shutAfterLoss = false) :=
  ⟨{ rdyN with pwr.loss := some { since := 9000000000, sealed := true, panelSettled := true }, pwr.clearSince := some 9999900000 }, { since := 9000000000, sealed := true, panelSettled := true }, by decide +kernel⟩

theorem meets_DuskAndWakes_0 : ∃ (s : State) (p : Packet),
    (s.Starts Op.devDusk p) ∧
    (1 ≤ p.u8 16) ∧
    (p.u8 16 ≤ 7) ∧
    (4 ≤ p.u8 16 → (s.time.evtIn.getD 0 { }).edge ≠ 0) ∧
    (s.duskBusy = false) ∧
    (s.pwr.dusk = DuskState.awake) :=
  ⟨rdyX, pf 5 [(16,1,3)], by decide +kernel⟩

theorem meets_DuskAndWakes_1 : ∃ (s : State) (t : Nat),
    (s.pwr.dusk = DuskState.draining t) ∧
    (s.drained = true) ∧
    (s.thm.shutdown = none) ∧
    (s.commitHeld t = false) ∧
    (s.pnl.mode = PanelMode.driving) ∧
    (s.pnl.lockout = false) ∧
    (s.pnl.discharge = none) :=
  ⟨{ rdy with pwr.dusk := .draining 7, pnl.mode := .driving, cmd.flights := [{ ticket := 7, opcode := 0x003, pkt := pk [] }] }, 7, by decide +kernel⟩

theorem meets_DuskAndWakes_2 : ∃ (s : State) (t : Nat),
    (s.pwr.dusk = DuskState.draining t) ∧
    (s.drained = false) :=
  ⟨{ rdyD with pwr.dusk := .draining 7 }, 7, by decide +kernel⟩

theorem meets_DuskAndWakes_3 : ∃ (s : State) (t : Nat),
    (s.pwr.dusk = DuskState.draining t) ∧
    (s.drained = true) ∧
    (s.thm.shutdown = none) ∧
    (s.commitHeld t = false) ∧
    (s.pnl.mode = PanelMode.off) ∧
    (s.pnl.discharge = none) ∧
    (s.pwr.loss = none) ∧
    (s.pwr.wakePending = 0) ∧
    (s.pwr.avsFault = [false, false]) ∧
    (s.pwr.railMv.length = 2) :=
  ⟨{ rdy with pwr.dusk := .draining 7, pwr.wakeAsked := 5, cmd.flights := [{ ticket := 7, opcode := 0x003, pkt := pk [] }] }, 7, by decide +kernel⟩

theorem meets_DuskAndWakes_4 : ∃ (s : State) (t0 : Nat),
    (s.thm.shutdown = some t0) ∧
    (t0 + 5000000 ≤ s.mtNs) ∧
    (s.pwr.loss = none) ∧
    (s.nvm.flight = none) ∧
    (s.pwr.dusk = DuskState.awake) ∧
    (s.pnl.mode = PanelMode.off) ∧
    (s.pnl.discharge = none) ∧
    (s.pwr.wakePending = 0) :=
  ⟨{ rdy with thm.shutdown := some 9990000000 }, 9990000000, by decide +kernel⟩

theorem meets_DuskAndWakes_5 : ∃ (s : State),
    (s.pwr.vddAon = true) ∧
    (s.pwr.dusk = DuskState.asleep) ∧
    (s.pwr.wakePending = 0) ∧
    (s.pwr.wakeMask.getLsbD 0 = true) ∧
    (s.pwr.warn = false) ∧
    (s.wakeHeld = false) :=
  ⟨{ rdy with pwr.dusk := .asleep, pwr.wakeMask := 1, pwr.pmeEn := true }, by decide +kernel⟩

theorem meets_DuskAndWakes_6 : ∃ (s : State),
    (s.pwr.vddAon = true) ∧
    (s.pwr.dusk = DuskState.asleep) ∧
    (s.pwr.wakePending = 0) ∧
    (s.pwr.wakeMask.getLsbD 0 = true) ∧
    (s.pwr.warn = true) :=
  ⟨{ rdy with pwr.dusk := .asleep, pwr.wakeMask := 1, pwr.warn := true }, by decide +kernel⟩

theorem meets_DuskAndWakes_7 : ∃ (s : State),
    (s.pwr.vddAon = true) ∧
    (s.pwr.dusk = DuskState.awake) ∧
    (s.thm.shutdown = none) :=
  ⟨rdy, by decide +kernel⟩

theorem meets_DuskAndWakes_8 : ∃ (s : State),
    (s.pwr.linkUp = true) ∧
    (s.pwr.dusk = DuskState.asleep) ∧
    (s.pwr.wakePending = 0) ∧
    (s.pwr.wakeMask.getLsbD 1 = true) ∧
    (s.pwr.warn = false) ∧
    (s.wakeHeld = false) :=
  ⟨{ rdy with pwr.dusk := .asleep, pwr.wakeMask := 2, pwr.pmeEn := true }, by decide +kernel⟩

theorem meets_DuskAndWakes_9 : ∃ (s : State),
    (s.pwr.dusk = DuskState.waking) ∧
    (s.pwr.warn = false) ∧
    (s.pwr.readyData.isSome = true) :=
  ⟨{ rdy with pwr.dusk := .waking, pwr.phase := .dusk, pwr.ready := false, pwr.wakeSeen := 2, pwr.readyData := some (0, 0), memc.chans := List.replicate 8 { state := .selfRefresh } }, by decide +kernel⟩

theorem meets_Pins_0 : ∃ (s : State) (n : Fin 4) (rising : Bool),
    (s.pwr.vddAon = true) ∧
    ((s.time.evtIn.getD ↑n { }).selects rising = true) ∧
    ((s.time.evtIn.getD ↑n { }).lastNs = none) ∧
    (s.inDusk = false) ∧
    (s.pwr.dusk = DuskState.awake) ∧
    (s.thm.shutdown = none) :=
  ⟨{ rdy with time.evtIn := rdy.time.evtIn.set 3 { base := 1, edge := 2 } }, 3, false, by decide +kernel⟩

theorem meets_Pins_1 : ∃ (s : State) (n : Fin 4) (rising : Bool) (t : Nat),
    (s.pwr.vddAon = true) ∧
    (1 ≤ ↑n) ∧
    ((s.time.evtIn.getD ↑n { }).selects rising = true) ∧
    ((s.time.evtIn.getD ↑n { }).lastNs = some t) ∧
    (s.mtNs < t + 100) :=
  ⟨{ rdy with time.evtIn := rdy.time.evtIn.set 3 { base := 1, edge := 3, lastNs := some 9999999901 } }, 3, true, 9999999901, by decide +kernel⟩

theorem meets_Pins_2 : ∃ (s : State) (n : Fin 4) (rising : Bool),
    (s.pwr.vddAon = true) ∧
    ((s.time.evtIn.getD ↑n { }).selects rising = false) :=
  ⟨{ rdy with time.evtIn := rdy.time.evtIn.set 3 { base := 1, edge := 2 } }, 3, true, by decide +kernel⟩

theorem meets_Pins_3 : ∃ (s : State) (n : Fin 4) (rising : Bool) (i : Fin 128) (c : Nat),
    (s.pwr.vddAon = true) ∧
    (s.islandRuns ↑i = false) :=
  ⟨{ rdy with pwr.phase := .held }, 0, true, 5, 4, by decide +kernel⟩

theorem meets_Pins_4 : ∃ (s : State) (n : Fin 4) (rising : Bool) (i : Fin 128) (c : Nat),
    (s.pwr.vddAon = true) ∧
    (s.islandRuns ↑i = true) :=
  ⟨rdy, 0, true, 127, 4, by decide +kernel⟩

theorem meets_ThmPackets_0 : ∃ (s : State) (p : Packet),
    (s.Starts Op.thmThresholds p) ∧
    (60 ≤ p.u8 16) ∧
    (p.u8 16 ≤ 109) ∧
    (1 ≤ p.u8 17) ∧
    (p.u8 17 ≤ 10) ∧
    (p.u8 16 + 1 ≤ p.u8 18) ∧
    (p.u8 18 ≤ 110) ∧
    (1 ≤ p.u8 19) ∧
    (p.u8 19 ≤ 10) :=
  ⟨rdyX, pf 6 [(16,1,109),(17,1,10),(18,1,110),(19,1,1)], by decide +kernel⟩

theorem meets_ThmPackets_1 : ∃ (s : State) (p : Packet) (w : Nat × Nat),
    (s.Starts Op.thmRead p) ∧
    (p.u8 16 = 0 → p.u8 17 ≤ 39) ∧
    (p.u8 16 = 1 → p.u8 17 ≤ 5) ∧
    (p.u8 16 = 4 → p.u8 17 ≤ 3) ∧
    (p.u8 16 = 2 ∨ p.u8 16 = 5 ∨ p.u8 16 = 6 → p.u8 17 = 0) ∧
    (p.u8 16 ≠ 3) ∧
    ([(unsignedOf 32 (s.sensor (p.u8 17)).reading, s.sensorWord (p.u8 17)),
      (s.domainWord (p.u8 17), unsignedOf 32 (if p.u8 17 = 5 then s.thm.t16 else s.thm.domTemp.getD (p.u8 17) 0)),
      (s.limitWord, s.thm.pEst), (0, 0),
      (s.calWord (p.u8 17), (s.calItem (p.u8 17)).lastNs.elim 4294967295 fun t => (s.mtNs - t) / 1000000000),
      (s.thm.vrefUv, unsignedOf 32 s.thm.xinPpb), (BitVec.toNat s.thm.episodes, s.floorMs)][p.u8 16]? =
  some w) :=
  ⟨rdy, pf 5 [(16,1,1),(17,1,5)], (rdy.domainWord 5, 0), by decide +kernel⟩

theorem meets_ThmPackets_2 : ∃ (s : State) (p : Packet),
    (s.Starts Op.thmRead p) ∧
    (p.u8 16 = 3) ∧
    (8 ≤ p.u8 17) ∧
    (p.u8 17 ≤ 120) :=
  ⟨rdy, pf 5 [(16,1,3),(17,1,120)], by decide +kernel⟩

theorem meets_ThmPackets_3 : ∃ (s : State) (p : Packet),
    (s.Starts Op.thmLimits p) ∧
    (limitsFault p = none) :=
  ⟨rdyX, pf 8 [(16,2,80),(20,4,0x0C04080C),(24,4,0x08040808)], by decide +kernel⟩

theorem meets_ThmPackets_4 : ∃ (s : State) (p : Packet),
    (s.Starts Op.thmCalPolicy p) ∧
    (1 ≤ p.u8 16) ∧
    (p.u8 16 ≤ 20) ∧
    (p.u8 17 < 32) :=
  ⟨rdyX, pf 5 [(16,1,20),(17,1,31)], by decide +kernel⟩

theorem meets_ThmPackets_5 : ∃ (s : State) (p : Packet),
    (s.Starts Op.thmRelease p) :=
  ⟨{ rdyX with thm.dtCal := 20, cmd.policies := rdyX.cmd.policies.set policyCal true }, pk [], by decide +kernel⟩

theorem meets_ThmPackets_6 : ∃ (s : State) (p : Packet) (off : Nat),
    (s.Starts Op.thmCalRun p) ∧
    (1 ≤ p.u8 16) ∧
    (p.u8 16 < 16) ∧
    (∀ (k : Nat), k ∈ itemsOf (p.u8 16) → (s.calItem k).inUse = true) ∧
    (s.thm.calRun = none) ∧
    (s.thm.items.length = 4) ∧
    (off = if s.panelUp = true then 0 else p.u8 16 &&& 6) ∧
    (off ≠ p.u8 16) :=
  ⟨{ rdy with pnl.mode := .driving }, pf 5 [(16,1,15)], 0, by decide +kernel⟩

theorem meets_ThmPackets_7 : ∃ (s : State) (p : Packet) (off : Nat),
    (s.Starts Op.thmCalRun p) ∧
    (1 ≤ p.u8 16) ∧
    (p.u8 16 < 16) ∧
    (∀ (k : Nat), k ∈ itemsOf (p.u8 16) → (s.calItem k).inUse = true) ∧
    (s.thm.calRun = none) ∧
    (s.thm.items.length = 4) ∧
    (off = if s.panelUp = true then 0 else p.u8 16 &&& 6) ∧
    (off = p.u8 16) :=
  ⟨rdy, pf 5 [(16,1,6)], 6, by decide +kernel⟩

theorem meets_Sensors_0 : ∃ (s : State) (readings : List SensorSample),
    (s.sequencerRuns = true) :=
  ⟨rdy, .reading 1800 :: .absent :: List.replicate 38 (.reading 1800), by decide +kernel⟩

theorem meets_Sensors_1 : ∃ (s : State) (readings : List SensorSample),
    (s.sequencerRuns = false) :=
  ⟨{ rdy with pwr.phase := .rom }, [], by decide +kernel⟩

theorem meets_Sensors_2 : ∃ (s : State) (readings : List SensorSample),
    (s.sequencerRuns = false) ∧
    (s.pwr.vddAon = true) :=
  ⟨{ rdy with pwr.phase := .rom }, List.replicate 40 (.reading 1900), by decide +kernel⟩

theorem meets_Sensors_3 : ∃ (s : State) (readings : List SensorSample),
    (s.sequencerRuns = true ∨ s.pwr.vddAon = false) :=
  ⟨rdy, [.absent], by decide +kernel⟩

theorem meets_PowerAndCalibration_0 : ∃ (s : State),
    (s.thm.ladder = Ladder.falling) ∧
    (s.thm.ladderNs + 10000000 ≤ s.mtNs) ∧
    (s.thm.limit ≠ 300) :=
  ⟨{ rdy with thm.ladder := .falling, thm.ladderNs := 9990000000, thm.limit := 91 }, by decide +kernel⟩

theorem meets_PowerAndCalibration_1 : ∃ (s : State),
    (s.thm.ladder = Ladder.falling) ∧
    (s.thm.ladderNs + 10000000 ≤ s.mtNs) ∧
    (s.thm.limit = 300) ∧
    (s.thm.floorSince = none) :=
  ⟨{ rdy with thm.ladder := .falling, thm.ladderNs := 9990000000, thm.limit := 300 }, by decide +kernel⟩

theorem meets_PowerAndCalibration_2 : ∃ (s : State),
    (s.thm.ladder = Ladder.rising) ∧
    (s.thm.ladderNs + 100000000 ≤ s.mtNs) ∧
    (80 ≤ s.thm.limit) ∧
    (s.thm.limit < 290) :=
  ⟨{ rdy with thm.ladder := .rising, thm.ladderNs := 9900000000, thm.limit := 289 }, by decide +kernel⟩

theorem meets_PowerAndCalibration_3 : ∃ (s : State),
    (s.thm.ladder = Ladder.rising) ∧
    (s.thm.ladderNs + 100000000 ≤ s.mtNs) ∧
    (290 ≤ s.thm.limit) ∧
    (s.thm.limit < 300) ∧
    (s.thm.floorSince = none) :=
  ⟨{ rdy with thm.ladder := .rising, thm.ladderNs := 9900000000, thm.limit := 290 }, by decide +kernel⟩

theorem meets_PowerAndCalibration_4 : ∃ (s : State),
    (s.thm.ladder = Ladder.holding ∨ s.thm.ladder = Ladder.steady ∨ s.mtNs < s.thm.ladderNs + 10000000) :=
  ⟨{ rdy with thm.ladder := .holding }, by decide +kernel⟩

theorem meets_PowerAndCalibration_5 : ∃ (s : State) (n : Nat),
    (100 * s.thm.limit < n) ∧
    (s.nextStep = none) :=
  ⟨{ rdy with thm.gated := List.range 96, thm.steps := (.blit, 0) :: (.gate (List.range 96), 0) :: (List.replicate 20 (.ray [0,1,2,3], 0) ++ List.replicate 10 (.codec [0,1,2,3], 0)) }, 30001, by decide +kernel⟩

theorem meets_PowerAndCalibration_6 : ∃ (s : State) (n : Nat) (st : PowerStep),
    (100 * s.thm.limit < n) ∧
    (s.nextStep = some st) :=
  ⟨rdy, 30001, .blit, by decide +kernel⟩

theorem meets_PowerAndCalibration_7 : ∃ (s : State) (n : Nat),
    (n ≤ 100 * s.thm.limit) :=
  ⟨{ rdy with thm.steps := [(.blit, 100)] }, 30000, by decide +kernel⟩

theorem meets_PowerAndCalibration_8 : ∃ (s : State) (south : Bool),
    (s.pwr.avsFault.getD (b2n south) false = false) ∧
    (b2n south < s.pwr.avsFault.length) :=
  ⟨rdy, true, by decide +kernel⟩

theorem meets_PowerAndCalibration_9 : ∃ (s : State) (south : Bool),
    (s.pwr.avsFault.getD (b2n south) false = true) :=
  ⟨{ rdy with pwr.avsFault := [false, true] }, true, by decide +kernel⟩

theorem meets_PowerAndCalibration_10 : ∃ (s : State) (k : Fin 4) (t0 : Nat),
    (s.thm.items.length = 4) ∧
    ((s.calItem ↑k).lastNs = some t0) ∧
    (t0 + 86400000000000 ≤ s.mtNs) ∧
    (s.isExpert policyCal = false) ∧
    ((s.calItem ↑k).inUse = true) :=
  ⟨{ rdy with time.mt := 90000 * secUnits, thm.items := rdy.thm.items.set 3 { lastNs := some 3600000000000 } }, 3, 3600000000000, by decide +kernel⟩

theorem meets_PowerAndCalibration_11 : ∃ (s : State) (k : Fin 4),
    (s.thm.items.length = 4) ∧
    (s.isExpert policyCal = true ∨
  (s.calItem ↑k).lastNs = none ∨ ∃ t0, (s.calItem ↑k).lastNs = some t0 ∧ s.mtNs < t0 + 86400000000000) :=
  ⟨rdy, 3, by decide +kernel⟩

theorem meets_PowerAndCalibration_12 : ∃ (s : State) (m : CalMeasure) (t16 : Int),
    (s.thm.items.length = 4) ∧
    (s.thm.running = some 3) ∧
    (s.calWorks = true) ∧
    (s.thm.runSince ≤ s.mtNs) ∧
    (s.panelTemp = some t16) :=
  ⟨{ rdy with thm.running := some 3, thm.sensors := rdy.thm.sensors.set 36 { reading := 400 } , thm.items := rdy.thm.items.set 3 { due := true } }, {}, 100, by decide +kernel⟩

theorem meets_PowerAndCalibration_13 : ∃ (s : State) (m : CalMeasure),
    (s.thm.items.length = 4) ∧
    (s.thm.running = some 3) ∧
    (s.calWorks = true) ∧
    (s.thm.runSince ≤ s.mtNs) ∧
    (s.panelTemp = none) :=
  ⟨{ rdy with thm.running := some 3, thm.items := rdy.thm.items.set 3 { due := true }, thm.sensors := rdy.thm.sensors.map fun x => { x with absent := true } }, {}, by decide +kernel⟩

theorem meets_PowerAndCalibration_14 : ∃ (s : State) (m : CalMeasure),
    (s.thm.items.length = 4) ∧
    (s.thm.running = some 0) ∧
    (s.calWorks = true) ∧
    (s.thm.runSince + 2000000 ≤ s.mtNs) :=
  ⟨{ rdy with thm.running := some 0, thm.items := rdy.thm.items.set 0 { due := true } }, { trims := [1], vrefUv := 1250000 }, by decide +kernel⟩

theorem meets_PowerAndCalibration_15 : ∃ (s : State) (m : CalMeasure) (k : Fin 4) (w : Option (List Int)),
    (s.thm.items.length = 4) ∧
    (1 ≤ ↑k) ∧
    (↑k ≤ 2) ∧
    (s.thm.running = some ↑k) ∧
    (s.calWorks = true) ∧
    (s.panelUp = true) ∧
    (s.thm.runSince + calNs ↑k ≤ s.mtNs) ∧
    (w = if s.calRejects m = true then (s.calItem ↑k).waiting else some m.trims) :=
  ⟨{ rdy with pnl.mode := .driving, thm.running := some 2, thm.items := rdy.thm.items.set 2 { due := true } }, { trims := [1] }, 2, some [1], by decide +kernel⟩

theorem meets_PowerAndCalibration_16 : ∃ (s : State) (m : CalMeasure) (k : Nat),
    (s.thm.items.length = 4) ∧
    (1 ≤ k) ∧
    (k ≤ 2) ∧
    (s.thm.running = some k) ∧
    (s.calWorks = true) ∧
    (s.panelUp = false) ∧
    (s.thm.runSince + calNs k ≤ s.mtNs) :=
  ⟨{ rdy with thm.running := some 2, thm.items := rdy.thm.items.set 2 { due := true } }, { trims := [1] }, 2, by decide +kernel⟩

theorem meets_PowerAndCalibration_17 : ∃ (s : State) (m : CalMeasure),
    (s.thm.items.length = 4) ∧
    (s.thm.running = none ∨ s.calWorks = false ∨ ∃ k, s.thm.running = some k ∧ s.mtNs < s.thm.runSince + calNs k) :=
  ⟨rdy, {}, by decide +kernel⟩

theorem meets_Recovery_0 : ∃ (s : State) (ns : Nat),
    (s.sup.supState = 0) ∧
    (s.linkAlive = true) ∧
    (s.pwr.dusk ≠ DuskState.asleep) ∧
    (s.pwr.dusk ≠ DuskState.waking) ∧
    (∀ (m : Nat), s.sup.lastMismatch = some m → m + 1000000000 < s.mtNs) :=
  ⟨rdyE, 500, by decide +kernel⟩

theorem meets_Recovery_1 : ∃ (s : State) (ns : Nat) (m : Nat),
    (s.sup.supState = 0) ∧
    (s.linkAlive = true) ∧
    (s.pwr.dusk ≠ DuskState.asleep) ∧
    (s.pwr.dusk ≠ DuskState.waking) ∧
    (s.sup.lastMismatch = some m) ∧
    (s.mtNs ≤ m + 1000000000) :=
  ⟨{ rdyE with sup.lastMismatch := some 9000000000 }, 500, 9000000000, by decide +kernel⟩

theorem meets_Recovery_2 : ∃ (s : State) (ns : Nat),
    (s.sup.supState ≠ 0 ∨ s.linkAlive = false ∨ s.pwr.dusk = DuskState.asleep ∨ s.pwr.dusk = DuskState.waking) :=
  ⟨{ rdyE with sup.supState := 1 }, 500, by decide +kernel⟩

theorem meets_Recovery_3 : ∃ (s : State) (core : Fin 96),
    (s.rayWorks = true) ∧
    (s.fabricUp = true) ∧
    (s.sup.coreState.getD (↑core) 2 = 0) :=
  ⟨{ rdyE with sup.coreFaults := rdyE.sup.coreFaults.set 95 2 }, 95, by decide +kernel⟩

theorem meets_Recovery_4 : ∃ (s : State) (core : Fin 96),
    (s.rayWorks = true) ∧
    (s.fabricUp = true) ∧
    (s.sup.coreState.getD (↑core) 2 = 0) ∧
    (∀ (x : TileRef × Tile), x ∈ s.allTiles → x.snd.reissues < 4) :=
  ⟨rdyE, 95, by decide +kernel⟩

theorem meets_Recovery_5 : ∃ (s : State) (core : Fin 96),
    (s.rayWorks = false ∨ s.fabricUp = false ∨ s.sup.coreState.getD (↑core) 2 ≠ 0) :=
  ⟨{ rdyE with sup.coreState := rdyE.sup.coreState.set 95 1 }, 95, by decide +kernel⟩

theorem meets_Recovery_6 : ∃ (s : State) (core : Fin 96),
    (s.sup.coreState.getD (↑core) 0 = 1) ∧
    (s.sup.corePassed.getD (↑core) true = false) ∧
    (s.fabricUp = true) :=
  ⟨{ rdyE with sup.coreState := rdyE.sup.coreState.set 95 1 }, 95, by decide +kernel⟩

theorem meets_Recovery_7 : ∃ (s : State) (core : Fin 96) (pass : Bool),
    (s.sup.coreState.getD (↑core) 0 ≠ 1 ∨ s.sup.corePassed.getD (↑core) true = true ∨ s.fabricUp = false) :=
  ⟨rdyE, 95, true, by decide +kernel⟩

theorem meets_Recovery_8 : ∃ (s : State) (c : Fin 4) (retired : List Bool),
    (s.rayWorks = true) ∧
    (s.fabricUp = true) ∧
    (s.sup.clusterRetired.getD (↑c) true = false) ∧
    (retired =
  s.sup.clusterRetired.set (↑c)
    (Option.any (fun m => decide (s.mtNs ≤ m + 1000000000)) (s.sup.fabricLast.getD (↑c) none))) :=
  ⟨{ rdyE with sup.fabricLast := rdyE.sup.fabricLast.set 3 (some 9000000000) }, 3, rdyE.sup.clusterRetired.set 3 true, by decide +kernel⟩

theorem meets_Recovery_9 : ∃ (s : State) (c : Fin 4),
    (s.rayWorks = false ∨ s.fabricUp = false ∨ s.sup.clusterRetired.getD (↑c) true = true) :=
  ⟨{ rdyE with sup.clusterRetired := [true, false, false, false] }, 0, by decide +kernel⟩

theorem meets_Recovery_10 : ∃ (s : State) (core : Fin 12) (slot : Nat) (ci : Nat) (k : Nat),
    (s.codecWorks = true) ∧
    (s.fabricUp = true) ∧
    (s.dec.cores.getD (↑core) none = some (CoreItem.part slot ci k)) :=
  ⟨rdyD, 0, 0, 0, 0, by decide +kernel⟩

theorem meets_Recovery_11 : ∃ (s : State) (core : Fin 12) (n : Nat) (order : Nat),
    (s.codecWorks = true) ∧
    (s.fabricUp = true) ∧
    (s.dec.cores.getD (↑core) none = some (CoreItem.row n order)) :=
  ⟨{ rdyE with dec.cores := rdy.dec.cores.set 11 (some (.row 1 0)) }, 11, 1, 0, by decide +kernel⟩

theorem meets_Recovery_12 : ∃ (s : State) (core : Fin 12),
    (s.codecWorks = true) ∧
    (s.fabricUp = true) ∧
    (s.dec.cores.getD (↑core) none = none) :=
  ⟨rdyE, 11, by decide +kernel⟩

theorem meets_Recovery_13 : ∃ (s : State) (core : Fin 12),
    (s.codecWorks = false ∨ s.fabricUp = false) :=
  ⟨{ rdyE with pwr.phase := .held }, 11, by decide +kernel⟩

theorem meets_Recovery_14 : ∃ (s : State) (i : Fin 128),
    (s.fabricUp = true) ∧
    (s.stopped = false) ∧
    (120 ≤ ↑i) ∧
    (↑i ≠ 123) ∧
    (↑i ≠ 124) ∧
    (↑i ≠ 126) ∧
    (↑i = 122 → s.pnl.mode ≠ PanelMode.driving) :=
  ⟨rdyE, 127, by decide +kernel⟩

theorem meets_Recovery_15 : ∃ (s : State),
    (s.fabricUp = true) ∧
    (s.stopped = false) :=
  ⟨rdyE, by decide +kernel⟩

theorem meets_Recovery_16 : ∃ (s : State),
    (s.fabricUp = true) ∧
    (s.stopped = false) ∧
    (s.pnl.mode = PanelMode.driving) :=
  ⟨{ rdyE with pnl.mode := .driving }, by decide +kernel⟩

theorem meets_Recovery_17 : ∃ (s : State) (i : Fin 128),
    (s.fabricUp = true) ∧
    (s.stopped = false) ∧
    (↑i = 123 ∨ ↑i = 124) :=
  ⟨rdyE, 124, by decide +kernel⟩

theorem meets_Recovery_18 : ∃ (s : State) (i : Fin 128) (core : Fin 96),
    (s.fabricUp = true) ∧
    (s.stopped = false) ∧
    (i.val = 8 + core.val) ∧
    (s.sup.coreState.getD (core.val) 2 = 0) :=
  ⟨rdyE, 103, 95, by decide +kernel⟩

theorem meets_Recovery_19 : ∃ (s : State) (i : Fin 128) (c : Fin 4),
    (s.fabricUp = true) ∧
    (s.stopped = false) ∧
    (i.val = 104 + c.val) ∧
    (s.sup.clusterRetired.getD (c.val) true = false) :=
  ⟨rdyE, 107, 3, by decide +kernel⟩

theorem meets_Recovery_20 : ∃ (s : State) (i : Fin 128) (core : Fin 12),
    (s.fabricUp = true) ∧
    (s.stopped = false) ∧
    (i.val = 108 + core.val) :=
  ⟨rdyE, 119, 11, by decide +kernel⟩

theorem meets_Recovery_21 : ∃ (s : State) (i : Fin 128),
    (s.fabricUp = true) ∧
    (s.stopped = false) ∧
    (↑i < 8) :=
  ⟨rdyE, 7, by decide +kernel⟩

theorem meets_Recovery_22 : ∃ (s : State),
    (s.fabricUp = true) ∧
    (s.stopped = false) ∧
    (∀ (t0 : Nat), s.sup.dieLinkNs = some t0 → t0 + 20000 < s.mtNs) :=
  ⟨rdyE, by decide +kernel⟩

theorem meets_Recovery_23 : ∃ (s : State) (t0 : Nat),
    (s.fabricUp = true) ∧
    (s.stopped = false) ∧
    (s.sup.dieLinkNs = some t0) ∧
    (s.mtNs ≤ t0 + 20000) ∧
    (s.sup.dieLinkResends < 8) :=
  ⟨{ rdyE with sup.dieLinkNs := some 9999980000, sup.dieLinkResends := 7 }, 9999980000, by decide +kernel⟩

theorem meets_Recovery_24 : ∃ (s : State) (t0 : Nat),
    (s.fabricUp = true) ∧
    (s.stopped = false) ∧
    (s.sup.dieLinkNs = some t0) ∧
    (s.mtNs ≤ t0 + 20000) ∧
    (8 ≤ s.sup.dieLinkResends) ∧
    (s.sup.fault = false) :=
  ⟨{ rdyE with sup.dieLinkNs := some 9999980000, sup.dieLinkResends := 8 }, 9999980000, by decide +kernel⟩

theorem meets_Recovery_25 : ∃ (s : State) (o : PoisonOwner),
    (s.fabricUp = true) ∧
    (s.stopped = false) ∧
    (o = PoisonOwner.region0 ∨ o = PoisonOwner.stream) :=
  ⟨rdyE, .stream, by decide +kernel⟩

theorem meets_Recovery_26 : ∃ (s : State) (f : Flight),
    (s.fabricUp = true) ∧
    (s.stopped = false) ∧
    (s.flight f.ticket = some f) ∧
    (f.committed = false) :=
  ⟨{ rdyE with cmd.flights := [{ ticket := 7, opcode := 0x500, pkt := pk [] }] }, { ticket := 7, opcode := 0x500, pkt := pk [] }, by decide +kernel⟩

theorem meets_Recovery_27 : ∃ (s : State) (o : PoisonOwner),
    (s.fabricUp = true) ∧
    (s.stopped = false) ∧
    (s.owns o = false) :=
  ⟨rdyE, .chainRecord, by decide +kernel⟩

theorem meets_Recovery_28 : ∃ (s : State),
    (s.fabricUp = true) ∧
    (s.stopped = false) ∧
    (s.chain.records ≠ []) ∧
    (s.sup.fault = false) :=
  ⟨{ rdyE with chain.records := [{ seq := 1, bytes := [] }] }, by decide +kernel⟩

theorem meets_MemoryUpkeep_0 : ∃ (s : State) (k : Fin 8),
    (↑k < s.memc.chans.length) ∧
    (s.mtNs < s.memc.periodNs + s.memc.retrainMs * 1000000) ∧
    (s.memRuns = true) ∧
    ((s.chan ↑k).live = true) ∧
    ((s.chan ↑k).round ≠ some s.memc.period) ∧
    (s.memc.periodNs + ↑k * s.memc.retrainMs * 125000 ≤ s.mtNs) :=
  ⟨{ chanAt 7 (fun c => { c with due := true }) with memc.periodNs := 9956250000, memc.period := 4 }, 7, by decide +kernel⟩

theorem meets_MemoryUpkeep_1 : ∃ (s : State) (k : Fin 8),
    (↑k < s.memc.chans.length) ∧
    (s.mtNs < s.memc.periodNs + s.memc.retrainMs * 1000000) ∧
    (s.memRuns = false ∨
  (s.chan ↑k).live = false ∨
    (s.chan ↑k).round = some s.memc.period ∨ s.mtNs < s.memc.periodNs + ↑k * s.memc.retrainMs * 125000) :=
  ⟨{ chanAt 7 (fun c => { c with state := .faulted }) with memc.periodNs := 9999999999, memc.retrainMs := 50 }, 7, by decide +kernel⟩

theorem meets_MemoryUpkeep_2 : ∃ (s : State) (k : Fin 8),
    (↑k < s.memc.chans.length) ∧
    (s.memc.periodNs + s.memc.retrainMs * 1000000 ≤ s.mtNs) ∧
    (0 < s.memc.retrainNext.getD s.memc.retrainMs) :=
  ⟨{ chanAt 7 (fun c => { c with state := .errorRetrain, since := 9999000000, recent := [1] }) with pwr.ready := true }, 7, by decide +kernel⟩

theorem meets_MemoryUpkeep_3 : ∃ (s : State) (k : Fin 8),
    (↑k < s.memc.chans.length) ∧
    (s.memRuns = true) ∧
    ((s.chan ↑k).due = true) ∧
    ((s.chan ↑k).state = ChanState.ready) ∧
    (s.pauseBlocked = false) :=
  ⟨chanAt 7 (fun c => { c with due := true }), 7, by decide +kernel⟩

theorem meets_MemoryUpkeep_4 : ∃ (s : State) (k : Fin 8),
    (↑k < s.memc.chans.length) ∧
    (s.memRuns = false ∨ (s.chan ↑k).due = false ∨ (s.chan ↑k).state ≠ ChanState.ready ∨ s.pauseBlocked = true) :=
  ⟨chanAt 7 id, 7, by decide +kernel⟩

theorem meets_MemoryUpkeep_5 : ∃ (s : State) (k : Fin 8),
    (↑k < s.memc.chans.length) ∧
    ((s.chan ↑k).state = ChanState.pause) :=
  ⟨chanAt 7 (fun c => { c with state := .pause }), 7, by decide +kernel⟩

theorem meets_MemoryUpkeep_6 : ∃ (s : State) (k : Fin 8),
    (↑k < s.memc.chans.length) ∧
    ((s.chan ↑k).state ≠ ChanState.pause) :=
  ⟨chanAt 7 id, 7, by decide +kernel⟩

theorem meets_MemoryUpkeep_7 : ∃ (s : State) (k : Fin 8) (write : Bool),
    (↑k < s.memc.chans.length) ∧
    (s.memRuns = true) ∧
    ((s.chan ↑k).state = ChanState.ready) ∧
    ((s.chan ↑k).errorDue = false) :=
  ⟨chanAt 7 (fun c => { c with state := .ready }), 7, true, by decide +kernel⟩

theorem meets_MemoryUpkeep_8 : ∃ (s : State) (k : Fin 8) (write : Bool),
    (↑k < s.memc.chans.length) ∧
    (s.memRuns = false ∨ (s.chan ↑k).state ≠ ChanState.ready ∨ (s.chan ↑k).errorDue = true) :=
  ⟨chanAt 7 (fun c => { c with state := .pause }), 7, true, by decide +kernel⟩

theorem meets_MemoryUpkeep_9 : ∃ (s : State) (k : Fin 8),
    (↑k < s.memc.chans.length) ∧
    (s.memRuns = true) ∧
    ((s.chan ↑k).errorDue = true) ∧
    ((s.chan ↑k).state = ChanState.ready) ∧
    (s.retraining = false) :=
  ⟨chanAt 7 (fun c => { c with errorDue := true }), 7, by decide +kernel⟩

theorem meets_MemoryUpkeep_10 : ∃ (s : State) (k : Fin 8),
    (↑k < s.memc.chans.length) ∧
    (s.memRuns = false ∨ (s.chan ↑k).errorDue = false ∨ (s.chan ↑k).state ≠ ChanState.ready ∨ s.retraining = true) :=
  ⟨chanAt 7 id, 7, by decide +kernel⟩

theorem meets_MemoryUpkeep_11 : ∃ (s : State) (k : Fin 8),
    (↑k < s.memc.chans.length) ∧
    ((s.chan ↑k).state = ChanState.errorRetrain) :=
  ⟨chanAt 7 (fun c => { c with state := .errorRetrain }), 7, by decide +kernel⟩

theorem meets_MemoryUpkeep_12 : ∃ (s : State) (k : Fin 8),
    (↑k < s.memc.chans.length) ∧
    ((s.chan ↑k).state = ChanState.errorRetrain) ∧
    ((s.chan ↑k).errorFails = 0) :=
  ⟨chanAt 7 (fun c => { c with state := .errorRetrain, injected := true }), 7, by decide +kernel⟩

theorem meets_MemoryUpkeep_13 : ∃ (s : State) (k : Fin 8),
    (↑k < s.memc.chans.length) ∧
    ((s.chan ↑k).state = ChanState.errorRetrain) ∧
    ((s.chan ↑k).errorFails ≠ 0) ∧
    (s.sup.fault = false) :=
  ⟨chanAt 7 (fun c => { c with state := .errorRetrain, errorFails := 1 }), 7, by decide +kernel⟩

theorem meets_MemoryUpkeep_14 : ∃ (s : State) (k : Fin 8) (ok : Bool),
    (↑k < s.memc.chans.length) ∧
    ((s.chan ↑k).state ≠ ChanState.errorRetrain) :=
  ⟨chanAt 7 id, 7, true, by decide +kernel⟩

theorem meets_MemoryUpkeep_15 : ∃ (s : State) (means : List Nat),
    (s.memc.regNs + 100000000 ≤ s.mtNs) ∧
    (s.pwr.ready = true) :=
  ⟨chanAt 7 id, List.range 10, by decide +kernel⟩

theorem meets_MemoryUpkeep_16 : ∃ (s : State) (means : List Nat),
    (s.mtNs < s.memc.regNs + 100000000 ∨ s.pwr.ready = false) :=
  ⟨{ chanAt 7 id with memc.regNs := 9999999999 }, List.range 10, by decide +kernel⟩

theorem meets_MemoryUpkeep_17 : ∃ (s : State) (n : Fin 10),
    ((s.memPort ↑n).cls ≠ 0) ∧
    (s.fabricUp = true) :=
  ⟨rdy, 9, by decide +kernel⟩

theorem meets_MemoryUpkeep_18 : ∃ (s : State) (n : Fin 10),
    ((s.memPort ↑n).cls = 0 ∨ s.fabricUp = false) :=
  ⟨rdy, 0, by decide +kernel⟩

theorem meets_MemoryUpkeep_19 : ∃ (s : State),
    (s.eccWords ≠ 0) ∧
    (s.pwr.ready = true) ∧
    (s.fabricUp = true) :=
  ⟨{ chanAt 7 id with memc.regions := some (7936, 1) :: List.replicate 7 none, memc.scrub := 0x1FFFF }, by decide +kernel⟩

theorem meets_MemoryUpkeep_20 : ∃ (s : State),
    (s.eccWords = 0 ∨ s.pwr.ready = false ∨ s.fabricUp = false) :=
  ⟨chanAt 7 id, by decide +kernel⟩

theorem meets_MemPackets_0 : ∃ (s : State) (p : Packet) (w : Nat × Nat),
    (s.Starts Op.memStatus p) ∧
    (p.u8 16 ≠ 5) ∧
    (p.u8 17 ≤ [0, 7, 7, 7, 9, 9, 7, 0].getD (p.u8 16) 0) ∧
    ([(s.memWord, s.memc.capacityMib), ((s.chan (p.u8 17)).word, BitVec.toNat (s.chan (p.u8 17)).nPauses),
      (BitVec.toNat (s.chan (p.u8 17)).nRetried, BitVec.toNat (s.chan (p.u8 17)).nErrors),
      (BitVec.toNat (s.chan (p.u8 17)).nDeferred, BitVec.toNat (s.chan (p.u8 17)).nSkipped),
      (10 * (s.memPort (p.u8 17)).moved / 250000000, (s.memPort (p.u8 17)).rate), (0, 0),
      (s.memc.regions.getD (p.u8 17) none).getD (0, 0),
      (BitVec.toNat s.memc.nCorrected, BitVec.toNat s.memc.nBad)][p.u8 16]? =
  some w) :=
  ⟨chanAt 7 (fun c => { c with nRetried := 5 }), pf 5 [(16,1,2),(17,1,7)], (5, 0), by decide +kernel⟩

theorem meets_MemPackets_1 : ∃ (s : State) (p : Packet),
    (s.Starts Op.memStatus p) ∧
    (p.u8 16 = 5) ∧
    (p.u8 17 ≤ 9) :=
  ⟨rdy, pf 5 [(16,1,5),(17,1,9)], by decide +kernel⟩

theorem meets_MemPackets_2 : ∃ (s : State) (p : Packet) (a : Nat),
    (s.MemWf) ∧
    (s.Starts Op.memEccRegion p) ∧
    (1 ≤ p.u8 16) ∧
    (p.u8 16 ≤ 7) ∧
    (p.u32 20 % 64 = 0) ∧
    (p.u32 20 ≠ 0) ∧
    (p.u64 24 = 9223372036854775808 + a) ∧
    (a < 9223372036854775808) ∧
    (a % 67108864 = 0) ∧
    (s.eccTaken (a / 1048576) (p.u32 20) = false) ∧
    (s.eccTotal + p.u32 20 ≤ 1024) ∧
    (s.memc.regions.getD (p.u8 16) none = none) :=
  ⟨{ rdy.writeAt ⟨true, 0x4000010⟩ [1,2,3] with memc.regions := some (7936, 128) :: List.replicate 7 none }, pf 8 [(16,1,7),(20,4,64),(24,8,0x8000000004000000)], 0x4000000, by decide +kernel⟩

theorem meets_MemPackets_3 : ∃ (s : State) (p : Packet),
    (s.Starts Op.memEccRegion p) ∧
    (1 ≤ p.u8 16) ∧
    (p.u8 16 ≤ 7) ∧
    (p.u32 20 = 0) ∧
    (9223372036854775808 ≤ p.u64 24) ∧
    (p.u64 24 % 67108864 = 0) :=
  ⟨{ rdy with memc.regions := some (7936, 128) :: List.replicate 7 (some (64, 64)) }, pf 8 [(16,1,7),(24,8,0x8000000004000000)], by decide +kernel⟩

theorem meets_MemPackets_4 : ∃ (s : State) (p : Packet),
    (s.Starts Op.memRegulator p) ∧
    (p.u8 16 = 0 → 11 * s.wovenRead ≤ p.u16 18 * 2500000000) ∧
    (p.u8 16 ≤ 9) ∧
    (1 ≤ p.u16 18) ∧
    (p.u16 18 ≤ 1280) ∧
    (16 ≤ p.u16 20) ∧
    (sumNat (List.map (fun k => (s.memPort k).rate) (List.filter (fun k => k != p.u8 16) (List.range 10))) + p.u16 18 ≤
  s.admission) :=
  ⟨{ rdyX with memc.rate := 12 }, pf 6 [(16,1,9),(18,2,1),(20,2,16)], by decide +kernel⟩

theorem meets_MemPackets_5 : ∃ (s : State) (p : Packet),
    (s.Starts Op.memClass p) ∧
    (memClassFault p = none) :=
  ⟨rdyX, pf 9 [(18,8,0x0303030303030303),(28,2,1),(30,2,1),(32,2,1000)], by decide +kernel⟩

theorem meets_MemPackets_6 : ∃ (s : State) (p : Packet),
    (s.Starts Op.memRelease p) :=
  ⟨{ rdyX with cmd.policies := rdyX.cmd.policies.set policyMemory true }, pk [], by decide +kernel⟩

theorem meets_MemPackets_7 : ∃ (s : State) (p : Packet),
    (s.Starts Op.memRetrain p) ∧
    (10 ≤ p.u16 16) ∧
    (p.u16 16 ≤ 1000) :=
  ⟨rdyX, pf 5 [(16,2,1000)], by decide +kernel⟩

theorem meets_EvtAndFwPackets_0 : ∃ (s : State) (p : Packet) (l : Loc) (e : Nat × List Byte),
    (s.Starts Op.evtLogRead p) ∧
    (p.u64 24 % 32 = 0) ∧
    (1 ≤ p.u16 20) ∧
    (p.u16 20 ≤ 1536) ∧
    (s.scanning = false) ∧
    (s.logHeld.getLast? = some e) ∧
    (s.resolve p.src (p.u64 24)
    (32 *
      (List.take (p.u16 20)
          (List.filter (fun e => p.u32 16 == 4294967295 || decide (p.u32 16 ≤ e.fst)) s.logHeld)).length) =
  some l) :=
  ⟨rdyL, pf 8 [(20,2,1536),(24,8,0x100000)], ⟨false, 0x100000⟩, (rdyL.logHeld.headD (0, [])), by decide +kernel⟩

theorem meets_EvtAndFwPackets_1 : ∃ (s : State) (p : Packet),
    (s.Starts Op.evtLogRead p) ∧
    (p.u64 24 % 32 = 0) ∧
    (1 ≤ p.u16 20) ∧
    (p.u16 20 ≤ 1536) ∧
    (s.scanning = false) ∧
    (s.logHeld = []) ∧
    ((s.resolve p.src (p.u64 24) 0).isSome = true) :=
  ⟨rdy, pf 8 [(20,2,1),(24,8,0x100000)], by decide +kernel⟩

theorem meets_EvtAndFwPackets_2 : ∃ (s : State) (p : Packet),
    (s.Starts Op.evtCounters p) ∧
    (p.u8 16 ≤ 5) ∧
    (counterIndexOk (p.u8 16) (p.u16 17) = true) :=
  ⟨rdy, pf 5 [(16,1,3),(17,2,3)], by decide +kernel⟩

theorem meets_EvtAndFwPackets_3 : ∃ (s : State) (p : Packet) (f : Func) (n : Fin 16),
    (s.Starts Op.evtMask p) ∧
    (p.src = Src.ring f n) ∧
    (maskable (p.u16 16) = true) ∧
    (p.u8 18 ≤ 1) :=
  ⟨rdyE, pf 5 [(16,2,0x0C01),(18,1,1)], .pf, 0, by decide +kernel⟩

theorem meets_EvtAndFwPackets_4 : ∃ (s : State) (p : Packet),
    (s.Starts Op.evtMask p) ∧
    (p.src = Src.smbus) ∧
    (maskable (p.u16 16) = true) ∧
    (p.u8 18 ≤ 1) :=
  ⟨rdyE, on .smbus (pf 5 [(16,2,0x0C01),(18,1,1)]), by decide +kernel⟩

theorem meets_EvtAndFwPackets_5 : ∃ (s : State) (p : Packet),
    (s.Starts Op.evtInject p) ∧
    (injectUnitOk (p.u8 16) (p.u16 17) = true) ∧
    (s.unitOut (p.u8 16) (p.u16 17) = false) ∧
    (s.recovering = false) :=
  ⟨rdyX, pf 5 [(16,1,4),(17,2,11)], by decide +kernel⟩

theorem meets_EvtAndFwPackets_6 : ∃ (s : State) (p : Packet) (l : Loc),
    (s.Starts Op.fwUpdate p) ∧
    (p.u32 16 ≤ 8388608) ∧
    (p.u32 16 % 4096 = 0) ∧
    (p.u64 24 % 4 = 0) ∧
    (s.resolve p.src (p.u64 24) (p.u32 16) = some l) ∧
    (p.u32 16 = fieldAt (s.readAt l (min (p.u32 16) 4096)) 12 4 + 4096) ∧
    (s.pwr.straps.boot ≠ 1) ∧
    (s.fw.update = none) ∧
    (s.pwr.dusk = DuskState.awake) :=
  ⟨rdyX, pf 8 [(16,4,4096),(24,8,0x100000)], ⟨false, 0x100000⟩, by decide +kernel⟩

theorem meets_EvtAndFwPackets_7 : ∃ (s : State) (p : Packet) (t : Nat) (k : Nat) (img : List Byte),
    (s.fw.update = some (t, k, img)) ∧
    (s.pwr.loss = none) ∧
    (s.sup.fault = false) ∧
    (s.sup.supState = 0) :=
  ⟨{ rdy with fw.update := some (7, 1, [1,2,3]), cmd.flights := [{ ticket := 7, opcode := 0x0F01, pkt := pk [], committed := true }] }, pk [], 7, 1, [1,2,3], by decide +kernel⟩

theorem meets_EvtAndFwPackets_8 : ∃ (s : State) (p : Packet),
    (s.fw.update = none ∨ s.pwr.loss.isSome = true ∨ s.sup.fault = true ∨ s.sup.supState ≠ 0) :=
  ⟨rdy, pk [], by decide +kernel⟩

theorem meets_EvtAndFwPackets_9 : ∃ (s : State) (p : Packet) (l : Loc),
    (s.Starts Op.fwCertRead p) ∧
    (p.u8 16 ≤ 1) ∧
    (2048 ≤ p.u32 20) ∧
    (p.u64 24 % 4 = 0) ∧
    (s.resolve p.src (p.u64 24) (p.u32 20) = some l) :=
  ⟨rdy, pf 8 [(20,4,2048),(24,8,0x100000)], ⟨false, 0x100000⟩, by decide +kernel⟩

theorem meets_EvtAndFwPackets_10 : ∃ (s : State) (p : Packet) (l : Loc) (h : ChainHead),
    (s.Starts Op.fwAttest p) ∧
    (p.u64 48 % 16 = 0) ∧
    (s.resolve p.src (p.u64 48) 160 = some l) ∧
    (s.sup.debugOpen = false) ∧
    (s.chain.signing = []) ∧
    (s.commitRefusal = none) ∧
    (h =
  s.head.getD
    { chainId := 0, epoch := s.newChain.epoch, headSeq := s.newChain.headSeq, headDigest := s.newChain.headDigest,
      expSeq := s.newChain.expSeq, expDigest := s.newChain.expDigest, lastDfn := s.newChain.lastDfn,
      sealEt := s.newChain.sealEt }) ∧
    (∀ (x : Flight), x ∈ s.cmd.flights → x.ticket ≠ s.cmd.nextTicket) :=
  ⟨{ rdy with nvm.head := some (List.replicate 128 0) }, pf 14 [(16,4,77),(48,8,0x100000)], ⟨false, 0x100000⟩, headOf (List.replicate 128 0), by decide +kernel⟩

theorem meets_EvtAndFwPackets_11 : ∃ (s : State) (p : Packet) (l : Loc),
    (s.Starts Op.fwAttest p) ∧
    (p.u64 48 % 16 = 0) ∧
    (s.resolve p.src (p.u64 48) 160 = some l) ∧
    (s.sup.debugOpen = false) ∧
    (Option.any SignJob.begun s.chain.signing.head? = true) :=
  ⟨{ rdy with chain.signing := [.sign 1 0 []] }, pf 14 [(16,4,77),(48,8,0x100000)], ⟨false, 0x100000⟩, by decide +kernel⟩

theorem meets_EvtAndFwPackets_12 : ∃ (s : State) (p : Packet) (l : Loc),
    (s.Starts Op.fwDebugUnlock p) ∧
    (p.u32 16 ≤ 1024) ∧
    (p.u64 24 % 4 = 0) ∧
    (s.resolve p.src (p.u64 24) (p.u32 16) = some l) :=
  ⟨{ rdyX with net.etSet := true }, pf 8 [(16,4,1024),(24,8,0x100000)], ⟨false, 0x100000⟩, by decide +kernel⟩

theorem meets_SidebandAndBar2_0 : ∃ (s : State) (b : List Byte),
    (s.smbAnswers = true) ∧
    (s.smbBusy = false) :=
  ⟨rdy, List.replicate 16 4, by decide +kernel⟩

theorem meets_SidebandAndBar2_1 : ∃ (s : State) (b : List Byte),
    (s.smbAnswers = true) ∧
    (s.smbBusy = false) :=
  ⟨rdy, List.replicate 16 4, by decide +kernel⟩

theorem meets_SidebandAndBar2_2 : ∃ (s : State) (b : List Byte) (ok : Bool),
    (s.smbAnswers = false ∨ s.smbBusy = true) :=
  ⟨{ rdy with smb.outstanding := true }, [], true, by decide +kernel⟩

theorem meets_SidebandAndBar2_3 : ∃ (s : State) (c : Completion) (cs : List Completion),
    (s.smbAnswers = true) ∧
    (s.smb.completions = c :: cs) :=
  ⟨{ rdy with smb.outstanding := true, smb.alert := true, smb.completions := [{ tag := 1, status := 2, ring := 0x80, irq := false, result0 := 3, result1 := 4 }] }, { tag := 1, status := 2, ring := 0x80, irq := false, result0 := 3, result1 := 4 }, [], by decide +kernel⟩

theorem meets_SidebandAndBar2_4 : ∃ (s : State),
    (s.smbAnswers = true) ∧
    (s.smb.completions = []) :=
  ⟨rdy, by decide +kernel⟩

theorem meets_SidebandAndBar2_5 : ∃ (s : State) (q : Word) (e : EventRec) (es : List (Word × EventRec)),
    (s.smbAnswers = true) ∧
    (s.smb.events = (q, e) :: es) ∧
    (s.smb.lost = 0) :=
  ⟨{ rdy with smb.alert := true, smb.events := [(9, { code := 0x0D01, severity := 1, mtSec := 10, mtNs := 0, source := 0xFFFF, tag := 0, ring := 0xFF, data0 := 1, data1 := 2 })] }, 9, { code := 0x0D01, severity := 1, mtSec := 10, mtNs := 0, source := 0xFFFF, tag := 0, ring := 0xFF, data0 := 1, data1 := 2 }, [], by decide +kernel⟩

theorem meets_SidebandAndBar2_6 : ∃ (s : State) (q : Word) (e : EventRec) (es : List (Word × EventRec)),
    (s.smbAnswers = true) ∧
    (s.smb.events = (q, e) :: es) ∧
    (s.smb.lost ≠ 0) :=
  ⟨{ rdy with smb.alert := true, smb.lost := 2, smb.events := [(9, { code := 0x0D01, severity := 1, mtSec := 10, mtNs := 0, source := 0xFFFF, tag := 0, ring := 0xFF, data0 := 1, data1 := 2 })] }, 9, { code := 0x0D01, severity := 1, mtSec := 10, mtNs := 0, source := 0xFFFF, tag := 0, ring := 0xFF, data0 := 1, data1 := 2 }, [], by decide +kernel⟩

theorem meets_SidebandAndBar2_7 : ∃ (s : State),
    (s.smbAnswers = true) ∧
    (s.smb.events = []) :=
  ⟨rdy, by decide +kernel⟩

theorem meets_SidebandAndBar2_8 : ∃ (s : State),
    (s.smbAnswers = true) :=
  ⟨{ rdy with smb.outstanding := true }, by decide +kernel⟩

theorem meets_SidebandAndBar2_9 : ∃ (s : State),
    (s.smbAnswers = true) :=
  ⟨{ rdy with smb.alert := true }, by decide +kernel⟩

theorem meets_SidebandAndBar2_10 : ∃ (s : State),
    (s.smbAnswers = false) :=
  ⟨State.reset, by decide +kernel⟩

theorem meets_SidebandAndBar2_11 : ∃ (s : State) (f : Func) (a : Nat) (n : Nat),
    (s.fnAnswers f = true) ∧
    (s.bar2Shut = false) ∧
    (a + n ≤ (s.bar2Window f).snd) :=
  ⟨rdyV.writeAt ⟨true, 0x10000000⟩ [1,2,3,4], .vf 0, 1, 4, by decide +kernel⟩

theorem meets_SidebandAndBar2_12 : ∃ (s : State) (f : Func) (a : Nat) (n : Nat),
    (s.fnAnswers f = true) ∧
    (s.bar2Shut = true ∨ (s.bar2Window f).snd < a + n) :=
  ⟨rdyV, .vf 0, 0x3FFFFFF, 2, by decide +kernel⟩

theorem meets_SidebandAndBar2_13 : ∃ (s : State) (f : Func) (a : Nat) (b : List Byte),
    (s.MemWf) ∧
    (s.fnAnswers f = true) ∧
    (s.bar2Shut = false) ∧
    (a + b.length ≤ (s.bar2Window f).snd) ∧
    (s.memc.trained ≠ 0) :=
  ⟨rdyV, .vf 0, 0x3FFFFFC, [1,2,3,4], by decide +kernel⟩

theorem meets_SidebandAndBar2_14 : ∃ (s : State) (f : Func) (a : Nat) (b : List Byte),
    (s.fnAnswers f = true) ∧
    (s.inDusk = true) :=
  ⟨{ rdy with pwr.dusk := .asleep }, .pf, 0, [1], by decide +kernel⟩

theorem meets_SidebandAndBar2_15 : ∃ (s : State) (f : Func) (a : Nat) (b : List Byte),
    (s.inDusk = false) ∧
    (s.bar2Shut = true ∨ (s.bar2Window f).snd < a + b.length ∨ s.memc.trained = 0) :=
  ⟨rdyV, .vf 0, 0x3FFFFFD, [1,2,3,4], by decide +kernel⟩

theorem meets_SidebandAndBar2_16 : ∃ (s : State) (f : Func) (a : Nat) (b : List Byte) (n : Nat),
    (s.fnAnswers f = false) :=
  ⟨rdy, .vf 7, 0, [1], 4, by decide +kernel⟩

theorem meets_RingControl_0 : ∃ (s : State) (f : Func) (n : Fin 16) (ctrl : Word) (r : SubRing),
    (s.fnAnswers f = true) ∧
    (s.regsNarrow = false) ∧
    (hasRing f ↑n = true) ∧
    (s.subRing f ↑n = some r) ∧
    (r.enable = false) :=
  ⟨rdyV, .vf 0, 1, 0x00000600, (rdyV.subRing (.vf 0) 1).getD {}, by decide +kernel⟩

theorem meets_RingControl_1 : ∃ (s : State) (f : Func) (n : Fin 16) (ctrl : Word) (r : CplRing),
    (s.fnAnswers f = true) ∧
    (s.regsNarrow = false) ∧
    (hasRing f ↑n = true) ∧
    (s.cplRing f ↑n = some r) ∧
    (r.enable = false) :=
  ⟨rdyV, .vf 0, 1, 0x00001002, (rdyV.cplRing (.vf 0) 1).getD {}, by decide +kernel⟩

theorem meets_RingControl_2 : ∃ (s : State) (f : Func) (n : Fin 16) (ctrl : Word),
    (s.fnAnswers f = true) ∧
    (s.regsNarrow = false) ∧
    (hasRing f ↑n = true) ∧
    ((s.fn f).evt.enable = false) ∧
    (evtEnableError f
    { baseLo := (s.fn f).evt.baseLo, baseHi := (s.fn f).evt.baseHi, target := ctrlTarget (ctrl ||| 1),
      locDev := ctrlDev (ctrl ||| 1), enable := (s.fn f).evt.enable, errCode := (s.fn f).evt.errCode,
      error := (s.fn f).evt.error, head := (s.fn f).evt.head, next := (s.fn f).evt.next, used := (s.fn f).evt.used,
      phase := (s.fn f).evt.phase, seq := (s.fn f).evt.seq, lost := (s.fn f).evt.lost, masked := (s.fn f).evt.masked } ≠
  0) :=
  ⟨rdy.updEvt .pf fun r => { r with baseLo := 8 }, .pf, 0, 0x00000002, by decide +kernel⟩

theorem meets_RingControl_3 : ∃ (s : State) (f : Func) (n : Fin 16) (ctrl : Word),
    (s.fnAnswers f = true) ∧
    (s.regsNarrow = false) ∧
    (hasRing f ↑n = true) ∧
    ((s.fn f).evt.enable = false) ∧
    (evtEnableError f
    { baseLo := (s.fn f).evt.baseLo, baseHi := (s.fn f).evt.baseHi, target := ctrlTarget (ctrl ||| 1),
      locDev := ctrlDev (ctrl ||| 1), enable := (s.fn f).evt.enable, errCode := (s.fn f).evt.errCode,
      error := (s.fn f).evt.error, head := (s.fn f).evt.head, next := (s.fn f).evt.next, used := (s.fn f).evt.used,
      phase := (s.fn f).evt.phase, seq := (s.fn f).evt.seq, lost := (s.fn f).evt.lost, masked := (s.fn f).evt.masked } =
  0) ∧
    (s.pwr.readyData = none ∨ s.pwr.ready = false) :=
  ⟨rdy, .pf, 0, 0x00000002, by decide +kernel⟩

theorem meets_RingControl_4 : ∃ (s : State) (f : Func) (n : Fin 16) (ctrl : Word),
    (s.fnAnswers f = true) ∧
    (s.regsNarrow = false) ∧
    (hasRing f ↑n = true) ∧
    ((s.fn f).evt.enable = false) ∧
    (evtEnableError f
    { baseLo := (s.fn f).evt.baseLo, baseHi := (s.fn f).evt.baseHi, target := ctrlTarget (ctrl ||| 1),
      locDev := ctrlDev (ctrl ||| 1), enable := (s.fn f).evt.enable, errCode := (s.fn f).evt.errCode,
      error := (s.fn f).evt.error, head := (s.fn f).evt.head, next := (s.fn f).evt.next, used := (s.fn f).evt.used,
      phase := (s.fn f).evt.phase, seq := (s.fn f).evt.seq, lost := (s.fn f).evt.lost, masked := (s.fn f).evt.masked } =
  0) ∧
    ((s.pwr.readyData).isSome = true) ∧
    (s.pwr.ready = true) :=
  ⟨{ rdy with pwr.readyData := some (1, 2) }, .pf, 0, 0x00000002, by decide +kernel⟩

theorem meets_RingControl_5 : ∃ (s : State) (f : Func) (n : Fin 16) (ctrl : Word) (r : SubRing),
    (s.fnAnswers f = true) ∧
    (s.regsNarrow = false) ∧
    (hasRing f ↑n = true) ∧
    (s.subRing f ↑n = some r) ∧
    (r.enable = true) :=
  ⟨{ rdyX with cmd.policies := rdyX.cmd.policies.set policyMemory true }, .pf, 0, 0, (rdyX.subRing .pf 0).getD {}, by decide +kernel⟩

theorem meets_RingControl_6 : ∃ (s : State) (f : Func) (n : Fin 16) (ctrl : Word) (r : SubRing),
    (s.fnAnswers f = true) ∧
    (s.regsNarrow = false) ∧
    (hasRing f ↑n = true) ∧
    (s.subRing f ↑n = some r) ∧
    (r.enable = true) ∧
    (∀ (k : Nat), k < 7 → s.isExpert k = false) :=
  ⟨rdyX, .pf, 0, 0, (rdyX.subRing .pf 0).getD {}, by decide +kernel⟩

theorem meets_RingControl_7 : ∃ (s : State) (f : Func) (n : Fin 16) (ctrl : Word) (r : CplRing),
    (s.fnAnswers f = true) ∧
    (s.regsNarrow = false) ∧
    (hasRing f ↑n = true) ∧
    (s.cplRing f ↑n = some r) ∧
    (r.enable = true) :=
  ⟨rdyX.updCpl .pf 5 (fun r => { r with enable := true, baseLo := 0x20000 }), .pf, 5, 0, ((rdyX.updCpl .pf 5 (fun r => { r with enable := true, baseLo := 0x20000 })).cplRing .pf 5).getD {}, by decide +kernel⟩

theorem meets_RingControl_8 : ∃ (s : State) (f : Func) (n : Fin 16) (ctrl : Word),
    (s.fnAnswers f = true) ∧
    (s.regsNarrow = false) ∧
    (hasRing f ↑n = true) ∧
    ((s.fn f).evt.enable = true) :=
  ⟨rdyE, .pf, 0, 0, by decide +kernel⟩

theorem meets_RingControl_9 : ∃ (s : State) (f : Func) (n : Fin 16) (ctrl : Word) (r : SubRing),
    (s.fnAnswers f = true) ∧
    (s.regsNarrow = false) ∧
    (hasRing f ↑n = true) ∧
    (s.subRing f ↑n = some r) ∧
    (r.enable = false) :=
  ⟨rdyV, .vf 0, 1, 0x00000600, (rdyV.subRing (.vf 0) 1).getD {}, by decide +kernel⟩

theorem meets_RingControl_10 : ∃ (s : State) (f : Func) (n : Fin 16) (ctrl : Word) (r : CplRing),
    (s.fnAnswers f = true) ∧
    (s.regsNarrow = false) ∧
    (hasRing f ↑n = true) ∧
    (s.cplRing f ↑n = some r) ∧
    (r.enable = false) :=
  ⟨rdyX, .pf, 5, 1, (rdyX.cplRing .pf 5).getD {}, by decide +kernel⟩

theorem meets_RingControl_11 : ∃ (s : State) (f : Func) (n : Fin 16) (ctrl : Word),
    (s.fnAnswers f = true) ∧
    (s.regsNarrow = false) ∧
    (hasRing f ↑n = true) ∧
    ((s.fn f).evt.enable = false) :=
  ⟨rdy, .pf, 0, 3, by decide +kernel⟩

theorem meets_RingControl_12 : ∃ (s : State) (f : Func) (n : Fin 16) (ctrl : Word) (r : SubRing),
    (s.subRing f ↑n = some r) ∧
    (r.enable = true) :=
  ⟨rdy, .pf, 0, 3, sub0, by decide +kernel⟩

theorem meets_RingControl_13 : ∃ (s : State) (f : Func) (n : Fin 16) (ctrl : Word) (r : CplRing),
    (s.cplRing f ↑n = some r) ∧
    (r.enable = true) :=
  ⟨rdy, .pf, 0, 3, cpl0, by decide +kernel⟩

theorem meets_RingControl_14 : ∃ (s : State) (f : Func) (n : Fin 16) (ctrl : Word),
    ((s.fn f).evt.enable = true) :=
  ⟨rdyE, .pf, 0, 0x00000002, by decide +kernel⟩

theorem meets_RingControl_15 : ∃ (s : State) (f : Func) (n : Fin 16) (ctrl : Word) (k : RingKind),
    (s.fnAnswers f = false ∨ hasRing f ↑n = false ∨ s.regsNarrow = true) :=
  ⟨rdyV, .vf 0, 2, 1, .submission, by decide +kernel⟩

theorem meets_DoorbellsAndStarts_0 : ∃ (s : State) (f : Func) (n : Fin 16) (v : Word) (r : SubRing),
    (s.fnAnswers f = true) ∧
    (hasRing f ↑n = true) ∧
    (s.sup.supState ≠ 2) ∧
    (s.inDusk = false) ∧
    (s.subRing f ↑n = some r) ∧
    (r.enable = true) ∧
    (s.fetches r = false) ∧
    (BitVec.toNat v % 65536 < r.size) ∧
    (r.waiting + (BitVec.toNat v % 65536 + r.size - r.tail) % r.size < r.size) :=
  ⟨{ rdy with pwr.ready := false }, .pf, 0, 15, sub0, by decide +kernel⟩

theorem meets_DoorbellsAndStarts_1 : ∃ (s : State) (f : Func) (n : Fin 16) (v : Word) (r : SubRing),
    (s.fnAnswers f = true) ∧
    (hasRing f ↑n = true) ∧
    (s.sup.supState ≠ 2) ∧
    (s.inDusk = false) ∧
    (s.subRing f ↑n = some r) ∧
    (r.enable = true) ∧
    (BitVec.toNat v % 65536 < r.size) ∧
    (r.waiting + (BitVec.toNat v % 65536 + r.size - r.tail) % r.size < r.size) :=
  ⟨{ rdy with pwr.ready := false }, .pf, 0, 15, sub0, by decide +kernel⟩

theorem meets_DoorbellsAndStarts_2 : ∃ (s : State) (f : Func) (n : Fin 16) (v : Word) (r : SubRing),
    (s.MemWf) ∧
    (s.fnAnswers f = true) ∧
    (hasRing f ↑n = true) ∧
    (s.sup.supState ≠ 2) ∧
    (s.pwr.dusk = DuskState.awake) ∧
    (s.thm.shutdown = none) ∧
    (s.subRing f ↑n = some r) ∧
    (s.fetches r = true) ∧
    (r.locDev = false) ∧
    (2 ≤ r.size) ∧
    (r.head < r.size) ∧
    (r.tail = r.head) ∧
    (BitVec.toNat v % 65536 = (r.head + 1) % r.size) ∧
    (fieldAt (s.readAt (s.ringLoc f false (ringBase r.baseLo r.baseHi) (64 * r.head)) 64) 2 2 ≤ 16) :=
  ⟨rdy.writeAt ⟨false, 0x10000⟩ [0,1,4,0], .pf, 0, 1, sub0, by decide +kernel⟩

theorem meets_DoorbellsAndStarts_3 : ∃ (s : State) (f : Func) (n : Fin 16) (v : Word) (r : SubRing),
    (s.fnAnswers f = true) ∧
    (hasRing f ↑n = true) ∧
    (s.sup.supState ≠ 2) ∧
    (s.inDusk = false) ∧
    (s.subRing f ↑n = some r) ∧
    (r.enable = true) ∧
    (r.size ≤ BitVec.toNat v % 65536 ∨ r.size ≤ r.waiting + (BitVec.toNat v % 65536 + r.size - r.tail) % r.size) :=
  ⟨rdy, .pf, 0, 16, sub0, by decide +kernel⟩

theorem meets_DoorbellsAndStarts_4 : ∃ (s : State) (f : Func) (n : Fin 16) (v : Word) (r : CplRing),
    (s.fnAnswers f = true) ∧
    (hasRing f ↑n = true) ∧
    (s.sup.supState ≠ 2) ∧
    (s.inDusk = false) ∧
    (s.cplRing f ↑n = some r) ∧
    (r.enable = true) ∧
    (headValid r.size r.head r.used (BitVec.toNat v % 65536) = true) ∧
    (r.held = []) :=
  ⟨rdy.updCpl .pf 0 fun r => { r with used := 5, next := 3, head := 14 }, .pf, 0, 3, { cpl0 with used := 5, next := 3, head := 14 }, by decide +kernel⟩

theorem meets_DoorbellsAndStarts_5 : ∃ (s : State) (f : Func) (n : Fin 16) (v : Word) (r : CplRing) (c : Completion),
    (s.fnAnswers f = true) ∧
    (hasRing f ↑n = true) ∧
    (s.sup.supState ≠ 2) ∧
    (s.inDusk = false) ∧
    (s.cplRing f ↑n = some r) ∧
    (r.enable = true) ∧
    (headValid r.size r.head r.used (BitVec.toNat v % 65536) = true) ∧
    (r.held = [c]) ∧
    (({ r with
        head := BitVec.toNat v % 65536
        used := (r.next + r.size - BitVec.toNat v % 65536) % r.size } : CplRing).full =
  false) :=
  ⟨rdy.updCpl .pf 0 fun r => { r with used := 5, next := 3, head := 14, held := [{ tag := 1, status := 2, ring := 0, irq := false, result0 := 3, result1 := 4 }] }, .pf, 0, 3, { cpl0 with used := 5, next := 3, head := 14, held := [{ tag := 1, status := 2, ring := 0, irq := false, result0 := 3, result1 := 4 }] }, { tag := 1, status := 2, ring := 0, irq := false, result0 := 3, result1 := 4 }, by decide +kernel⟩

theorem meets_DoorbellsAndStarts_6 : ∃ (s : State) (f : Func) (n : Fin 16) (v : Word) (r : CplRing),
    (s.fnAnswers f = true) ∧
    (hasRing f ↑n = true) ∧
    (s.sup.supState ≠ 2) ∧
    (s.inDusk = false) ∧
    (s.cplRing f ↑n = some r) ∧
    (r.enable = true) ∧
    (headValid r.size r.head r.used (BitVec.toNat v % 65536) = true) :=
  ⟨rdy.updCpl .pf 0 fun r => { r with used := 5, next := 3, head := 14 }, .pf, 0, 0, { cpl0 with used := 5, next := 3, head := 14 }, by decide +kernel⟩

theorem meets_DoorbellsAndStarts_7 : ∃ (s : State) (f : Func) (n : Fin 16) (v : Word) (r : CplRing),
    (s.fnAnswers f = true) ∧
    (hasRing f ↑n = true) ∧
    (s.sup.supState ≠ 2) ∧
    (s.inDusk = false) ∧
    (s.cplRing f ↑n = some r) ∧
    (r.enable = true) ∧
    (headValid r.size r.head r.used (BitVec.toNat v % 65536) = false) :=
  ⟨rdy.updCpl .pf 0 fun r => { r with used := 5, next := 3, head := 14, error := true }, .pf, 0, 4, { cpl0 with used := 5, next := 3, head := 14, error := true }, by decide +kernel⟩

theorem meets_DoorbellsAndStarts_8 : ∃ (s : State) (f : Func) (n : Fin 16) (v : Word),
    (s.fnAnswers f = true) ∧
    (s.sup.supState ≠ 2) ∧
    (s.inDusk = false) ∧
    ((s.fn f).evt.enable = true) ∧
    (headValid evtSize (s.fn f).evt.head (s.fn f).evt.used (BitVec.toNat v % 65536) = true) ∧
    ((s.fn f).evt.lost = 0) :=
  ⟨rdyE.updEvt .pf fun r => { r with used := 5, next := 3, head := 254 }, .pf, 0, 255, by decide +kernel⟩

theorem meets_DoorbellsAndStarts_9 : ∃ (s : State) (f : Func) (n : Fin 16) (v : Word),
    (s.fnAnswers f = true) ∧
    (s.sup.supState ≠ 2) ∧
    (s.inDusk = false) ∧
    ((s.fn f).evt.enable = true) ∧
    (headValid evtSize (s.fn f).evt.head (s.fn f).evt.used (BitVec.toNat v % 65536) = true) :=
  ⟨rdyE.updEvt .pf fun r => { r with used := 5, next := 3, head := 254 }, .pf, 0, 255, by decide +kernel⟩

theorem meets_DoorbellsAndStarts_10 : ∃ (s : State) (f : Func) (n : Fin 16) (v : Word),
    (s.fnAnswers f = true) ∧
    (s.sup.supState ≠ 2) ∧
    (s.inDusk = false) ∧
    ((s.fn f).evt.enable = true) ∧
    (headValid evtSize (s.fn f).evt.head (s.fn f).evt.used (BitVec.toNat v % 65536) = false) :=
  ⟨rdyE, .pf, 0, 1, by decide +kernel⟩

theorem meets_DoorbellsAndStarts_11 : ∃ (s : State) (f : Func) (n : Fin 16) (v : Word) (r : SubRing),
    (s.fnAnswers f = true) ∧
    (hasRing f ↑n = true) ∧
    (s.sup.supState ≠ 2) ∧
    (s.inDusk = false) ∧
    (s.subRing f ↑n = some r) ∧
    (r.enable = false) :=
  ⟨rdy, .pf, 1, 1, {}, by decide +kernel⟩

theorem meets_DoorbellsAndStarts_12 : ∃ (s : State) (f : Func) (n : Fin 16) (v : Word) (r : CplRing),
    (s.fnAnswers f = true) ∧
    (hasRing f ↑n = true) ∧
    (s.sup.supState ≠ 2) ∧
    (s.inDusk = false) ∧
    (s.cplRing f ↑n = some r) ∧
    (r.enable = false) :=
  ⟨rdy, .pf, 1, 1, {}, by decide +kernel⟩

theorem meets_DoorbellsAndStarts_13 : ∃ (s : State) (f : Func) (n : Fin 16) (v : Word),
    (s.fnAnswers f = true) ∧
    (hasRing f ↑n = true) ∧
    (s.sup.supState ≠ 2) ∧
    (s.inDusk = false) ∧
    ((s.fn f).evt.enable = false) :=
  ⟨rdy, .pf, 0, 1, by decide +kernel⟩

theorem meets_DoorbellsAndStarts_14 : ∃ (s : State) (f : Func) (n : Fin 16) (v : Word),
    (s.fnAnswers f = true) ∧
    (s.sup.supState ≠ 2) ∧
    (s.inDusk = true) ∧
    (hasRing f ↑n = true) :=
  ⟨{ rdy with pwr.dusk := .asleep, pwr.wakeMask := 5 }, .pf, 15, 255, by decide +kernel⟩

theorem meets_DoorbellsAndStarts_15 : ∃ (s : State) (f : Func) (n : Fin 16) (v : Word),
    (s.fnAnswers f = true) ∧
    (s.sup.supState ≠ 2) ∧
    (s.inDusk = true) ∧
    (hasRing f ↑n = true) :=
  ⟨{ rdy with pwr.dusk := .asleep, pwr.wakeMask := 5 }, .pf, 15, 255, by decide +kernel⟩

theorem meets_DoorbellsAndStarts_16 : ∃ (s : State) (f : Func) (n : Fin 16) (v : Word),
    (s.fnAnswers f = true) ∧
    (s.sup.supState ≠ 2) ∧
    (s.inDusk = true) :=
  ⟨{ rdy with pwr.dusk := .asleep, pwr.wakeMask := 5 }, .pf, 15, 255, by decide +kernel⟩

theorem meets_DoorbellsAndStarts_17 : ∃ (s : State) (f : Func) (n : Fin 16) (v : Word),
    (s.fnAnswers f = false ∨ s.sup.supState = 2) :=
  ⟨rdy, .vf 0, 0, 1, by decide +kernel⟩

theorem meets_DoorbellsAndStarts_18 : ∃ (s : State) (f : Func) (n : Fin 16) (v : Word),
    (hasRing f ↑n = false) :=
  ⟨rdyV, .vf 0, 2, 1, by decide +kernel⟩

theorem meets_DoorbellsAndStarts_19 : ∃ (s : State) (x : Src) (e : Fetched) (es : List Fetched) (o : Op),
    (s.queued x = e :: es) ∧
    (s.canStart e.pkt = true) ∧
    (e.wraps = false) ∧
    (Op.ofCode (BitVec.toNat e.opcode) = some o) :=
  ⟨rdy.updSub .pf 0 fun r => { r with fetched := [⟨0x0101, pf 5 [(16,1,0)], false⟩] }, .ring .pf 0, ⟨0x0101, pf 5 [(16,1,0)], false⟩, [], .devInfo, by decide +kernel⟩

theorem meets_DoorbellsAndStarts_20 : ∃ (s : State) (x : Src) (e : Fetched) (o : Op) (f : Func) (n : Fin 16),
    (x = Src.ring f n) ∧
    (s.queued x = [e]) ∧
    (e.pkt.src = x) ∧
    (s.takes x = true) ∧
    (s.canStart e.pkt = true) ∧
    (e.wraps = false) ∧
    (Op.ofCode (BitVec.toNat e.opcode) = some o) :=
  ⟨rdy.updSub .pf 0 fun r => { r with fetched := [⟨0x0101, pf 5 [(16,1,0)], false⟩] }, .ring .pf 0, ⟨0x0101, pf 5 [(16,1,0)], false⟩, .devInfo, .pf, 0, by decide +kernel⟩

theorem meets_DoorbellsAndStarts_21 : ∃ (s : State) (x : Src) (e : Fetched) (es : List Fetched),
    (s.queued x = e :: es) ∧
    (s.canStart e.pkt = true) ∧
    (e.wraps = false) ∧
    (e.opcode = 256) ∧
    (checkHeader (s.dropFront x) Op.devNop e.pkt = none) :=
  ⟨rdy.updSub .pf 0 fun r => { r with fetched := [⟨0x0100, pk [], false⟩] }, .ring .pf 0, ⟨0x0100, pk [], false⟩, [], by decide +kernel⟩

theorem meets_DoorbellsAndStarts_22 : ∃ (s : State) (x : Src) (e : Fetched) (es : List Fetched),
    (s.queued x = e :: es) ∧
    (s.canStart e.pkt = true) ∧
    (e.wraps = true) :=
  ⟨rdy.updSub .pf 0 fun r => { r with fetched := [⟨0x0100, pk [], true⟩] }, .ring .pf 0, ⟨0x0100, pk [], true⟩, [], by decide +kernel⟩

theorem meets_DoorbellsAndStarts_23 : ∃ (s : State) (x : Src) (e : Fetched) (es : List Fetched),
    (s.queued x = e :: es) ∧
    (s.canStart e.pkt = true) ∧
    (e.wraps = false) ∧
    (Op.ofCode (BitVec.toNat e.opcode) = none) ∧
    (checkLength e.pkt = none) :=
  ⟨rdy.updSub .pf 0 fun r => { r with fetched := [⟨0x1100, pk [], false⟩] }, .ring .pf 0, ⟨0x1100, pk [], false⟩, [], by decide +kernel⟩

theorem meets_DoorbellsAndStarts_24 : ∃ (s : State) (x : Src) (e : Fetched) (es : List Fetched),
    (s.queued x = e :: es) ∧
    (s.canStart e.pkt = false) :=
  ⟨{ rdy.updSub .pf 0 fun r => { r with fetched := [⟨0x1100, pk [], false⟩] } with pwr.ready := false }, .ring .pf 0, ⟨0x1100, pk [], false⟩, [], by decide +kernel⟩

theorem meets_DoorbellsAndStarts_25 : ∃ (s : State) (x : Src),
    (s.queued x = []) :=
  ⟨rdy, .ring .pf 0, by decide +kernel⟩

theorem meets_Registers_0 : ∃ (s : State) (v : Word),
    (s.fnAnswers Func.pf = true) :=
  ⟨rdy, 0xFFFFFFFF, by decide +kernel⟩

theorem meets_Registers_1 : ∃ (s : State) (v : Word),
    (s.fnAnswers Func.pf = true) :=
  ⟨{ rdy with regs.intStatus := 0x7F }, 0x41, by decide +kernel⟩

theorem meets_Registers_2 : ∃ (s : State) (v : Word),
    (s.fnAnswers Func.pf = true) :=
  ⟨rdy, 1, by decide +kernel⟩

theorem meets_Registers_3 : ∃ (s : State) (v : Word),
    (s.fnAnswers Func.pf = true) :=
  ⟨rdy, 20, by decide +kernel⟩

theorem meets_Registers_4 : ∃ (s : State) (v : Word),
    (s.fnAnswers Func.pf = true) :=
  ⟨{ rdy with pwr.phase := .pcieBootWait }, 8192, by decide +kernel⟩

theorem meets_Registers_5 : ∃ (s : State) (v : Word),
    (s.fnAnswers Func.pf = true) :=
  ⟨{ rdy with pwr.dusk := .asleep, pwr.wakeMask := 2 }, 0x10000, by decide +kernel⟩

theorem meets_Registers_6 : ∃ (s : State) (v : Word),
    (s.fnAnswers Func.pf = true) :=
  ⟨rdy, 0x3EA60, by decide +kernel⟩

theorem meets_Registers_7 : ∃ (s : State) (v : Word),
    (s.fnAnswers Func.pf = true) :=
  ⟨rdy, 1, by decide +kernel⟩

theorem meets_Registers_8 : ∃ (s : State) (v : Word),
    (s.fnAnswers Func.pf = true) ∧
    (BitVec.toNat v % 256 = 1) :=
  ⟨rdy, 1, by decide +kernel⟩

theorem meets_Registers_9 : ∃ (s : State) (v : Word),
    (s.fnAnswers Func.pf = true) ∧
    (BitVec.toNat v % 256 = 16) :=
  ⟨rdyE, 0x10, by decide +kernel⟩

theorem meets_Registers_10 : ∃ (s : State) (v : Word),
    (s.fnAnswers Func.pf = true) ∧
    (BitVec.toNat v % 256 = 17) :=
  ⟨rdyE, 0x11, by decide +kernel⟩

theorem meets_Registers_11 : ∃ (s : State) (v : Word),
    (s.fnAnswers Func.pf = true) ∧
    (BitVec.toNat v % 256 = 18) :=
  ⟨rdyE, 0x12, by decide +kernel⟩

theorem meets_Registers_12 : ∃ (s : State) (v : Word) (f : Func) (off : Nat) (size : Nat),
    (size ≠ 4 ∨ off % 4 ≠ 0 ∨ s.fnAnswers f = false) :=
  ⟨rdy, 1, .pf, 0x42, 4, by decide +kernel⟩

theorem meets_Registers_13 : ∃ (s : State) (v : Word) (f : Func) (n : Fin 16),
    (s.fnAnswers f = true) ∧
    (hasRing f ↑n = true) ∧
    (s.regsNarrow = false) :=
  ⟨rdy, 0x7000, .pf, 15, by decide +kernel⟩

theorem meets_Registers_14 : ∃ (s : State) (v : Word) (f : Func) (n : Fin 16),
    (s.fnAnswers f = true) ∧
    (hasRing f ↑n = true) ∧
    (s.regsNarrow = false) :=
  ⟨rdyV, 7, .vf 0, 1, by decide +kernel⟩

theorem meets_Registers_15 : ∃ (s : State) (v : Word) (f : Func) (n : Fin 16),
    (s.fnAnswers f = true) ∧
    (hasRing f ↑n = true) ∧
    (s.regsNarrow = false) :=
  ⟨rdyV, 7, .vf 0, 1, by decide +kernel⟩

theorem meets_Registers_16 : ∃ (s : State) (v : Word) (f : Func) (n : Fin 16),
    (s.fnAnswers f = true) ∧
    (hasRing f ↑n = true) ∧
    (s.regsNarrow = false) :=
  ⟨rdy, 7, .pf, 15, by decide +kernel⟩

theorem meets_Registers_17 : ∃ (s : State) (v : Word) (f : Func) (n : Fin 16),
    (s.fnAnswers f = true) ∧
    (hasRing f ↑n = true) ∧
    (s.regsNarrow = false) :=
  ⟨rdy, 7, .pf, 15, by decide +kernel⟩

theorem meets_Registers_18 : ∃ (s : State) (v : Word) (f : Func) (n : Fin 16),
    (s.fnAnswers f = true) ∧
    (hasRing f ↑n = true) ∧
    (s.regsNarrow = false) :=
  ⟨rdy, 7, .pf, 15, by decide +kernel⟩

theorem meets_Registers_19 : ∃ (s : State) (v : Word) (f : Func) (n : Fin 16),
    (s.fnAnswers f = true) ∧
    (hasRing f ↑n = true) ∧
    (s.regsNarrow = false) :=
  ⟨rdy, 7, .pf, 15, by decide +kernel⟩

theorem meets_Registers_20 : ∃ (s : State) (v : Word) (f : Func) (n : Fin 16),
    (s.fnAnswers f = true) ∧
    (hasRing f ↑n = true) ∧
    (s.regsNarrow = false) :=
  ⟨rdyV, 7, .vf 0, 1, by decide +kernel⟩

theorem meets_Registers_21 : ∃ (s : State) (v : Word) (f : Func) (n : Fin 16),
    (s.fnAnswers f = true) ∧
    (hasRing f ↑n = true) ∧
    (s.regsNarrow = false) ∧
    (BitVec.getLsbD v 0 = true) :=
  ⟨rdy.updSub .pf 15 fun r => { r with error := true, errCode := 3 }, 1, .pf, 15, by decide +kernel⟩

theorem meets_Registers_22 : ∃ (s : State) (v : Word) (f : Func) (n : Fin 16),
    (s.fnAnswers f = true) ∧
    (hasRing f ↑n = true) ∧
    (s.regsNarrow = false) ∧
    (BitVec.getLsbD v 0 = false) :=
  ⟨rdy, 0x702, .pf, 0, by decide +kernel⟩

theorem meets_Registers_24 : ∃ (s : State) (v : Word),
    (BitVec.getLsbD v 0 = true) ∧
    (s.fnAnswers Func.pf = true) :=
  ⟨{ rdy with regs.trip := true, regs.tripSensor := 3 }, 1, by decide +kernel⟩

theorem meets_Registers_25 : ∃ (s : State) (v : Word),
    (BitVec.getLsbD v 0 = false ∨ s.fnAnswers Func.pf = false) :=
  ⟨{ rdy with regs.trip := true, regs.tripSensor := 3 }, 2, by decide +kernel⟩

theorem meets_Registers_26 : ∃ (s : State) (v : Word),
    (s.fnAnswers Func.pf = true) ∧
    (BitVec.toNat v % 32 ≤ 20) ∧
    (s.pwr.warn = true) :=
  ⟨{ rdy with pwr.warn := true }, 20, by decide +kernel⟩

theorem meets_Registers_27 : ∃ (s : State) (v : Word),
    (s.fnAnswers Func.pf = true) ∧
    (BitVec.toNat v % 32 ≤ 20) ∧
    (s.pwr.warn = false) ∧
    (levelMv (BitVec.toNat v % 32) ≤ s.pwr.vsenseMv) :=
  ⟨{ rdy with pwr.vsenseMv := 1100 }, 20, by decide +kernel⟩

theorem meets_Registers_28 : ∃ (s : State) (v : Word),
    (s.fnAnswers Func.pf = true) ∧
    (BitVec.toNat v % 32 ≤ 20) ∧
    (s.pwr.warn = false) ∧
    (s.pwr.vsenseMv < levelMv (BitVec.toNat v % 32)) :=
  ⟨{ rdy with pwr.vsenseMv := 1050 }, 20, by decide +kernel⟩

theorem meets_Registers_29 : ∃ (s : State) (v : Word),
    (20 < BitVec.toNat v % 32 ∨ s.fnAnswers Func.pf = false) :=
  ⟨rdy, 21, by decide +kernel⟩

theorem meets_Registers_30 : ∃ (s : State) (v : Word),
    (s.fnAnswers Func.pf = true) ∧
    (s.pwr.phase = DawnPhase.pcieBootWait) ∧
    (BitVec.toNat v % 4096 = 0) ∧
    (8192 ≤ BitVec.toNat v) ∧
    (BitVec.toNat v ≤ 8388608) :=
  ⟨{ rdy with pwr.phase := .pcieBootWait }, 8192, by decide +kernel⟩

theorem meets_Registers_31 : ∃ (s : State) (v : Word),
    (s.fnAnswers Func.pf = false ∨
  s.pwr.phase ≠ DawnPhase.pcieBootWait ∨ BitVec.toNat v % 4096 ≠ 0 ∨ BitVec.toNat v < 8192 ∨ 8388608 < BitVec.toNat v) :=
  ⟨rdy, 8192, by decide +kernel⟩

theorem meets_Registers_32 : ∃ (s : State) (v : Word),
    (s.fnAnswers Func.pf = true) ∧
    (BitVec.getLsbD v 16 = true) ∧
    (s.pwr.dusk = DuskState.asleep) ∧
    (s.pwr.wakeMask.getLsbD 1 = true) :=
  ⟨{ rdy with pwr.dusk := .asleep, pwr.wakeMask := 2 }, 0x10000, by decide +kernel⟩

theorem meets_Registers_33 : ∃ (s : State) (v : Word),
    (BitVec.getLsbD v 16 = true) ∧
    (s.pwr.dusk = DuskState.waking ∨
  s.pwr.dusk = DuskState.awake ∧ s.thm.shutdown = none ∨
    s.pwr.dusk = DuskState.asleep ∧ s.pwr.wakeMask.getLsbD 1 = false) :=
  ⟨rdy, 0x10000, by decide +kernel⟩

theorem meets_Registers_34 : ∃ (s : State) (v : Word),
    (BitVec.getLsbD v 16 = false ∨ s.fnAnswers Func.pf = false) :=
  ⟨rdy, 0xFFFF, by decide +kernel⟩

theorem meets_Registers_35 : ∃ (s : State) (v : Word),
    (s.fnAnswers Func.pf = true) :=
  ⟨rdy, 0, by decide +kernel⟩

theorem meets_Registers_36 : ∃ (s : State) (v : Word),
    (s.fnAnswers Func.pf = false) :=
  ⟨{ rdy with pwr.perst := true, pwr.linkUp := false }, 0, by decide +kernel⟩

theorem meets_WatchdogAndMailbox_0 : ∃ (s : State) (v : Word),
    (s.pfReg 384 = true) ∧
    (BitVec.getLsbD v 16 = true) ∧
    (10 ≤ BitVec.toNat v % 65536) ∧
    (BitVec.toNat v % 65536 ≤ 60000) ∧
    (s.regs.wdogEnable = false) :=
  ⟨rdy, 0x3EA60, by decide +kernel⟩

theorem meets_WatchdogAndMailbox_1 : ∃ (s : State) (v : Word),
    (s.pfReg 384 = true) ∧
    (BitVec.getLsbD v 16 = true) ∧
    (10 ≤ BitVec.toNat v % 65536) ∧
    (BitVec.toNat v % 65536 ≤ 60000) ∧
    (s.regs.wdogEnable = true) :=
  ⟨{ rdy with regs.wdogEnable := true }, 0x3EA60, by decide +kernel⟩

theorem meets_WatchdogAndMailbox_2 : ∃ (s : State) (v : Word),
    (s.pfReg 384 = false ∨ BitVec.getLsbD v 16 = true ∧ (BitVec.toNat v % 65536 < 10 ∨ 60000 < BitVec.toNat v % 65536)) :=
  ⟨rdy, 0x10009, by decide +kernel⟩

theorem meets_WatchdogAndMailbox_3 : ∃ (s : State) (v : Word),
    (s.pfReg 384 = true) ∧
    (BitVec.getLsbD v 16 = false) :=
  ⟨{ rdy with regs.wdogEnable := true }, 0x20005, by decide +kernel⟩

theorem meets_WatchdogAndMailbox_4 : ∃ (s : State),
    (s.pfReg 388 = true) ∧
    (s.regs.wdogEnable = true) :=
  ⟨{ rdy with regs.wdogEnable := true, regs.wdogPeriod := 10, regs.wdogSecond := true }, by decide +kernel⟩

theorem meets_WatchdogAndMailbox_5 : ∃ (s : State),
    (s.regs.wdogEnable = false) :=
  ⟨rdy, by decide +kernel⟩

theorem meets_WatchdogAndMailbox_6 : ∃ (s : State) (v : Word),
    (s.pfReg 388 = true) ∧
    (v ≠ 1262700875) :=
  ⟨{ rdy with regs.wdogBadKicks := 255 }, 1, by decide +kernel⟩

theorem meets_WatchdogAndMailbox_7 : ∃ (s : State) (v : Word),
    (s.pfReg 388 = false) :=
  ⟨{ rdy with pwr.perst := true, pwr.linkUp := false }, 1, by decide +kernel⟩

theorem meets_WatchdogAndMailbox_8 : ∃ (s : State),
    (s.wdogOut = true) ∧
    (s.regs.wdogSecond = false) :=
  ⟨{ rdy with regs.wdogEnable := true, regs.wdogPeriod := 10, regs.wdogRunPeriod := 10, regs.wdogDeadline := 9999999999 }, by decide +kernel⟩

theorem meets_WatchdogAndMailbox_9 : ∃ (s : State),
    (s.wdogOut = false ∨ s.regs.wdogSecond = true) :=
  ⟨rdy, by decide +kernel⟩

theorem meets_WatchdogAndMailbox_10 : ∃ (s : State),
    (s.wdogOut = true) ∧
    (s.regs.wdogSecond = true) ∧
    (s.regs.wdogAction = false) :=
  ⟨{ rdy with regs.wdogEnable := true, regs.wdogSecond := true, regs.wdogRunPeriod := 10, regs.wdogDeadline := 9999999999 }, by decide +kernel⟩

theorem meets_WatchdogAndMailbox_11 : ∃ (s : State),
    (s.wdogOut = true) ∧
    (s.regs.wdogSecond = true) ∧
    (s.regs.wdogAction = true) ∧
    (s.pwr.loss = none) :=
  ⟨{ rdyE with regs.wdogEnable := true, regs.wdogAction := true, regs.wdogSecond := true, regs.wdogRunPeriod := 10, regs.wdogDeadline := 9999999999 }, by decide +kernel⟩

theorem meets_WatchdogAndMailbox_12 : ∃ (s : State),
    (s.wdogOut = true) ∧
    (s.regs.wdogSecond = true) ∧
    (s.regs.wdogAction = true) ∧
    (s.pwr.loss.isSome = true) :=
  ⟨{ rdyE with pwr.loss := some { since := 9000000000 }, regs.wdogEnable := true, regs.wdogAction := true, regs.wdogSecond := true, regs.wdogRunPeriod := 10, regs.wdogDeadline := 9999999999 }, by decide +kernel⟩

theorem meets_WatchdogAndMailbox_13 : ∃ (s : State),
    (s.wdogOut = false ∨ s.regs.wdogSecond = false) :=
  ⟨rdy, by decide +kernel⟩

theorem meets_WatchdogAndMailbox_14 : ∃ (s : State),
    (s.pwr.ready = true) ∧
    (s.sup.supState = 0) ∧
    (s.inDusk = false) ∧
    (s.regs.heartbeatNs + 1000000 ≤ s.mtNs) :=
  ⟨{ rdy with regs.heartbeatNs := 9999000000 }, by decide +kernel⟩

theorem meets_WatchdogAndMailbox_15 : ∃ (s : State),
    (s.pwr.ready = false ∨ s.sup.supState ≠ 0 ∨ s.inDusk = true ∨ s.mtNs < s.regs.heartbeatNs + 1000000) :=
  ⟨{ rdy with regs.heartbeatNs := 9999000001 }, by decide +kernel⟩

theorem meets_WatchdogAndMailbox_16 : ∃ (s : State),
    (s.mboxTakes = true) :=
  ⟨rdy, by decide +kernel⟩

theorem meets_WatchdogAndMailbox_17 : ∃ (s : State) (k : Half),
    (s.mboxTakes = true) ∧
    (k ≠ mboxKey) :=
  ⟨rdy, 1, by decide +kernel⟩

theorem meets_WatchdogAndMailbox_18 : ∃ (s : State) (k : Half),
    (s.mboxTakes = false) :=
  ⟨{ rdy with pwr.perst := true, pwr.linkUp := false }, 1, by decide +kernel⟩

theorem meets_WatchdogAndMailbox_19 : ∃ (s : State),
    (s.mboxTakes = true) ∧
    (s.sup.supState = 0) ∧
    (s.pwr.phase = DawnPhase.ready) ∧
    (s.linkAlive = true) ∧
    (s.pwr.dusk ≠ DuskState.asleep) ∧
    (s.pwr.dusk ≠ DuskState.waking) ∧
    (∀ (m : Nat), s.sup.lastMismatch = some m → m + 1000000000 < s.mtNs) :=
  ⟨rdyE, by decide +kernel⟩

theorem meets_WatchdogAndMailbox_20 : ∃ (s : State) (m : Nat),
    (s.mboxTakes = true) ∧
    (s.sup.supState = 0) ∧
    (s.pwr.phase = DawnPhase.ready) ∧
    (s.linkAlive = true) ∧
    (s.pwr.dusk ≠ DuskState.asleep) ∧
    (s.pwr.dusk ≠ DuskState.waking) ∧
    (s.sup.lastMismatch = some m) ∧
    (s.mtNs ≤ m + 1000000000) :=
  ⟨{ rdyE with sup.lastMismatch := some 9000000000 }, 9000000000, by decide +kernel⟩

theorem meets_WatchdogAndMailbox_21 : ∃ (s : State),
    (s.mboxTakes = true) ∧
    (s.sup.supState ≠ 0 ∨ s.pwr.phase ≠ DawnPhase.ready) :=
  ⟨{ rdyE with pwr.phase := .dusk }, by decide +kernel⟩

theorem meets_WatchdogAndMailbox_22 : ∃ (s : State),
    (s.mboxTakes = true) ∧
    (s.pnl.mode ≠ PanelMode.off) ∧
    (s.pnl.lockout = false) :=
  ⟨{ rdyE with pnl.mode := .driving, pnl.vcomOn := true, pnl.good := List.replicate 4 true }, by decide +kernel⟩

theorem meets_WatchdogAndMailbox_23 : ∃ (s : State),
    (s.mboxTakes = true) ∧
    (s.pnl.mode = PanelMode.off ∨ s.pnl.lockout = true) :=
  ⟨rdyE, by decide +kernel⟩

theorem meets_WatchdogAndMailbox_24 : ∃ (s : State),
    (s.mboxTakes = true) ∧
    (s.pwr.vddAon = true) ∧
    (s.pwr.resetLow = false) ∧
    (s.pwr.vsenseReset = false) ∧
    (s.regs.tripHeld = false) ∧
    (s.pwr.warn = false) ∧
    (1000 ≤ s.pwr.vsenseMv) :=
  ⟨{ rdyE with pwr.vsenseMv := 1000 }, by decide +kernel⟩

theorem meets_PnlSettings_0 : ∃ (s : State) (p : Packet) (r : RailSet),
    (s.Starts Op.pnlRailSet p) ∧
    (r = railsOf p.body) ∧
    (8000 ≤ r.avdd) ∧
    (r.avdd ≤ 18000) ∧
    (r.avdd % 50 = 0) ∧
    (6000 ≤ r.navdd) ∧
    (r.navdd ≤ 16000) ∧
    (r.navdd % 50 = 0) ∧
    (20000 ≤ r.vgh) ∧
    (r.vgh ≤ 38000) ∧
    (r.vgh % 100 = 0) ∧
    (4000 ≤ r.vgl) ∧
    (r.vgl ≤ 16000) ∧
    (r.vgl % 100 = 0) ∧
    (1 ≤ r.delay) ∧
    (r.delay ≤ 100) ∧
    (r.avdd + 4000 ≤ r.vgh) ∧
    (s.pnl.mode = PanelMode.off ∨ s.pnl.mode = PanelMode.fault ∨ s.pnl.rails = none) :=
  ⟨rdyX, railsP, railsV, by decide +kernel⟩

theorem meets_PnlSettings_1 : ∃ (s : State) (p : Packet) (r : RailSet) (o : RailSet),
    (s.Starts Op.pnlRailSet p) ∧
    (r = railsOf p.body) ∧
    (8000 ≤ r.avdd) ∧
    (r.avdd ≤ 18000) ∧
    (r.avdd % 50 = 0) ∧
    (6000 ≤ r.navdd) ∧
    (r.navdd ≤ 16000) ∧
    (r.navdd % 50 = 0) ∧
    (20000 ≤ r.vgh) ∧
    (r.vgh ≤ 38000) ∧
    (r.vgh % 100 = 0) ∧
    (4000 ≤ r.vgl) ∧
    (r.vgl ≤ 16000) ∧
    (r.vgl % 100 = 0) ∧
    (1 ≤ r.delay) ∧
    (r.delay ≤ 100) ∧
    (r.avdd + 4000 ≤ r.vgh) ∧
    (s.pnl.mode ≠ PanelMode.off) ∧
    (s.pnl.mode ≠ PanelMode.fault) ∧
    (s.pnl.rails = some o) ∧
    (railsNear o r = true) :=
  ⟨{ rdyX with pnl.mode := .driving, pnl.rails := some railsV }, railsP, railsV, railsV, by decide +kernel⟩

theorem meets_PnlSettings_2 : ∃ (s : State) (p : Packet) (r : RailSet) (o : RailSet),
    (s.Starts Op.pnlRailSet p) ∧
    (r = railsOf p.body) ∧
    (8000 ≤ r.avdd) ∧
    (r.avdd ≤ 18000) ∧
    (r.avdd % 50 = 0) ∧
    (6000 ≤ r.navdd) ∧
    (r.navdd ≤ 16000) ∧
    (r.navdd % 50 = 0) ∧
    (20000 ≤ r.vgh) ∧
    (r.vgh ≤ 38000) ∧
    (r.vgh % 100 = 0) ∧
    (4000 ≤ r.vgl) ∧
    (r.vgl ≤ 16000) ∧
    (r.vgl % 100 = 0) ∧
    (1 ≤ r.delay) ∧
    (r.delay ≤ 100) ∧
    (r.avdd + 4000 ≤ r.vgh) ∧
    (s.pnl.mode ≠ PanelMode.off) ∧
    (s.pnl.mode ≠ PanelMode.fault) ∧
    (s.pnl.rails = some o) ∧
    (railsNear o r = false) :=
  ⟨{ rdyX with pnl.mode := .driving, pnl.rails := some { railsV with avdd := 11000 } }, railsP, railsV, { railsV with avdd := 11000 }, by decide +kernel⟩

theorem meets_PnlSettings_3 : ∃ (s : State) (p : Packet),
    (s.Starts Op.pnlVcomSet p) ∧
    (∀ (i : Nat), i < 4 → p.u16 (16 + 2 * i) < 1024) :=
  ⟨rdyX, pf 8 [(16,2,1023),(18,2,1023),(20,2,5),(22,2,6)], by decide +kernel⟩

theorem meets_PnlSettings_4 : ∃ (s : State) (p : Packet),
    (s.Starts Op.pnlGateTiming p) ∧
    (gateFault s.dsp.timing (gateOf p.body) = none) ∧
    (Option.all (fun x => gateFits x (gateOf p.body)) s.dsp.timing = true) :=
  ⟨{ rdyX with dsp.timing := some tmg, dsp.nextGrid := some (11 * secUnits) }, pf 8 [(16,4,0x00010104),(22,2,64),(24,2,64),(26,1,1)], by decide +kernel⟩

theorem meets_PnlSettings_5 : ∃ (s : State) (p : Packet),
    (s.Starts Op.pnlStatus p) ∧
    (p.u8 16 ≤ 7) ∧
    (p.u8 16 ≠ 1) ∧
    (p.u8 16 ≠ 2) ∧
    (p.u8 16 = 5 → p.u8 17 ≤ 47) ∧
    (p.u8 16 ≠ 5 → p.u8 17 = 0) ∧
    (p.u8 16 = 3 → s.pnl.linkLock = true) :=
  ⟨{ rdy with pnl.linkLock := true, pnl.laneFaults := rdy.pnl.laneFaults.set 47 3 }, pf 5 [(16,1,5),(17,1,47)], by decide +kernel⟩

theorem meets_PnlSettings_6 : ∃ (s : State) (p : Packet),
    (s.Starts Op.pnlStatus p) ∧
    (p.u8 16 = 1) ∧
    (p.u8 17 ≤ 3) :=
  ⟨rdy, pf 5 [(16,1,1),(17,1,3)], by decide +kernel⟩

theorem meets_PnlSettings_7 : ∃ (s : State) (p : Packet),
    (s.Starts Op.pnlStatus p) ∧
    (p.u8 16 = 3) ∧
    (p.u8 17 = 0) ∧
    (s.pnl.linkLock = false) :=
  ⟨rdyR, pf 5 [(16,1,3)], by decide +kernel⟩

theorem meets_PnlSettings_8 : ∃ (s : State) (p : Packet),
    (s.Starts Op.pnlStatus p) ∧
    (p.u8 16 = 2) ∧
    (p.u8 17 = 0) :=
  ⟨{ rdy with pnl.vcomCode := 500 }, pf 5 [(16,1,2),(17,1,0)], by decide +kernel⟩

theorem meets_PnlPowerOn_0 : ∃ (s : State) (p : Packet),
    (s.Starts Op.pnlPowerOn p) ∧
    (s.pnl.mode = PanelMode.off ∨ s.pnl.mode = PanelMode.fault) ∧
    (s.pnl.rails.isSome = true) ∧
    (s.pnl.vcom.isSome = true) ∧
    (s.pnl.gate.isSome = true) ∧
    (s.dsp.timing.isSome = true) ∧
    (s.pnl.vinOk = true) ∧
    (s.pnl.silent = false) :=
  ⟨{ rdyR with pnl.rails := some railsV, pnl.vcom := some (vcomOf (List.replicate 16 0)), pnl.gate := some (gateOf (List.replicate 16 0)) }, pk [], by decide +kernel⟩

theorem meets_PnlPowerOn_1 : ∃ (s : State) (p : Packet),
    (s.Starts Op.pnlPowerOn p) ∧
    (s.pnl.mode = PanelMode.off ∨ s.pnl.mode = PanelMode.fault) ∧
    (s.pnl.rails.isSome = true) ∧
    (s.pnl.vcom.isSome = true) ∧
    (s.pnl.gate.isSome = true) ∧
    (s.dsp.timing.isSome = true) ∧
    (s.pnl.vinOk = false ∨ s.pnl.silent = true) :=
  ⟨{ rdyR with pnl.rails := some railsV, pnl.vcom := some (vcomOf (List.replicate 16 0)), pnl.gate := some (gateOf (List.replicate 16 0)), pnl.vinOk := false }, pk [], by decide +kernel⟩

theorem meets_PnlPowerOn_2 : ∃ (s : State) (p : Packet),
    (s.Starts Op.pnlPowerOn p) ∧
    (s.pnl.mode ≠ PanelMode.off) ∧
    (s.pnl.mode ≠ PanelMode.fault) :=
  ⟨{ rdyR with pnl.mode := .driving }, pk [], by decide +kernel⟩

theorem meets_PnlPowerOn_3 : ∃ (s : State),
    (s.pnl.mode = PanelMode.rampingUp) ∧
    (s.pnl.rampOn = true) ∧
    (s.pnl.rampRail = 0) :=
  ⟨{ rdyR with pnl.mode := .rampingUp, pnl.rampOn := true, pnl.vcom := some (vcomOf (List.replicate 16 0)) }, by decide +kernel⟩

theorem meets_PnlPowerOn_4 : ∃ (s : State),
    (s.pnl.mode = PanelMode.rampingUp) ∧
    (s.pnl.rampOn = true) ∧
    (s.pnl.rampRail = 1 ∨ s.pnl.rampRail = 2) :=
  ⟨{ rdyR with pnl.mode := .rampingUp, pnl.rampOn := true, pnl.rampRail := 2 }, by decide +kernel⟩

theorem meets_PnlPowerOn_5 : ∃ (s : State) (r : RailSet),
    (s.pnl.mode = PanelMode.rampingUp) ∧
    (s.pnl.rampOn = false) ∧
    (s.pnl.rails = some r) ∧
    (s.pnl.rampMark + r.delay * 100000 ≤ s.mtNs) :=
  ⟨{ rdyR with pnl.mode := .rampingUp, pnl.rails := some { railsV with delay := 100 }, pnl.rampMark := 9990000000 }, { railsV with delay := 100 }, by decide +kernel⟩

theorem meets_PnlPowerOn_6 : ∃ (s : State) (ok : Bool),
    (s.pnl.mode ≠ PanelMode.rampingUp) :=
  ⟨{ rdyR with pnl.mode := .railsUp }, false, by decide +kernel⟩

theorem meets_PnlPowerOn_7 : ∃ (s : State),
    (s.pnl.mode = PanelMode.rampingUp) ∧
    (s.pnl.rampOn = true) ∧
    (s.pnl.rampRail = 3) ∧
    (s.pnl.restore = none) :=
  ⟨{ rdyR with pnl.mode := .rampingUp, pnl.rampOn := true, pnl.rampRail := 3, pnl.rampTicket := some 7, cmd.outcomes := [{ ticket := 7, opcode := 0x700, pkt := pk [], committed := true }] }, by decide +kernel⟩

theorem meets_PnlPowerOn_8 : ∃ (s : State) (rail : Fin 5) (cause : Fin 5),
    (s.pnl.mode = PanelMode.railsUp ∨ s.pnl.mode = PanelMode.driving) ∧
    (s.pnl.discharge = none) ∧
    (s.pnl.lockout = false) ∧
    (s.pnl.rampTicket = none) ∧
    (s.pnl.train = none) ∧
    (s.pnl.gamma = none) :=
  ⟨{ rdyR with pnl.mode := .driving, pnl.good := List.replicate 4 true }, 4, 4, by decide +kernel⟩

theorem meets_PnlPowerOn_9 : ∃ (s : State) (rail : Fin 5) (cause : Fin 5) (d : Discharge),
    (s.pnl.mode = PanelMode.discharging) ∧
    (s.pnl.discharge = some d) ∧
    (s.stillDriven ↑rail = true) ∧
    (s.pnl.rampTicket = none) :=
  ⟨{ rdyR with pnl.mode := .discharging, pnl.good := List.replicate 4 true, pnl.discharge := some { reason := 0, since := 5 } }, 0, 1, { reason := 0, since := 5 }, by decide +kernel⟩

theorem meets_PnlPowerOn_10 : ∃ (s : State) (rail : Fin 5) (cause : Fin 5),
    (s.pnl.mode = PanelMode.off ∨ s.pnl.mode = PanelMode.fault) :=
  ⟨rdyR, 0, 1, by decide +kernel⟩

theorem meets_PnlPowerOn_11 : ∃ (s : State) (rail : Fin 5) (cause : Fin 5) (n : Nat),
    (s.pnl.mode = PanelMode.rampingUp) ∧
    (s.pnl.discharge = none) ∧
    (s.pnl.lockout = false) ∧
    (s.pnl.rampTicket = some n) ∧
    (s.pnl.train = none) ∧
    (s.pnl.gamma = none) :=
  ⟨{ rdyR with pnl.mode := .rampingUp, pnl.rampTicket := some 7, cmd.outcomes := [{ ticket := 7, opcode := 0x700, pkt := pk [], committed := true }] }, 3, 2, 7, by decide +kernel⟩

theorem meets_PnlPowerOff_0 : ∃ (s : State) (p : Packet),
    (s.Starts Op.pnlPowerOff p) ∧
    (s.pnl.mode ≠ PanelMode.off) ∧
    (s.pnl.lockout = false) ∧
    (s.pnl.discharge = none) ∧
    (s.pnl.rampTicket = none) ∧
    (s.pnl.train = none) ∧
    (s.pnl.gamma = none) :=
  ⟨{ rdyR with pnl.mode := .driving }, pk [], by decide +kernel⟩

theorem meets_PnlPowerOff_1 : ∃ (s : State) (p : Packet),
    (s.Starts Op.pnlPowerOff p) ∧
    (s.pnl.mode ≠ PanelMode.off) ∧
    (s.pnl.lockout = false) ∧
    (s.pnl.discharge = none) ∧
    (∀ (g : GammaLoad), s.pnl.gamma = some g → g.ticket ≠ s.cmd.nextTicket) :=
  ⟨{ rdyR with pnl.mode := .driving }, pk [], by decide +kernel⟩

theorem meets_PnlPowerOff_2 : ∃ (s : State) (p : Packet),
    (s.Starts Op.pnlPowerOff p) ∧
    (s.pnl.mode ≠ PanelMode.off) ∧
    (s.pnl.lockout = true) :=
  ⟨{ rdyR with pnl.mode := .discharging, pnl.lockout := true }, pk [], by decide +kernel⟩

theorem meets_PnlPowerOff_3 : ∃ (s : State) (p : Packet) (d : Discharge),
    (s.Starts Op.pnlPowerOff p) ∧
    (s.pnl.mode = PanelMode.discharging) ∧
    (s.pnl.lockout = false) ∧
    (s.pnl.discharge = some d) :=
  ⟨{ rdyR with pnl.mode := .discharging, pnl.discharge := some { reason := 2, since := 5 } }, pk [], { reason := 2, since := 5 }, by decide +kernel⟩

theorem meets_PnlPowerOff_4 : ∃ (s : State) (p : Packet),
    (s.Starts Op.pnlPowerOff p) ∧
    (s.pnl.mode = PanelMode.off) :=
  ⟨rdyR, pk [], by decide +kernel⟩

theorem meets_PnlPowerOff_5 : ∃ (s : State) (d : Discharge),
    (s.pnl.discharge = some d) ∧
    (d.start = none) :=
  ⟨{ rdyR with pnl.mode := .discharging, pnl.discharge := some { reason := 2, since := 5 } }, { reason := 2, since := 5 }, by decide +kernel⟩

theorem meets_PnlPowerOff_6 : ∃ (s : State),
    (s.pnl.discharge = none) :=
  ⟨rdyR, by decide +kernel⟩

theorem meets_PnlPowerOff_7 : ∃ (s : State) (d : Discharge) (t0 : Nat),
    (s.pnl.discharge = some d) ∧
    (d.start = some t0) ∧
    (d.stage < 4) ∧
    (t0 + stageNs d.stage ≤ s.mtNs) :=
  ⟨{ rdyR with pnl.good := List.replicate 4 true, pnl.vcomOn := true, pnl.mode := .discharging, pnl.discharge := some { reason := 2, since := 5, start := some 9998450000, stage := 3 } }, { reason := 2, since := 5, start := some 9998450000, stage := 3 }, 9998450000, by decide +kernel⟩

theorem meets_PnlPowerOff_8 : ∃ (s : State) (d : Discharge) (t0 : Nat),
    (s.pnl.discharge = some d) ∧
    (d.start = some t0) ∧
    (s.mtNs < t0 + stageNs d.stage) :=
  ⟨{ rdyR with pnl.mode := .discharging, pnl.discharge := some { reason := 2, since := 5, start := some 9998450001, stage := 3 } }, { reason := 2, since := 5, start := some 9998450001, stage := 3 }, 9998450001, by decide +kernel⟩

theorem meets_PnlPowerOff_9 : ∃ (s : State) (d : Discharge) (t0 : Nat),
    (s.pnl.discharge = some d) ∧
    (d.start = some t0) ∧
    (d.stage = 4) ∧
    (t0 + 2000000 ≤ s.mtNs) ∧
    (d.reason ≠ 1) ∧
    (s.pwr.dusk = DuskState.awake) :=
  ⟨{ rdyR with pnl.mode := .discharging, cmd.outcomes := [{ ticket := 7, opcode := 0x701, pkt := pk [], committed := true }], pnl.discharge := some { reason := 0, since := 5, start := some 9998000000, stage := 4, tickets := [7] } }, { reason := 0, since := 5, start := some 9998000000, stage := 4, tickets := [7] }, 9998000000, by decide +kernel⟩

theorem meets_PnlPowerOff_10 : ∃ (s : State),
    (s.pnl.lockout = false) ∧
    (s.pwr.dusk = DuskState.awake) :=
  ⟨{ rdyR with pnl.mode := .driving }, by decide +kernel⟩

theorem meets_PnlPowerOff_11 : ∃ (s : State),
    (s.pnl.lockout = true) :=
  ⟨{ rdyR with pnl.lockout := true }, by decide +kernel⟩

theorem meets_PnlPowerOff_12 : ∃ (s : State),
    (s.pnl.lockout = false) :=
  ⟨rdyR, by decide +kernel⟩

theorem meets_PnlPowerOff_13 : ∃ (s : State),
    (s.pnl.lockout = true) :=
  ⟨{ rdyR with pnl.lockout := true, pnl.mode := .discharging, pnl.gallOn := true }, by decide +kernel⟩

theorem meets_PnlLinks_0 : ∃ (s : State) (p : Packet) (tm : Timing),
    (s.Starts Op.pnlLinkTrain p) ∧
    (bitOf (p.u8 17) 5 = false) ∧
    (s.dsp.timing = some tm) ∧
    (linkFault (List.take 16 p.body) = none) ∧
    (linkFits (linkOf (List.take 16 p.body)) tm = true) ∧
    (s.pnl.mode = PanelMode.railsUp ∨ s.pnl.mode = PanelMode.driving) ∧
    (s.pnl.train = none) ∧
    (s.pnl.gamma = none) :=
  ⟨{ rdyR with pnl.mode := .railsUp }, pf 8 [(16,1,16),(18,2,6000)], tmg, by decide +kernel⟩

theorem meets_PnlLinks_1 : ∃ (s : State) (p : Packet) (k : LinkSet) (tm : Timing),
    (s.Starts Op.pnlLinkTrain p) ∧
    (p.u8 16 = 0) ∧
    (p.u8 17 = 32) ∧
    (p.u16 18 = 0) ∧
    (p.num 20 6 = 0) ∧
    (s.dsp.timing = some tm) ∧
    (s.pnl.profileLink = some k) ∧
    (linkFits k tm = true) ∧
    (s.pnl.mode = PanelMode.railsUp ∨ s.pnl.mode = PanelMode.driving) ∧
    (s.pnl.train = none) :=
  ⟨{ rdyR with pnl.mode := .driving, pnl.profileLink := some (linkOf (fl 16 [(0,1,16)])) }, pf 8 [(17,1,32)], linkOf (fl 16 [(0,1,16)]), tmg, by decide +kernel⟩

theorem meets_PnlLinks_2 : ∃ (s : State) (tr : Train) (ok : Bool),
    (s.pnl.train = some tr) ∧
    (tr.step = 1) ∧
    (tr.since + 200000 ≤ s.mtNs) :=
  ⟨{ rdyR with pnl.mode := .training, pnl.train := some { ticket := none, since := 9999800000 } }, { ticket := none, since := 9999800000 }, true, by decide +kernel⟩

theorem meets_PnlLinks_3 : ∃ (s : State) (tr : Train),
    (s.pnl.train = some tr) ∧
    (tr.step = 2) :=
  ⟨{ rdyR with pnl.mode := .training, pnl.train := some { ticket := none, since := 9999800000, step := 2 } }, { ticket := none, since := 9999800000, step := 2 }, by decide +kernel⟩

theorem meets_PnlLinks_4 : ∃ (s : State) (tr : Train),
    (s.pnl.train = some tr) ∧
    (tr.step = 3) ∧
    (imageBlocks s.trainingImages ≤ tr.sent) :=
  ⟨{ rdyR with pnl.mode := .training, pnl.train := some { ticket := none, since := 9999800000, step := 3, sent := 1000 } }, { ticket := none, since := 9999800000, step := 3, sent := 1000 }, by decide +kernel⟩

theorem meets_PnlLinks_5 : ∃ (s : State) (tr : Train),
    (s.pnl.train = some tr) ∧
    (tr.step = 2 ∨ tr.step = 3) :=
  ⟨{ rdyR with pnl.linkLock := true, pnl.mode := .training, pnl.train := some { ticket := none, since := 9999800000, step := 3 } }, { ticket := none, since := 9999800000, step := 3 }, by decide +kernel⟩

theorem meets_PnlLinks_6 : ∃ (s : State),
    (s.pnl.train = none) :=
  ⟨rdyR, by decide +kernel⟩

theorem meets_PnlLinks_7 : ∃ (s : State) (ok : Bool),
    (s.pnl.train = none) :=
  ⟨rdyR, true, by decide +kernel⟩

theorem meets_PnlLinks_8 : ∃ (s : State) (tr : Train) (n : Nat),
    (s.pnl.train = some tr) ∧
    (tr.step ≤ 2 ∨ s.pnl.linkLock = false) ∧
    (tr.since + 10000000 ≤ s.mtNs) ∧
    (tr.ticket = some n) :=
  ⟨{ rdyR with cmd.outcomes := [{ ticket := 7, opcode := 0x702, pkt := pk [], committed := true }], pnl.mode := .training, pnl.train := some { ticket := some 7, since := 9990000000, step := 2 } }, { ticket := some 7, since := 9990000000, step := 2 }, 7, by decide +kernel⟩

theorem meets_PnlLinks_9 : ∃ (s : State) (tr : Train),
    (s.pnl.train = some tr) ∧
    (tr.step ≤ 2 ∨ s.pnl.linkLock = false) ∧
    (tr.since + 10000000 ≤ s.mtNs) ∧
    (tr.ticket = none) :=
  ⟨{ rdyR with pnl.mode := .training, pnl.train := some { ticket := none, since := 9990000000, step := 2 } }, { ticket := none, since := 9990000000, step := 2 }, by decide +kernel⟩

theorem meets_PnlLinks_10 : ∃ (s : State) (n : Nat),
    (s.pnl.mode = PanelMode.driving) ∧
    (n < s.lanesInUse) ∧
    (s.pnl.retrain = none) ∧
    (s.pnl.gamma = none) :=
  ⟨{ rdyR with pnl.mode := .driving, pnl.link := some (linkOf (fl 16 [(0,1,16)])) }, 15, by decide +kernel⟩

theorem meets_PnlLinks_11 : ∃ (s : State) (n : Nat),
    (s.lanesInUse ≤ n) :=
  ⟨{ rdyR with pnl.mode := .driving, pnl.link := some (linkOf (fl 16 [(0,1,16)])) }, 16, by decide +kernel⟩

theorem meets_PnlLinks_12 : ∃ (s : State) (n : Nat),
    (s.pnl.mode ≠ PanelMode.driving) ∧
    (n < s.lanesInUse) :=
  ⟨{ rdyR with pnl.mode := .railsUp, pnl.link := some (linkOf (fl 16 [(0,1,16)])) }, 15, by decide +kernel⟩

theorem meets_PnlLinks_13 : ∃ (s : State) (ok : Bool),
    (s.pnl.retrain = none) :=
  ⟨rdyR, true, by decide +kernel⟩

theorem meets_PnlLinks_14 : ∃ (s : State),
    (s.pnl.mode = PanelMode.driving) ∧
    (s.pnl.retrain = none) ∧
    (s.pnl.gamma = none) :=
  ⟨{ rdyR with pnl.mode := .driving, pnl.link := some (linkOf (fl 16 [(0,1,16)])), pnl.linkLock := true }, by decide +kernel⟩

theorem meets_PnlLinks_15 : ∃ (s : State),
    (s.pnl.mode ≠ PanelMode.driving) :=
  ⟨{ rdyR with pnl.mode := .railsUp, pnl.link := some (linkOf (fl 16 [(0,1,16)])), pnl.linkLock := true }, by decide +kernel⟩

theorem meets_PnlLinks_16 : ∃ (s : State) (r : Retrain),
    (s.pnl.retrain = some r) :=
  ⟨{ rdyR with pnl.mode := .driving, pnl.retrain := some { lanes := 1, cause := 0 } }, { lanes := 1, cause := 0 }, by decide +kernel⟩

theorem meets_PnlLinks_17 : ∃ (s : State) (r : Retrain),
    (s.pnl.retrain = some r) ∧
    (r.fails < 2) ∧
    (s.pnl.mode = PanelMode.driving) :=
  ⟨{ rdyR with pnl.mode := .driving, pnl.retrain := some { lanes := 1, cause := 0, fails := 1, slots := 3 } }, { lanes := 1, cause := 0, fails := 1, slots := 3 }, by decide +kernel⟩

theorem meets_PnlLinks_18 : ∃ (s : State) (r : Retrain),
    (s.pnl.retrain = some r) ∧
    (2 ≤ r.fails) :=
  ⟨{ rdyR with pnl.mode := .driving, pnl.retrain := some { lanes := 1, cause := 0, fails := 2, slots := 3 } }, { lanes := 1, cause := 0, fails := 2, slots := 3 }, by decide +kernel⟩

theorem meets_PnlLinks_19 : ∃ (s : State) (p : Packet) (l : Loc),
    (s.Starts Op.pnlGammaLoad p) ∧
    (s.pnl.mode = PanelMode.driving) ∧
    (s.pnl.gamma = none) ∧
    (256 ≤ p.u16 16) ∧
    (p.u16 16 ≤ 7167) ∧
    (p.u32 20 % 8 = 0) ∧
    (8 ≤ p.u32 20) ∧
    (p.u32 20 ≤ 65536) ∧
    (p.u16 16 + p.u32 20 / 2 ≤ 7168) ∧
    (p.u64 24 % 8 = 0) ∧
    (p.num 32 6 ≠ 0) ∧
    (p.num 32 6 ≤ 2 ^ s.lanesInUse - 1) ∧
    (s.resolve p.src (p.u64 24) (p.u32 20) = some l) :=
  ⟨{ rdyR with pnl.mode := .driving, pnl.link := some (linkOf (fl 16 [(0,1,16)])) }, pf 10 [(16,2,0x100),(20,4,8),(24,8,0x100000),(32,2,0xFFFF)], ⟨false, 0x100000⟩, by decide +kernel⟩

theorem meets_DspTiming_0 : ∃ (s : State) (p : Packet),
    (s.Starts Op.dspTimingSet p) ∧
    (checkTiming (p.bytesAt 16 24) = none) ∧
    (offsetFits (timingOf (p.bytesAt 16 24)) s.offsetSet = true) ∧
    (s.wovenFits (timingOf (p.bytesAt 16 24)) = true) ∧
    (s.dspBusy = false) ∧
    (s.rasterRuns = false) :=
  ⟨rdy, tmgP, by decide +kernel⟩

theorem meets_DspTiming_1 : ∃ (s : State) (p : Packet),
    (s.Starts Op.dspTimingSet p) ∧
    (checkTiming (p.bytesAt 16 24) = none) ∧
    (offsetFits (timingOf (p.bytesAt 16 24)) s.offsetSet = true) ∧
    (s.wovenFits (timingOf (p.bytesAt 16 24)) = true) ∧
    (s.dspBusy = false) ∧
    (s.rasterRuns = false) ∧
    (s.pnl.train = none) :=
  ⟨rdy, tmgP, by decide +kernel⟩

theorem meets_DspTiming_2 : ∃ (s : State) (p : Packet),
    (s.Starts Op.dspTimingSet p) ∧
    (checkTiming (p.bytesAt 16 24) = none) ∧
    (offsetFits (timingOf (p.bytesAt 16 24)) s.offsetSet = true) ∧
    (s.wovenFits (timingOf (p.bytesAt 16 24)) = true) ∧
    (s.dspBusy = false) ∧
    (s.rasterRuns = true) :=
  ⟨rdyR, tmgP, by decide +kernel⟩

theorem meets_DspTiming_3 : ∃ (s : State) (p : Packet),
    (s.Starts Op.dspTimingSet p) ∧
    ((timingOf (p.bytesAt 16 24)).hactive % 2 = 1) :=
  ⟨rdy, pf 10 [(16,2,1025)], by decide +kernel⟩

theorem meets_DspTiming_4 : ∃ (s : State) (p : Packet),
    (s.Starts Op.dspLock p) ∧
    (p.u8 16 = 0) ∧
    (p.u8 17 ≤ 3) ∧
    (p.u32 20 = 0) ∧
    (p.num 24 6 = 0) ∧
    (s.dsp.timing.isSome = true) ∧
    (s.dspBusy = false) :=
  ⟨rdyR, pf 8 [(17,1,3)], by decide +kernel⟩

theorem meets_DspTiming_5 : ∃ (s : State) (p : Packet),
    (s.Starts Op.dspLock p) ∧
    (p.u8 16 = 1 ∨ p.u8 16 = 2 ∧ s.ntReady = false) ∧
    (p.u8 17 ≤ 3) ∧
    (p.u8 16 = 1 → p.u32 20 = 0 ∧ p.num 24 6 = 0) ∧
    (p.u32 20 ≤ 999999999) ∧
    (s.dsp.timing.isSome = true) ∧
    (s.dspBusy = false) :=
  ⟨rdyR, pf 8 [(16,1,1),(17,1,3)], by decide +kernel⟩

theorem meets_DspTiming_6 : ∃ (s : State) (p : Packet) (tm : Timing),
    (s.Starts Op.dspLock p) ∧
    (p.u8 16 = 2) ∧
    (s.ntReady = true) ∧
    (p.u8 17 ≤ 3) ∧
    (p.u32 20 ≤ 999999999) ∧
    (s.dsp.timing = some tm) ∧
    (s.dspBusy = false) :=
  ⟨{ rdyR with net.servo := .locked, net.master := some annA }, pf 8 [(16,1,2),(17,1,3),(24,6,9)], tmg, by decide +kernel⟩

theorem meets_DspTiming_7 : ∃ (s : State) (p : Packet),
    (s.Starts Op.dspLock p) ∧
    (p.u8 16 ≤ 2) ∧
    (p.u8 17 ≤ 3) ∧
    (p.u32 20 = 0) ∧
    (p.num 24 6 = 0) ∧
    (s.dsp.timing = none) :=
  ⟨rdy, pf 8 [(16,1,2),(17,1,3)], by decide +kernel⟩

theorem meets_DspSettings_0 : ∃ (s : State) (p : Packet) (tm : Timing),
    (s.Starts Op.dspStill p) ∧
    (p.u8 16 = 1) ∧
    (p.u8 17 ≤ 2) ∧
    (s.dsp.timing = some tm) ∧
    (tm.refresh % 30000 = 0) :=
  ⟨rdyR, pf 5 [(16,1,1),(17,1,2)], tmg, by decide +kernel⟩

theorem meets_DspSettings_1 : ∃ (s : State) (p : Packet) (tm : Timing),
    (s.Starts Op.dspStill p) ∧
    (p.u8 16 = 0) ∧
    (p.u8 17 ≤ 2) ∧
    (s.dsp.timing = some tm) ∧
    (tm.refresh % 30000 = 0) :=
  ⟨{ rdyR with dsp.still := true }, pf 5 [(17,1,2)], tmg, by decide +kernel⟩

theorem meets_DspSettings_2 : ∃ (s : State) (p : Packet),
    (s.Starts Op.dspStill p) ∧
    (p.u8 16 ≤ 1) ∧
    (p.u8 17 ≤ 2) ∧
    (∀ (tm : Timing), s.dsp.timing = some tm → tm.refresh % 30000 ≠ 0) :=
  ⟨{ rdyR with dsp.timing := some { tmg with refresh := 59940 } }, pf 5 [(17,1,2)], by decide +kernel⟩

theorem meets_DspSettings_3 : ∃ (s : State) (p : Packet),
    (s.Starts Op.dspOffset p) ∧
    (∀ (tm : Timing),
  (Option.map (fun x => x.fst) s.dsp.timingNext).or s.dsp.timing = some tm → p.u32 16 < tm.htotal * (tm.vblank - 16)) :=
  ⟨{ rdyX with dsp.timing := some tmg, dsp.nextGrid := some (11 * secUnits) }, pf 5 [(16,4,55295)], by decide +kernel⟩

theorem meets_DspSettings_4 : ∃ (s : State) (p : Packet) (tm : Timing),
    (s.Starts Op.dspOffset p) ∧
    ((Option.map (fun x => x.fst) s.dsp.timingNext).or s.dsp.timing = some tm) ∧
    (tm.htotal * (tm.vblank - 16) ≤ p.u32 16) :=
  ⟨{ rdyX with dsp.timing := some tmg, dsp.nextGrid := some (11 * secUnits) }, pf 5 [(16,4,55296)], tmg, by decide +kernel⟩

theorem meets_DspSettings_5 : ∃ (s : State) (p : Packet),
    (s.Starts Op.dspHoldover p) ∧
    (p.u16 16 ≤ 600) :=
  ⟨rdyX, pf 5 [(16,2,600)], by decide +kernel⟩

theorem meets_DspSettings_6 : ∃ (s : State) (p : Packet),
    (s.Starts Op.dspHoldover p) ∧
    (600 < p.u16 16) :=
  ⟨rdyX, pf 5 [(16,2,601)], by decide +kernel⟩

theorem meets_DspSettings_7 : ∃ (s : State) (p : Packet) (w : Nat × Nat),
    (s.Starts Op.dspStatus p) ∧
    (p.u8 16 ≠ 7) ∧
    (p.u8 16 = 3 → p.u8 17 ≤ 3) ∧
    (p.u8 16 ≠ 3 → p.u8 17 = 0) ∧
    ([(s.lockWord, s.dsp.holdUntil.elim 0 fun t => ceilDiv (t - s.mtNs) 1000000000),
      (BitVec.toNat s.dsp.dfn % 4294967296, BitVec.toNat s.dsp.dfn / 4294967296),
      (BitVec.toNat s.dsp.psn % 4294967296, BitVec.toNat s.dsp.psn / 4294967296),
      (nsField (s.dsp.stamp.getD (p.u8 17) 0), secField (s.dsp.stamp.getD (p.u8 17) 0) % 4294967296),
      (s.dsp.period / 268435456 % 4294967296, unsignedOf 32 s.dsp.phasePs),
      (BitVec.toNat s.dsp.nMissedEdges, BitVec.toNat s.dsp.nSpurious),
      (BitVec.toNat s.dsp.nWoven, BitVec.toNat s.dsp.nLayer), (0, 0),
      (BitVec.toNat s.dsp.nUrgent, BitVec.toNat s.dsp.nCritical)][p.u8 16]? =
  some w) :=
  ⟨{ rdyX with dsp.nWoven := 3, dsp.nLayer := 4 }, pf 5 [(16,1,6)], (3, 4), by decide +kernel⟩

theorem meets_DspSettings_8 : ∃ (s : State) (p : Packet),
    (s.Starts Op.dspStatus p) ∧
    (p.u8 16 = 7) ∧
    (p.u8 17 = 0) :=
  ⟨{ rdyX with dsp.minWoven := 3 }, pf 5 [(16,1,7)], by decide +kernel⟩

theorem meets_DspSettings_9 : ∃ (s : State) (p : Packet) (l : Loc) (c : Nat) (b : List Byte),
    (s.Starts Op.dspProfileRead p) ∧
    (p.u32 16 % 4 = 0) ∧
    (p.u64 24 % 4 = 0) ∧
    (s.resolve p.src (p.u64 24) (p.u32 16) = some l) ∧
    (s.scanning = false) ∧
    (s.chosenProfile = some (c, b)) ∧
    (b.length ≤ p.u32 16) :=
  ⟨rdyP, pf 8 [(16,4,68),(24,8,0x100000)], ⟨false, 0x100000⟩, 0, profA, by decide +kernel⟩

theorem meets_DspSettings_10 : ∃ (s : State) (p : Packet) (l : Loc),
    (s.Starts Op.dspProfileRead p) ∧
    (p.u32 16 % 4 = 0) ∧
    (p.u64 24 % 4 = 0) ∧
    (s.resolve p.src (p.u64 24) (p.u32 16) = some l) ∧
    (s.scanning = false) ∧
    (s.chosenProfile = none) :=
  ⟨rdy, pf 8 [(16,4,68),(24,8,0x100000)], ⟨false, 0x100000⟩, by decide +kernel⟩

theorem meets_DspSettings_11 : ∃ (s : State) (p : Packet) (l : Loc),
    (s.Starts Op.dspProfileStore p) ∧
    (p.u32 16 % 4 = 0) ∧
    (p.u64 24 % 4 = 0) ∧
    (68 ≤ p.u32 16) ∧
    (p.u32 16 ≤ 12288) ∧
    (s.resolve p.src (p.u64 24) (p.u32 16) = some l) ∧
    (checkProfile (s.readAt l (p.u32 16)) = 0) ∧
    ((s.nvm.ops.all fun o =>
    match o.kind with
    | NvmKind.profile blob => false
    | x => true) =
  true) ∧
    (s.scanning = false) ∧
    (s.nvm.flight.isSome = true ∨ s.nvm.halted = true) :=
  ⟨{ rdy.writeAt ⟨false, 0x100000⟩ profA with nvm.flight := some { page := 1500, words := [], owner := .foreground } }, pf 8 [(16,4,68),(24,8,0x100000)], ⟨false, 0x100000⟩, by decide +kernel⟩

theorem meets_DspSettings_12 : ∃ (s : State) (p : Packet) (l : Loc) (o : NvmOp) (h : Nat × List (Nat × List Byte)),
    (s.Starts Op.dspProfileStore p) ∧
    (p.u32 16 % 4 = 0) ∧
    (p.u64 24 % 4 = 0) ∧
    (68 ≤ p.u32 16) ∧
    (p.u32 16 ≤ 12288) ∧
    (s.resolve p.src (p.u64 24) (p.u32 16) = some l) ∧
    (checkProfile (s.readAt l (p.u32 16)) = 0) ∧
    ((s.nvm.ops.all fun o =>
    match o.kind with
    | NvmKind.profile blob => false
    | x => true) =
  true) ∧
    (s.scanning = false) ∧
    (s.nvm.flight = none) ∧
    (s.nvm.halted = false) ∧
    (s.nvm.ops = []) ∧
    (s.commitRefusal = none) ∧
    (s.planOp { kind := NvmKind.profile (s.readAt l (p.u32 16)), ticket := s.cmd.nextTicket } = some o) ∧
    (o.pages[0]? = some h) ∧
    (∀ (x : Flight), x ∈ s.cmd.flights → x.ticket ≠ s.cmd.nextTicket) :=
  ⟨rdy.writeAt ⟨false, 0x100000⟩ profA, pf 8 [(16,4,68),(24,8,0x100000)], ⟨false, 0x100000⟩, (State.planOp (rdy.writeAt ⟨false, 0x100000⟩ profA) { kind := .profile profA, ticket := 0 }).getD { kind := .model, ticket := 0 }, (((State.planOp (rdy.writeAt ⟨false, 0x100000⟩ profA) { kind := .profile profA, ticket := 0 }).getD { kind := .model, ticket := 0 }).pages).headD (0, []), by decide +kernel⟩

theorem meets_FrameStarts_0 : ∃ (s : State) (tm : Timing) (g : Nat),
    (s.dsp.timing = some tm) ∧
    (s.dsp.nextGrid = some g) ∧
    (s.fabricUp = true) ∧
    (s.dsp.lock.source = 0) ∧
    (s.dsp.timingNext = none) ∧
    (g ≤ s.time.mt) ∧
    (s.dsp.rate = 0 ∨ s.dsp.acquired = true) :=
  ⟨rdyF, tmg, 10 * secUnits, by decide +kernel⟩

theorem meets_FrameStarts_1 : ∃ (s : State) (tm : Timing) (g : Nat),
    (s.dsp.timing = some tm) ∧
    (s.dsp.nextGrid = some g) ∧
    (s.fabricUp = true) ∧
    (s.dsp.lock.source = 0) ∧
    (s.dsp.acquired = false) ∧
    (s.dsp.timingNext = none) ∧
    (g ≤ s.time.mt) ∧
    (s.baseWanted g = false) ∧
    (s.dsp.gridCount + 1 < s.stillStep) :=
  ⟨{ rdyF with dsp.still := true, dsp.rate := 3 }, tmg, 10 * secUnits, by decide +kernel⟩

theorem meets_FrameStarts_2 : ∃ (s : State) (tm : Timing) (g : Nat) (tn : Timing) (k : Option Nat),
    (s.dsp.timing = some tm) ∧
    (s.dsp.nextGrid = some g) ∧
    (s.fabricUp = true) ∧
    (s.dsp.lock.source = 0) ∧
    (s.dsp.timingNext = some (tn, k)) ∧
    (g ≤ s.time.mt) :=
  ⟨{ rdyF with dsp.timingNext := some ({ tmg with vactive := 512, refresh := 120000 }, none) }, tmg, 10 * secUnits, { tmg with vactive := 512, refresh := 120000 }, none, by decide +kernel⟩

theorem meets_FrameStarts_3 : ∃ (s : State) (tm : Timing) (g : Nat),
    (s.dsp.timing = some tm) ∧
    (s.dsp.nextGrid = some g) ∧
    (s.fabricUp = false ∨ s.time.mt < g ∨ s.dsp.lock.source ≠ 0 ∧ s.dsp.lockState = LockState.locked) :=
  ⟨{ rdyF with dsp.nextGrid := some (10 * secUnits + 1) }, tmg, 10 * secUnits + 1, by decide +kernel⟩

theorem meets_FrameStarts_4 : ∃ (s : State) (tm : Timing) (g : Nat),
    (s.dsp.timing = some tm) ∧
    (s.dsp.nextGrid = some g) ∧
    (s.fabricUp = true) ∧
    (s.dsp.lock.source = 2) ∧
    (s.dsp.lockState = LockState.locked ∨ s.dsp.acquired = true) ∧
    (s.dsp.timingNext = none) ∧
    (s.dsp.rate = 0 ∨ s.dsp.acquired = true) ∧
    (scheduled s.dsp.lock.t0 tm.refresh s.dsp.instant ≤ s.time.nt) :=
  ⟨{ rdyF with dsp.lock := { source := 2, t0 := 8 * secUnits }, dsp.lockState := .locked, dsp.instant := 120 }, tmg, 10 * secUnits, by decide +kernel⟩

theorem meets_FrameStarts_5 : ∃ (s : State) (tm : Timing) (g : Nat),
    (s.dsp.timing = some tm) ∧
    (s.dsp.nextGrid = some g) ∧
    (s.fabricUp = false ∨
  s.dsp.lock.source ≠ 2 ∨
    s.time.nt < scheduled s.dsp.lock.t0 tm.refresh s.dsp.instant ∨
      s.dsp.lockState ≠ LockState.locked ∧ s.dsp.acquired = false) :=
  ⟨rdyF, tmg, 10 * secUnits, by decide +kernel⟩

theorem meets_FrameStarts_6 : ∃ (s : State) (tm : Timing) (g : Nat),
    (s.dsp.timing = some tm) ∧
    (s.dsp.nextGrid = some g) ∧
    (s.fabricUp = true) ∧
    (s.dsp.timingNext = none) ∧
    (s.dsp.rate = 0) ∧
    (s.dsp.lock.source = 1) ∧
    (s.dsp.lockState = LockState.locked ∨ s.dsp.acquired = true) ∧
    (g ≤ s.time.mt) ∧
    (s.dsp.missedRow < 2) :=
  ⟨{ rdyF with dsp.lock := { source := 1 }, dsp.lockState := .locked, dsp.missedRow := 1 }, tmg, 10 * secUnits, by decide +kernel⟩

theorem meets_FrameStarts_7 : ∃ (s : State) (tm : Timing) (g : Nat),
    (s.dsp.timing = some tm) ∧
    (s.dsp.nextGrid = some g) ∧
    (s.fabricUp = true) ∧
    (s.dsp.timingNext = none) ∧
    (s.dsp.rate = 0) ∧
    (s.dsp.lock.source = 1) ∧
    (s.dsp.lockState = LockState.locked) ∧
    (g ≤ s.time.mt) ∧
    (2 ≤ s.dsp.missedRow) :=
  ⟨{ rdyF with dsp.lock := { source := 1 }, dsp.lockState := .locked, dsp.missedRow := 2 }, tmg, 10 * secUnits, by decide +kernel⟩

theorem meets_FrameStarts_8 : ∃ (s : State) (tm : Timing) (g : Nat),
    (s.dsp.timing = some tm) ∧
    (s.dsp.nextGrid = some g) ∧
    (s.fabricUp = false ∨ s.dsp.lock.source ≠ 1 ∨ s.time.mt < g ∨ s.dsp.lockState ≠ LockState.locked ∧ s.dsp.acquired = false) :=
  ⟨rdyF, tmg, 10 * secUnits, by decide +kernel⟩

theorem meets_FrameStarts_9 : ∃ (s : State) (tm : Timing) (g : Nat) (sub : Nat),
    (s.dsp.timing = some tm) ∧
    (s.dsp.nextGrid = some g) ∧
    (s.fabricUp = true) ∧
    (s.dsp.timingNext = none) ∧
    (s.dsp.rate = 0) ∧
    (s.dsp.lock.source = 1) ∧
    (s.dsp.lockState = LockState.locked) ∧
    (s.time.mt + sub % s.time.mtInc ≤ g + 2000 * 4294967296) ∧
    (g ≤ s.time.mt + sub % s.time.mtInc + 2000 * 4294967296) :=
  ⟨{ rdyF with dsp.lock := { source := 1 }, dsp.lockState := .locked, dsp.missedRow := 2, dsp.nextGrid := some (10 * secUnits + 2000 * 0x100000000) }, tmg, 10 * secUnits + 2000 * 0x100000000, 0, by decide +kernel⟩

theorem meets_FrameStarts_10 : ∃ (s : State) (tm : Timing) (g : Nat) (sub : Nat),
    (s.dsp.timing = some tm) ∧
    (s.dsp.nextGrid = some g) ∧
    (s.fabricUp = true) ∧
    (s.dsp.lock.source = 1) ∧
    (s.dsp.lockState = LockState.locked) ∧
    (g + 2000 * 4294967296 < s.time.mt + sub % s.time.mtInc ∨ s.time.mt + sub % s.time.mtInc + 2000 * 4294967296 < g) :=
  ⟨{ rdyF with dsp.lock := { source := 1 }, dsp.lockState := .locked, dsp.missedRow := 2, dsp.nextGrid := some (10 * secUnits + 2000 * 0x100000000 + 1) }, tmg, 10 * secUnits + 2000 * 0x100000000 + 1, 0, by decide +kernel⟩

theorem meets_FrameStarts_11 : ∃ (s : State) (tm : Timing) (g : Nat) (sub : Nat),
    (s.dsp.timing = some tm) ∧
    (s.dsp.nextGrid = some g) ∧
    (s.fabricUp = true) ∧
    (s.dsp.lock.source = 1) ∧
    (s.dsp.lockState ≠ LockState.locked) ∧
    (s.dsp.lastEdge = none) :=
  ⟨{ rdyF with dsp.lock := { source := 1 }, dsp.lockState := .acquiring }, tmg, 10 * secUnits, 0, by decide +kernel⟩

theorem meets_FrameStarts_12 : ∃ (s : State) (tm : Timing) (g : Nat) (sub : Nat) (l : Nat),
    (s.dsp.timing = some tm) ∧
    (s.dsp.nextGrid = some g) ∧
    (s.fabricUp = true) ∧
    (s.dsp.timingNext = none) ∧
    (s.dsp.lock.source = 1) ∧
    (s.dsp.lockState ≠ LockState.locked) ∧
    (s.dsp.lastEdge = some l) ∧
    (s.dsp.goodEdges = 3) ∧
    (s.dsp.acquired = false) ∧
    (s.time.mt + sub % s.time.mtInc = l + tm.period) ∧
    (∀ (f : Nat), s.dsp.frameMt = some f → f + tm.minSpan ≤ l + tm.period) :=
  ⟨{ rdyF with dsp.lock := { source := 1 }, dsp.lockState := .acquiring, dsp.goodEdges := 3, dsp.lastEdge := some (10 * secUnits - tmg.period) }, tmg, 10 * secUnits, 0, 10 * secUnits - tmg.period, by decide +kernel⟩

theorem meets_FrameStarts_13 : ∃ (s : State) (tm : Timing) (g : Nat) (sub : Nat),
    (s.dsp.timing = some tm) ∧
    (s.dsp.nextGrid = some g) ∧
    (s.fabricUp = false ∨ s.dsp.lock.source ≠ 1) :=
  ⟨rdyF, tmg, 10 * secUnits, 0, by decide +kernel⟩

theorem meets_ScanOut_0 : ∃ (s : State) (n : Nat),
    (s.dsp.holdUntil = some n) ∧
    (s.dsp.lockState = LockState.holdover) ∧
    (n ≤ s.mtNs) :=
  ⟨{ rdyF with dsp.lockState := .holdover, dsp.holdUntil := some 10000000000 }, 10000000000, by decide +kernel⟩

theorem meets_ScanOut_1 : ∃ (s : State),
    (s.dsp.holdUntil = none ∨ s.dsp.lockState ≠ LockState.holdover ∨ ∃ n, s.dsp.holdUntil = some n ∧ s.mtNs < n) :=
  ⟨{ rdyF with dsp.lockState := .holdover, dsp.holdUntil := some 10000000001 }, by decide +kernel⟩

theorem meets_ScanOut_2 : ∃ (s : State) (n : Nat) (k : LockSet) (d : Nat),
    (s.dsp.lockWait = some (n, k, d)) ∧
    (d ≤ s.mtNs) ∧
    (s.dsp.lock.source ≠ 0) :=
  ⟨{ rdyF with dsp.lock := { source := 1 }, dsp.lockState := .acquiring, dsp.lockWait := some (7, {}, 10000000000), cmd.outcomes := [{ ticket := 7, opcode := 0x601, pkt := pk [], committed := true }] }, 7, {}, 10000000000, by decide +kernel⟩

theorem meets_ScanOut_3 : ∃ (s : State),
    (s.dsp.lock.source = 0 ∨ ∀ (x : Nat × LockSet × Nat), x ∈ s.dsp.lockWait → s.mtNs < x.snd.snd) :=
  ⟨{ rdyF with dsp.lock := { source := 1 }, dsp.lockWait := some (7, {}, 10000000001) }, by decide +kernel⟩

theorem meets_ScanOut_4 : ∃ (s : State) (tm : Timing),
    (s.dsp.timing = some tm) ∧
    (tm.refresh % 30000 = 0) ∧
    (s.dsp.still = true) ∧
    (s.dsp.rateNext = none) ∧
    (s.dsp.wantBase = false) ∧
    (s.dsp.rate ≤ s.dsp.lowest) ∧
    (s.dsp.stillSince + [1000000000, 2000000000, 5000000000].getD s.dsp.rate 5000000000 ≤ s.mtNs) :=
  ⟨{ rdyF with dsp.still := true, dsp.rate := 1, dsp.stillSince := 8000000000 }, tmg, by decide +kernel⟩

theorem meets_ScanOut_5 : ∃ (s : State),
    (s.dsp.still = false ∨
  s.dsp.rateNext.isSome = true ∨
    s.dsp.wantBase = true ∨
      s.dsp.lowest < s.dsp.rate ∨
        s.mtNs < s.dsp.stillSince + [1000000000, 2000000000, 5000000000].getD s.dsp.rate 5000000000) :=
  ⟨rdyF, by decide +kernel⟩

theorem meets_ScanOut_7 : ∃ (s : State) (tm : Timing) (w : Nat) (ls : List Nat),
    (s.dsp.timing = some tm) ∧
    (s.rasterRuns = false ∨ s.fabricUp = false ∨ s.dsp.frameMt = none ∨ s.time.mt < s.slotMt tm s.dsp.slot) :=
  ⟨{ rdyF with dsp.nextGrid := none }, tmg, 0, [], by decide +kernel⟩

theorem meets_ScanOut_8 : ∃ (s : State) (tm : Timing) (w : Nat) (ls : List Nat),
    (s.dsp.timing = some tm) ∧
    (s.dsp.nextGrid.isSome = true) ∧
    (s.fabricUp = true) ∧
    (s.dsp.frameMt.isSome = true) ∧
    (s.slotMt tm s.dsp.slot ≤ s.time.mt) ∧
    (s.pnl.discharge = none) ∧
    (s.dsp.slot < 0) :=
  ⟨{ rdyF with dsp.frameMt := some 5, dsp.slot := -1 }, tmg, 0, [], by decide +kernel⟩

theorem meets_ScanOut_9 : ∃ (s : State) (tm : Timing) (w : Nat) (ls : List Nat) (y : Nat),
    (s.dsp.timing = some tm) ∧
    (s.dsp.nextGrid.isSome = true) ∧
    (s.fabricUp = true) ∧
    (s.dsp.frameMt.isSome = true) ∧
    (s.slotMt tm s.dsp.slot ≤ s.time.mt) ∧
    (s.pnl.discharge = none) ∧
    (s.dsp.slot = ↑y) ∧
    (y < tm.vactive) ∧
    (s.pnl.mode = PanelMode.driving) ∧
    (s.pnl.retrain = none) ∧
    (s.ray.presented = none ∨ w ≠ 0) :=
  ⟨{ rdyF with dsp.frameMt := some 5, pnl.mode := .driving, dsp.slot := 1023 }, tmg, 0, [], 1023, by decide +kernel⟩

theorem meets_ScanOut_10 : ∃ (s : State) (tm : Timing) (w : Nat) (ls : List Nat) (y : Nat) (r : Retrain),
    (s.dsp.timing = some tm) ∧
    (s.dsp.nextGrid.isSome = true) ∧
    (s.fabricUp = true) ∧
    (s.dsp.frameMt.isSome = true) ∧
    (s.slotMt tm s.dsp.slot ≤ s.time.mt) ∧
    (s.pnl.discharge = none) ∧
    (s.dsp.slot = ↑y) ∧
    (y < tm.vactive) ∧
    (s.pnl.mode = PanelMode.driving) ∧
    (s.pnl.retrain = some r) :=
  ⟨{ rdyF with dsp.frameMt := some 5, pnl.mode := .driving, dsp.slot := 1023, pnl.retrain := some { lanes := 1, cause := 0 } }, tmg, 1, [], 1023, { lanes := 1, cause := 0 }, by decide +kernel⟩

theorem meets_ScanOut_11 : ∃ (s : State) (tm : Timing) (w : Nat) (ls : List Nat) (y : Nat),
    (s.dsp.timing = some tm) ∧
    (s.dsp.nextGrid.isSome = true) ∧
    (s.fabricUp = true) ∧
    (s.dsp.frameMt.isSome = true) ∧
    (s.slotMt tm s.dsp.slot ≤ s.time.mt) ∧
    (s.pnl.discharge = none) ∧
    (s.dsp.slot = ↑y) ∧
    (y < tm.vactive) ∧
    (s.pnl.mode = PanelMode.driving) ∧
    (s.pnl.retrain = none) ∧
    (s.ray.presented.isSome = true) ∧
    (w = 0) :=
  ⟨{ rdyF with dsp.frameMt := some 5, pnl.mode := .driving, dsp.slot := 1023, ray.presented := some wovA }, tmg, 0, [], 1023, by decide +kernel⟩

theorem meets_ScanOut_12 : ∃ (s : State) (tm : Timing) (w : Nat) (ls : List Nat) (y : Nat),
    (s.dsp.timing = some tm) ∧
    (s.dsp.nextGrid.isSome = true) ∧
    (s.fabricUp = true) ∧
    (s.dsp.frameMt.isSome = true) ∧
    (s.slotMt tm s.dsp.slot ≤ s.time.mt) ∧
    (s.pnl.discharge = none) ∧
    (s.dsp.slot = ↑y) ∧
    (y < tm.vactive) ∧
    (s.pnl.mode ≠ PanelMode.driving) :=
  ⟨{ rdyF with dsp.frameMt := some 5, dsp.slot := 1023 }, tmg, 0, [], 1023, by decide +kernel⟩

theorem meets_ScanOut_13 : ∃ (s : State) (tm : Timing) (w : Nat) (ls : List Nat),
    (s.dsp.timing = some tm) ∧
    (s.dsp.nextGrid.isSome = true) ∧
    (s.fabricUp = true) ∧
    (s.dsp.frameMt.isSome = true) ∧
    (s.slotMt tm s.dsp.slot ≤ s.time.mt) ∧
    (s.pnl.discharge = none) ∧
    (↑tm.vactive ≤ s.dsp.slot) :=
  ⟨{ rdyF with dsp.frameMt := some 5, dsp.slot := 1024 }, tmg, 0, [], by decide +kernel⟩

theorem meets_ScanOut_14 : ∃ (s : State) (tm : Timing) (w : Nat) (ls : List Nat),
    (s.dsp.timing = some tm) ∧
    (s.dsp.nextGrid.isSome = true) ∧
    (s.fabricUp = true) ∧
    (s.dsp.frameMt.isSome = true) ∧
    (s.slotMt tm s.dsp.slot ≤ s.time.mt) ∧
    (s.pnl.discharge = none) ∧
    (↑tm.vactive + 16 ≤ s.dsp.slot) :=
  ⟨{ rdyF with dsp.frameMt := some 5, dsp.slot := 1040, pnl.mode := .driving }, tmg, 0, [], by decide +kernel⟩

theorem meets_ScanOut_15 : ∃ (s : State) (tm : Timing) (w : Nat) (ls : List Nat) (d : Discharge),
    (s.dsp.timing = some tm) ∧
    (s.dsp.nextGrid.isSome = true) ∧
    (s.fabricUp = true) ∧
    (s.dsp.frameMt.isSome = true) ∧
    (s.slotMt tm s.dsp.slot ≤ s.time.mt) ∧
    (s.pnl.discharge = some d) ∧
    (d.start = none) :=
  ⟨{ rdyF with dsp.frameMt := some 5, dsp.slot := 3, pnl.discharge := some { reason := 0, since := 0 } }, tmg, 0, [], { reason := 0, since := 0 }, by decide +kernel⟩

theorem meets_ScanOut_16 : ∃ (s : State) (tm : Timing) (w : Nat) (ls : List Nat) (d : Discharge),
    (s.dsp.timing = some tm) ∧
    (s.dsp.nextGrid.isSome = true) ∧
    (s.fabricUp = true) ∧
    (s.dsp.frameMt.isSome = true) ∧
    (s.slotMt tm s.dsp.slot ≤ s.time.mt) ∧
    (s.pnl.discharge = some d) ∧
    (d.start.isSome = true) :=
  ⟨{ rdyF with dsp.frameMt := some 5, dsp.slot := 3, pnl.discharge := some { reason := 0, since := 0, start := some 5 } }, tmg, 0, [], { reason := 0, since := 0, start := some 5 }, by decide +kernel⟩

theorem meets_TimeAndPulses_0 : ∃ (s : State) (p : Packet),
    (s.Starts Op.timeRead p) ∧
    (p.u8 16 = 0) ∧
    (p.u8 17 ≤ 3) ∧
    (p.u64 24 = 0) :=
  ⟨rdy, pf 8 [(17,1,3)], by decide +kernel⟩

theorem meets_TimeAndPulses_1 : ∃ (s : State) (p : Packet) (l : Loc),
    (s.Starts Op.timeRead p) ∧
    (p.u8 16 = 0) ∧
    (p.u8 17 ≤ 3) ∧
    (p.u64 24 ≠ 0) ∧
    (p.u64 24 % 64 = 0) ∧
    (s.resolve p.src (p.u64 24) 64 = some l) :=
  ⟨rdy, pf 8 [(17,1,0),(24,8,0x100040)], ⟨false, 0x100040⟩, by decide +kernel⟩

theorem meets_TimeAndPulses_2 : ∃ (s : State) (p : Packet),
    (s.Starts Op.timeRead p) ∧
    (p.u8 16 = 0) ∧
    (p.u8 17 ≤ 3) ∧
    (p.u64 24 % 64 = 0) ∧
    (p.u64 24 ≠ 0) ∧
    (s.resolve p.src (p.u64 24) 64 = none) :=
  ⟨rdyV, on (.ring (.vf 0) 0) (pf 8 [(24,8,dev 0x3FFFFC0 + 64)]), by decide +kernel⟩

theorem meets_TimeAndPulses_3 : ∃ (s : State) (p : Packet) (w : Nat × Nat),
    (s.Starts Op.timeRead p) ∧
    (1 ≤ p.u8 16) ∧
    (p.u8 17 ≤ [3, 3, 0, 3, 1, 1, 1, 1, 0].getD (p.u8 16) 0) ∧
    (p.u64 24 = 0) ∧
    ([(0, 0),
      (nsField (s.time.evtIn.getD (p.u8 17) { }).capture,
        secField (s.time.evtIn.getD (p.u8 17) { }).capture % 4294967296),
      (s.servoWord, unsignedOf 32 (clampInt s.net.offset (-2147483648) 2147483647)),
      (s.incOf (p.u8 17) % 4294967296, s.incOf (p.u8 17) / 4294967296),
      ((s.port (p.u8 17)).word, unsignedOf 32 (s.port (p.u8 17)).meanDelay),
      (BitVec.toNat (s.port (p.u8 17)).forwarded, BitVec.toNat (s.port (p.u8 17)).dropped),
      (BitVec.toNat (s.port (p.u8 17)).corrected, BitVec.toNat (s.port (p.u8 17)).saturated),
      (BitVec.toNat (s.port (p.u8 17)).terminated, BitVec.toNat (s.port (p.u8 17)).fcsErrors),
      (BitVec.toNat s.time.overruns, BitVec.toNat s.time.pulses)][p.u8 16]? =
  some w) :=
  ⟨{ rdy with time.overruns := 3, time.pulses := 4 }, pf 8 [(16,1,8)], (3, 4), by decide +kernel⟩

theorem meets_TimeAndPulses_4 : ∃ (s : State) (p : Packet),
    (s.Starts Op.timeRead p) ∧
    (8 < p.u8 16) :=
  ⟨rdy, pf 8 [(16,1,9)], by decide +kernel⟩

theorem meets_TimeAndPulses_5 : ∃ (s : State) (p : Packet),
    (s.Starts Op.timeSetEt p) ∧
    (p.u32 20 < 1000000000) ∧
    (s.net.etFromPtp = false ∨ s.net.servo ≠ ServoState.locked) :=
  ⟨rdy, pf 8 [(20,4,999999999),(24,6,77)], by decide +kernel⟩

theorem meets_TimeAndPulses_6 : ∃ (s : State) (p : Packet),
    (s.Starts Op.timeSetEt p) ∧
    (1000000000 ≤ p.u32 20) :=
  ⟨rdy, pf 8 [(20,4,1000000000)], by decide +kernel⟩

theorem meets_TimeAndPulses_7 : ∃ (s : State) (p : Packet),
    (s.Starts Op.timeSetEt p) ∧
    (p.u32 20 < 1000000000) ∧
    (s.net.etFromPtp = true) ∧
    (s.net.servo = ServoState.locked) :=
  ⟨{ rdy with net.etFromPtp := true, net.servo := .locked }, pf 8 [(20,4,999999999),(24,6,77)], by decide +kernel⟩

theorem meets_TimeAndPulses_8 : ∃ (s : State) (p : Packet),
    (s.Starts Op.timeIncrement p) ∧
    (p.u8 16 ≤ 3) ∧
    (incOk (p.u64 24) = true) :=
  ⟨rdyX, pf 8 [(16,1,1),(24,8,0x200000001)], by decide +kernel⟩

theorem meets_TimeAndPulses_9 : ∃ (s : State) (p : Packet),
    (s.Starts Op.timeIncrement p) ∧
    (p.u8 16 ≤ 3) ∧
    (incOk (p.u64 24) = false) :=
  ⟨rdyX, pf 8 [(16,1,1),(24,8,0x300000000)], by decide +kernel⟩

theorem meets_TimeAndPulses_10 : ∃ (s : State) (p : Packet),
    (s.Starts Op.timeIncrement p) ∧
    (3 < p.u8 16) :=
  ⟨rdyX, pf 8 [(16,1,4),(24,8,0x200000000)], by decide +kernel⟩

theorem meets_TimeAndPulses_11 : ∃ (s : State) (p : Packet),
    (s.Starts Op.timeStep p) ∧
    (p.u8 16 ≤ 2) ∧
    (p.u8 17 ≤ if p.u8 16 = 1 then 0 else 1) ∧
    (p.u32 20 < 1000000000) :=
  ⟨{ rdyX with cmd.policies := rdyX.cmd.policies.set policyServo true }, pf 8 [(16,1,1),(20,4,5)], by decide +kernel⟩

theorem meets_TimeAndPulses_12 : ∃ (s : State) (p : Packet),
    (s.Starts Op.timeStep p) ∧
    (2 < p.u8 16) :=
  ⟨rdyX, pf 8 [(16,1,3)], by decide +kernel⟩

theorem meets_TimeAndPulses_13 : ∃ (s : State) (p : Packet),
    (s.Starts Op.timeStep p) ∧
    (p.u8 16 ≤ 2) ∧
    ((if p.u8 16 = 1 then 0 else 1) < p.u8 17) :=
  ⟨rdyX, pf 8 [(16,1,1),(17,1,1)], by decide +kernel⟩

theorem meets_TimeAndPulses_14 : ∃ (s : State) (p : Packet),
    (s.Starts Op.timeRelease p) ∧
    (s.isExpert policyServo = true) :=
  ⟨{ rdyX with cmd.policies := rdyX.cmd.policies.set policyServo true, net.slave := 1, time.mtInc := 0x200000007 }, pk [], by decide +kernel⟩

theorem meets_TimeAndPulses_15 : ∃ (s : State) (p : Packet),
    (s.Starts Op.timeRelease p) ∧
    (s.isExpert policyServo = false) :=
  ⟨rdyX, pk [], by decide +kernel⟩

theorem meets_TimeAndPulses_16 : ∃ (s : State) (p : Packet),
    (s.Starts Op.timeEvtConfig p) ∧
    (p.u8 16 ≤ 3) ∧
    (p.u8 17 ≤ 3) ∧
    (p.u8 18 ≤ 3) ∧
    (p.num 20 12 = 0) ∧
    (p.u64 32 = 0) ∧
    (p.u32 40 = 0) ∧
    (p.u32 44 = 0) :=
  ⟨rdy, pf 12 [(16,1,3),(17,1,3),(18,1,3)], by decide +kernel⟩

theorem meets_TimeAndPulses_17 : ∃ (s : State) (p : Packet),
    (s.Starts Op.timeEvtConfig p) ∧
    (4 ≤ p.u8 16) ∧
    (p.u8 16 ≤ 7) ∧
    (p.u8 17 ≤ 3) ∧
    (p.u8 18 ≤ 3) ∧
    (p.u32 20 < 1000000000) ∧
    (20 * 65536 ≤ p.u64 32) ∧
    (p.u64 32 ≤ 1000000000000 * 65536) ∧
    (10 ≤ p.u32 40) ∧
    ((p.u32 40 + 10) * 65536 ≤ p.u64 32) :=
  ⟨rdy, pf 12 [(16,1,7),(17,1,3),(18,1,3),(20,4,5),(24,6,9),(32,8,1000000*65536),(40,4,10),(44,4,3)], by decide +kernel⟩

theorem meets_TimeAndPulses_18 : ∃ (s : State) (p : Packet) (off : Nat),
    (s.Starts Op.timeEvtConfig p) ∧
    (evtConfigFault p = some off) :=
  ⟨rdy, pf 12 [(16,1,8)], 16, by decide +kernel⟩

theorem meets_TimeAndPulses_19 : ∃ (s : State) (n : Fin 4) (o : EvtOut),
    (o = s.time.evtOut.getD ↑n { }) ∧
    (o.enable = true) ∧
    (o.count = 0 ∨ o.emitted < o.count) ∧
    (o.pulseEnd = none) ∧
    (o.start + o.next * o.period ≤ s.baseOf o.base / 65536) ∧
    (s.pwr.vddAon = true) :=
  ⟨{ rdy with time.evtOut := rdy.time.evtOut.set 3 evoA }, 3, evoA, by decide +kernel⟩

theorem meets_TimeAndPulses_20 : ∃ (s : State) (n : Fin 4) (o : EvtOut),
    (o = s.time.evtOut.getD ↑n { }) ∧
    (o.enable = false ∨
  o.count ≠ 0 ∧ o.count ≤ o.emitted ∨
    o.pulseEnd.isSome = true ∨ s.baseOf o.base / 65536 < o.start + o.next * o.period ∨ s.pwr.vddAon = false) :=
  ⟨{ rdy with time.evtOut := rdy.time.evtOut.set 3 { evoA with next := 6 } }, 3, { evoA with next := 6 }, by decide +kernel⟩

theorem meets_TimeAndPulses_21 : ∃ (s : State) (n : Fin 4) (o : EvtOut) (t : Nat),
    (o = s.time.evtOut.getD ↑n { }) ∧
    (o.pulseEnd = some t) ∧
    (t ≤ s.time.mt / 65536) :=
  ⟨{ rdy with time.evtOut := rdy.time.evtOut.set 3 { evoA with pulseEnd := some 5 } }, 3, { evoA with pulseEnd := some 5 }, 5, by decide +kernel⟩

theorem meets_TimeAndPulses_22 : ∃ (s : State) (n : Fin 4) (o : EvtOut),
    (o = s.time.evtOut.getD ↑n { }) ∧
    (o.pulseEnd = none ∨ ∃ t, o.pulseEnd = some t ∧ s.time.mt / 65536 < t) :=
  ⟨{ rdy with time.evtOut := rdy.time.evtOut.set 3 evoA }, 3, evoA, by decide +kernel⟩

theorem meets_NetPorts_0 : ∃ (s : State) (p : Packet),
    (s.Starts Op.timePortConfig p) ∧
    (portConfigFault (p.bytesAt 16 16) = none) ∧
    (∀ (q : PortState), q ∈ s.net.ports → q.configTicket = none) :=
  ⟨rdy, pf 8 [(16,1,1),(17,1,2),(18,1,1),(20,4,0x0A000002),(24,4,0xFFFFFF00)], by decide +kernel⟩

theorem meets_NetPorts_1 : ∃ (s : State) (p : Packet) (off : Nat),
    (s.Starts Op.timePortConfig p) ∧
    (portConfigFault (p.bytesAt 16 16) = some off) :=
  ⟨rdy, pf 8 [(16,1,2)], 16, by decide +kernel⟩

theorem meets_NetPorts_2 : ∃ (s : State) (p : Packet),
    (s.Starts Op.timePortConfig p) ∧
    (portConfigFault (p.bytesAt 16 16) = none) ∧
    (∃ q, q ∈ s.net.ports ∧ q.configTicket.isSome = true) :=
  ⟨rdyT.updPort 1 (fun q => { q with configTicket := some 7 }), pf 8 [(16,1,1),(17,1,2),(18,1,1),(20,4,0x0A000002),(24,4,0xFFFFFF00)], by decide +kernel⟩

theorem meets_NetPorts_3 : ∃ (s : State) (p : Packet),
    (s.Starts Op.timePtpConfig p) ∧
    (ptpConfigFault (p.bytesAt 16 16) = none) ∧
    (p.u8 19 = 0 ∨ p.u8 17 = 0 ∨ (s.port (p.u8 17 - 1)).ipv4 ≠ 0) :=
  ⟨rdy, pf 8 [(16,1,2),(17,1,2),(18,1,127),(21,1,0xFD)], by decide +kernel⟩

theorem meets_NetPorts_4 : ∃ (s : State) (p : Packet) (off : Nat),
    (s.Starts Op.timePtpConfig p) ∧
    (ptpConfigFault (p.bytesAt 16 16) = some off) :=
  ⟨rdy, pf 8 [(16,1,3)], 16, by decide +kernel⟩

theorem meets_NetPorts_5 : ∃ (s : State) (p : Packet),
    (s.Starts Op.timePtpConfig p) ∧
    (ptpConfigFault (p.bytesAt 16 16) = none) ∧
    (p.u8 19 = 1) ∧
    (p.u8 17 ≠ 0) ∧
    ((s.port (p.u8 17 - 1)).ipv4 = 0) :=
  ⟨rdyT, pf 8 [(16,1,2),(17,1,2),(18,1,127),(19,1,1),(21,1,0xFD)], by decide +kernel⟩

theorem meets_NetPorts_6 : ∃ (s : State) (x : Port) (n : Nat),
    ((s.port (portIdx x)).configTicket = some n) :=
  ⟨rdyT.updPort 1 (fun q => { q with configTicket := some 7 }), .b, 7, by decide +kernel⟩

theorem meets_NetPorts_7 : ∃ (s : State) (x : Port),
    ((s.port (portIdx x)).configTicket = none) :=
  ⟨rdyT, .b, by decide +kernel⟩

theorem meets_NetPorts_8 : ∃ (s : State) (x : Port),
    ((s.port (portIdx x)).link = false) ∧
    ((s.port (portIdx x)).mode ≠ 0) ∧
    (s.fabricUp = true) :=
  ⟨rdyT.updPort 1 (fun q => { q with link := false }), .b, by decide +kernel⟩

theorem meets_NetPorts_9 : ∃ (s : State) (x : Port),
    ((s.port (portIdx x)).link = true ∨ (s.port (portIdx x)).mode = 0 ∨ s.fabricUp = false) :=
  ⟨rdyT, .b, by decide +kernel⟩

theorem meets_NetPorts_10 : ∃ (s : State) (x : Port),
    ((s.port (portIdx x)).link = true) ∧
    (s.net.slave ≠ portIdx x + 1 ∨ s.net.servo ≠ ServoState.locked ∧ s.net.servo ≠ ServoState.unlocked) :=
  ⟨rdyT.updPort 1 (fun q => { q with linkDowns := 65535 }), .b, by decide +kernel⟩

theorem meets_NetPorts_11 : ∃ (s : State) (x : Port),
    ((s.port (portIdx x)).link = true) ∧
    (s.net.slave = portIdx x + 1) ∧
    (s.net.servo = ServoState.locked ∨ s.net.servo = ServoState.unlocked) :=
  ⟨{ rdyT with net.servo := .locked }, .a, by decide +kernel⟩

theorem meets_NetPorts_12 : ∃ (s : State) (x : Port),
    ((s.port (portIdx x)).link = false) :=
  ⟨rdyT.updPort 1 (fun q => { q with link := false }), .b, by decide +kernel⟩

theorem meets_NetPorts_14 : ∃ (s : State) (x : Port) (f : EthFrame),
    ((s.port (portIdx x)).link = false ∨ (s.port (portIdx x)).mode = 0 ∨ s.fabricUp = false) :=
  ⟨rdyT.updPort 1 (fun q => { q with link := false }), .b, { bytes := [], fcsOk := true, raw := 0 }, by decide +kernel⟩

theorem meets_NetPorts_15 : ∃ (s : State) (x : Port) (f : EthFrame),
    ((s.port (portIdx x)).link = true) ∧
    ((s.port (portIdx x)).mode ≠ 0) ∧
    (s.fabricUp = true) ∧
    (f.fcsOk = false) :=
  ⟨rdyT, .b, { bytes := [], fcsOk := false, raw := 0 }, by decide +kernel⟩

theorem meets_NetPorts_16 : ∃ (s : State) (x : Port) (f : EthFrame),
    ((s.port (portIdx x)).link = true) ∧
    ((s.port (portIdx x)).mode ≠ 0) ∧
    (s.fabricUp = true) ∧
    (f.fcsOk = true) ∧
    (ethDst f.bytes = macOf (portIdx x)) ∧
    (s.net.tcMode ≠ 2 ∨ isPeerDelay f.bytes = false) ∧
    (Option.all (fun x => x == 0) (vlanId f.bytes) = false ∨ localKind f.bytes = false) :=
  ⟨rdyT, .a, { frmA with bytes := ethFrame (macOf 0) 7 0x88B5 (List.replicate 46 0) }, by decide +kernel, by decide +kernel, by decide +kernel, by decide +kernel, ethDst_frame (macOf 0) _ _ _ (Nat.mod_lt _ (by decide)), .inr rfl, .inr rfl⟩

theorem meets_NetPorts_17 : ∃ (s : State) (x : Port) (f : EthFrame),
    ((s.port (portIdx x)).link = true) ∧
    ((s.port (portIdx x)).mode ≠ 0) ∧
    (s.fabricUp = true) ∧
    (f.fcsOk = true) ∧
    (ethDst f.bytes = macOf (portIdx x)) ∧
    (s.net.tcMode ≠ 2 ∨ isPeerDelay f.bytes = false) ∧
    (Option.all (fun x => x == 0) (vlanId f.bytes) = true) ∧
    (localKind f.bytes = true) :=
  ⟨rdyT, .a, { frmA with bytes := ethFrame (macOf 0) 7 0x0806 (List.replicate 46 0) }, by decide +kernel, by decide +kernel, by decide +kernel, by decide +kernel, ethDst_frame (macOf 0) _ _ _ (Nat.mod_lt _ (by decide)), .inr rfl, rfl, rfl⟩

theorem meets_NetPorts_18 : ∃ (s : State) (x : Port) (f : EthFrame),
    ((s.port (portIdx x)).link = true) ∧
    ((s.port (portIdx x)).mode ≠ 0) ∧
    (s.fabricUp = true) ∧
    (f.fcsOk = true) ∧
    (s.net.tcMode = 2) ∧
    (isPeerDelay f.bytes = true) :=
  ⟨{ rdyT with net.tcMode := 2 }, .a, { frmA with bytes := ethFrame 0x0180C200000E 7 0x88F7 ([2, 2] ++ List.replicate 52 0) }, by decide +kernel⟩

theorem meets_NetPorts_19 : ∃ (s : State) (x : Port) (f : EthFrame),
    ((s.port (portIdx x)).link = true) ∧
    ((s.port (portIdx x)).mode ≠ 0) ∧
    (s.fabricUp = true) ∧
    (f.fcsOk = true) ∧
    (ethDst f.bytes ≠ macOf (portIdx x)) ∧
    (s.net.tcMode ≠ 2 ∨ isPeerDelay f.bytes = false) ∧
    (innerType f.bytes = 34824 ∨
  1652522221568 ≤ ethDst f.bytes ∧ ethDst f.bytes ≤ 1652522221583 ∧ ethDst f.bytes ≠ 1652522221582) := by
  rcases mac_other (ethDst ({ frmA with bytes := ethFrame 0x0180C2000001 7 0x8808 (List.replicate 46 0) } : EthFrame).bytes) with h | h
  · exact ⟨rdyQ, .a, { frmA with bytes := ethFrame 0x0180C2000001 7 0x8808 (List.replicate 46 0) }, by decide +kernel, by decide +kernel, by decide +kernel, by decide +kernel, h, by decide +kernel⟩
  · exact ⟨rdyQ, .b, { frmA with bytes := ethFrame 0x0180C2000001 7 0x8808 (List.replicate 46 0) }, by decide +kernel, by decide +kernel, by decide +kernel, by decide +kernel, h, by decide +kernel⟩

theorem meets_NetPorts_20 : ∃ (s : State) (x : Port) (f : EthFrame),
    ((s.port (portIdx x)).link = true) ∧
    ((s.port (portIdx x)).mode ≠ 0) ∧
    (s.fabricUp = true) ∧
    (f.fcsOk = true) ∧
    (ethDst f.bytes ≠ macOf (portIdx x)) ∧
    (s.net.tcMode ≠ 2 ∨ isPeerDelay f.bytes = false) ∧
    (innerType f.bytes ≠ 34824) ∧
    (1652522221583 < ethDst f.bytes) ∧
    (ethDst f.bytes ≠ 281474976710655) ∧
    (isWholeIp f.bytes = false) ∧
    ((s.port (portIdx x)).forward = false ∨
  (s.port (1 - portIdx x)).link = false ∨ (s.port (1 - portIdx x)).mode = 0 ∨ 9018 < f.bytes.length) ∧
    (s.net.tcMode ≠ 2 ∨ (ptpAt f.bytes).isNone = true) := by
  rcases mac_other (ethDst (frmA : EthFrame).bytes) with h | h
  · exact ⟨{ rdy with net.ports := List.replicate 2 { mode := 1, link := true } }, .a, frmA, by decide +kernel, by decide +kernel, by decide +kernel, by decide +kernel, h, by decide +kernel⟩
  · exact ⟨{ rdy with net.ports := List.replicate 2 { mode := 1, link := true } }, .b, frmA, by decide +kernel, by decide +kernel, by decide +kernel, by decide +kernel, h, by decide +kernel⟩

theorem meets_NetPorts_21 : ∃ (s : State) (x : Port) (f : EthFrame),
    ((s.port (portIdx x)).link = true) ∧
    ((s.port (portIdx x)).mode ≠ 0) ∧
    (s.fabricUp = true) ∧
    (f.fcsOk = true) ∧
    (ethDst f.bytes ≠ macOf (portIdx x)) ∧
    (s.net.tcMode ≠ 2 ∨ isPeerDelay f.bytes = false) ∧
    (innerType f.bytes ≠ 34824) ∧
    (1652522221583 < ethDst f.bytes) ∧
    (ethDst f.bytes ≠ 281474976710655) ∧
    (isWholeIp f.bytes = false) ∧
    ((s.port (portIdx x)).forward = true) ∧
    ((s.port (1 - portIdx x)).link = true) ∧
    ((s.port (1 - portIdx x)).mode ≠ 0) ∧
    (f.bytes.length ≤ 9018) ∧
    ((s.port (1 - portIdx x)).mode = (s.port (portIdx x)).mode) ∧
    (s.egressIdle (1 - portIdx x) = true) ∧
    (s.net.tcMode = 0 ∨ ptpAt f.bytes = none) := by
  rcases mac_other (ethDst (frmA : EthFrame).bytes) with h | h
  · exact ⟨rdyQ, .a, frmA, by decide +kernel, by decide +kernel, by decide +kernel, by decide +kernel, h, by decide +kernel⟩
  · exact ⟨rdyQ, .b, frmA, by decide +kernel, by decide +kernel, by decide +kernel, by decide +kernel, h, by decide +kernel⟩

theorem meets_NetPorts_22 : ∃ (s : State) (x : Port) (f : EthFrame) (at_ : Nat) (udp : Bool),
    ((s.port (portIdx x)).link = true) ∧
    ((s.port (portIdx x)).mode ≠ 0) ∧
    (s.fabricUp = true) ∧
    (f.fcsOk = true) ∧
    (ethDst f.bytes ≠ macOf (portIdx x)) ∧
    (s.net.tcMode ≠ 2 ∨ isPeerDelay f.bytes = false) ∧
    (innerType f.bytes ≠ 34824) ∧
    (1652522221583 < ethDst f.bytes) ∧
    (ethDst f.bytes ≠ 281474976710655) ∧
    (isWholeIp f.bytes = false) ∧
    ((s.port (portIdx x)).forward = true) ∧
    ((s.port (1 - portIdx x)).link = true) ∧
    ((s.port (1 - portIdx x)).mode ≠ 0) ∧
    (f.bytes.length ≤ 9018) ∧
    ((s.port (1 - portIdx x)).mode = (s.port (portIdx x)).mode) ∧
    (s.egressIdle (1 - portIdx x) = true) ∧
    (s.net.tcMode = 1) ∧
    (ptpAt f.bytes = some (at_, udp)) ∧
    (ptpType f.bytes at_ < 4) := by
  rcases mac_other (ethDst ({ frmA with bytes := ethFrame 0x0A0000000001 7 0x88F7 ([0, 2] ++ List.replicate 44 0) } : EthFrame).bytes) with h | h
  · exact ⟨{ rdyQ with net.tcMode := 1 }, .a, { frmA with bytes := ethFrame 0x0A0000000001 7 0x88F7 ([0, 2] ++ List.replicate 44 0) }, 14, false, by decide +kernel, by decide +kernel, by decide +kernel, by decide +kernel, h, by decide +kernel⟩
  · exact ⟨{ rdyQ with net.tcMode := 1 }, .b, { frmA with bytes := ethFrame 0x0A0000000001 7 0x88F7 ([0, 2] ++ List.replicate 44 0) }, 14, false, by decide +kernel, by decide +kernel, by decide +kernel, by decide +kernel, h, by decide +kernel⟩

theorem meets_NetPorts_23 : ∃ (s : State) (x : Port) (f : EthFrame),
    ((s.port (portIdx x)).link = true) ∧
    ((s.port (portIdx x)).mode ≠ 0) ∧
    (s.fabricUp = true) ∧
    (f.fcsOk = true) ∧
    (ethDst f.bytes ≠ macOf (portIdx x)) ∧
    (s.net.tcMode ≠ 2 ∨ isPeerDelay f.bytes = false) ∧
    (innerType f.bytes ≠ 34824) ∧
    (1652522221583 < ethDst f.bytes) ∧
    (ethDst f.bytes ≠ 281474976710655) ∧
    (isWholeIp f.bytes = false) ∧
    ((s.port (portIdx x)).forward = true) ∧
    ((s.port (1 - portIdx x)).link = true) ∧
    ((s.port (1 - portIdx x)).mode ≠ 0) ∧
    (f.bytes.length ≤ 9018) ∧
    ((s.port (1 - portIdx x)).mode ≠ (s.port (portIdx x)).mode) ∧
    (s.net.tcMode ≠ 2 ∨ ptpAt f.bytes = none) ∧
    (s.bufferUsed (1 - portIdx x) + f.bytes.length + 4 ≤ 262144) := by
  rcases mac_other (ethDst (frmA : EthFrame).bytes) with h | h
  · exact ⟨rdyQ.updPort 1 (fun q => { q with mode := 2 }), .a, frmA, by decide +kernel, by decide +kernel, by decide +kernel, by decide +kernel, h, by decide +kernel⟩
  · exact ⟨rdyQ.updPort 0 (fun q => { q with mode := 2 }), .b, frmA, by decide +kernel, by decide +kernel, by decide +kernel, by decide +kernel, h, by decide +kernel⟩

theorem meets_NetPorts_24 : ∃ (s : State) (x : Port) (f : EthFrame),
    ((s.port (portIdx x)).link = true) ∧
    ((s.port (portIdx x)).mode ≠ 0) ∧
    (s.fabricUp = true) ∧
    (f.fcsOk = true) ∧
    (ethDst f.bytes ≠ macOf (portIdx x)) ∧
    (s.net.tcMode ≠ 2 ∨ isPeerDelay f.bytes = false) ∧
    (innerType f.bytes ≠ 34824) ∧
    (1652522221583 < ethDst f.bytes) ∧
    (ethDst f.bytes ≠ 281474976710655) ∧
    (isWholeIp f.bytes = false) ∧
    ((s.port (portIdx x)).forward = true) ∧
    ((s.port (1 - portIdx x)).link = true) ∧
    ((s.port (1 - portIdx x)).mode ≠ 0) ∧
    (f.bytes.length ≤ 9018) ∧
    ((s.port (1 - portIdx x)).mode ≠ (s.port (portIdx x)).mode) ∧
    (s.net.tcMode ≠ 2 ∨ ptpAt f.bytes = none) ∧
    (262144 < s.bufferUsed (1 - portIdx x) + f.bytes.length + 4) := by
  rcases mac_other (ethDst (frmA : EthFrame).bytes) with h | h
  · exact ⟨{ rdyQ with net.ports := [{ mode := 1, link := true, forward := true, outq := List.replicate 262 ⟨0, List.replicate 1000 0, false, .plain⟩ }, { mode := 2, link := true, forward := true, outq := List.replicate 262 ⟨0, List.replicate 1000 0, false, .plain⟩ }] }, .a, frmA, by decide +kernel, by decide +kernel, by decide +kernel, by decide +kernel, h, by decide +kernel⟩
  · exact ⟨{ rdyQ with net.ports := [{ mode := 1, link := true, forward := true, outq := List.replicate 262 ⟨0, List.replicate 1000 0, false, .plain⟩ }, { mode := 2, link := true, forward := true, outq := List.replicate 262 ⟨0, List.replicate 1000 0, false, .plain⟩ }] }, .b, frmA, by decide +kernel, by decide +kernel, by decide +kernel, by decide +kernel, h, by decide +kernel⟩

theorem meets_Servo_0 : ∃ (s : State) (m : PtpAnnounce),
    (s.servoHears m.port m.domain m.transport = true) :=
  ⟨rdyT, annA, by decide +kernel⟩

theorem meets_Servo_1 : ∃ (s : State) (m : PtpAnnounce),
    (s.servoHears m.port m.domain m.transport = false) :=
  ⟨rdyT, { annA with domain := 3 }, by decide +kernel⟩

theorem meets_Servo_2 : ∃ (s : State) (m : PtpSync) (a : PtpAnnounce) (off : Int),
    (s.servoHears m.port m.domain m.transport = true) ∧
    (s.net.master = some a) ∧
    (a.sender = m.sender) ∧
    (off = (↑(s.time.nt / 65536) - ↑m.origin - m.correction - s.pathDelayNow (portIdx m.port) * 4096) / 65536) ∧
    (s.isExpert policyServo = true) :=
  ⟨{ rdyT with net.master := some annA, cmd.policies := rdyT.cmd.policies.set policyServo true, net.servo := .expert }, syncA 10001, annA, -10001, by decide +kernel⟩

theorem meets_Servo_3 : ∃ (s : State) (m : PtpSync) (a : PtpAnnounce) (off : Int),
    (s.servoHears m.port m.domain m.transport = true) ∧
    (s.net.master = some a) ∧
    (a.sender = m.sender) ∧
    (off = (↑(s.time.nt / 65536) - ↑m.origin - m.correction - s.pathDelayNow (portIdx m.port) * 4096) / 65536) ∧
    (s.isExpert policyServo = false) ∧
    (s.net.servo ≠ ServoState.locked) ∧
    (10000 < off.natAbs) :=
  ⟨{ rdyT with net.master := some annA }, syncA 10001, annA, -10001, by decide +kernel⟩

theorem meets_Servo_4 : ∃ (s : State) (m : PtpSync) (a : PtpAnnounce) (off : Int),
    (s.servoHears m.port m.domain m.transport = true) ∧
    (s.net.master = some a) ∧
    (a.sender = m.sender) ∧
    (off = (↑(s.time.nt / 65536) - ↑m.origin - m.correction - s.pathDelayNow (portIdx m.port) * 4096) / 65536) ∧
    (s.isExpert policyServo = false) ∧
    (s.net.servo = ServoState.locked ∨ off.natAbs ≤ 10000) :=
  ⟨{ rdyT with net.master := some annA, net.servo := .locked }, syncA 10001, annA, -10001, by decide +kernel⟩

theorem meets_Servo_5 : ∃ (s : State) (m : PtpSync),
    (s.servoHears m.port m.domain m.transport = false ∨ ∀ (a : PtpAnnounce), s.net.master = some a → a.sender ≠ m.sender) :=
  ⟨rdyT, syncA 1, by decide +kernel⟩

theorem meets_Servo_6 : ∃ (s : State) (n : Nat),
    (s.slavePort = some n) ∧
    (s.net.tcMode ≠ 2) ∧
    (s.net.master.isSome = true) ∧
    (s.net.delayDue ≤ s.mtNs) ∧
    ((s.port n).link = true) ∧
    (s.fabricUp = true) :=
  ⟨{ rdyT with net.master := some annA, net.delaySeq := 65535 }, 0, by decide +kernel⟩

theorem meets_Servo_7 : ∃ (s : State),
    (s.slavePort = none ∨
  s.net.tcMode = 2 ∨
    s.net.master = none ∨
      s.mtNs < s.net.delayDue ∨ s.fabricUp = false ∨ ∃ n, s.slavePort = some n ∧ (s.port n).link = false) :=
  ⟨{ rdyT with net.servo := .locked, net.lastSync := 7000000001 }, by decide +kernel⟩

theorem meets_Servo_8 : ∃ (s : State) (m : PtpDelayResp) (a : PtpAnnounce) (t3 : Nat),
    (s.net.delayT3 = some t3) ∧
    (s.servoHears m.port m.domain m.transport = true) ∧
    (m.seq = s.net.delaySeq) ∧
    (s.net.master = some a) ∧
    (a.sender = m.sender) :=
  ⟨{ rdyT with net.master := some annA, net.delayT3 := some 655360000000000 }, { port := .a, domain := 0, transport := 0, sender := 9, seq := 0, received := 655360065536000, correction := 0, logInterval := 0 }, annA, 655360000000000, by decide +kernel⟩

theorem meets_Servo_9 : ∃ (s : State) (m : PtpDelayResp),
    (s.net.delayT3 = none ∨
  s.servoHears m.port m.domain m.transport = false ∨
    m.seq ≠ s.net.delaySeq ∨ ∀ (a : PtpAnnounce), s.net.master = some a → a.sender ≠ m.sender) :=
  ⟨rdyT, { port := .a, domain := 0, transport := 0, sender := 9, seq := 0, received := 655360065536000, correction := 0, logInterval := 0 }, by decide +kernel⟩

theorem meets_Servo_10 : ∃ (s : State) (x : Port),
    (s.net.tcMode = 2) ∧
    ((s.port (portIdx x)).link = true) ∧
    ((s.port (portIdx x)).mode ≠ 0) ∧
    ((s.port (portIdx x)).pdelayDue ≤ s.mtNs) ∧
    (s.fabricUp = true) :=
  ⟨{ rdyT with net.tcMode := 2 }, .b, by decide +kernel⟩

theorem meets_Servo_11 : ∃ (s : State) (x : Port),
    (s.net.tcMode ≠ 2 ∨
  (s.port (portIdx x)).link = false ∨
    (s.port (portIdx x)).mode = 0 ∨ s.mtNs < (s.port (portIdx x)).pdelayDue ∨ s.fabricUp = false) :=
  ⟨rdyT, .b, by decide +kernel⟩

theorem meets_Servo_12 : ∃ (s : State) (r : Fin 3),
    (s.isExpert policyServo = false) ∧
    (s.net.slave ≠ 0) ∧
    (s.net.servo = ServoState.locked ∨ s.net.servo = ServoState.unlocked) ∧
    (r = 0 ∧ s.net.lastSync + 3000000000 ≤ s.mtNs ∨
  r = 1 ∧ s.net.master.isSome = true ∧ s.net.others = [] ∨ r = 2 ∧ (s.port (s.net.slave - 1)).link = false) :=
  ⟨{ rdyT with net.servo := .locked, net.lastSync := 7000000000 }, 0, by decide +kernel⟩

theorem meets_Servo_13 : ∃ (s : State) (b : PtpAnnounce) (ms : List PtpAnnounce),
    (s.isExpert policyServo = false) ∧
    (s.net.slave ≠ 0) ∧
    (s.net.master.isSome = true) ∧
    (s.net.others = b :: ms) :=
  ⟨{ rdyT with net.master := some annA, net.others := [{ annA with sender := 10 }] }, { annA with sender := 10 }, [], by decide +kernel⟩

theorem meets_Servo_14 : ∃ (s : State) (r : Fin 3),
    (s.isExpert policyServo = true ∨
  s.net.slave = 0 ∨
    r = 0 ∧ s.mtNs < s.net.lastSync + 3000000000 ∨
      r = 1 ∧ s.net.master = none ∨ r = 2 ∧ (s.port (s.net.slave - 1)).link = true) :=
  ⟨{ rdyT with net.servo := .locked, net.lastSync := 7000000001 }, 0, by decide +kernel⟩

theorem meets_Layers_0 : ∃ (s : State) (p : Packet),
    (s.Starts Op.cmpLayerSet p) ∧
    (s.checkLayerSet p = none) :=
  ⟨rdy, lsP, by decide +kernel⟩

theorem meets_Layers_1 : ∃ (s : State) (p : Packet) (r : Refused),
    (s.Starts Op.cmpLayerSet p) ∧
    (s.checkLayerSet p = some r) :=
  ⟨rdy, pf 12 [(16,1,9)], ⟨.badParam, 16, 1⟩, by decide +kernel⟩

theorem meets_Layers_2 : ∃ (s : State) (p : Packet) (a : LayerAttr) (l : Layer),
    (s.Starts Op.cmpFlip p) ∧
    (s.layerAllowed p.src (p.u8 16) = true) ∧
    (s.layer (p.u8 16) = l) ∧
    (l.attrNext.or l.attr = some a) ∧
    (l.attrNext.isSome = true ∨ ∀ (f : PendFlip), l.flip = some f → f.surface.isSome = true) ∧
    (∀ (f : PendFlip), l.flip = some f → f.ticket ≠ s.cmd.nextTicket) ∧
    (planesAligned a.format (flipPlanes p) flipOffs = none) ∧
    (s.planesFit p.src a.format (a.srcX + a.srcW) (a.srcY + a.srcH) (flipPlanes p) flipOffs = none) :=
  ⟨rdy.updLayer 7 (fun l => { l with attrNext := some (layerAttrOf lsP) }), pf 14 [(16,1,7),(20,4,256),(32,8,dev 0x1000)], layerAttrOf lsP, (rdy.updLayer 7 (fun l => { l with attrNext := some (layerAttrOf lsP) })).layer 7, by decide +kernel⟩

theorem meets_Layers_3 : ∃ (s : State) (p : Packet),
    (s.Starts Op.cmpFlip p) ∧
    (s.layerAllowed p.src (p.u8 16) = true) ∧
    ((s.layer (p.u8 16)).attrNext = none) ∧
    ((s.layer (p.u8 16)).attr = none ∨ ∃ f, (s.layer (p.u8 16)).flip = some f ∧ f.surface = none) :=
  ⟨rdy, pf 14 [(16,1,7),(20,4,256),(32,8,dev 0x1000)], by decide +kernel⟩

theorem meets_Layers_4 : ∃ (s : State) (p : Packet),
    (s.Starts Op.cmpFlip p) ∧
    (s.layerAllowed p.src (p.u8 16) = false) :=
  ⟨rdyV, on (.ring (.vf 0) 0) (pf 14 [(16,1,3)]), by decide +kernel⟩

theorem meets_Layers_5 : ∃ (s : State) (p : Packet) (l : Layer),
    (s.Starts Op.cmpLayerOff p) ∧
    (s.layerAllowed p.src (p.u8 16) = true) ∧
    (s.layer (p.u8 16) = l) ∧
    (l.attr.isSome = true ∨ l.attrNext.isSome = true ∨ l.flip.isSome = true ∨ l.nextH.isSome = true ∨ l.nextV.isSome = true) ∧
    (∀ (f : PendFlip), l.flip = some f → f.ticket ≠ s.cmd.nextTicket) :=
  ⟨rdy.updLayer 7 (fun l => { l with attr := some (layerAttrOf lsP) }), pf 5 [(16,1,7)], (rdy.updLayer 7 (fun l => { l with attr := some (layerAttrOf lsP) })).layer 7, by decide +kernel⟩

theorem meets_Layers_6 : ∃ (s : State) (p : Packet),
    (s.Starts Op.cmpLayerOff p) ∧
    (s.layerAllowed p.src (p.u8 16) = true) ∧
    ((s.layer (p.u8 16)).attr = none) ∧
    ((s.layer (p.u8 16)).attrNext = none) ∧
    ((s.layer (p.u8 16)).flip = none) ∧
    ((s.layer (p.u8 16)).nextH = none) ∧
    ((s.layer (p.u8 16)).nextV = none) :=
  ⟨rdy, pf 5 [(16,1,7)], by decide +kernel⟩

theorem meets_Layers_7 : ∃ (s : State) (p : Packet) (l : Loc) (t : List Int),
    (s.Starts Op.cmpScalerCoef p) ∧
    (p.u8 16 ≤ 1) ∧
    (s.layerAllowed p.src (p.u8 16) = true) ∧
    (p.u8 17 ≤ 1) ∧
    (p.u64 24 % 4 = 0) ∧
    (s.resolve p.src (p.u64 24) (if p.u8 17 = 0 then 1024 else 512) = some l) ∧
    (t = coefsOf (s.readAt l (if p.u8 17 = 0 then 1024 else 512))) ∧
    (∀ (c : Int), c ∈ t → -256 ≤ c ∧ c ≤ 511) ∧
    (phasesSum (if p.u8 17 = 0 then 8 else 4) t = true) :=
  ⟨rdyX.writeAt ⟨false, 0x100000⟩ coefA, pf 8 [(16,1,1),(17,1,1),(24,8,0x100000)], ⟨false, 0x100000⟩, coefsOf coefA, by decide +kernel⟩

theorem meets_Layers_8 : ∃ (s : State) (p : Packet) (l : Loc),
    (s.Starts Op.cmpScalerCoef p) ∧
    (p.u8 16 ≤ 1) ∧
    (s.layerAllowed p.src (p.u8 16) = true) ∧
    (p.u8 17 ≤ 1) ∧
    (p.u64 24 % 4 = 0) ∧
    (s.resolve p.src (p.u64 24) (if p.u8 17 = 0 then 1024 else 512) = some l) ∧
    (∃ c, c ∈ coefsOf (s.readAt l (if p.u8 17 = 0 then 1024 else 512)) ∧ (c < -256 ∨ 511 < c)) :=
  ⟨rdyX.writeAt ⟨false, 0x100000⟩ (([0,2] : List Byte) ++ coefA.drop 2), pf 8 [(16,1,1),(17,1,1),(24,8,0x100000)], ⟨false, 0x100000⟩, by decide +kernel⟩

theorem meets_Layers_9 : ∃ (s : State) (p : Packet) (l : Loc),
    (s.Starts Op.cmpScalerCoef p) ∧
    (p.u8 16 ≤ 1) ∧
    (s.layerAllowed p.src (p.u8 16) = true) ∧
    (p.u8 17 ≤ 1) ∧
    (p.u64 24 % 4 = 0) ∧
    (s.resolve p.src (p.u64 24) (if p.u8 17 = 0 then 1024 else 512) = some l) ∧
    (∀ (c : Int), c ∈ coefsOf (s.readAt l (if p.u8 17 = 0 then 1024 else 512)) → -256 ≤ c ∧ c ≤ 511) ∧
    (phasesSum (if p.u8 17 = 0 then 8 else 4) (coefsOf (s.readAt l (if p.u8 17 = 0 then 1024 else 512))) = false) :=
  ⟨rdyX.writeAt ⟨false, 0x100000⟩ (([1,0] : List Byte) ++ coefA.drop 2), pf 8 [(16,1,1),(17,1,1),(24,8,0x100000)], ⟨false, 0x100000⟩, by decide +kernel⟩

theorem meets_Layers_10 : ∃ (s : State) (p : Packet) (n : Fin 8) (l : Layer) (f : PendFlip),
    (s.layer ↑n = l) ∧
    (l.flip = some f) ∧
    (l.withdraw = false) ∧
    (s.pwr.dusk = DuskState.awake) ∧
    (s.commitRefusal = none) ∧
    (s.commitHeld f.ticket = false) :=
  ⟨rdy.updLayer 7 (fun l => { l with attr := some (layerAttrOf lsP), surface := some plA, flip := some { ticket := 3, surface := none } }), pk [], 7, (rdy.updLayer 7 (fun l => { l with attr := some (layerAttrOf lsP), surface := some plA, flip := some { ticket := 3, surface := none } })).layer 7, { ticket := 3, surface := none }, by decide +kernel⟩

theorem meets_Layers_11 : ∃ (s : State) (p : Packet) (n : Fin 8) (l : Layer) (f : PendFlip),
    (s.layer ↑n = l) ∧
    (l.flip = some f) ∧
    (l.withdraw = false) ∧
    (s.pwr.dusk = DuskState.awake) ∧
    (s.commitRefusal = none) ∧
    (s.commitHeld f.ticket = false) :=
  ⟨rdy.updLayer 7 (fun l => { l with attr := some (layerAttrOf lsP), surface := some plA, flip := some { ticket := 3, surface := some plA } }), pk [], 7, (rdy.updLayer 7 (fun l => { l with attr := some (layerAttrOf lsP), surface := some plA, flip := some { ticket := 3, surface := some plA } })).layer 7, { ticket := 3, surface := some plA }, by decide +kernel⟩

theorem meets_Layers_12 : ∃ (s : State) (p : Packet) (n : Fin 8) (l : Layer) (f : PendFlip),
    (s.layer ↑n = l) ∧
    (l.flip = some f) ∧
    (l.withdraw = false) ∧
    (s.pwr.dusk = DuskState.awake) ∧
    (s.commitRefusal = none) ∧
    (s.commitHeld f.ticket = false) :=
  ⟨rdy.updLayer 7 (fun l => { l with attr := some (layerAttrOf lsP), surface := some plA, flip := some { ticket := 3, surface := none } }), pk [], 7, (rdy.updLayer 7 (fun l => { l with attr := some (layerAttrOf lsP), surface := some plA, flip := some { ticket := 3, surface := none } })).layer 7, { ticket := 3, surface := none }, by decide +kernel⟩

theorem meets_Layers_13 : ∃ (s : State) (p : Packet) (n : Fin 8) (l : Layer) (f : PendFlip),
    (s.layer ↑n = l) ∧
    (l.flip = some f) ∧
    (l.withdraw = false) ∧
    (s.pwr.dusk = DuskState.awake) ∧
    (s.commitRefusal = none) ∧
    (s.commitHeld f.ticket = false) :=
  ⟨rdy.updLayer 7 (fun l => { l with attr := some (layerAttrOf lsP), surface := some plA, flip := some { ticket := 3, surface := none } }), pk [], 7, (rdy.updLayer 7 (fun l => { l with attr := some (layerAttrOf lsP), surface := some plA, flip := some { ticket := 3, surface := none } })).layer 7, { ticket := 3, surface := none }, by decide +kernel⟩

theorem meets_Layers_14 : ∃ (s : State) (p : Packet) (n : Fin 8) (l : Layer) (f : PendFlip) (pl : Planes),
    (s.layer ↑n = l) ∧
    (l.flip = some f) ∧
    (l.withdraw = false) ∧
    (s.pwr.dusk = DuskState.awake) ∧
    (s.commitRefusal = none) ∧
    (s.commitHeld f.ticket = false) ∧
    (f.surface = some pl) :=
  ⟨rdy.updLayer 7 (fun l => { l with attrNext := some (layerAttrOf lsP), flip := some { ticket := 3, surface := some plA } }), pk [], 7, (rdy.updLayer 7 (fun l => { l with attrNext := some (layerAttrOf lsP), flip := some { ticket := 3, surface := some plA } })).layer 7, { ticket := 3, surface := some plA }, plA, by decide +kernel⟩

theorem meets_Layers_15 : ∃ (s : State) (p : Packet) (n : Fin 8) (l : Layer) (f : PendFlip),
    (s.layer ↑n = l) ∧
    (l.flip = some f) ∧
    (l.withdraw = false) ∧
    (s.pwr.dusk = DuskState.awake) ∧
    (s.commitRefusal = none) ∧
    (s.commitHeld f.ticket = false) ∧
    (f.surface = none) :=
  ⟨rdy.updLayer 7 (fun l => { l with attr := some (layerAttrOf lsP), surface := some plA, flip := some { ticket := 3, surface := none } }), pk [], 7, (rdy.updLayer 7 (fun l => { l with attr := some (layerAttrOf lsP), surface := some plA, flip := some { ticket := 3, surface := none } })).layer 7, { ticket := 3, surface := none }, by decide +kernel⟩

theorem meets_Layers_16 : ∃ (s : State) (p : Packet) (n : Fin 8) (l : Layer) (f : PendFlip) (st : Status),
    (s.layer ↑n = l) ∧
    (l.flip = some f) ∧
    (l.withdraw = false) ∧
    (s.pwr.dusk = DuskState.awake) ∧
    (s.commitRefusal = some st) :=
  ⟨{ rdy.updLayer 7 (fun l => { l with attr := some (layerAttrOf lsP), surface := some plA, flip := some { ticket := 3, surface := none } }) with pwr.loss := some { since := 0 } }, pk [], 7, (rdy.updLayer 7 (fun l => { l with attr := some (layerAttrOf lsP), surface := some plA, flip := some { ticket := 3, surface := none } })).layer 7, { ticket := 3, surface := none }, .powerFail, by decide +kernel⟩

theorem meets_Layers_17 : ∃ (s : State) (p : Packet) (n : Fin 8) (l : Layer) (f : PendFlip) (st : Status),
    (s.layer ↑n = l) ∧
    (l.flip = some f) ∧
    (l.withdraw = false) ∧
    (s.pwr.dusk = DuskState.awake) ∧
    (s.commitRefusal = some st) :=
  ⟨{ rdy.updLayer 7 (fun l => { l with attr := some (layerAttrOf lsP), surface := some plA, flip := some { ticket := 3, surface := none } }) with pwr.loss := some { since := 0 } }, pk [], 7, (rdy.updLayer 7 (fun l => { l with attr := some (layerAttrOf lsP), surface := some plA, flip := some { ticket := 3, surface := none } })).layer 7, { ticket := 3, surface := none }, .powerFail, by decide +kernel⟩

theorem meets_Layers_18 : ∃ (s : State) (p : Packet) (n : Fin 8) (l : Layer) (f : PendFlip) (st : Status),
    (s.layer ↑n = l) ∧
    (l.flip = some f) ∧
    (l.withdraw = false) ∧
    (s.pwr.dusk = DuskState.awake) ∧
    (s.commitRefusal = some st) :=
  ⟨{ rdy.updLayer 7 (fun l => { l with attr := some (layerAttrOf lsP), surface := some plA, flip := some { ticket := 3, surface := none } }) with pwr.loss := some { since := 0 } }, pk [], 7, (rdy.updLayer 7 (fun l => { l with attr := some (layerAttrOf lsP), surface := some plA, flip := some { ticket := 3, surface := none } })).layer 7, { ticket := 3, surface := none }, .powerFail, by decide +kernel⟩

theorem meets_Layers_19 : ∃ (s : State) (p : Packet) (n : Fin 8) (l : Layer) (f : PendFlip) (st : Status) (x : Flight),
    (s.layer ↑n = l) ∧
    (l.flip = some f) ∧
    (l.withdraw = false) ∧
    (s.pwr.dusk = DuskState.awake) ∧
    (s.commitRefusal = some st) ∧
    (x ∈ (s.latchLayer ↑n).cmd.flights) :=
  ⟨{ rdy.updLayer 7 (fun l => { l with attr := some (layerAttrOf lsP), surface := some plA, flip := some { ticket := 3, surface := none } }) with pwr.loss := some { since := 0 }, cmd.flights := [{ ticket := 4, opcode := 0x501, pkt := pk [] }] }, pk [], 7, (rdy.updLayer 7 (fun l => { l with attr := some (layerAttrOf lsP), surface := some plA, flip := some { ticket := 3, surface := none } })).layer 7, { ticket := 3, surface := none }, .powerFail, { ticket := 4, opcode := 0x501, pkt := pk [] }, by decide +kernel⟩

theorem meets_Layers_20 : ∃ (s : State) (p : Packet) (n : Fin 8) (l : Layer) (f : PendFlip),
    (s.layer ↑n = l) ∧
    (l.flip = some f) ∧
    (l.withdraw = false) ∧
    (s.pwr.dusk = DuskState.awake) ∧
    (s.commitRefusal = none) ∧
    (s.commitHeld f.ticket = true) :=
  ⟨{ (rdy.updLayer 7 (fun l => { l with attr := some (layerAttrOf lsP), surface := some plA, flip := some { ticket := 3, surface := none } })).updCpl .pf 0 (fun r => { r with used := 16 }) with cmd.flights := [{ ticket := 3, opcode := 0x501, pkt := pk [] }] }, pk [], 7, (rdy.updLayer 7 (fun l => { l with attr := some (layerAttrOf lsP), surface := some plA, flip := some { ticket := 3, surface := none } })).layer 7, { ticket := 3, surface := none }, by decide +kernel⟩

theorem meets_Layers_21 : ∃ (s : State) (p : Packet) (n : Fin 8) (rs : List Release),
    ((s.layer ↑n).releases = rs) :=
  ⟨{ rdy.updLayer 7 (fun l => { l with releases := [{ ticket := 3, old := some plA, dfn := 1, psn := 2 }] }) with cmd.flights := [{ ticket := 3, opcode := 0x501, pkt := pk [], committed := true }] }, pk [], 7, [{ ticket := 3, old := some plA, dfn := 1, psn := 2 }], by decide +kernel⟩

theorem meets_Blits_0 : ∃ (s : State) (p : Packet),
    (s.Starts Op.bltSurfaceSet p) ∧
    (1 ≤ p.u8 18) ∧
    (p.u8 18 ≤ 3) ∧
    (BitVec.toNat p.length = 8 + 16 * p.u8 18) ∧
    (∀ (k : Nat),
  k < p.u8 18 →
    s.descAllowed p.src.func (p.u16 16 + k) = true ∧
      descFault p k = none ∧
        planesAligned (p.u8 (32 + 64 * k)) (descPlanes p k) (descOffs k) = none ∧
          s.planesFit p.src (p.u8 (32 + 64 * k)) (p.u16 (32 + 64 * k + 4)) (p.u16 (32 + 64 * k + 6)) (descPlanes p k)
              (descOffs k) =
            none) :=
  ⟨rdy, pf 56 [(16,2,1021),(18,1,3),(32,1,1),(36,2,64),(38,2,64),(40,4,256),(56,8,dev 0x1000)], by decide +kernel⟩

theorem meets_Blits_1 : ∃ (s : State) (p : Packet),
    (s.Starts Op.bltSurfaceSet p) ∧
    (p.u8 18 = 0 ∨ 3 < p.u8 18 ∨ BitVec.toNat p.length ≠ 8 + 16 * p.u8 18) :=
  ⟨rdy, pf 56 [(16,2,1021),(18,1,4)], by decide +kernel⟩

theorem meets_Blits_2 : ∃ (s : State) (p : Packet) (l : Loc),
    (s.Starts Op.bltRun p) ∧
    (1 ≤ p.u16 16) ∧
    (p.u16 16 ≤ 4096) ∧
    (p.u64 24 % 64 = 0) ∧
    (9223372036854775808 ≤ p.u64 24) ∧
    (s.resolve p.src (p.u64 24) (64 * p.u16 16) = some l) ∧
    (s.checkEntries p.src.func 0 (cutEntries (p.u16 16) (s.readAt l (64 * p.u16 16))) = none) :=
  ⟨rdy, pf 8 [(16,2,2),(24,8,dev 0x100000)], ⟨true, 0x100000⟩, by decide +kernel⟩

theorem meets_Blits_3 : ∃ (s : State) (p : Packet) (l : Loc) (i : Nat) (st : Status) (d : Nat),
    (s.Starts Op.bltRun p) ∧
    (1 ≤ p.u16 16) ∧
    (p.u16 16 ≤ 4096) ∧
    (p.u64 24 % 64 = 0) ∧
    (9223372036854775808 ≤ p.u64 24) ∧
    (s.resolve p.src (p.u64 24) (64 * p.u16 16) = some l) ∧
    (s.checkEntries p.src.func 0 (cutEntries (p.u16 16) (s.readAt l (64 * p.u16 16))) = some (i, st, d)) :=
  ⟨rdy.writeAt ⟨true, 0x100040⟩ [255], pf 8 [(16,2,2),(24,8,dev 0x100000)], ⟨true, 0x100000⟩, 1, .badParam, 2, by decide +kernel⟩

theorem meets_Blits_4 : ∃ (s : State) (p : Packet) (i : Nat) (l : BltList) (e : BltEntry) (es : List BltEntry),
    (s.bltRuns = true) ∧
    (s.blt.lists[i]? = some l) ∧
    (l.order = none) ∧
    (l.entries = e :: es) ∧
    (e.state = 0) ∧
    (s.commitRefusal = none) ∧
    (s.commitHeld l.ticket = false) ∧
    (s.listHeld i l = false) ∧
    (∀ (x : BltList),
  x ∈ s.blt.lists → x.order.isSome = true → ∀ (y : BltEntry), y ∈ x.entries → y.holds (s.withDescs e) = false) :=
  ⟨{ rdy with blt.lists := [{ ticket := 3, owner := .pf, entries := [entA, { entA with op := 1, dst := 1 }] }], cmd.flights := [{ ticket := 3, opcode := 0x901, pkt := pk [] }], blt.descs := rdy.blt.descs.set 1 (some { format := 1, width := 64, height := 64, planes := plA }) }, pk [], 0, { ticket := 3, owner := .pf, entries := [entA, { entA with op := 1, dst := 1 }] }, entA, [{ entA with op := 1, dst := 1 }], by decide +kernel⟩

theorem meets_Blits_5 : ∃ (s : State) (p : Packet) (i : Nat) (l : BltList) (st : Status),
    (s.bltRuns = true) ∧
    (s.blt.lists[i]? = some l) ∧
    (l.order = none) ∧
    (s.listHeld i l = false) ∧
    (s.commitRefusal = some st) :=
  ⟨{ rdy with pwr.loss := some { since := 0 }, blt.lists := [{ ticket := 3, owner := .pf, entries := [entA] }], cmd.flights := [{ ticket := 3, opcode := 0x901, pkt := pk [] }] }, pk [], 0, { ticket := 3, owner := .pf, entries := [entA] }, .powerFail, by decide +kernel⟩

theorem meets_Blits_6 : ∃ (s : State) (p : Packet) (i : Nat) (l : BltList),
    (s.blt.lists[i]? = some l) ∧
    (l.order = none) ∧
    (s.listHeld i l = true ∨ s.commitRefusal = none ∧ s.commitHeld l.ticket = true) :=
  ⟨{ rdy.updCpl .pf 0 (fun r => { r with used := 16 }) with blt.lists := [{ ticket := 3, owner := .pf, entries := [entA] }], cmd.flights := [{ ticket := 3, opcode := 0x901, pkt := pk [] }] }, pk [], 0, { ticket := 3, owner := .pf, entries := [entA] }, by decide +kernel⟩

theorem meets_Blits_7 : ∃ (s : State) (p : Packet) (i : Nat) (k : Nat) (l : BltList) (e : BltEntry) (o : Nat),
    (s.bltRuns = true) ∧
    (s.blt.lists[i]? = some l) ∧
    (l.order = some o) ∧
    (l.entries[k]? = some e) ∧
    (e.state = 0) :=
  ⟨{ rdy with blt.lists := [{ ticket := 3, owner := .pf, entries := [entA, entA], order := some 0 }] }, pk [], 0, 1, { ticket := 3, owner := .pf, entries := [entA, entA], order := some 0 }, entA, 0, by decide +kernel⟩

theorem meets_Blits_8 : ∃ (s : State) (p : Packet) (i : Nat) (k : Nat) (l : BltList) (e : BltEntry),
    (s.bltRuns = true) ∧
    (s.blt.lists[i]? = some l) ∧
    (l.entries[k]? = some e) ∧
    (e.state = 1) :=
  ⟨{ rdy with cmd.flights := [{ ticket := 3, opcode := 0x901, pkt := pk [], committed := true }], blt.lists := [{ ticket := 3, owner := .pf, entries := [{ entA with state := 2 }, { entA with state := 1 }], order := some 0 }] }, pk [], 0, 1, { ticket := 3, owner := .pf, entries := [{ entA with state := 2 }, { entA with state := 1 }], order := some 0 }, { entA with state := 1 }, by decide +kernel⟩

theorem meets_Blits_9 : ∃ (s : State) (p : Packet) (f : Func) (e : BltEntry) (n : Nat),
    (e.op = 5) ∧
    (fenceIndex f e.fence = some n) :=
  ⟨rdyV, pk [], .vf 7, { entA with op := 5, fence := 7 }, 255, by decide +kernel⟩

theorem meets_Blits_10 : ∃ (s : State) (p : Packet) (f : Func) (q : Bool) (e : BltEntry) (d : SurfaceDesc),
    (e.op ≠ 5) ∧
    (e.dstD = some d) :=
  ⟨rdy, pk [], .pf, false, { entA with op := 1, dstD := some { format := 1, width := 64, height := 64, planes := plA } }, { format := 1, width := 64, height := 64, planes := plA }, by decide +kernel⟩

theorem meets_Blits_11 : ∃ (s : State) (p : Packet) (f : Func) (q : Bool) (e : BltEntry) (d : SurfaceDesc) (a : Nat),
    (e.op ≠ 5) ∧
    (e.dstD = some d) ∧
    (∀ (x : Elem),
  x ∈ s.entryElems e d →
    ¬(d.planes.elem d.format x.fst x.snd.fst x.snd.snd.fst ≤ a ∧
        a <
          d.planes.elem d.format x.fst x.snd.fst x.snd.snd.fst +
            ((planesOf d.format).getD x.fst { bytes := 0, halfX := false, halfY := false }).bytes)) :=
  ⟨rdy, pk [], .pf, false, { entA with op := 1, dstD := some { format := 1, width := 64, height := 64, planes := plA } }, { format := 1, width := 64, height := 64, planes := plA }, 0, by decide +kernel⟩

theorem meets_Blits_12 : ∃ (s : State) (p : Packet) (i : Nat) (k : Nat),
    (s.bltRuns = false ∨ s.blt.lists[i]? = none) :=
  ⟨rdy, pk [], 0, 0, by decide +kernel⟩

theorem meets_Blits_13 : ∃ (s : State) (p : Packet) (i : Nat) (k : Nat) (l : BltList) (e : BltEntry),
    (s.blt.lists[i]? = some l) ∧
    (l.entries[k]? = some e) ∧
    (e.state ≠ 1) :=
  ⟨{ rdy with blt.lists := [{ ticket := 3, owner := .pf, entries := [entA, { entA with state := 2 }], order := some 0 }] }, pk [], 0, 1, { ticket := 3, owner := .pf, entries := [entA, { entA with state := 2 }], order := some 0 }, { entA with state := 2 }, by decide +kernel⟩

theorem meets_Witness_0 : ∃ (s : State) (p : Packet),
    (s.Starts Op.witConfig p) ∧
    (witConfigFault p = none) ∧
    (p.u16 16 * p.u16 18 * p.u8 20 ≤ 497664000) :=
  ⟨rdy, pf 10 [(16,2,3840),(18,2,2160),(20,1,60),(22,1,16)], by decide +kernel⟩

theorem meets_Witness_1 : ∃ (s : State) (p : Packet) (off : Nat),
    (s.Starts Op.witConfig p) ∧
    (witConfigFault p = some off) :=
  ⟨rdy, pf 10 [(16,2,3841),(18,2,2160),(20,1,60),(22,1,16)], 16, by decide +kernel⟩

theorem meets_Witness_2 : ∃ (s : State) (p : Packet),
    (s.Starts Op.witStart p) ∧
    (s.wit.running = false) ∧
    (s.wit.stop = none) ∧
    (s.dsp.timing.isSome = true) ∧
    (s.sup.debugOpen = false) :=
  ⟨rdyR, pk [], by decide +kernel⟩

theorem meets_Witness_3 : ∃ (s : State) (p : Packet),
    (s.Starts Op.witStart p) ∧
    (s.wit.running = true ∨ s.wit.stop.isSome = true ∨ s.dsp.timing = none) :=
  ⟨{ rdyR with wit.running := true }, pk [], by decide +kernel⟩

theorem meets_Witness_4 : ∃ (s : State) (p : Packet),
    (s.Starts Op.witStart p) ∧
    (s.wit.running = false) ∧
    (s.wit.stop = none) ∧
    (s.dsp.timing.isSome = true) ∧
    (s.sup.debugOpen = true) :=
  ⟨{ rdyR with sup.debugOpen := true }, pk [], by decide +kernel⟩

theorem meets_Witness_5 : ∃ (s : State) (p : Packet),
    (s.Starts Op.witStop p) ∧
    (s.wit.running = true) :=
  ⟨{ rdyR with wit.running := true, enc := rdyR.enc.modify 0 fun e => { e with pics := [picA] } }, pk [], by decide +kernel⟩

theorem meets_Witness_6 : ∃ (s : State) (p : Packet),
    (s.Starts Op.witStop p) ∧
    (s.wit.running = false) :=
  ⟨rdyR, pk [], by decide +kernel⟩

theorem meets_Chain_0 : ∃ (s : State) (p : Packet) (l : Loc),
    (s.Starts Op.witExport p) ∧
    (p.u8 16 ≤ 3) ∧
    (p.u8 17 ≤ 1) ∧
    (p.u16 18 = 0 ∨ 100 ≤ p.u16 18 ∧ p.u16 18 ≤ 60000) ∧
    (if p.u8 16 = 1 then
  p.u32 20 % 4096 = 0 ∧
    65536 ≤ p.u32 20 ∧ p.u32 20 ≤ 67108864 ∧ p.u64 24 % 4096 = 0 ∧ s.resolve p.src (p.u64 24) (p.u32 20) = some l
else p.u32 20 = 0 ∧ p.u64 24 = 0 ∧ l = { dev := false, addr := 0 }) ∧
    (2 ≤ p.u8 16 → p.u32 32 ≠ 0 ∧ p.u32 32 ≠ 4294967295) :=
  ⟨rdy, pf 12 [(16,1,1),(20,4,65536),(24,8,0x100000)], ⟨false, 0x100000⟩, by decide +kernel⟩

theorem meets_Chain_1 : ∃ (s : State) (p : Packet),
    (s.Starts Op.witExport p) ∧
    (3 < p.u8 16) :=
  ⟨rdy, pf 12 [(16,1,4)], by decide +kernel⟩

theorem meets_Chain_2 : ∃ (s : State) (p : Packet),
    (s.Starts Op.witExport p) ∧
    (p.u8 16 ≤ 3) ∧
    (1 < p.u8 17) :=
  ⟨rdy, pf 12 [(16,1,3),(17,1,2)], by decide +kernel⟩

theorem meets_Chain_3 : ∃ (s : State) (seq : Nat) (reason : Nat) (b : List Byte),
    (s.chain.signing = [SignJob.sign seq reason b]) ∧
    (s.chain.items = []) ∧
    (s.chain.target = 0) :=
  ⟨{ rdy with chain.signing := [.sign 5 2 (List.replicate 128 1)] }, 5, 2, List.replicate 128 1, by decide +kernel⟩

theorem meets_Chain_4 : ∃ (s : State) (n : Nat) (b : List Byte) (dev : Bool) (addr : Nat),
    (s.chain.signing = [SignJob.attest n b dev addr]) ∧
    (b.length ≠ 32) ∧
    (s.chain.items = []) ∧
    (s.chain.target = 0) :=
  ⟨{ rdy with cmd.flights := [{ ticket := 3, opcode := 0xF03, pkt := pk [], committed := true }], chain.signing := [.attest 3 (List.replicate 96 1) false 0x100000] }, 3, List.replicate 96 1, false, 0x100000, by decide +kernel⟩

theorem meets_Chain_5 : ∃ (s : State),
    (s.chain.signing = []) :=
  ⟨rdy, by decide +kernel⟩

theorem meets_Chain_6 : ∃ (s : State) (x : Port) (b : List Byte) (h : ChainHead) (r : ChainRec) (z : ChainRec) (n : Nat),
    (s.head = some h) ∧
    (s.chain.target = portIdx x + 2) ∧
    (s.chain.sent = s.chain.records.length) ∧
    (s.chain.records.getLast? = some z) ∧
    (fieldAt b 8 8 ≤ z.seq) ∧
    (n = (List.filter (fun c => decide (c.seq ≤ fieldAt b 8 8)) s.chain.records).length) ∧
    (s.chain.records[n - 1]? = some r) ∧
    (1 ≤ n) ∧
    (s.chain.items = []) ∧
    (b.length = 16) ∧
    (fieldAt b 0 2 = 20033) ∧
    (fieldAt b 2 1 = 1) ∧
    (fieldAt b 3 1 = 0) ∧
    (fieldAt b 4 4 = h.chainId) :=
  ⟨{ rdy with nvm.head := some (fl 128 [(0,4,7)]), chain.target := 2, chain.records := [⟨9, [1,2]⟩], chain.sent := 1 }, .a, fl 16 [(0,2,0x4E41),(2,1,1),(4,4,7),(8,8,9)], headOf (fl 128 [(0,4,7)]), ⟨9, [1,2]⟩, ⟨9, [1,2]⟩, 1, by decide +kernel⟩

theorem meets_Chain_7 : ∃ (s : State) (x : Port) (b : List Byte),
    (s.head = none ∨
  s.chain.target ≠ portIdx x + 2 ∨
    b.length ≠ 16 ∨
      fieldAt b 0 2 ≠ 20033 ∨
        fieldAt b 2 1 ≠ 1 ∨
          fieldAt b 3 1 ≠ 0 ∨
            (∀ (h : ChainHead), s.head = some h → fieldAt b 4 4 ≠ h.chainId) ∨
              ∀ (r : ChainRec), r ∈ List.take s.chain.sent s.chain.records → r.seq < fieldAt b 8 8) :=
  ⟨{ rdy with nvm.head := some (fl 128 [(0,4,7)]), chain.target := 2, chain.records := [⟨9, [1,2]⟩], chain.sent := 1 }, .a, fl 16 [(0,2,0x4E41),(2,1,1),(4,4,8),(8,8,9)], by decide +kernel⟩

theorem meets_Chain_8 : ∃ (s : State),
    (2 ≤ s.chain.target) ∧
    (s.chain.ack = true) ∧
    (s.chain.sent ≠ 0) ∧
    (s.chain.ackNs + 200000000 ≤ s.mtNs) :=
  ⟨{ rdy with nvm.head := some (fl 128 [(0,4,7)]), chain.target := 2, chain.ack := true, chain.ackNs := 9800000000, chain.records := [⟨9, [1,2]⟩], chain.sent := 1 }, by decide +kernel⟩

theorem meets_Chain_9 : ∃ (s : State),
    (s.mtNs < s.chain.ackNs + 200000000 ∨ s.chain.target < 2 ∨ s.chain.ack = false ∨ s.chain.sent = 0) :=
  ⟨{ rdy with chain.ackNs := 9800000001 }, by decide +kernel⟩

theorem meets_Encoding_0 : ∃ (s : State) (p : Packet) (l : Loc) (n : Nat),
    (s.Starts Op.encOpen p) ∧
    (encOpenFault p = none) ∧
    (p.u64 40 % 4096 = 0) ∧
    (s.resolve p.src (p.u64 40) (p.u32 36) = some l) ∧
    (p.src.isVf = true → s.sessionsOf p.src.func < (s.grantOf p.src).sessions) ∧
    (p.src.isVf = false →
  sumNat (List.map (fun f => (s.fn f).grant.sessions - s.sessionsOf f) (List.drop 1 allFuncs)) <
    (List.filter (fun k => !(s.session k).isOpen) [1, 2, 3]).length) ∧
    (List.find? (fun n => !(s.session n).isOpen) [1, 2, 3] = some n) :=
  ⟨rdy, eoP, ⟨false, 0x100000⟩, 1, by decide +kernel⟩

theorem meets_Encoding_1 : ∃ (s : State) (p : Packet) (l : Loc),
    (s.Starts Op.encOpen p) ∧
    (encOpenFault p = none) ∧
    (p.u64 40 % 4096 = 0) ∧
    (s.resolve p.src (p.u64 40) (p.u32 36) = some l) ∧
    (∀ (n : Nat), n ∈ [1, 2, 3] → (s.session n).isOpen = true) :=
  ⟨{ rdy with enc := rdy.enc.map fun e => { e with isOpen := true } }, eoP, ⟨false, 0x100000⟩, by decide +kernel⟩

theorem meets_Encoding_2 : ∃ (s : State) (p : Packet) (off : Nat),
    (s.Starts Op.encOpen p) ∧
    (encOpenFault p = some off) :=
  ⟨rdy, { eoP with body := spliceAt eoP.body 4 [0,0] }, 20, by decide +kernel⟩

theorem meets_Encoding_3 : ∃ (s : State) (p : Packet),
    (s.Starts Op.encRate p) ∧
    (p.u8 16 ≤ 3) ∧
    (p.u8 17 ≤ 51) ∧
    (p.u8 17 ≤ p.u8 18) ∧
    (p.u8 18 ≤ 51) ∧
    (1 ≤ p.u8 19) ∧
    (p.u8 19 ≤ 16) ∧
    (16 ≤ p.u16 20) ∧
    (p.u16 20 ≤ 255) ∧
    (p.u8 17 ≤ p.u8 22) ∧
    (p.u8 22 ≤ p.u8 18) :=
  ⟨rdyS id, pf 8 [(16,1,1),(17,1,51),(18,1,51),(19,1,16),(20,2,255),(22,1,51)], by decide +kernel⟩

theorem meets_Encoding_4 : ∃ (s : State) (p : Packet),
    (s.Starts Op.encSearch p) ∧
    (p.u8 16 ≤ 3) ∧
    (1 ≤ p.u8 17) ∧
    (p.u8 17 ≤ 16) ∧
    (p.u16 18 ≠ 0) ∧
    (p.u8 20 ≤ 2) :=
  ⟨rdyS id, pf 6 [(16,1,1),(17,1,16),(18,2,1),(20,1,2)], by decide +kernel⟩

theorem meets_Encoding_5 : ∃ (s : State) (p : Packet) (e : EncSession) (g : EncGeom),
    (s.Starts Op.encFrame p) ∧
    (1 ≤ p.u8 16) ∧
    (p.u8 16 ≤ 3) ∧
    (s.session (p.u8 16) = e) ∧
    (e.isOpen = true) ∧
    (e.owner = p.src.func) ∧
    (e.geom = some g) ∧
    (e.tap = false) ∧
    (e.closing = none) ∧
    (encFormat (p.u8 17) = true) ∧
    (p.u8 18 < 8) ∧
    (p.u16 24 ≠ 0) ∧
    (p.u16 26 ≠ 0) ∧
    (frameEven p = none) ∧
    (planesAligned (p.u8 17) (framePlanes p) frameOffs = none) ∧
    (frameScale g (p.u8 18 % 4) (p.u16 24) (p.u16 26) = true) ∧
    (s.framePlanesFit p = none) :=
  ⟨rdyS id, pf 16 [(16,1,1),(17,1,1),(18,1,7),(24,2,64),(26,2,64),(28,4,256),(40,8,dev 0x1000)], (rdyS id).session 1, geomA, by decide +kernel⟩

theorem meets_Encoding_6 : ∃ (s : State) (p : Packet),
    (s.Starts Op.encFrame p) ∧
    (p.u8 16 ≠ 0) ∧
    (3 < p.u8 16 ∨ (s.session (p.u8 16)).isOpen = false ∨ (s.session (p.u8 16)).owner ≠ p.src.func) :=
  ⟨rdy, pf 16 [(16,1,1)], by decide +kernel⟩

theorem meets_Encoding_7 : ∃ (s : State) (p : Packet) (e : EncSession),
    (s.Starts Op.encFrame p) ∧
    (1 ≤ p.u8 16) ∧
    (p.u8 16 ≤ 3) ∧
    (s.session (p.u8 16) = e) ∧
    (e.isOpen = true) ∧
    (e.owner = p.src.func) ∧
    (e.tap = true ∨ e.closing.isSome = true) :=
  ⟨rdyS fun e => { e with tap := true }, pf 16 [(16,1,1)], (rdyS fun e => { e with tap := true }).session 1, by decide +kernel⟩

theorem meets_Encoding_8 : ∃ (s : State) (p : Packet) (e : EncSession),
    (s.Starts Op.encClose p) ∧
    (1 ≤ p.u8 16) ∧
    (p.u8 16 ≤ 3) ∧
    (s.session (p.u8 16) = e) ∧
    (e.isOpen = true) ∧
    (e.owner = p.src.func) ∧
    (e.closing = none) ∧
    (∀ (q : EncPic), q ∈ e.pics → q.ticket ≠ some s.cmd.nextTicket) ∧
    (List.filter (fun q => e.pics.all fun r => r.begun || r.order != q.order) e.pics = []) ∧
    (e.out = []) :=
  ⟨rdyS id, pf 5 [(16,1,1)], (rdyS id).session 1, by decide +kernel⟩

theorem meets_Encoding_9 : ∃ (s : State) (p : Packet) (e : EncSession),
    (s.Starts Op.encClose p) ∧
    (1 ≤ p.u8 16) ∧
    (p.u8 16 ≤ 3) ∧
    (s.session (p.u8 16) = e) ∧
    (e.isOpen = true) ∧
    (e.owner = p.src.func) ∧
    (e.closing = none) ∧
    (∀ (q : EncPic), q ∈ e.pics → q.ticket ≠ some s.cmd.nextTicket) ∧
    (List.filter (fun q => e.pics.all fun r => r.begun || r.order != q.order) e.pics ≠ [] ∨ e.out ≠ []) :=
  ⟨rdyS fun e => { e with pics := [{ picA with begun := true }] }, pf 5 [(16,1,1)], (rdyS fun e => { e with pics := [{ picA with begun := true }] }).session 1, by decide +kernel⟩

theorem meets_Encoding_10 : ∃ (s : State) (p : Packet),
    (s.Starts Op.encClose p) ∧
    (p.u8 16 = 0 ∨ 3 < p.u8 16 ∨ (s.session (p.u8 16)).isOpen = false ∨ (s.session (p.u8 16)).owner ≠ p.src.func) :=
  ⟨rdy, pf 5 [(16,1,1)], by decide +kernel⟩

theorem meets_Encoding_11 : ∃ (s : State) (core : Fin 12),
    ((s.dec.cores.getD (↑core) none).isSome = true ∨ s.coreFaulted ↑core = true) :=
  ⟨rdyD, 0, by decide +kernel⟩

theorem meets_Encoding_12 : ∃ (s : State) (core : Fin 12),
    (s.partsRun = false) ∧
    (pickCand (s.rowCands ↑core) = none) :=
  ⟨{ rdy with pwr.dusk := .draining 9 }, 11, by decide +kernel⟩

theorem meets_Encoding_13 : ∃ (s : State) (core : Fin 12) (c : Cand) (n : Nat) (o : Nat),
    (s.dec.cores.getD (↑core) none = none) ∧
    (s.coreFaulted ↑core = false) ∧
    (s.partsRun = false) ∧
    (pickCand (s.rowCands ↑core) = some c) ∧
    (c.item = CoreItem.row n o) ∧
    (s.commitRefusal = none) ∧
    (∀ (q : EncPic), s.pic n o = some q → ∀ (t : Nat), q.ticket = some t → s.commitHeld t = false) :=
  ⟨{ rdyS fun e => { e with pics := [{ picA with begun := true }], recon := [(.short, 0)] } with pwr.dusk := .draining 9, cmd.flights := [{ ticket := 3, opcode := 0x805, pkt := pk [], committed := true }] }, 11, { key := (3,1,0), load := 0, place := 0, item := .row 1 0 }, 1, 0, by decide +kernel⟩

theorem meets_Encoding_14 : ∃ (s : State) (core : Fin 12) (c : Cand),
    (s.dec.cores.getD (↑core) none = none) ∧
    (s.coreFaulted ↑core = false) ∧
    (s.partsRun = true) ∧
    (pickCand (s.giveSlots.rowCands ↑core ++ s.giveSlots.partCands ↑core) = some c) :=
  ⟨rdyS fun e => { e with pics := [picA], recon := [(.short, 0)] }, 11, { key := (3,1,0), load := 0, place := 0, item := .row 1 0 }, by decide +kernel⟩

theorem meets_Encoding_15 : ∃ (s : State) (core : Fin 12) (n : Nat) (o : Nat),
    (s.dec.cores.getD (↑core) none = some (CoreItem.row n o)) :=
  ⟨{ rdyS fun e => { e with pics := [{ picA with begun := true, buf := some 0, core := some 11 , geom := { geomA with height := 256 }}] } with dec.cores := rdy.dec.cores.set 11 (some (.row 1 0)) }, 11, 1, 0, by decide +kernel⟩

theorem meets_Encoding_16 : ∃ (s : State) (core : Fin 12),
    (∀ (n o : Nat), s.dec.cores.getD (↑core) none ≠ some (CoreItem.row n o)) :=
  ⟨rdyD, 11, fun n o h => by
    have e : rdyD.dec.cores.getD 11 none = none := by decide +kernel
    exact nomatch e.symm.trans h⟩

theorem meets_Encoding_18 : ∃ (s : State) (n : Fin 4),
    (↑n ≠ 0) ∧
    ((s.session ↑n).out = []) ∧
    ((s.session ↑n).closing = none) :=
  ⟨rdyS id, 1, by decide +kernel⟩

theorem meets_Encoding_19 : ∃ (s : State) (n : Fin 4) (e : EncSession) (g : EncGeom) (o : EncOut) (os : List EncOut),
    (↑n ≠ 0) ∧
    (s.session ↑n = e) ∧
    (e.out = o :: os) ∧
    (e.geom = some g) ∧
    (e.closing = none) ∧
    (ringFit (g.ring - 64) e.wr (s.ringRd e.ring) o.entry.length = none) :=
  ⟨rdyS fun e => { e with wr := 65464, out := [{ entry := List.replicate 100 0, done := none }] }, 1, (rdyS fun e => { e with wr := 65464, out := [{ entry := List.replicate 100 0, done := none }] }).session 1, geomA, { entry := List.replicate 100 0, done := none }, [], by decide +kernel⟩

theorem meets_Encoding_20 : ∃ (s : State) (n : Fin 4) (e : EncSession) (g : EncGeom) (o : EncOut),
    (↑n ≠ 0) ∧
    (s.session ↑n = e) ∧
    (e.out = [o]) ∧
    (e.closing = none) ∧
    (e.geom = some g) ∧
    (ringFit (g.ring - 64) e.wr (s.ringRd e.ring) o.entry.length = some 0) ∧
    (e.wr + o.entry.length < g.ring - 64) :=
  ⟨rdyS fun e => { e with out := [{ entry := [1,2,3,4,5,6,7,8], done := none }] }, 1, (rdyS fun e => { e with out := [{ entry := [1,2,3,4,5,6,7,8], done := none }] }).session 1, geomA, { entry := [1,2,3,4,5,6,7,8], done := none }, by decide +kernel⟩

theorem meets_WindowOpens_0 : ∃ (s : State),
    (s.mayOpen = false ∨ s.dsp.timing = none ∨ s.nextFrame = none) :=
  ⟨rdy, by decide +kernel⟩

theorem meets_WindowOpens_1 : ∃ (s : State) (tm : Timing) (g : Nat),
    (s.mayOpen = true) ∧
    (s.dsp.timing = some tm) ∧
    (s.nextFrame = some g) :=
  ⟨rdyW, { tmg with hactive := 256, vactive := 256 }, 11 * secUnits, by decide +kernel⟩

theorem meets_WindowOpens_2 : ∃ (s : State) (tm : Timing) (g : Nat) (b : List Byte) (k : Nat) (re : Bool) (q : ParamSet),
    (s.mayOpen = true) ∧
    (s.dsp.timing = some tm) ∧
    (s.nextFrame = some g) ∧
    (s.ray.active = some b) ∧
    (s.ray.load = none) ∧
    (s.strm.cut = none) ∧
    (s.pickScene g = some (k, re)) ∧
    ((s.slot k).params = some q) :=
  ⟨rdyW, { tmg with hactive := 256, vactive := 256 }, 11 * secUnits, blobA, 0, false, ps2, by decide +kernel⟩

theorem meets_Tiles_0 : ∃ (s : State) (core : Fin 96),
    (s.rayWorks = false ∨ s.coreOn ↑core = false ∨ 2 ≤ (s.tilesOf ↑core).length ∨ s.clusterQueue (↑core / 24) = []) :=
  ⟨{ rdyG [tileA 0 .queued 255] with thm.gated := [23] }, 23, by decide +kernel⟩

theorem meets_Tiles_1 : ∃ (s : State) (core : Fin 96) (r : TileRef) (t : Tile),
    (s.rayWorks = true) ∧
    (s.coreOn ↑core = true) ∧
    ((s.tilesOf ↑core).length < 2) ∧
    (nextServed (s.clusterQueue (↑core / 24)) = some (r, t)) :=
  ⟨rdyG [tileA 0 .queued 255], 23, .synth 0, tileA 0 .queued 255, by decide +kernel⟩

theorem meets_Tiles_2 : ∃ (s : State) (c : Fin 4),
    (s.rayWorks = false ∨ s.clusterServes ↑c = false ∨ s.clusterQueue ↑c ≠ [] ∨ ∀ (d : Fin 4), d ≠ c → s.clusterQueue ↑d = []) :=
  ⟨rdyG [tileA 0 .queued 255], 0, by decide +kernel⟩

theorem meets_Tiles_3 : ∃ (s : State) (c : Fin 4) (v : Nat) (d : Fin 4),
    (s.rayWorks = true) ∧
    (s.clusterServes ↑c = true) ∧
    (s.clusterQueue ↑c = []) ∧
    (s.victim ↑c = some v) ∧
    (d ≠ c) :=
  ⟨rdyG (List.replicate 20 (tileA 0 .queued 255)), 3, 0, 1, by decide +kernel⟩

theorem meets_Tiles_4 : ∃ (s : State) (c : Fin 4) (v : Nat),
    (s.rayWorks = true) ∧
    (s.clusterServes ↑c = true) ∧
    (s.clusterQueue ↑c = []) ∧
    (s.victim ↑c = some v) :=
  ⟨rdyG (List.replicate 20 (tileA 0 .queued 255)), 3, 0, by decide +kernel⟩

theorem meets_Tiles_5 : ∃ (s : State) (core : Fin 96) (n : Nat),
    (s.rayWorks = false ∨ ∀ (x : TileRef × Tile), x ∈ s.tilesOf ↑core → x.snd.state ≠ TileState.running) :=
  ⟨rdyG [tileA 0 .queued 255], 23, 100, by decide +kernel⟩

theorem meets_Tiles_6 : ∃ (s : State) (core : Fin 96) (n : Nat) (i : Nat) (t : Tile) (w : Window),
    (s.rayWorks = true) ∧
    (s.ray.window = some w) ∧
    (List.find? (fun x => x.snd.state == TileState.running) (s.tilesOf ↑core) = some (TileRef.synth i, t)) :=
  ⟨rdyG [tileA 0 .running 23, tileA 1 .committed 255], 23, 100, 0, tileA 0 .running 23, winA [tileA 0 .running 23, tileA 1 .committed 255], by decide +kernel⟩

theorem meets_Tiles_7 : ∃ (s : State) (core : Fin 96) (n : Nat) (f : Nat) (i : Nat) (t : Tile) (fr : WitFrame) (b : Nat) (p : WitPicture),
    (s.rayWorks = true) ∧
    (s.ray.witFrames[f]? = some fr) ∧
    (s.bufOfDfn fr.dfn = some b) ∧
    (s.picOfDfn fr.dfn = some p) ∧
    (List.find? (fun x => x.snd.state == TileState.running) (s.tilesOf ↑core) = some (TileRef.wit f i, t)) :=
  ⟨rdyH [{ tileA 0 .running 23 with witness := true }, tileA 1 .queued 255], 23, 100, 0, 0, { tileA 0 .running 23 with witness := true }, { seq := 1, dfn := 1, inp := inpA, tiles := [{ tileA 0 .running 23 with witness := true }, tileA 1 .queued 255] }, 0, picW 1, by decide +kernel⟩

theorem meets_Tiles_8 : ∃ (s : State),
    (s.mtNs < s.ray.predictNs + 1000000) :=
  ⟨{ rdyG [] with ray.predictNs := 9999000001 }, by decide +kernel⟩

theorem meets_Tiles_9 : ∃ (s : State),
    (s.ray.predictNs + 1000000 ≤ s.mtNs) ∧
    (s.ray.window = none) :=
  ⟨{ rdyW with ray.predictNs := 9999000000 }, by decide +kernel⟩

theorem meets_Tiles_10 : ∃ (s : State) (w : Window),
    (s.ray.predictNs + 1000000 ≤ s.mtNs) ∧
    (s.ray.window = some w) :=
  ⟨{ rdyG [tileA 0 .queued 255] with ray.predictNs := 9999000000 }, winA [tileA 0 .queued 255], by decide +kernel⟩

theorem meets_Tiles_12 : ∃ (s : State) (c : Fin 4) (i : Nat),
    (pickTile (fun t => t.state == TileState.unqueued && t.home == ↑c && !t.promoted && t.waitsLong s.mtNs) Tile.dueBefore
    s.synthTiles =
  some i) :=
  ⟨rdyG [{ tileA 0 .unqueued 255 with since := 9999949999 }], 0, 0, by decide +kernel⟩

theorem meets_Tiles_13 : ∃ (s : State) (c : Fin 4) (f : Nat) (i : Nat),
    (pickTile (fun t => t.state == TileState.unqueued && t.home == ↑c && !t.promoted && t.waitsLong s.mtNs) Tile.dueBefore
    s.synthTiles =
  none) ∧
    ((s.waitingWit ↑c fun t => !t.promoted && t.waitsLong s.mtNs) = some (f, i)) :=
  ⟨rdyH [{ tileA 0 .unqueued 255 with witness := true, since := 9999949999 }], 0, 0, 0, by decide +kernel⟩

theorem meets_Tiles_14 : ∃ (s : State) (c : Fin 4),
    (∀ (t : Tile), t ∈ s.synthTiles → t.waitsLong s.mtNs = false) ∧
    (∀ (f : WitFrame), f ∈ s.ray.witFrames → ∀ (t : Tile), t ∈ f.tiles → t.waitsLong s.mtNs = false) :=
  ⟨rdyG [{ tileA 0 .unqueued 255 with since := 9999950000 }], 0, by decide +kernel⟩



end Sys2Proof.Tests
end

section
/-!
SUPPORT. The EVT_IN pins and the stretched clocks, and the proof that settles O30.
-/

namespace Sys2Proof.Machine

/-- Awake and with no orderly shutdown running, the device notes no wake (R614, R616). -/
theorem State.noteWake_awake {s : State} (hd : s.pwr.dusk = .awake) (ht : s.thm.shutdown = none) (i : Nat) :
    s.noteWake i = s := by
  simp [State.noteWake, hd, ht]

/-- A capture outside Dusk, with no capture in the 100 ns before (R460). -/
theorem State.capture_fresh {s : State} {n : Nat} (rising : Bool) (hl : (s.time.evtIn.getD n {}).lastNs = none)
    (hd : s.inDusk = false) :
    s.capture n rising =
      (let e := s.time.evtIn.getD n {}
       let w := captureWords n e.base (s.baseOf e.base) rising
       ({ s with time.evtIn := s.time.evtIn.modify n fun e =>
          { e with capture := s.baseOf (s.time.evtIn.getD n {}).base, lastNs := some s.mtNs, kept := none } }.raise
            { code := .evtCaptured, source := 0, data0 := w.1, data1 := w.2 })) := by
  have hd' : ∀ t, ({ s with time := t } : State).inDusk = false := fun _ => hd
  simp only [State.capture, hl, hd, hd', Option.any_none, Bool.false_eq_true, if_false, updAt]

/-- An edge within 100 ns of the capture before is an overrun (R460). -/
theorem State.capture_overrun {s : State} {n t : Nat} (rising : Bool) (hl : (s.time.evtIn.getD n {}).lastNs = some t)
    (ht : s.mtNs < t + 100) : s.capture n rising = { s with time.overruns := s.time.overruns + 1 } := by
  simp only [State.capture, hl, Option.any_some, ht, decide_true, if_true]

/-- An edge that its pin's setting selects is captured, and one on EVT_IN0 wakes (R460, R614). -/
theorem State.evtEdge_selected {s : State} {n : Nat} {rising : Bool} (hv : s.pwr.vddAon = true)
    (hs : (s.time.evtIn.getD n {}).selects rising = true) :
    s.evtEdge n rising = if n = 0 then (s.capture n rising).noteWake 2 else s.capture n rising := by
  simp only [State.evtEdge, hv, hs, Bool.not_true, Bool.or_false, Bool.false_eq_true, if_false]

/-- An edge that its pin's setting does not select does nothing (R459). -/
theorem State.evtEdge_unselected {s : State} {n : Nat} {rising : Bool}
    (hs : (s.time.evtIn.getD n {}).selects rising = false) : s.evtEdge n rising = s := by
  simp only [State.evtEdge, hs, Bool.not_false, Bool.or_true, if_true]

theorem exec_evtInEdge (n : Fin 4) (rising : Bool) (s : State) :
    exec (.evtInEdge n rising) s = .next (s.evtEdge n.val rising) := rfl

theorem exec_clockStretch (i : Fin 128) (c : Nat) (s : State) :
    exec (.clockStretch i c) s = .next (s.stretch i.val c) := rfl

/-- Settles O30: the capture, its overrun and the idle edge, and the count of stretched cycles, each by the rule of its
operation; the wake that an edge on EVT_IN0 notes is none while the device is awake. -/
theorem pins : Obligations.Pins := by
  intro s n rising hv
  refine ⟨fun hs hl hd hw ht => ?_, fun t hn hs hl ht => ?_, fun hs => ?_, fun i c hi => ?_, fun i c hi => ?_⟩
  · rw [exec_evtInEdge, State.evtEdge_selected hv hs, State.capture_fresh rising hl hd]
    rw [State.noteWake_awake (by simpa using hw) (by simpa using ht), ite_self]
  · rw [exec_evtInEdge, State.evtEdge_selected hv hs, if_neg (by omega), State.capture_overrun rising hl ht]
  · rw [exec_evtInEdge, State.evtEdge_unselected hs]
  · simp [exec_clockStretch, State.stretch, hi]
  · simp [exec_clockStretch, State.stretch, hi, updAt]

end Sys2Proof.Machine
end

section
/-!
SUPPORT. The commit of a ray tile and of a window's last one, and the refutation of O60.
-/

namespace Sys2Proof.Machine

/-! ## A part that is written alone -/

theorem State.withRay_agree (s : State) (r : RayState) : AgreeBut [.ray] s { s with ray := r } := by
  constructor; intro x hx; cases x <;> first | rfl | exact absurd (by decide) hx

theorem State.withMemc_agree (s : State) (m : MemcState) : AgreeBut [.memc] s { s with memc := m } := by
  constructor; intro x hx; cases x <;> first | rfl | exact absurd (by decide) hx

theorem State.withDec_agree (s : State) (d : DecState) : AgreeBut [.dec] s { s with dec := d } := by
  constructor; intro x hx; cases x <;> first | rfl | exact absurd (by decide) hx

theorem State.withNet_agree (s : State) (n : NetState) : AgreeBut [.net] s { s with net := n } := by
  constructor; intro x hx; cases x <;> first | rfl | exact absurd (by decide) hx

theorem State.withEnc_agree (s : State) (e : List EncSession) : AgreeBut [.enc] s { s with enc := e } := by
  constructor; intro x hx; cases x <;> first | rfl | exact absurd (by decide) hx

theorem State.withCmp_agree (s : State) (c : CmpState) : AgreeBut [.cmp] s { s with cmp := c } := by
  constructor; intro x hx; cases x <;> first | rfl | exact absurd (by decide) hx

theorem State.withWit_agree (s : State) (w : WitState) : AgreeBut [.wit] s { s with wit := w } := by
  constructor; intro x hx; cases x <;> first | rfl | exact absurd (by decide) hx

theorem State.withChain_agree (s : State) (c : ChainState) : AgreeBut [.chain] s { s with chain := c } := by
  constructor; intro x hx; cases x <;> first | rfl | exact absurd (by decide) hx

theorem State.withDsp_agree (s : State) (d : DspState) : AgreeBut [.dsp] s { s with dsp := d } := by
  constructor; intro x hx; cases x <;> first | rfl | exact absurd (by decide) hx

theorem State.withPnl_agree (s : State) (p : PnlState) : AgreeBut [.pnl] s { s with pnl := p } := by
  constructor; intro x hx; cases x <;> first | rfl | exact absurd (by decide) hx

/-! ## What the operations of a tile's commit leave alone -/

theorem State.updTile_agree (s : State) (i : Nat) (g : Tile → Tile) : AgreeBut [.ray] s (s.updTile i g) :=
  State.withRay_agree ..

theorem State.updWit_agree (s : State) (f i : Nat) (g : Tile → Tile) : AgreeBut [.ray] s (s.updWit f i g) :=
  State.withRay_agree ..

theorem State.updRef_agree (s : State) (r : TileRef) (g : Tile → Tile) : AgreeBut [.ray] s (s.updRef r g) := by
  cases r
  · exact State.updTile_agree ..
  · exact State.updWit_agree ..

theorem State.updChan_agree (s : State) (k : Nat) (g : MemChan → MemChan) : AgreeBut [.memc] s (s.updChan k g) :=
  State.withMemc_agree ..

theorem State.updMemPort_agree (s : State) (n : Nat) (g : MemPort → MemPort) : AgreeBut [.memc] s (s.updMemPort n g) := by
  unfold State.updMemPort
  split <;> exact State.withMemc_agree ..

theorem State.serveReq_agree (s : State) (k i : Nat) : AgreeBut [.memc] s (s.serveReq k i) := by
  unfold State.serveReq
  split
  · exact .refl _ _
  · exact (State.updMemPort_agree ..).trans (State.updChan_agree ..)

theorem State.serveChan_agree : ∀ (n : Nat) (s : State) (k : Nat), AgreeBut [.memc] s (s.serveChan n k)
  | 0, s, _ => .refl _ s
  | n + 1, s, k => by
    unfold State.serveChan
    refine .ite (.refl _ _) ?_
    split
    · exact .refl _ _
    · exact (State.serveReq_agree ..).trans (State.serveChan_agree n _ k)

/-- A request for memory changes the queues and the buckets of the memory controllers, and nothing else (R471, R473). -/
theorem State.request_agree (s : State) (port addr len : Nat) (write : Bool) :
    AgreeBut [.memc] s (s.request port addr len write) :=
  AgreeBut.foldl _ (fun _ _ => (State.updChan_agree ..).trans (State.serveChan_agree ..)) _ _

theorem State.requestAll_agree (s : State) (port : Nat) (write : Bool) (spans : List (Nat × Nat)) :
    AgreeBut [.memc] s (s.requestAll port write spans) :=
  AgreeBut.foldl _ (fun _ _ => State.request_agree ..) _ _

theorem State.storeLines_agree : ∀ (ls : List (List Byte)) (s : State) (addr pitch : Nat),
    AgreeBut [.hmem, .dmem] s (s.storeLines addr pitch ls)
  | [], s, _, _ => .refl _ s
  | _ :: ls, _, addr, pitch => (State.writeAt_agree ..).trans (State.storeLines_agree ls _ (addr + pitch) pitch)

/-- Asking a cache for blocks changes that cache and the queues of the memory controllers. -/
theorem State.askBlocks_agree (s : State) (c : Nat) (witness : Bool) (bs : List CacheBlock) :
    AgreeBut [.ray, .memc] s (s.askBlocks c witness bs) := by
  let new := bs.filter fun b => !(s.ray.caches.getD c {}).blocks.any fun x => x.block == b
  exact .trans ((State.requestAll_agree s 2 false (new.flatMap s.blockSpans)).mono (by decide))
    ((State.withRay_agree ..).mono (by decide))

theorem State.countDegraded_agree (s : State) (t : Tile) (all : Bool) : AgreeBut [.ray] s (s.countDegraded t all) := by
  unfold State.countDegraded
  exact .ite (State.withRay_agree ..) (.refl _ _)

theorem State.fillPromoted_agree (s : State) (c : Nat) : AgreeBut [.ray] s (s.fillPromoted c) := by
  unfold State.fillPromoted
  refine .ite (.refl _ _) ?_
  split
  · exact State.updTile_agree ..
  · split
    · exact State.updWit_agree ..
    · exact .refl _ _

theorem State.fillSynth_agree : ∀ (n : Nat) (s : State) (c : Nat), AgreeBut [.ray] s (s.fillSynth n c)
  | 0, s, _ => .refl _ s
  | n + 1, s, c => by
    unfold State.fillSynth
    refine .ite (.refl _ _) ?_
    split
    · exact .refl _ _
    · exact (State.updTile_agree ..).trans (State.fillSynth_agree n _ c)

theorem State.fillWit_agree : ∀ (n : Nat) (s : State) (c : Nat), AgreeBut [.ray] s (s.fillWit n c)
  | 0, s, _ => .refl _ s
  | n + 1, s, c => by
    unfold State.fillWit
    refine .ite (.refl _ _) ?_
    split
    · exact .refl _ _
    · exact (State.updWit_agree ..).trans (State.fillWit_agree n _ c)

theorem State.fillCluster_eq (s : State) (c : Nat) : s.fillCluster c =
    (let u := (s.fillPromoted c).fillSynth (s.fillPromoted c).synthTiles.length c
     u.fillWit u.witCount c) := rfl

theorem State.fillCluster_agree (s : State) (c : Nat) : AgreeBut [.ray] s (s.fillCluster c) :=
  (State.fillPromoted_agree s c).trans ((State.fillSynth_agree _ _ c).trans (State.fillWit_agree _ _ c))

/-- The core goes on with the tiles of a list that it fetches (R226). -/
def State.runFetched (s : State) (l : List (TileRef × Tile)) : State :=
  l.foldl (fun s x => if x.2.state == .fetching then s.updRef x.1 fun t => { t with state := .running } else s) s

/-- A tile's views and blocks after its commit: the core's views are kept, the blocks fall free (R211, R225). -/
def State.freeBlocks (s : State) (core : Nat) (t : Tile) (mask : Nat) : State :=
  { s with ray.lastViews := setAt s.ray.lastViews core mask,
           ray.caches := updAt s.ray.caches t.cluster fun c => c.release s.blockPx t.witness }

theorem State.afterCommit_eq (s : State) (core : Nat) (t : Tile) (mask : Nat) :
    s.afterCommit core t mask = ((s.runFetched (s.tilesOf core)).freeBlocks core t mask).fillCluster t.home := rfl

theorem State.runFetched_agree (s : State) (l : List (TileRef × Tile)) : AgreeBut [.ray] s (s.runFetched l) :=
  AgreeBut.foldl _ (fun _ _ => .ite (State.updRef_agree ..) (.refl _ _)) _ _

theorem State.freeBlocks_agree (s : State) (core : Nat) (t : Tile) (mask : Nat) :
    AgreeBut [.ray] s (s.freeBlocks core t mask) :=
  State.withRay_agree ..

theorem State.afterCommit_agree (s : State) (core : Nat) (t : Tile) (mask : Nat) :
    AgreeBut [.ray] s (s.afterCommit core t mask) :=
  (State.runFetched_agree ..).trans ((State.freeBlocks_agree ..).trans (State.fillCluster_agree ..))

/-! ## The window and the complete frame through a commit -/

/-- The window in progress and the complete woven frame of the ray engine are the same in two states. -/
structure SameFrames (s u : State) : Prop where
  /-- The window. -/
  window : u.ray.window = s.ray.window
  /-- The complete woven frame. -/
  complete : u.ray.complete = s.ray.complete

theorem SameFrames.refl (s : State) : SameFrames s s := ⟨rfl, rfl⟩

theorem SameFrames.trans {s t u : State} (h : SameFrames s t) (k : SameFrames t u) : SameFrames s u :=
  ⟨k.window.trans h.window, k.complete.trans h.complete⟩

theorem SameFrames.of_ray {s u : State} (h : u.ray = s.ray) : SameFrames s u := ⟨by rw [h], by rw [h]⟩

theorem State.updWit_sameFrames (s : State) (f i : Nat) (g : Tile → Tile) : SameFrames s (s.updWit f i g) := ⟨rfl, rfl⟩

theorem SameFrames.synthTiles {s u : State} (h : SameFrames s u) : u.synthTiles = s.synthTiles := by
  unfold State.synthTiles; rw [h.window]

/-- No tile passes the test, so none is picked. -/
theorem pickTile_eq_none {good : Tile → Bool} {ts : List Tile} (before : Tile → Tile → Bool)
    (h : ∀ t ∈ ts, good t = false) : pickTile good before ts = none := by
  unfold pickTile
  refine List.foldlRecOn (motive := (· = none)) _ _ rfl fun b hb i _ => ?_
  subst hb
  dsimp only
  split
  · rfl
  · next t ht => simp [h t (List.mem_of_getElem? ht)]

theorem State.askBlocks_sameFrames (s : State) (c : Nat) (witness : Bool) (bs : List CacheBlock) :
    SameFrames s (s.askBlocks c witness bs) := by
  have h (spans : List (Nat × Nat)) : SameFrames s (s.requestAll 2 false spans) :=
    .of_ray ((State.requestAll_agree ..).same .ray (by decide))
  exact ⟨(h _).window, (h _).complete⟩

theorem State.fillSynth_of_committed {s : State} (h : ∀ t ∈ s.synthTiles, t.state = .committed) (n c : Nat) :
    s.fillSynth n c = s := by
  cases n with
  | zero => rfl
  | succ n =>
    unfold State.fillSynth
    rw [pickTile_eq_none _ fun t ht => by simp [h t ht], ite_self]

theorem State.fillPromoted_sameFrames {s : State} (h : ∀ t ∈ s.synthTiles, t.state = .committed) (c : Nat) :
    SameFrames s (s.fillPromoted c) := by
  unfold State.fillPromoted
  rw [pickTile_eq_none _ fun t ht => by simp [h t ht]]
  split
  · exact .refl s
  · dsimp only
    split
    · exact State.updWit_sameFrames ..
    · exact .refl s

theorem State.fillWit_sameFrames : ∀ (n : Nat) (s : State) (c : Nat), SameFrames s (s.fillWit n c)
  | 0, s, _ => .refl s
  | n + 1, s, c => by
    unfold State.fillWit
    split
    · exact .refl s
    · split
      · exact .refl s
      · exact (State.updWit_sameFrames ..).trans (State.fillWit_sameFrames n _ c)

/-- Giving free contexts away moves no tile of a window whose tiles have all committed (R217). -/
theorem State.fillCluster_sameFrames {s : State} (h : ∀ t ∈ s.synthTiles, t.state = .committed) (c : Nat) :
    SameFrames s (s.fillCluster c) := by
  have hp := State.fillPromoted_sameFrames h c
  rw [State.fillCluster_eq, State.fillSynth_of_committed (by rwa [hp.synthTiles])]
  exact hp.trans (State.fillWit_sameFrames ..)

/-- A tile in progress whose name is of the window is one of its tiles. -/
theorem State.mem_synthTiles_of_mem_allTiles {s : State} {i : Nat} {t : Tile} (h : (TileRef.synth i, t) ∈ s.allTiles) :
    t ∈ s.synthTiles := by
  simp only [State.allTiles, List.mem_append, List.mem_map, List.mem_flatMap, Prod.mk.injEq, TileRef.synth.injEq,
    reduceCtorEq, false_and, and_false, exists_false, or_false] at h
  obtain ⟨x, hx, -, rfl⟩ := h
  exact (List.mem_zipIdx' hx).2 ▸ List.getElem_mem _

/-- The core goes on with tiles of no window whose tiles have all committed (R226). -/
theorem State.runFetched_sameFrames : ∀ (l : List (TileRef × Tile)) (s : State),
    (∀ i t, (TileRef.synth i, t) ∈ l → t.state = .committed) → SameFrames s (s.runFetched l)
  | [], s, _ => .refl s
  | (r, t) :: l, s, h => by
    refine SameFrames.trans ?_ (State.runFetched_sameFrames l _ fun i u hu => h i u (List.mem_cons_of_mem _ hu))
    cases r with
    | synth i => simp [h i t List.mem_cons_self, SameFrames.refl]
    | wit f i =>
      dsimp only
      split
      · exact State.updWit_sameFrames ..
      · exact .refl s

theorem State.freeBlocks_sameFrames (s : State) (core : Nat) (t : Tile) (mask : Nat) :
    SameFrames s (s.freeBlocks core t mask) := ⟨rfl, rfl⟩

theorem State.afterCommit_sameFrames {s : State} (h : ∀ t ∈ s.synthTiles, t.state = .committed) (core : Nat) (t : Tile)
    (mask : Nat) : SameFrames s (s.afterCommit core t mask) := by
  have hf := (State.runFetched_sameFrames (s.tilesOf core) s fun i u hu =>
    h u (State.mem_synthTiles_of_mem_allTiles (List.mem_filter.1 hu).1)).trans
      (State.freeBlocks_sameFrames _ core t mask)
  rw [State.afterCommit_eq]
  exact hf.trans (State.fillCluster_sameFrames (hf.synthTiles ▸ h) _)

/-! ## Events at the sideband -/

/-- An event whose code the sideband does not mask leaves a mark there: it is held, or counted as lost (R75, R92). -/
theorem State.deliverSideband_smb_ne {s : State} {e : EventRec} (h : s.smb.masked.contains e.code = false) :
    (s.deliverSideband e).smb ≠ s.smb := by
  unfold State.deliverSideband
  rw [if_neg (by rw [h]; decide)]
  split
  · intro he
    have hl := congrArg SmbState.lost he
    simp at hl
  · intro he
    have hl := congrArg (fun m : SmbState => m.events.length) he
    simp at hl

/-- What an event changes at the sideband is its delivery there. -/
theorem State.raise_smb_ne {s : State} {e : Event} (hr : e.code.logOnly = false)
    (hm : s.smb.masked.contains e.code.code = false) : (s.raise e).smb ≠ s.smb := by
  have hsame (u : State) (hu : u.smb = s.smb) :
      ((u.deliverAll e (s.stampEvent e) allFuncs).deliverSideband (s.stampEvent e)).smb ≠ s.smb := by
    have hd : (u.deliverAll e (s.stampEvent e) allFuncs).smb = s.smb :=
      ((State.deliverAll_agree ..).same .smb (by decide)).trans hu
    rw [← hd]
    exact State.deliverSideband_smb_ne (by rwa [hd])
  unfold State.raise
  rw [if_neg (by simp [hr])]
  exact hsame _ (by split <;> simp)

/-! ## The commit of a window's last tile -/

theorem State.freeSlot_agree (s : State) (k : Nat) : AgreeBut [.dec] s (s.freeSlot k) :=
  State.withDec_agree ..

theorem State.sweepList_agree : ∀ (l : List Nat) (s : State), AgreeBut [.dec] s (s.sweepList l)
  | [], s => .refl _ s
  | _ :: ks, _ => .trans (.ite (State.freeSlot_agree ..) (.refl _ _)) (State.sweepList_agree ks _)

/-- Clearing HELD_BY_RAY changes the picture pool, and nothing else (R37, R162). -/
theorem State.sweepHeld_agree (s : State) : AgreeBut [.dec] s s.sweepHeld :=
  .trans (State.withDec_agree ..) (State.sweepList_agree _ _)

/-- What the ray engine keeps of a window that completes (R30, R227, R230, R240). -/
def State.endWindow (s : State) (w : Window) : State :=
  { s with
    ray.window := none
    ray.complete := some { seq := w.seq, doneMt := s.time.mt, inp := w.inp, buffer := w.buffer,
                           degraded := decide (0 < (w.tiles.filter Tile.degraded).length), before := w.before,
                           changedBefore := w.changedBefore }
    ray.last := s.lastWindow w
    ray.lastRung := some w.inp.rung
    ray.measured := updAt s.ray.measured w.inp.rung fun l => (tileCosts w.tiles :: l).take 8
    ray.goodWindows := if s.windowGood w then s.ray.goodWindows + 1 else 0 }

theorem State.completeWindow_eq (s : State) (w : Window) : s.completeWindow w =
    if (w.tiles.filter Tile.degraded).length = 0 then (s.endWindow w).sweepHeld
    else (s.endWindow w).sweepHeld.raise
      { code := .tileDegraded, data0 := w.inp.au.toNat, data1 := (w.tiles.filter Tile.degraded).length } := rfl

/-- A window with a DEGRADED tile that completes raises TILE_DEGRADED, which the sideband receives unless it masks it
(R92, R242). -/
theorem State.completeWindow_smb_ne {s : State} {w : Window} (hd : ∃ t ∈ w.tiles, t.degraded = true)
    (hm : s.smb.masked.contains EventCode.tileDegraded.code = false) : (s.completeWindow w).smb ≠ s.smb := by
  have hbad : (w.tiles.filter Tile.degraded).length ≠ 0 := by
    obtain ⟨t, ht, htd⟩ := hd
    exact Nat.ne_of_gt (List.length_pos_of_mem (List.mem_filter.mpr ⟨ht, htd⟩))
  have hs : (s.endWindow w).sweepHeld.smb = s.smb := (State.sweepHeld_agree _).same .smb (by decide)
  rw [State.completeWindow_eq, if_neg hbad, ← hs]
  exact State.raise_smb_ne rfl (by rw [hs]; exact hm)

/-- The tiles of a window when the last one of them commits. -/
theorem all_committed_of_last {ts : List Tile} {i : Nat} (h : (ts.eraseIdx i).all (·.state == .committed) = true)
    (n : Nat) (now : Word) (flags : Nat × Bool × Bool) :
    ∀ t ∈ updAt ts i fun t => t.commit n now flags, t.state = .committed := by
  intro t ht
  obtain ⟨j, hj⟩ := List.mem_iff_getElem?.mp ht
  rw [updAt, List.getElem?_modify] at hj
  obtain ⟨u, hu, rfl⟩ := Option.map_eq_some_iff.mp hj
  split
  · rfl
  · next hji =>
    have := List.all_eq_true.mp h u (List.mem_eraseIdx_iff_getElem?.mpr ⟨j, Ne.symm hji, hu⟩)
    simpa using this

/-- What the commit of a synthesis tile does before its context falls free: it asks for blocks, and writes the tile (R216,
R226). -/
theorem State.commitSynth_eq (s : State) (core i n : Nat) (t : Tile) (w : Window) :
    ∃ u flags, AgreeBut [.ray, .hmem, .dmem, .memc] s u ∧ SameFrames s u ∧ s.commitSynth core i n t w =
      (((u.updTile i fun t => t.commit n (dtNs u.time.dt) flags).countDegraded t flags.2.1).afterCommit core t
        flags.1).settleWindow := by
  let u := s.askBlocks t.cluster false (tileBlocks w.inp (s.anchors t.cluster w.inp) t)
  let a := u.anchors t.cluster w.inp
  let v := u.writeTile w.inp a (u.wovenAddr w.buffer) t
  have hu : AgreeBut [.ray, .memc] s u := State.askBlocks_agree ..
  have hv : AgreeBut [.hmem, .dmem] u v := State.storeLines_agree ..
  have hr (b p : Nat) : AgreeBut [.memc] v (v.requestTile b p t) := State.requestAll_agree ..
  refine ⟨v.requestTile (v.wovenAddr w.buffer) (wovenPitch (blobWidth w.inp.blob)) t, tileFlags w.inp a t.rungZero t,
    ?_, ?_, ?_⟩
  · exact .after (hr _ _) (by decide) (.after hv (by decide) (hu.mono (by decide)))
  · exact (State.askBlocks_sameFrames ..).trans
      ((SameFrames.of_ray (hv.same .ray (by decide))).trans (.of_ray ((hr _ _).same .ray (by decide))))
  · rfl

theorem State.countDegraded_sameFrames (s : State) (t : Tile) (all : Bool) : SameFrames s (s.countDegraded t all) := by
  unfold State.countDegraded
  split
  · exact ⟨rfl, rfl⟩
  · exact .refl s

/-- A window whose tiles have all committed is complete at once, when no complete frame waits for its flip (R30). -/
theorem State.settleWindow_last {s : State} {w : Window} (hw : s.ray.window = some w)
    (hall : ∀ t ∈ w.tiles, t.state = .committed) (hc : s.ray.complete = none) : s.settleWindow = s.completeWindow w := by
  have hb : w.tiles.all (·.state == .committed) = true := List.all_eq_true.mpr fun t ht => by simp [hall t ht]
  simp only [State.settleWindow, hw, hb, hc, Option.isNone_none, Bool.and_self, if_true]

/-- The commit of a window's last tile changes the sideband when the tile runs at rung 0, and so is DEGRADED: the window's
completion raises TILE_DEGRADED (R238, R242). -/
theorem State.commitSynth_smb_ne {s : State} {core i n : Nat} {t : Tile} {w : Window} (hw : s.ray.window = some w)
    (hi : w.tiles[i]? = some t) (hl : (w.tiles.eraseIdx i).all (·.state == .committed) = true)
    (hc : s.ray.complete = none) (hz : t.rungZero = true)
    (hm : s.smb.masked.contains EventCode.tileDegraded.code = false) : (s.commitSynth core i n t w).smb ≠ s.smb := by
  obtain ⟨u, flags, hu, hf, he⟩ := s.commitSynth_eq core i n t w
  let v := u.updTile i fun t => t.commit n (dtNs u.time.dt) flags
  let w' : Window := { w with tiles := updAt w.tiles i fun t => t.commit n (dtNs u.time.dt) flags }
  have hall : ∀ x ∈ w'.tiles, x.state = .committed :=
    all_committed_of_last hl n (dtNs u.time.dt) flags
  have hvw : (v.countDegraded t flags.2.1).ray.window = some w' := by
    rw [(State.countDegraded_sameFrames ..).window]
    simp [v, w', State.updTile, hf.window, hw]
  have hsame : SameFrames (v.countDegraded t flags.2.1) ((v.countDegraded t flags.2.1).afterCommit core t flags.1) :=
    State.afterCommit_sameFrames (by simpa [State.synthTiles, hvw] using hall) core t flags.1
  have hsmb : ((v.countDegraded t flags.2.1).afterCommit core t flags.1).smb = s.smb := by
    rw [(State.afterCommit_agree ..).same .smb (by decide), (State.countDegraded_agree ..).same .smb (by decide)]
    exact hu.same .smb (by decide)
  have hcn : ((v.countDegraded t flags.2.1).afterCommit core t flags.1).ray.complete = none := by
    rw [hsame.complete, (State.countDegraded_sameFrames ..).complete]
    exact hf.complete.trans hc
  rw [he, State.settleWindow_last (hsame.window.trans hvw) hall hcn, ← hsmb]
  refine State.completeWindow_smb_ne ⟨t.commit n (dtNs u.time.dt) flags, ?_, ?_⟩ (by rw [hsmb]; exact hm)
  · exact List.mem_of_getElem? (i := i) (by simp [w', updAt, hi])
  · simp [Tile.degraded, Tile.commit, hz]

theorem exec_tileCommit (core : Fin 96) (n : Nat) (s : State) :
    exec (.tileCommit core n) s = .next (s.tileCommit core.val n) := rfl

/-- The commit of the synthesis tile that a core runs (R226). -/
theorem State.tileCommit_synth {s : State} {core i : Nat} {t : Tile} {w : Window} (n : Nat) (hr : s.rayWorks = true)
    (hw : s.ray.window = some w)
    (ht : (s.tilesOf core).find? (fun x => x.2.state == .running) = some (.synth i, t)) :
    s.tileCommit core n = s.commitSynth core i n t w := by
  simp [State.tileCommit, hr, ht, hw]

/-! ## A window whose only tile is at rung 0 -/

/-- A tile at the corner of a panel that runs on core 0 at rung 0, as one re-issued four times does (R238). -/
def rungZeroTile : Tile :=
  { witness := false, tx := 0, ty := 0, band := 0, pos := 0, home := 0, cluster := 0, state := .running, core := 0,
    deadline := 0, rungZero := true, lines := 32, pixels := 64, est := 0 }

/-- The window of a panel of one tile. -/
def rungZeroWindow : Window :=
  { seq := 0, inp := { slot := 0, au := 0, ctx := 0, params := { scene := [], layout := [] }, concealed := 0, dMin := 0,
                       dMax := 4095, histCount := 0, matrix := 1, range := 0, blob := [], dt16 := 0, curve := [], rung := 4,
                       chanMap := 0x24 },
    opened := 0, target := 16666666, buffer := 0, tiles := [rungZeroTile], resynth := false, before := none,
    changedBefore := false }

/-- A device that works on that window. -/
def rungZeroState : State :=
  { State.reset with pwr.resetLow := false, sup.supState := 0, ray.window := some rungZeroWindow }

/-- Refutes O60: a window whose last tile is DEGRADED raises TILE_DEGRADED when it completes, and the sideband receives
that event; the statement's clause of a window's last tile has the sideband unchanged. -/
theorem not_tiles : ¬ Obligations.Tiles := by
  intro h
  obtain ⟨-, -, -, -, -, commitsSynth, -⟩ := h.1 rungZeroState
  have hrun : (rungZeroState.tilesOf 0).find? (fun x => x.2.state == .running) = some (.synth 0, rungZeroTile) := by decide
  obtain ⟨u, hu, -, -, last⟩ := commitsSynth 0 0 0 rungZeroTile rungZeroWindow rfl rfl hrun
  obtain ⟨-, -, hagree, -⟩ := last rfl rfl
  have he : rungZeroState.tileCommit (0 : Fin 96).val 0 = _ := State.tileCommit_synth 0 rfl rfl hrun
  rw [exec_tileCommit, he] at hu
  obtain rfl := Host.Outcome.next.inj hu
  exact State.commitSynth_smb_ne rfl rfl rfl rfl rfl rfl (hagree.same .smb (by decide))

end Sys2Proof.Machine
end

section
/-!
SUPPORT. A device whose window opening raises an event, and the refutation of O59.
-/

namespace Sys2Proof.Machine

/-- The header of a ray-model blob for a panel of 64 by 32 pixels (R195). -/
def headerBlob : List Byte := [0x52, 0x55, 0x4D, 0x42, 1, 0, 0, 0, 0x88, 3, 0, 0, 64, 0, 32, 0]

/-- A timing of that panel at 60 Hz. -/
def smallTiming : Timing :=
  { hactive := 64, vactive := 32, hblank := 128, vblank := 64, refresh := 60000, parallax := 0, chanMap := 0x24, blank := 0,
    nb := 0, fb := 0 }

/-- The parameter set of a scene of two views. -/
def smallParams : ParamSet := { scene := [1, 0, 2, 0, 32, 0, 16, 0], layout := [] }

/-- A device that may open a window on a complete picture of context 0, with a curve of the host that waits for the opening. -/
def waitingCurve : State :=
  { State.reset with
    sup.supState := 0
    time.mt := 10 * secUnits
    dsp.timing := some smallTiming
    dsp.nextGrid := some (11 * secUnits)
    ray.active := some headerBlob
    ray.armed := true
    ray.nextCurve := some [0, 512, 1024, 1536, 2048, 2560, 3072, 3584, 4095]
    strm.onAir := some 0
    dec.slots := [{ state := .complete, au := 5, params := some smallParams, outputPending := true }]
    cmd.policies := List.replicate 7 true }

theorem exec_synthesisWindowOpen (s : State) : exec .synthesisWindowOpen s = .next s.openWindow := rfl

/-- The opening tells the curve: DEPTH_BUDGET_CHANGED stands at the sideband, which held no event before (R92, R242). -/
theorem waitingCurve_openWindow_events : waitingCurve.openWindow.smb.events.length = 1 := by decide +kernel

/-- Refutes O59: a curve of the host that takes effect at an opening raises DEPTH_BUDGET_CHANGED, and the sideband receives
that event; the statement's clause of a started window has the sideband unchanged. -/
theorem not_windowOpens : ¬ Obligations.WindowOpens := by
  intro h
  obtain ⟨-, -, starts⟩ := h waitingCurve
  obtain ⟨t, ht, hagree, -⟩ := starts smallTiming (11 * secUnits) headerBlob 0 false smallParams (by decide +kernel) rfl
    (by decide +kernel) rfl rfl rfl (by decide +kernel) rfl
  rw [exec_synthesisWindowOpen] at ht
  obtain rfl := Host.Outcome.next.inj ht
  have hsmb : waitingCurve.openWindow.smb = waitingCurve.smb := hagree.same .smb (by decide)
  have hlen := waitingCurve_openWindow_events
  rw [hsmb] at hlen
  exact absurd hlen (by decide)

end Sys2Proof.Machine
end

section
/-!
SUPPORT. What the chain, the witness, the layers and the panel leave alone at a frame-start event (for O49).
-/

namespace Sys2Proof.Machine

/-! ## The chain, its records sent out, and the witness -/

theorem State.updPort_agree (s : State) (n : Nat) (g : PortState → PortState) : AgreeBut [.net] s (s.updPort n g) :=
  State.withNet_agree ..

theorem State.correct_agree (s : State) (n raw : Nat) (f : List Byte) : AgreeBut [.net] s (s.correct n raw f).2 := by
  unfold State.correct
  split
  · exact .refl _ _
  · split
    · exact .refl _ _
    · exact State.updPort_agree ..

theorem State.stampOut_agree (s : State) (n : Nat) (f : OutFrame) : AgreeBut [.net] s (s.stampOut n f).2 := by
  unfold State.stampOut
  split
  · exact .refl _ _
  · exact State.withNet_agree ..
  · exact State.updPort_agree ..
  · exact State.correct_agree ..
  · split <;> exact .refl _ _

theorem State.drainPort_agree (s : State) (n : Nat) : AgreeBut [.net] s (s.drainPort n) := by
  unfold State.drainPort
  refine .ite (.refl _ _) ?_
  split
  · exact .refl _ _
  · exact (State.updPort_agree ..).trans ((State.stampOut_agree ..).trans (State.updPort_agree ..))

/-- A frame that leaves a port changes the network unit, and nothing else (R449). -/
theorem State.sendFrame_agree (s : State) (n : Nat) (f : List Byte) : AgreeBut [.net] s (s.sendFrame n f) :=
  .ite ((State.updPort_agree ..).trans (State.drainPort_agree ..)) (.refl _ _)

/-- The parts that a step of the evidence chain may change: its records and their head, the target it sends them to with its memory
and ports, a WIT_STOP that it ends, and the events that it raises (R398 to R412). -/
abbrev chainParts : List Piece := [.hmem, .dmem, .fns, .cmd, .smb, .net, .sup, .wit, .chain, .nvm]

theorem State.putRecord_agree (s : State) (h : ChainHead) (n : Nat) (bs : List Byte) :
    AgreeBut chainParts s (s.putRecord h n bs) := by
  constructor; intro x hx; cases x <;> first | rfl | exact absurd (by decide) hx

theorem State.appendRecord_agree (s : State) (typ flags dfn psn et : Nat) (body : List Byte) :
    AgreeBut chainParts s (s.appendRecord typ flags dfn psn et body) := State.putRecord_agree ..

theorem State.withChain_chainParts (s : State) (c : ChainState) : AgreeBut chainParts s { s with chain := c } :=
  (State.withChain_agree ..).mono (by decide)

theorem State.raise_chainParts (s : State) (e : Event) : AgreeBut chainParts s (s.raise e) :=
  (State.raise_agree ..).mono (by decide)

theorem State.writeAt_chainParts (s : State) (l : Loc) (bs : List Byte) : AgreeBut chainParts s (s.writeAt l bs) :=
  (State.writeAt_agree ..).mono (by decide)

theorem State.appendItem_agree (s : State) (i : ChainItem) : AgreeBut chainParts s (s.appendItem i) := by
  cases i with
  | frame w => exact (State.withChain_chainParts ..).trans (State.appendRecord_agree ..)
  | slice dfn psn et flags body last =>
    refine .ite (State.appendRecord_agree ..) ?_
    have h := (State.appendRecord_agree s 3 flags dfn.toNat psn.toNat et body).trans
      (State.withChain_chainParts _ { (s.appendRecord 3 flags dfn.toNat psn.toNat et body).chain with openDfn := none })
    exact .ite (h.trans (State.withChain_chainParts ..)) h
  | sign reason => exact State.withChain_chainParts ..
  | start reason => exact State.appendRecord_agree ..
  | resume cause =>
    unfold State.appendItem
    exact (State.appendRecord_agree ..).trans (State.raise_chainParts ..)

theorem State.pumpItems_agree : ∀ (n : Nat) (s : State), AgreeBut chainParts s (s.pumpItems n)
  | 0, s => .refl _ s
  | n + 1, s => by
    unfold State.pumpItems
    refine .ite (.refl _ _) ?_
    split
    · exact .refl _ _
    · exact .ite (.refl _ _)
        ((State.withChain_chainParts ..).trans ((State.appendItem_agree ..).trans (State.pumpItems_agree n _)))

theorem State.ringWrite_agree (s : State) (ring : Bool × Nat) (d wr pad : Nat) (padBytes entry : List Byte) :
    AgreeBut chainParts s (s.ringWrite ring d wr pad padBytes entry).1 := by
  unfold State.ringWrite
  exact .trans (.ite (.refl _ _) (State.writeAt_chainParts ..))
    ((State.writeAt_chainParts ..).trans (State.writeAt_chainParts ..))

theorem State.ackRecords_agree (s : State) (n : Nat) : AgreeBut chainParts s (s.ackRecords n) := by
  unfold State.ackRecords
  split
  · refine .ite (.refl _ _) ?_
    constructor; intro x hx; cases x <;> first | rfl | exact absurd (by decide) hx
  · exact .refl _ _

theorem State.exportDatagrams_agree (s : State) (port : Nat) (l : List (List Byte)) :
    AgreeBut chainParts s (l.foldl (fun s d => s.exportDatagram port d) s) :=
  AgreeBut.foldl _ (fun _ _ => (State.sendFrame_agree ..).mono (by decide)) _ _

theorem State.exportOne_agree {s t : State} (h : s.exportOne = some t) : AgreeBut chainParts s t := by
  unfold State.exportOne at h
  split at h
  case h_1 r hd _ _ =>
    split at h
    · cases h
    · split at h
      · dsimp only at h
        split at h
        · cases h
        · obtain rfl := Option.some.inj h
          exact (State.ringWrite_agree ..).trans (State.withChain_chainParts ..)
      · obtain rfl := Option.some.inj h
        refine .trans (State.exportDatagrams_agree s (s.chain.target - 2) (recordDatagrams hd.chainId r)) ?_
        exact .ite (State.withChain_chainParts ..) ((State.withChain_chainParts ..).trans (State.ackRecords_agree ..))
  case h_2 => cases h

theorem State.exportAll_agree : ∀ (n : Nat) (s : State), AgreeBut chainParts s (s.exportAll n)
  | 0, s => .refl _ s
  | n + 1, s => by
    unfold State.exportAll
    split
    · exact .refl _ _
    · next t ht => exact (State.exportOne_agree ht).trans (State.exportAll_agree n t)

theorem State.pumpChain_agree (s : State) : AgreeBut chainParts s s.pumpChain :=
  (State.pumpItems_agree ..).trans (.trans (.trans (.ite (State.ackRecords_agree ..) (.refl _ _)) (State.exportAll_agree ..))
    (State.pumpItems_agree ..))

theorem State.pushItem_agree (s : State) (i : ChainItem) : AgreeBut chainParts s (s.pushItem i) :=
  (State.withChain_chainParts ..).trans (State.pumpChain_agree _)

theorem State.pushResume_agree (s : State) : AgreeBut chainParts s s.pushResume := by
  unfold State.pushResume
  split
  · exact (State.withChain_chainParts ..).trans (State.pushItem_agree ..)
  · exact State.withChain_chainParts ..

theorem State.updSession_agree (s : State) (n : Nat) (g : EncSession → EncSession) : AgreeBut [.enc] s (s.updSession n g) :=
  State.withEnc_agree ..

/-- A witness picture is handed to the chain and to the sessions; where a woven frame is presented, its tiles are queued in
the ray engine (R372). -/
theorem State.takePicture_inv (s : State) (b : Nat) (t : Timing) : ∃ v, AgreeBut (.enc :: chainParts) s v ∧
    (s.takePicture b t = v ∨ ∃ l, s.takePicture b t = ({ v with ray.witFrames := l } : State).fillAll) := by
  unfold State.takePicture
  extract_lets c g all idr w taps s1 s2 src s3 s4 s5
  have h1 : AgreeBut chainParts s s1 := State.pushResume_agree s
  have h2 : AgreeBut chainParts s1 s2 := State.pushItem_agree ..
  have h3 : AgreeBut chainParts s2 s3 := by
    constructor; intro x hx; cases x <;> first | rfl | exact absurd (by decide) hx
  have h4 : AgreeBut [.enc] s3 s4 := State.updSession_agree ..
  have h5 : AgreeBut [.enc] s4 s5 := by
    refine AgreeBut.foldl _ (fun s n => ?_) _ _
    split
    · exact State.updSession_agree ..
    · exact .refl _ _
  refine ⟨s5, .trans (.mono ((h1.trans h2).trans h3) (by decide)) ((h4.trans h5).mono (by decide)), ?_⟩
  split
  · exact .inl rfl
  · exact .inr ⟨_, rfl⟩

theorem State.fillAll_agree (s : State) : AgreeBut [.ray] s s.fillAll :=
  AgreeBut.foldl _ (fun s c => State.fillCluster_agree s c) _ _

/-- A witness at a frame-start event leaves alone what the raster and the time bases hold (R371, R372). -/
theorem State.takeWitness_agree (s : State) : AgreeBut (.ray :: .enc :: chainParts) s s.takeWitness := by
  have hw (u : WitState) : AgreeBut (.ray :: .enc :: chainParts) s { s with wit := u } :=
    (State.withWit_agree ..).mono (by decide)
  unfold State.takeWitness
  split
  · exact .refl _ _
  · refine .ite (.refl _ _) ?_
    dsimp only
    refine .ite (hw _) ?_
    split
    · next t _ _ b _ =>
      obtain ⟨v, hv, he⟩ := s.takePicture_inv b t
      have hv' : AgreeBut (.ray :: .enc :: chainParts) s v := hv.mono (by decide)
      rcases he with he | ⟨l, he⟩
      · exact he ▸ hv'
      · rw [he]
        exact hv'.trans (.trans ((State.withRay_agree ..).mono (by decide)) ((State.fillAll_agree _).mono (by decide)))
    · exact hw _

/-! ## The presented frame -/

theorem State.fillPromoted_presented (s : State) (c : Nat) : (s.fillPromoted c).ray.presented = s.ray.presented := by
  unfold State.fillPromoted
  split
  · rfl
  · split
    · rfl
    · split <;> rfl

theorem State.fillSynth_presented : ∀ (n : Nat) (s : State) (c : Nat), (s.fillSynth n c).ray.presented = s.ray.presented
  | 0, _, _ => rfl
  | n + 1, s, c => by
    unfold State.fillSynth
    split
    · rfl
    · split
      · rfl
      · exact State.fillSynth_presented n _ c

theorem State.fillWit_presented : ∀ (n : Nat) (s : State) (c : Nat), (s.fillWit n c).ray.presented = s.ray.presented
  | 0, _, _ => rfl
  | n + 1, s, c => by
    unfold State.fillWit
    split
    · rfl
    · split
      · rfl
      · exact State.fillWit_presented n _ c

theorem State.fillCluster_presented (s : State) (c : Nat) : (s.fillCluster c).ray.presented = s.ray.presented := by
  rw [State.fillCluster_eq]
  exact (State.fillWit_presented ..).trans ((State.fillSynth_presented ..).trans (State.fillPromoted_presented ..))

theorem State.fillAll_presented (s : State) : s.fillAll.ray.presented = s.ray.presented := by
  simp [State.fillAll, State.fillCluster_presented]

theorem State.takeWitness_presented (s : State) : s.takeWitness.ray.presented = s.ray.presented := by
  unfold State.takeWitness
  split
  · rfl
  · split
    · rfl
    · dsimp only
      split
      · rfl
      · split
        · next t _ _ _ _ b _ =>
          obtain ⟨v, hv, he⟩ := s.takePicture_inv b t
          have hr : v.ray = s.ray := hv.same .ray (by decide)
          rcases he with he | ⟨l, he⟩
          · rw [he, hr]
          · rw [he, State.fillAll_presented]
            show v.ray.presented = s.ray.presented
            rw [hr]
        · rfl

/-! ## The layers and the panel -/

theorem State.updLayer_agree (s : State) (n : Nat) (g : Layer → Layer) : AgreeBut [.cmp] s (s.updLayer n g) :=
  State.withCmp_agree ..

/-- Pending changes that latch change the layers, and end or commit the packets that made them (R274, R278). -/
theorem State.latchLayer_agree (s : State) (n : Nat) : AgreeBut [.cmp, .cmd, .fns, .hmem, .dmem, .smb] s (s.latchLayer n) := by
  have hl (u : State) (g : Layer → Layer) : AgreeBut [.cmp, .cmd, .fns, .hmem, .dmem, .smb] u (u.updLayer n g) :=
    (State.updLayer_agree ..).mono (by decide)
  unfold State.latchLayer
  refine .ite (hl _ _) ?_
  split
  · exact hl _ _
  · refine .ite (.refl _ _) ?_
    split
    · exact (hl _ _).trans ((State.finish_agree ..).mono (by decide))
    · refine .ite (.ite (hl _ _) (.refl _ _)) ?_
      exact .trans ((State.commitFlight_agree ..).mono (by decide)) (hl _ _)

theorem State.latchLayers_agree (s : State) : AgreeBut [.cmp, .cmd, .fns, .hmem, .dmem, .smb] s s.latchLayers :=
  AgreeBut.foldl _ (fun s n => State.latchLayer_agree s n) _ _

/-- The parts that the panel's events may change: the panel, and what their reports change. -/
abbrev panelParts : List Piece := [.pnl, .free, .cmd, .fns, .hmem, .dmem, .smb, .sup]

theorem State.withPnl_panelParts (s : State) (p : PnlState) : AgreeBut panelParts s { s with pnl := p } :=
  (State.withPnl_agree ..).mono (by decide)

theorem State.outcome_panelParts (s : State) (t : Nat) (st : Status) (d : Nat) : AgreeBut panelParts s (s.outcome t st d) :=
  (State.outcome_agree ..).mono (by decide)

theorem State.enterDriving_agree (s : State) : AgreeBut panelParts s s.enterDriving := by
  unfold State.enterDriving
  split
  · exact .refl _ _
  · refine .ite (.refl _ _) ?_
    split
    · split
      · exact (State.withPnl_panelParts ..).trans ((State.recovered_agree ..).mono (by decide))
      · exact State.withPnl_panelParts ..
    · exact .trans (State.withPnl_panelParts ..)
        (.trans ((State.raise_agree ..).mono (by decide)) (State.outcome_panelParts ..))

theorem State.gammaAtFrame_agree (s : State) : AgreeBut panelParts s s.gammaAtFrame := by
  unfold State.gammaAtFrame
  split
  · exact .refl _ _
  · exact .ite (.refl _ _) ((State.withPnl_panelParts ..).trans ((State.finish_agree ..).mono (by decide)))

/-- The panel's part of a frame-start event changes the panel, and reports (R333, R346, R352, R355). -/
theorem State.panelFrame_agree (s : State) : AgreeBut panelParts s s.panelFrame := by
  unfold State.panelFrame
  refine .trans ?_ ((State.enterDriving_agree _).trans (State.gammaAtFrame_agree _))
  split
  · exact .refl _ _
  · exact .ite ((State.withPnl_panelParts ..).trans (State.withPnl_panelParts ..)) (State.withPnl_panelParts ..)

end Sys2Proof.Machine
end

section
/-!
SUPPORT. The steps of a frame-start event, and what the event makes of the raster and the bases (for O49).
-/

namespace Sys2Proof.Machine

/-! ## The steps of a frame-start event -/

/-- A frame-start event is counted, and with it the offset and the reference in force come in (R291, R311, R663). -/
def State.countFrame (s : State) : State :=
  let s := { s with dsp.dfn := s.dsp.dfn + 1, dsp.gridCount := 0,
                    dsp.offset := s.dsp.offsetNext.getD s.dsp.offset, dsp.offsetNext := none,
                    time.refUsed := s.time.refPresent,
                    dsp.syncPulses := if s.dsp.lock.syncOut then s.dsp.syncPulses + 1 else s.dsp.syncPulses }
  { s with dsp.slot := s.eventSlot }

/-- An acquired source places its first event with one that may carry it (R306). -/
def State.placeFirst (s : State) (mt : Nat) (placed : Bool) : State :=
  match s.dsp.timing with
  | some t => if placed && s.dsp.acquired then s.placeLock t mt else s
  | none => s

/-- The ray engine is armed for the window of the next frame (R213). -/
def State.armRay (s : State) : State := { s with ray.armed := true }

/-- What latches with a frame-start event: the layers, the panel's settings, the witness and the pictures that the ray engine
still needs (R31, R37, R333, R371). -/
def State.latchFrame (s : State) : State := s.latchLayers.armRay.panelFrame.takeWitness.sweepHeld

theorem State.frameStart_eq (s : State) (mt : Nat) (nt : Option Nat) (placed base : Bool) :
    s.frameStart mt nt placed base =
      ((((((s.applyDtStep.swapTiming mt).countFrame.takeRate base).flipWoven).placeFirst mt
        (placed && s.dsp.timingNext.isNone)).takeStamp mt nt).latchFrame).frameOutcomes := by
  unfold State.frameStart
  extract_lets p s1 time1 dsp1 s2 dsp2 s3 s4 s5 s6 s7 ray7 s8 s9
  have h3 : s3 = s1.countFrame := rfl
  have h4 : s4 = (s3.takeRate base).flipWoven := rfl
  have hp : p = (placed && s.dsp.timingNext.isNone) := rfl
  clear_value s4 p
  have h5 : s5 = s4.placeFirst mt p := by unfold State.placeFirst; rfl
  clear_value s5
  have h6 : s6 = s5.takeStamp mt nt := rfl
  clear_value s6
  have h7 : s7 = s6.latchLayers := rfl
  clear_value s7
  have h8 : s8 = s7.armRay.panelFrame := rfl
  clear_value s8
  have h9 : s9 = s8.takeWitness.sweepHeld := rfl
  rw [h9, h8, h7, h6, h5, h4, h3, hp]
  rfl

theorem State.switchVcom_agree (s : State) (r : Nat) : AgreeBut [.pnl] s (s.switchVcom r) := by
  unfold State.switchVcom
  exact .ite (State.withPnl_agree ..) (.refl _ _)

/-- The parts that an event may change. -/
abbrev eventParts : List Piece := [.fns, .hmem, .dmem, .smb, .sup]

/-! ### The rate -/

theorem State.takeRate_agree (s : State) (base : Bool) : AgreeBut (.dsp :: .pnl :: eventParts) s (s.takeRate base) := by
  unfold State.takeRate
  extract_lets old new d u
  have hu : AgreeBut (.dsp :: .pnl :: eventParts) s u :=
    .trans ((State.withDsp_agree s _).mono (by decide)) ((State.switchVcom_agree ..).mono (by decide))
  refine .ite hu (hu.trans (.trans ?_ ((State.raise_agree ..).mono (by decide))))
  exact (State.withDsp_agree ..).mono (by decide)

theorem State.takeRate_dsp (s : State) (base : Bool) : ∃ r n, (s.takeRate base).dsp =
    { s.dsp with rate := r, rateNext := none, wantBase := false, stillSince := n } := by
  unfold State.takeRate
  extract_lets old new d u
  have hu : u.dsp = { s.dsp with rate := new, rateNext := none, wantBase := false } :=
    (State.switchVcom_agree ..).same .dsp (by decide)
  split
  · exact ⟨new, s.dsp.stillSince, hu⟩
  · exact ⟨new, u.mtNs, (State.raise_dsp ..).trans (congrArg (fun d : DspState => { d with stillSince := u.mtNs }) hu)⟩

/-! ### The flip -/

/-- What a flip or a repeat may change: the ray engine, the pool, the raster's marks, and the events (R30, R33, R240). -/
abbrev flipParts : List Piece := .dsp :: .ray :: .dec :: eventParts

theorem State.completeWindow_agree (s : State) (w : Window) : AgreeBut flipParts s (s.completeWindow w) := by
  have h : AgreeBut flipParts s (s.endWindow w).sweepHeld := by
    exact .trans ((State.withRay_agree ..).mono (by decide)) ((State.sweepHeld_agree _).mono (by decide))
  rw [State.completeWindow_eq]
  exact .ite h (h.trans ((State.raise_agree ..).mono (by decide)))

theorem State.completeWindow_dsp (s : State) (w : Window) : (s.completeWindow w).dsp = s.dsp := by
  have h : (s.endWindow w).sweepHeld.dsp = s.dsp := (State.sweepHeld_agree _).same .dsp (by decide)
  rw [State.completeWindow_eq]
  split
  · exact h
  · rw [State.raise_dsp, h]

theorem State.completeWindow_presented (s : State) (w : Window) :
    (s.completeWindow w).ray.presented = s.ray.presented := by
  have h : (s.endWindow w).sweepHeld.ray = (s.endWindow w).ray := (State.sweepHeld_agree _).same .ray (by decide)
  rw [State.completeWindow_eq]
  split
  · rw [h]; rfl
  · rw [State.raise_ray, h]; rfl

theorem State.settleWindow_inv (s : State) : s.settleWindow = s ∨ ∃ w, s.settleWindow = s.completeWindow w := by
  unfold State.settleWindow
  split
  · exact .inl rfl
  · split
    · exact .inr ⟨_, rfl⟩
    · exact .inl rfl

theorem State.settleWindow_agree (s : State) : AgreeBut flipParts s s.settleWindow := by
  rcases s.settleWindow_inv with h | ⟨w, h⟩
  · rw [h]; exact .refl _ _
  · rw [h]; exact State.completeWindow_agree ..

theorem State.settleWindow_dsp (s : State) : s.settleWindow.dsp = s.dsp := by
  rcases s.settleWindow_inv with h | ⟨w, h⟩
  · rw [h]
  · rw [h, State.completeWindow_dsp]

theorem State.settleWindow_presented (s : State) : s.settleWindow.ray.presented = s.ray.presented := by
  rcases s.settleWindow_inv with h | ⟨w, h⟩
  · rw [h]
  · rw [h, State.completeWindow_presented]

/-- The cases of a flip: a complete frame is presented; nothing is; or the presented frame is repeated, and counts as a miss
or not (R30 to R33, R240). -/
theorem State.flipWoven_inv (s : State) :
    (∃ w, s.flippable = some w ∧ s.flipWoven =
      ({ s with dsp := { s.dsp with repeated := false, missedNow := false, psn := s.dsp.psn + 1, shown := true,
                                    stillSince := s.mtNs },
                ray := { s.ray with complete := none, presented := some w, shownSlot := some w.inp.slot } } :
        State).settleWindow) ∨
    (s.flippable = none ∧ ∃ m n r, r.presented = s.ray.presented ∧
      (s.flipWoven = { s with dsp := { s.dsp with repeated := m, missedNow := n }, ray := r } ∨
        ∃ e, s.flipWoven = ({ s with dsp := { s.dsp with repeated := m, missedNow := n }, ray := r } : State).raise e)) := by
  unfold State.flipWoven
  extract_lets d u
  have hf : u.flippable = s.flippable := rfl
  rw [hf]
  split
  · next w hw => exact .inl ⟨w, hw, rfl⟩
  · next hw =>
    refine .inr ⟨hw, ?_⟩
    split
    · exact ⟨false, false, s.ray, rfl, .inl rfl⟩
    · split
      · exact ⟨true, false, { s.ray with nRepeats := s.ray.nRepeats + 1 }, rfl, .inl rfl⟩
      · next w _ =>
        exact ⟨true, true,
          { s.ray with nMissed := s.ray.nMissed + 1, goodWindows := 0, window := some { w with missed := true } }, rfl,
          .inr ⟨_, rfl⟩⟩

/-! ## What each step makes of the raster -/

theorem State.outcome_outcomes (s : State) (t : Nat) (st : Status) (d : Nat) :
    (s.outcome t st d).cmd.outcomes = s.cmd.outcomes.filter fun f => f.ticket != t := by
  unfold State.outcome
  split
  · next h =>
    refine (List.filter_eq_self.2 fun f hf => ?_).symm
    simpa using List.find?_eq_none.1 h f hf
  · dsimp only
    split
    · rfl
    · rw [State.raise_cmd]

/-- A flip advances PSN once, and changes the raster's marks of the refresh (R30, R33). -/
theorem State.flipWoven_dsp (s : State) : ∃ m n sh si, s.flipWoven.dsp =
    { s.dsp with repeated := m, missedNow := n, shown := sh, stillSince := si,
                 psn := s.dsp.psn + (if s.flippable.isSome then 1 else 0) } := by
  rcases s.flipWoven_inv with ⟨w, hw, h⟩ | ⟨hw, m, n, r, -, h | ⟨e, h⟩⟩
  · exact ⟨false, false, true, s.mtNs, by rw [h, State.settleWindow_dsp, hw]; rfl⟩
  · exact ⟨m, n, s.dsp.shown, s.dsp.stillSince, by rw [h, hw]; simp⟩
  · exact ⟨m, n, s.dsp.shown, s.dsp.stillSince, by rw [h, State.raise_dsp, hw]; simp⟩

theorem State.flipWoven_presented (s : State) : s.flipWoven.ray.presented = s.flippable.or s.ray.presented := by
  rcases s.flipWoven_inv with ⟨w, hw, h⟩ | ⟨hw, m, n, r, hr, h | ⟨e, h⟩⟩
  · rw [h, State.settleWindow_presented, hw]; rfl
  · rw [h, hw]; exact hr
  · rw [h, State.raise_ray, hw]; exact hr

theorem State.flipWoven_time (s : State) : s.flipWoven.time = s.time := by
  rcases s.flipWoven_inv with ⟨w, -, h⟩ | ⟨-, m, n, r, -, h | ⟨e, h⟩⟩
  · rw [h]; exact (State.settleWindow_agree _).same .time (by decide)
  · rw [h]
  · rw [h, State.raise_time]

/-- The raster after an acquired source has placed its first event (R306). -/
def DspState.locked (d : DspState) : DspState :=
  { d with acquired := false, lockState := if d.lock.source = 0 then .free else .locked, holdUntil := none, missedRow := 0 }

/-- Steering DT sets its increment alone (R440). -/
theorem State.steerDt_inv (s : State) (t : Timing) (period : Nat) :
    ∃ i, s.steerDt t period = { s with time := { s.time with dtInc := i } } := by
  unfold State.steerDt
  split
  · exact ⟨s.time.dtInc, rfl⟩
  · exact ⟨_, rfl⟩

/-- Placing the first event locks the source, steers DT alone of the bases, and is told (R306, R440). -/
theorem State.placeLock_inv (s : State) (t : Timing) (mt : Nat) :
    ∃ i e, s.placeLock t mt = State.raise { s with dsp := s.dsp.locked, time := { s.time with dtInc := i } } e := by
  unfold State.placeLock
  extract_lets src diff d u i v
  suffices h : ∃ i, v = { u with time := { u.time with dtInc := i } } by
    obtain ⟨i, h⟩ := h
    exact ⟨i, _, congrArg (State.raise · _) h⟩
  clear_value u src
  unfold v
  split
  · exact u.steerDt_inv ..
  · exact ⟨_, rfl⟩
  · exact ⟨u.time.dtInc, rfl⟩

/-- The first event of an acquired source: asked for, with a timing in force, and the source acquired (R306). -/
def State.places (s : State) (placed : Bool) : Bool := s.dsp.timing.isSome && placed && s.dsp.acquired

theorem State.placeFirst_inv (s : State) (mt : Nat) (placed : Bool) :
    (s.places placed = false ∧ s.placeFirst mt placed = s) ∨ (s.places placed = true ∧ ∃ i e, s.placeFirst mt placed =
      State.raise { s with dsp := s.dsp.locked, time := { s.time with dtInc := i } } e) := by
  unfold State.placeFirst State.places
  split
  · next t h =>
    rw [h]
    split
    · next hp => exact .inr ⟨by simpa using hp, State.placeLock_inv ..⟩
    · next hp => exact .inl ⟨by simpa using hp, rfl⟩
  · next h => exact .inl ⟨by rw [h]; rfl, rfl⟩

theorem State.placeFirst_dsp (s : State) (mt : Nat) (placed : Bool) :
    (s.placeFirst mt placed).dsp = if s.places placed then s.dsp.locked else s.dsp := by
  rcases s.placeFirst_inv mt placed with ⟨hp, h⟩ | ⟨hp, i, e, h⟩
  · rw [h, hp]; rfl
  · rw [h, hp, State.raise_dsp]; rfl

theorem State.placeFirst_time (s : State) (mt : Nat) (placed : Bool) :
    ∃ i, (s.placeFirst mt placed).time = { s.time with dtInc := i } := by
  rcases s.placeFirst_inv mt placed with ⟨hp, h⟩ | ⟨hp, i, e, h⟩
  · exact ⟨s.time.dtInc, by rw [h]⟩
  · exact ⟨i, by rw [h, State.raise_time]⟩

theorem State.placeFirst_ray (s : State) (mt : Nat) (placed : Bool) : (s.placeFirst mt placed).ray = s.ray := by
  rcases s.placeFirst_inv mt placed with ⟨hp, h⟩ | ⟨hp, i, e, h⟩
  · rw [h]
  · rw [h, State.raise_ray]

/-- The parts that the latching at an event may change. -/
abbrev latchParts : List Piece := .ray :: .enc :: .dec :: .cmp :: .pnl :: .free :: chainParts ++ [.dmem]

theorem State.latchFrame_agree (s : State) : AgreeBut latchParts s s.latchFrame := by
  have h1 : AgreeBut latchParts s s.latchLayers := (State.latchLayers_agree s).mono (by decide)
  have h2 (u : State) : AgreeBut latchParts u u.armRay :=
    (State.withRay_agree ..).mono (by decide)
  have h3 (u : State) : AgreeBut latchParts u u.panelFrame := (State.panelFrame_agree u).mono (by decide)
  have h4 (u : State) : AgreeBut latchParts u u.takeWitness := (State.takeWitness_agree u).mono (by decide)
  exact (((h1.trans (h2 _)).trans (h3 _)).trans (h4 _)).trans ((State.sweepHeld_agree _).mono (by decide))

theorem State.latchFrame_presented (s : State) : s.latchFrame.ray.presented = s.ray.presented := by
  have h1 : s.latchLayers.ray = s.ray := (State.latchLayers_agree s).same .ray (by decide)
  have h3 : s.latchLayers.armRay.panelFrame.ray = s.latchLayers.armRay.ray :=
    (State.panelFrame_agree _).same .ray (by decide)
  have h5 (u : State) : u.sweepHeld.ray = u.ray := (State.sweepHeld_agree u).same .ray (by decide)
  have h2 (u : State) : u.armRay.ray.presented = u.ray.presented := rfl
  unfold State.latchFrame
  rw [h5, State.takeWitness_presented, h3, h2, h1]

/-- The outcomes due with an event leave the ray engine and the bases alone, and of the raster only forget what was due. -/
theorem State.frameOutcomes_inv (s : State) : ∃ w,
    s.frameOutcomes.dsp = { s.dsp with timingDue := none, lockWait := w } ∧ (s.dsp.lockWait = none → w = none) := by
  unfold State.frameOutcomes
  extract_lets d u
  have hu : u.dsp = { s.dsp with timingDue := none } := by
    unfold u
    split
    · next h => rw [← h]
    · rw [State.outcome_dsp]
  split
  · next t _ _ hw =>
    split
    · exact ⟨none, (State.outcome_dsp ..).trans (congrArg (fun d : DspState => { d with lockWait := none }) hu),
        fun _ => rfl⟩
    · exact ⟨s.dsp.lockWait, hu, id⟩
  · exact ⟨s.dsp.lockWait, hu, id⟩

theorem State.frameOutcomes_agree (s : State) : AgreeBut (.dsp :: .cmd :: eventParts) s s.frameOutcomes := by
  have ho (u : State) (d : DspState) (t : Nat) (st : Status) (x : Nat) :
      AgreeBut (.dsp :: .cmd :: eventParts) u (({ u with dsp := d } : State).outcome t st x) :=
    .trans ((State.withDsp_agree ..).mono (by decide)) ((State.outcome_agree ..).mono (by decide))
  unfold State.frameOutcomes
  extract_lets d u
  have hu : AgreeBut (.dsp :: .cmd :: eventParts) s u := by
    unfold u
    split
    · exact .refl _ _
    · exact ho ..
  split
  · exact .ite (hu.trans (ho ..)) hu
  · exact hu

/-- The timing due is told of, and waits no longer (R294). -/
theorem State.frameOutcomes_outcomes (s : State) (n : Nat) (hn : s.dsp.timingDue = some n) :
    ∀ f ∈ s.frameOutcomes.cmd.outcomes, f.ticket ≠ n := by
  unfold State.frameOutcomes
  extract_lets d u
  have hu : ∀ f ∈ u.cmd.outcomes, f.ticket ≠ n := by
    unfold u
    rw [hn]
    simp [State.outcome_outcomes]
  split
  · split
    · intro f hf
      rw [State.outcome_outcomes] at hf
      exact hu f (List.mem_filter.1 hf).1
    · exact hu
  · exact hu

/-! ## A frame-start event -/

/-- What an event does once a timing that waited for it is in force. -/
def State.carryFrame (s : State) (mt : Nat) (nt : Option Nat) (placed base : Bool) : State :=
  ((((s.countFrame.takeRate base).flipWoven.placeFirst mt placed).takeStamp mt nt).latchFrame).frameOutcomes

theorem State.frameStart_carryFrame (s : State) (mt : Nat) (nt : Option Nat) (placed base : Bool) :
    s.frameStart mt nt placed base =
      (s.applyDtStep.swapTiming mt).carryFrame mt nt (placed && s.dsp.timingNext.isNone) base :=
  State.frameStart_eq ..

/-- A frame-start event at MT `mt`, with instant `nt` on NT where one is given, leads from `u` to `t`: what the raster, the
bases and the presented frame are then, in what the statements about frame-start events speak of. -/
structure FrameBegun (u : State) (mt : Nat) (nt : Option Nat) (placed : Bool) (t : State) : Prop where
  /-- The raster: counted, stamped, with the offset and the rate in force, and locked where a source places the event. -/
  dsp : t.dsp = { u.dsp with
    acquired := if u.places placed then false else u.dsp.acquired
    lockState := if u.places placed then (if u.dsp.lock.source = 0 then .free else .locked) else u.dsp.lockState
    holdUntil := if u.places placed then none else u.dsp.holdUntil
    missedRow := if u.places placed then 0 else u.dsp.missedRow
    timingDue := none, lockWait := t.dsp.lockWait, offset := u.dsp.offsetNext.getD u.dsp.offset, offsetNext := none
    rate := t.dsp.rate, rateNext := none, stillSince := t.dsp.stillSince, gridCount := 0, wantBase := false
    dfn := u.dsp.dfn + 1, psn := u.dsp.psn + (if u.flippable.isSome then 1 else 0), stamp := t.dsp.stamp
    frameMt := some mt, repeated := t.dsp.repeated, missedNow := t.dsp.missedNow, shown := t.dsp.shown
    slot := -((u.dsp.offsetNext.getD u.dsp.offset / u.dsp.timing.elim 1 Timing.htotal : Nat) : Int)
    syncPulses := t.dsp.syncPulses }
  /-- No DSP_LOCK begins to wait. -/
  lockWait : u.dsp.lockWait = none → t.dsp.lockWait = none
  /-- The stamp of NT, ET and MT; DT may be steered with the event. -/
  stamp : ∃ x, t.dsp.stamp = [nt.getD (u.baseWhen 0 mt), x, u.baseWhen 2 mt, u.baseWhen 3 mt]
  /-- The bases. -/
  time : t.time = { u.time with
    dt := t.time.dt, dtInc := t.time.dtInc, dtStep := t.time.dtStep, evtOut := t.time.evtOut, refUsed := u.time.refPresent }
  /-- The presented frame. -/
  presented : t.ray.presented = u.flippable.or u.ray.presented
  /-- The outcome of a timing that has come into force. -/
  outcomes : ∀ n, u.dsp.timingDue = some n → ∀ f ∈ t.cmd.outcomes, f.ticket ≠ n

theorem State.takeRate_time (s : State) (base : Bool) : (s.takeRate base).time = s.time :=
  (State.takeRate_agree s base).same .time (by decide)

theorem State.takeRate_ray (s : State) (base : Bool) : (s.takeRate base).ray = s.ray :=
  (State.takeRate_agree s base).same .ray (by decide)

theorem State.flippable_congr {s u : State} (hr : u.ray = s.ray) (hm : u.time.mt = s.time.mt) :
    u.flippable = s.flippable := by
  unfold State.flippable
  rw [hr, hm]

/-- A base but DT is where it was when only DT, its increment, and what else of the bases moves none differ (R437). -/
theorem State.baseWhen_of_time {s u : State} {x i : Nat} {k : Option Nat} {l : List EvtOut} {r : Bool}
    (h : u.time = { s.time with dt := x, dtInc := i, dtStep := k, evtOut := l, refUsed := r }) {n : Nat} (hn : n ≠ 1)
    (mt : Nat) : u.baseWhen n mt = s.baseWhen n mt := by
  unfold State.baseWhen State.baseOf State.incOf
  rw [h]
  match n with
  | 0 => rfl
  | 1 => exact absurd rfl hn
  | 2 => rfl
  | n + 3 => rfl

theorem State.carryFrame_begun (u : State) (mt : Nat) (nt : Option Nat) (placed base : Bool) :
    FrameBegun u mt nt placed (u.carryFrame mt nt placed base) := by
  unfold State.carryFrame
  obtain ⟨r, n, hb⟩ := u.countFrame.takeRate_dsp base
  have hbt := u.countFrame.takeRate_time base
  have hbr := u.countFrame.takeRate_ray base
  generalize u.countFrame.takeRate base = b at *
  have hflip : b.flippable = u.flippable := State.flippable_congr hbr (by rw [hbt]; rfl)
  obtain ⟨m, k, sh, si, hc⟩ := b.flipWoven_dsp
  have hct := b.flipWoven_time
  have hcp := b.flipWoven_presented
  rw [hflip] at hc hcp
  generalize b.flipWoven = c at *
  have hpl : c.places placed = u.places placed := by
    unfold State.places
    rw [hc, hb]
    rfl
  have hd := c.placeFirst_dsp mt placed
  obtain ⟨i, hdt⟩ := c.placeFirst_time mt placed
  have hdr := c.placeFirst_ray mt placed
  rw [hpl] at hd
  generalize c.placeFirst mt placed = d at *
  have hf : (d.takeStamp mt nt).latchFrame.dsp = (d.takeStamp mt nt).dsp :=
    (State.latchFrame_agree _).same .dsp (by decide)
  have hft : (d.takeStamp mt nt).latchFrame.time = d.time := (State.latchFrame_agree _).same .time (by decide)
  have hfp : (d.takeStamp mt nt).latchFrame.ray.presented = d.ray.presented := State.latchFrame_presented _
  generalize (d.takeStamp mt nt).latchFrame = f at *
  obtain ⟨w, ht, hw⟩ := f.frameOutcomes_inv
  have htt : f.frameOutcomes.time = f.time := (State.frameOutcomes_agree f).same .time (by decide)
  have htr : f.frameOutcomes.ray = f.ray := (State.frameOutcomes_agree f).same .ray (by decide)
  have hto := f.frameOutcomes_outcomes
  generalize f.frameOutcomes = t at *
  have htime : t.time = { u.time with dtInc := i, refUsed := u.time.refPresent } := by
    rw [htt, hft, hdt, hct, hbt]
    rfl
  have hstamp : (d.takeStamp mt nt).dsp = { d.dsp with
      stamp := nt.getD (d.baseWhen 0 mt) :: [1, 2, 3].map fun n => d.baseWhen n mt, frameMt := some mt } := rfl
  have hdsp : t.dsp = { u.dsp with
      acquired := if u.places placed then false else u.dsp.acquired
      lockState := if u.places placed then (if u.dsp.lock.source = 0 then .free else .locked) else u.dsp.lockState
      holdUntil := if u.places placed then none else u.dsp.holdUntil
      missedRow := if u.places placed then 0 else u.dsp.missedRow
      timingDue := none, lockWait := w, offset := u.dsp.offsetNext.getD u.dsp.offset, offsetNext := none
      rate := r, rateNext := none, stillSince := si, gridCount := 0, wantBase := false
      dfn := u.dsp.dfn + 1, psn := u.dsp.psn + (if u.flippable.isSome then 1 else 0)
      stamp := nt.getD (d.baseWhen 0 mt) :: [1, 2, 3].map fun n => d.baseWhen n mt
      frameMt := some mt, repeated := m, missedNow := k, shown := sh
      slot := -((u.dsp.offsetNext.getD u.dsp.offset / u.dsp.timing.elim 1 Timing.htotal : Nat) : Int)
      syncPulses := t.dsp.syncPulses } := by
    rw [ht, hf, hstamp, hd, hc, hb]
    cases u.places placed <;> rfl
  have hkept : f.dsp.lockWait = u.dsp.lockWait ∧ f.dsp.timingDue = u.dsp.timingDue := by
    rw [hf, hstamp, hd, hc, hb]
    split <;> exact ⟨rfl, rfl⟩
  have hdt' : d.time = { u.time with dtInc := i, refUsed := u.time.refPresent } := by rw [← htime, htt, hft]
  have hbase {n : Nat} (hn : n ≠ 1) : d.baseWhen n mt = u.baseWhen n mt := State.baseWhen_of_time hdt' hn mt
  exact {
    dsp := by rw [hdsp]
    lockWait := fun h => by rw [hdsp]; exact hw (hkept.1.trans h)
    stamp := ⟨d.baseWhen 1 mt, by
      rw [hdsp, ← hbase (n := 0) (by decide), ← hbase (n := 2) (by decide), ← hbase (n := 3) (by decide)]; rfl⟩
    time := by rw [htime]
    presented := by rw [htr, hfp, hdr, hcp, hbr]; rfl
    outcomes := fun n hn => hto n (hkept.2.trans hn) }

end Sys2Proof.Machine
end

section
/-!
SUPPORT. The commands that make frame-start events, and the proof that settles O49.
-/

namespace Sys2Proof.Machine

theorem FrameBegun.unplaced {u t : State} {mt : Nat} {nt : Option Nat} {placed : Bool} (h : FrameBegun u mt nt placed t)
    (hp : u.places placed = false) : t.dsp.lockState = u.dsp.lockState ∧ t.dsp.holdUntil = u.dsp.holdUntil ∧
      t.dsp.missedRow = u.dsp.missedRow := by
  rw [h.dsp, hp]
  exact ⟨rfl, rfl, rfl⟩

theorem FrameBegun.placed {u t : State} {mt : Nat} {nt : Option Nat} {placed : Bool} (h : FrameBegun u mt nt placed t)
    (hp : u.places placed = true) :
    t.dsp.lockState = (if u.dsp.lock.source = 0 then .free else .locked) ∧ t.dsp.acquired = false := by
  rw [h.dsp, hp]
  exact ⟨rfl, rfl⟩

theorem State.places_false (s : State) : s.places false = false := by simp [State.places]

/-- A step of DT that has waited changes nothing that an event takes from the state before it (R442). -/
theorem FrameBegun.of_dtStep {s u t : State} {mt : Nat} {nt : Option Nat} {placed : Bool} {x : Nat} {k : Option Nat}
    {l : List EvtOut} (hu : u = { s with time := { s.time with dt := x, dtStep := k, evtOut := l } })
    (h : FrameBegun u mt nt placed t) : FrameBegun s mt nt placed t := by
  have hb {n : Nat} (hn : n ≠ 1) : u.baseWhen n mt = s.baseWhen n mt :=
    State.baseWhen_of_time (i := s.time.dtInc) (r := s.time.refUsed) (by rw [hu]) hn mt
  obtain ⟨y, hy⟩ := h.stamp
  rw [hb (by decide), hb (by decide), hb (by decide)] at hy
  subst hu
  exact { h with stamp := ⟨y, hy⟩, dsp := h.dsp, time := h.time, presented := h.presented }

theorem State.applyDtStep_inv (s : State) : ∃ x k l,
    s.applyDtStep = { s with time := { s.time with dt := x, dtStep := k, evtOut := l } } := by
  unfold State.applyDtStep
  split
  · exact ⟨s.time.dt, s.time.dtStep, s.time.evtOut, rfl⟩
  · exact ⟨_, _, _, rfl⟩

theorem State.frameStart_begun (s : State) (mt : Nat) (nt : Option Nat) (placed base : Bool)
    (hn : s.dsp.timingNext = none) : FrameBegun s mt nt placed (s.frameStart mt nt placed base) := by
  obtain ⟨x, k, l, hu⟩ := s.applyDtStep_inv
  have hs : s.applyDtStep.swapTiming mt = s.applyDtStep := by
    have hn' : s.applyDtStep.dsp.timingNext = none := by rw [hu]; exact hn
    unfold State.swapTiming
    rw [hn']
  rw [State.frameStart_carryFrame, hn, hs, Option.isNone_none, Bool.and_true]
  exact .of_dtStep hu (State.carryFrame_begun ..)

theorem State.stillStep_base {s : State} (h : s.dsp.rate = 0) : s.stillStep = 1 := by
  unfold State.stillStep
  split
  · rfl
  · rw [h]; rfl

/-- At the base rate, and for the first event of a source, an instant of the base grid carries an event (R306, R318). -/
theorem State.gridInstant_begun (s : State) (mt : Nat) (nt : Option Nat) (placed : Bool) (hn : s.dsp.timingNext = none)
    (h : s.dsp.rate = 0 ∨ placed = true) : FrameBegun s mt nt placed (s.gridInstant mt nt placed) := by
  have hc : (placed || s.baseWanted mt || s.dsp.timingNext.isSome || decide (s.stillStep ≤ s.dsp.gridCount + 1)) = true := by
    rcases h with h | h
    · simp [State.stillStep_base h]
    · simp [h]
  unfold State.gridInstant
  extract_lets base
  rw [if_pos hc]
  exact State.frameStart_begun s mt nt placed base hn

/-! ## FREE_RUN_PERIOD -/

theorem State.freeRun_free {s : State} {tm : Timing} {g : Nat} (ht : s.dsp.timing = some tm) (hg : s.dsp.nextGrid = some g)
    (hf : s.fabricUp = true) (h0 : s.dsp.lock.source = 0) (hm : g ≤ s.time.mt) :
    s.freeRun = ({ s with dsp := { s.dsp with nextGrid := some (g + s.gridPeriod) } } : State).gridInstant g none
      s.dsp.acquired := by
  have ha : s.acquireScheduled = s := by simp [State.acquireScheduled, ht, h0]
  have hd : s.freeDriven tm g = true := by simp [State.freeDriven, h0]
  simp [State.freeRun, ht, hg, ha, hd, h0, hf, Nat.not_lt.2 hm]

theorem State.freeRun_idle {s : State} {tm : Timing} {g : Nat} (ht : s.dsp.timing = some tm) (hg : s.dsp.nextGrid = some g)
    (h : s.fabricUp = false ∨ s.time.mt < g ∨ (s.dsp.lock.source ≠ 0 ∧ s.dsp.lockState = .locked)) : s.freeRun = s := by
  unfold State.freeRun
  rw [ht, hg]
  dsimp only
  split
  · rfl
  · next hn =>
    rcases h with h | h | ⟨h0, hl⟩
    · simp [h] at hn
    · simp [h] at hn
    · have ha : s.acquireScheduled = s := by simp [State.acquireScheduled, ht, hl]
      have hd : s.freeDriven tm g = false := by simp [State.freeDriven, h0, hl]
      rw [ha, hd]
      rfl

theorem State.freeRun_frame {s : State} {tm : Timing} {g : Nat} (ht : s.dsp.timing = some tm)
    (hg : s.dsp.nextGrid = some g) (hf : s.fabricUp = true) (h0 : s.dsp.lock.source = 0) (hn : s.dsp.timingNext = none)
    (hm : g ≤ s.time.mt) (hr : s.dsp.rate = 0 ∨ s.dsp.acquired = true) :
    ∃ t, exec .freeRunPeriod s = .next t ∧ t.dsp.dfn = s.dsp.dfn + 1 ∧ t.dsp.frameMt = some g ∧
      t.dsp.offset = s.dsp.offsetNext.getD s.dsp.offset ∧ t.dsp.slot = -((t.dsp.offset / tm.htotal : Nat) : Int) ∧
      t.dsp.nextGrid = some (g + s.gridPeriod) ∧ t.dsp.psn = s.dsp.psn + (if s.flippable.isSome then 1 else 0) ∧
      t.ray.presented = s.flippable.or s.ray.presented ∧ t.time.mt = s.time.mt ∧ t.time.nt = s.time.nt ∧
      t.dsp.stamp = s.baseWhen 0 g :: [1, 2, 3].map (fun n => if n = 1 then t.dsp.stamp.getD 1 0 else s.baseWhen n g) ∧
      t.time.refUsed = s.time.refPresent ∧ (s.dsp.acquired = true → t.dsp.lockState = .free ∧ t.dsp.acquired = false) := by
  have h := State.gridInstant_begun { s with dsp := { s.dsp with nextGrid := some (g + s.gridPeriod) } } g none
    s.dsp.acquired hn hr
  rw [← State.freeRun_free ht hg hf h0 hm] at h
  refine ⟨s.freeRun, rfl, ?_⟩
  generalize s.freeRun = t at h
  have ho : t.dsp.offset = s.dsp.offsetNext.getD s.dsp.offset := congrArg DspState.offset h.dsp
  have hs : t.dsp.slot = -((s.dsp.offsetNext.getD s.dsp.offset / s.dsp.timing.elim 1 Timing.htotal : Nat) : Int) :=
    congrArg DspState.slot h.dsp
  rw [ht] at hs
  obtain ⟨x, hx⟩ := h.stamp
  refine ⟨congrArg DspState.dfn h.dsp, congrArg DspState.frameMt h.dsp, ho, ?_, congrArg DspState.nextGrid h.dsp,
    congrArg DspState.psn h.dsp, h.presented, (congrArg TimeState.mt h.time :), (congrArg TimeState.nt h.time :), ?_,
    (congrArg TimeState.refUsed h.time :), fun ha => ?_⟩
  · rw [ho]
    exact hs
  · rw [hx]
    rfl
  · have hp := h.placed (by simp [State.places, ht, ha])
    rw [if_pos h0] at hp
    exact hp

theorem State.freeRun_still {s : State} {tm : Timing} {g : Nat} (ht : s.dsp.timing = some tm)
    (hg : s.dsp.nextGrid = some g) (hf : s.fabricUp = true) (h0 : s.dsp.lock.source = 0) (ha : s.dsp.acquired = false)
    (hn : s.dsp.timingNext = none) (hm : g ≤ s.time.mt) (hb : s.baseWanted g = false)
    (hc : s.dsp.gridCount + 1 < s.stillStep) : s.freeRun = { s with dsp := { s.dsp with
      nextGrid := some (g + s.gridPeriod), gridCount := s.dsp.gridCount + 1 } } := by
  rw [State.freeRun_free ht hg hf h0 hm]
  generalize hu : ({ s with dsp := { s.dsp with nextGrid := some (g + s.gridPeriod) } } : State) = u
  have hub : u.baseWanted g = false := by rw [← hu]; exact hb
  have hun : u.dsp.timingNext = none := by rw [← hu]; exact hn
  have huc : u.dsp.gridCount + 1 < u.stillStep := by rw [← hu]; exact hc
  have hg : u.gridInstant g none s.dsp.acquired = { u with dsp := { u.dsp with gridCount := u.dsp.gridCount + 1 } } := by
    simp [State.gridInstant, hub, hun, ha, Nat.not_le.2 huc]
  rw [hg, ← hu]

/-! ## A new timing -/

theorem State.giveBack_agree (s : State) (k : Nat) (au : Word) (r : Bool) : AgreeBut [.dec] s (s.giveBack k au r) := by
  unfold State.giveBack
  exact .ite (State.withDec_agree ..) (.refl _ _)

theorem State.abandonWindow_agree (s : State) : AgreeBut [.ray, .dec] s s.abandonWindow := by
  unfold State.abandonWindow
  split
  · exact .refl _ _
  · exact .trans ((State.withRay_agree ..).mono (by decide))
      (.trans ((State.giveBack_agree ..).mono (by decide)) ((State.sweepHeld_agree ..).mono (by decide)))

/-- A dropped frame is the complete one, which is then none (R294). -/
theorem State.dropComplete_inv (s : State) :
    ∃ r, r.complete = none ∧ AgreeBut [.dec] ({ s with ray := r } : State) s.dropComplete := by
  unfold State.dropComplete
  split
  · next h => exact ⟨s.ray, h, .refl _ _⟩
  · exact ⟨_, rfl, .trans (State.giveBack_agree ..) (State.sweepHeld_agree ..)⟩

theorem State.panelTiming_agree (s : State) (t : Timing) : AgreeBut panelParts s (s.panelTiming t) := by
  unfold State.panelTiming
  extract_lets live linkBad gateBad stop ticket pnl u pnl' v
  have hu : AgreeBut panelParts s u := State.withPnl_panelParts ..
  have hv : AgreeBut panelParts u v := State.withPnl_panelParts ..
  clear_value ticket
  refine .ite ?_ hu
  split
  · exact (hu.trans hv).trans (State.outcome_panelParts ..)
  · exact hu.trans hv

/-- The free source needs no acquisition (R303). -/
theorem State.restartLock_free {s : State} (h0 : s.dsp.lock.source = 0) : ∃ a l, s.restartLock =
    { s with dsp := { s.dsp with goodEdges := 0, lastEdge := none, missedRow := 0, period := 0, periods := []
                                 holdUntil := none, acquired := a, lockState := l } } := by
  unfold State.restartLock
  extract_lets free d u
  have ha : u.acquireScheduled = u := by
    unfold State.acquireScheduled
    split
    · rfl
    · exact if_pos (by simp [u, d, h0])
  rw [ha]
  exact ⟨_, _, rfl⟩

/-- A timing that comes into force under the free source: no complete frame waits, and none is presented (R294). -/
theorem State.putTiming_free {s : State} (h0 : s.dsp.lock.source = 0) (t : Timing) (k : Option Nat) :
    (s.putTiming t k).dsp.timing = some t ∧ (s.putTiming t k).dsp.timingNext = none ∧
      (s.putTiming t k).dsp.timingDue = k ∧ (s.putTiming t k).dsp.dfn = s.dsp.dfn ∧
      (s.putTiming t k).ray.presented = none ∧ (s.putTiming t k).ray.complete = none := by
  unfold State.putTiming
  extract_lets old a ray1 dsp1 u
  obtain ⟨r, hr, ha⟩ := s.abandonWindow.dropComplete_inv
  have har : a.ray = r := ha.same .ray (by decide)
  have had : a.dsp = s.dsp :=
    (ha.same .dsp (by decide)).trans ((State.abandonWindow_agree s).same .dsp (by decide))
  clear_value a
  have hu0 : u.dsp.lock.source = 0 := by
    rw [← h0, ← had]
  obtain ⟨x, l, hl⟩ := State.restartLock_free hu0
  have hd : (u.restartLock.panelTiming t).sweepHeld.dsp = u.restartLock.dsp :=
    ((State.sweepHeld_agree _).same .dsp (by decide)).trans ((State.panelTiming_agree ..).same .dsp (by decide))
  have hy : (u.restartLock.panelTiming t).sweepHeld.ray = u.restartLock.ray :=
    ((State.sweepHeld_agree _).same .ray (by decide)).trans ((State.panelTiming_agree ..).same .ray (by decide))
  rw [hd, hy, hl]
  refine ⟨rfl, rfl, rfl, ?_, rfl, ?_⟩
  · rw [← had]
  · rw [← hr, ← har]

/-- The state that a waiting timing makes under the free source, before the event is carried (R294). -/
theorem State.swapTiming_free {s : State} {tn : Timing} {k : Option Nat} (h0 : s.dsp.lock.source = 0)
    (hn : s.dsp.timingNext = some (tn, k)) (mt : Nat) :
    (s.swapTiming mt).dsp.timing = some tn ∧ (s.swapTiming mt).dsp.timingNext = none ∧
      (s.swapTiming mt).dsp.timingDue = k ∧ (s.swapTiming mt).dsp.dfn = s.dsp.dfn ∧
      (s.swapTiming mt).dsp.nextGrid = some (mt + tn.period) ∧ (s.swapTiming mt).ray.presented = none ∧
      (s.swapTiming mt).flippable = none := by
  have hs : s.swapTiming mt = { ({ s with dsp := { s.dsp with frameMt := some mt } } : State).putTiming tn k with
      dsp.nextGrid := some (mt + tn.period) } := by
    unfold State.swapTiming
    rw [hn]
  obtain ⟨ht, hx, hk, hd, hp, hc⟩ :=
    State.putTiming_free (s := { s with dsp := { s.dsp with frameMt := some mt } }) h0 tn k
  rw [hs]
  generalize State.putTiming _ tn k = v at *
  exact ⟨ht, hx, hk, hd, rfl, hp, by simp [State.flippable, hc]⟩

theorem State.freeRun_newTiming {s : State} {tm : Timing} {g : Nat} (ht : s.dsp.timing = some tm)
    (hg : s.dsp.nextGrid = some g) {tn : Timing} {k : Option Nat} (hf : s.fabricUp = true) (h0 : s.dsp.lock.source = 0)
    (hn : s.dsp.timingNext = some (tn, k)) (hm : g ≤ s.time.mt) :
    ∃ t, exec .freeRunPeriod s = .next t ∧ t.dsp.timing = some tn ∧ t.dsp.timingNext = none ∧ t.dsp.timingDue = none ∧
      t.dsp.dfn = s.dsp.dfn + 1 ∧ t.dsp.frameMt = some g ∧ t.dsp.nextGrid = some (g + tn.period) ∧
      t.ray.presented = none ∧ (∀ n, k = some n → ∀ f ∈ t.cmd.outcomes, f.ticket ≠ n) := by
  refine ⟨s.freeRun, rfl, ?_⟩
  rw [State.freeRun_free ht hg hf h0 hm]
  generalize hv : ({ s with dsp := { s.dsp with nextGrid := some (g + s.gridPeriod) } } : State) = v
  have hvn : v.dsp.timingNext = some (tn, k) := by rw [← hv]; exact hn
  have hi : v.gridInstant g none s.dsp.acquired = v.frameStart g none s.dsp.acquired (v.baseWanted g) := by
    simp [State.gridInstant, hvn]
  obtain ⟨x, i, l, hw⟩ := v.applyDtStep_inv
  have hwd : v.applyDtStep.dsp = v.dsp := by rw [hw]
  have hw0 : v.applyDtStep.dsp.lock.source = 0 := by rw [hwd, ← hv]; exact h0
  have hwf : v.applyDtStep.dsp.dfn = s.dsp.dfn := by rw [hwd, ← hv]
  obtain ⟨htm, hx, hk, hd, hgr, hp, hfl⟩ := State.swapTiming_free hw0 (hwd ▸ hvn) g
  have h := State.carryFrame_begun (v.applyDtStep.swapTiming g) g none false (v.baseWanted g)
  rw [hi, State.frameStart_carryFrame, hvn, Option.isNone_some, Bool.and_false]
  generalize State.carryFrame _ g none false _ = t at *
  generalize v.applyDtStep.swapTiming g = u at *
  rw [hwf] at hd
  exact ⟨(congrArg DspState.timing h.dsp).trans htm, (congrArg DspState.timingNext h.dsp).trans hx,
    congrArg DspState.timingDue h.dsp, (congrArg DspState.dfn h.dsp).trans (congrArg (· + 1) hd),
    congrArg DspState.frameMt h.dsp, (congrArg DspState.nextGrid h.dsp).trans hgr, by rw [h.presented, hfl, hp]; rfl,
    fun n hn => h.outcomes n (hk.trans hn)⟩

/-! ## SCHEDULED_INSTANT -/

/-- A scheduled instant that has come is counted, and the next one aimed at, before it carries its event (R304, R308). -/
theorem State.scheduledInstant_due {s : State} {tm : Timing} {g : Nat} (ht : s.dsp.timing = some tm)
    (hg : s.dsp.nextGrid = some g) (hf : s.fabricUp = true) (h2 : s.dsp.lock.source = 2)
    (hl : s.dsp.lockState = .locked ∨ s.dsp.acquired = true)
    (hm : scheduled s.dsp.lock.t0 tm.refresh s.dsp.instant ≤ s.time.nt) :
    ∃ e p l x, s.scheduledInstant = ({ s with dsp := { s.dsp with
        instant := s.dsp.instant + 1, lastEdge := e, period := p, periods := l, nextGrid := x } } : State).gridInstant
      (s.mtWhenNt (scheduled s.dsp.lock.t0 tm.refresh s.dsp.instant))
      (some (scheduled s.dsp.lock.t0 tm.refresh s.dsp.instant)) s.dsp.acquired := by
  have hr : s.rasterRuns = true := by simp [State.rasterRuns, ht, hg]
  have hl' : (s.dsp.lockState == .locked || s.dsp.acquired) = true := by simpa using hl
  unfold State.scheduledInstant
  rw [ht]
  dsimp only
  rw [if_neg (by simp [h2, hl', hm, hf, hr])]
  exact ⟨_, _, _, _, rfl⟩

theorem State.scheduledInstant_frame {s : State} {tm : Timing} {g : Nat} (ht : s.dsp.timing = some tm)
    (hg : s.dsp.nextGrid = some g) (hf : s.fabricUp = true) (h2 : s.dsp.lock.source = 2)
    (hl : s.dsp.lockState = .locked ∨ s.dsp.acquired = true) (hn : s.dsp.timingNext = none)
    (hr : s.dsp.rate = 0 ∨ s.dsp.acquired = true)
    (hm : scheduled s.dsp.lock.t0 tm.refresh s.dsp.instant ≤ s.time.nt) :
    ∃ t, exec .scheduledInstant s = .next t ∧ t.dsp.dfn = s.dsp.dfn + 1 ∧ t.dsp.instant = s.dsp.instant + 1 ∧
      t.dsp.frameMt = some (s.mtWhenNt (scheduled s.dsp.lock.t0 tm.refresh s.dsp.instant)) ∧ t.dsp.lockState = .locked ∧
      t.dsp.stamp.head? = some (scheduled s.dsp.lock.t0 tm.refresh s.dsp.instant) ∧
      t.dsp.psn = s.dsp.psn + (if s.flippable.isSome then 1 else 0) ∧ t.ray.presented = s.flippable.or s.ray.presented := by
  refine ⟨s.scheduledInstant, rfl, ?_⟩
  obtain ⟨e, p, l, x, hi⟩ := State.scheduledInstant_due ht hg hf h2 hl hm
  rw [hi]
  generalize scheduled s.dsp.lock.t0 tm.refresh s.dsp.instant = nt
  generalize s.mtWhenNt nt = mt
  have h := State.gridInstant_begun { s with dsp := { s.dsp with
    instant := s.dsp.instant + 1, lastEdge := e, period := p, periods := l, nextGrid := x } } mt (some nt) s.dsp.acquired
    hn hr
  generalize State.gridInstant _ mt (some nt) s.dsp.acquired = t at h ⊢
  obtain ⟨x, hx⟩ := h.stamp
  have hlock : t.dsp.lockState = .locked := by
    cases ha : s.dsp.acquired with
    | true =>
      obtain ⟨hp, -⟩ := h.placed (by simp [State.places, ht, ha])
      exact hp.trans (if_neg (by simp [h2]))
    | false =>
      rw [ha] at h
      obtain ⟨hp, -⟩ := h.unplaced (State.places_false _)
      exact hp.trans (hl.resolve_right (by simp [ha]))
  exact ⟨congrArg DspState.dfn h.dsp, congrArg DspState.instant h.dsp, congrArg DspState.frameMt h.dsp, hlock,
    by rw [hx, List.head?_cons, Option.getD_some], congrArg DspState.psn h.dsp, h.presented⟩

theorem State.scheduledInstant_idle {s : State} {tm : Timing} (ht : s.dsp.timing = some tm)
    (h : s.fabricUp = false ∨ s.dsp.lock.source ≠ 2 ∨ s.time.nt < scheduled s.dsp.lock.t0 tm.refresh s.dsp.instant ∨
      (s.dsp.lockState ≠ .locked ∧ s.dsp.acquired = false)) : s.scheduledInstant = s := by
  unfold State.scheduledInstant
  rw [ht]
  dsimp only
  refine if_pos ?_
  rcases h with h | h | h | ⟨hl, ha⟩
  · simp [h]
  · simp [h]
  · simp [h]
  · simp [hl, ha]

/-! ## MISSED_EDGE -/

/-- A missed edge is counted (R305). -/
def State.countMiss (s : State) : State :=
  { s with dsp.nMissedEdges := s.dsp.nMissedEdges + 1, dsp.missedRow := s.dsp.missedRow + 1 }

theorem State.missEdge_due {s : State} {tm : Timing} {g : Nat} (ht : s.dsp.timing = some tm)
    (hg : s.dsp.nextGrid = some g) (hf : s.fabricUp = true) (h1 : s.dsp.lock.source = 1)
    (hl : s.dsp.lockState = .locked ∨ s.dsp.acquired = true) (hm : g ≤ s.time.mt) :
    s.missEdge =
      (let u := if 3 ≤ s.countMiss.dsp.missedRow then s.countMiss.loseLock else s.countMiss
       ({ u with dsp := { u.dsp with nextGrid := some (g + u.gridPeriod) } } : State).gridInstant g none false) := by
  have hl' : (s.dsp.lockState == .locked || s.dsp.acquired) = true := by simpa using hl
  unfold State.missEdge
  rw [ht, hg]
  dsimp only
  rw [if_neg (by simp [h1, hl', hf, hm])]
  rfl

theorem State.missEdge_frame {s : State} {tm : Timing} {g : Nat} (ht : s.dsp.timing = some tm)
    (hg : s.dsp.nextGrid = some g) (hf : s.fabricUp = true) (hn : s.dsp.timingNext = none) (hr : s.dsp.rate = 0)
    (h1 : s.dsp.lock.source = 1) (hl : s.dsp.lockState = .locked ∨ s.dsp.acquired = true) (hm : g ≤ s.time.mt)
    (hrow : s.dsp.missedRow < 2) :
    ∃ t, exec .missedEdge s = .next t ∧ t.dsp.dfn = s.dsp.dfn + 1 ∧ t.dsp.frameMt = some g ∧
      t.dsp.lockState = s.dsp.lockState ∧ t.dsp.nMissedEdges = s.dsp.nMissedEdges + 1 ∧
      t.dsp.missedRow = s.dsp.missedRow + 1 ∧ t.dsp.nextGrid = some (g + s.gridPeriod) := by
  refine ⟨s.missEdge, rfl, ?_⟩
  have hc : ¬3 ≤ s.countMiss.dsp.missedRow := by
    show ¬3 ≤ s.dsp.missedRow + 1
    omega
  rw [State.missEdge_due ht hg hf h1 hl hm, if_neg hc]
  dsimp only
  have h := State.gridInstant_begun { s.countMiss with dsp := { s.countMiss.dsp with
    nextGrid := some (g + s.countMiss.gridPeriod) } } g none false hn (.inl hr)
  generalize State.gridInstant _ g none false = t at *
  obtain ⟨hls, -, hmr⟩ := h.unplaced (State.places_false _)
  exact ⟨congrArg DspState.dfn h.dsp, congrArg DspState.frameMt h.dsp, hls, congrArg DspState.nMissedEdges h.dsp, hmr,
    congrArg DspState.nextGrid h.dsp⟩

/-- The raster after its source is lost (R308, R310). -/
theorem State.loseLock_dsp (s : State) : s.loseLock.dsp = { s.dsp with
    holdPeriod := meanOr (s.dsp.timing.elim 0 Timing.period) s.dsp.periods
    lockState := if s.dsp.holdSecs = 0 then .free else .holdover
    holdUntil := if s.dsp.holdSecs = 0 then none else some (s.mtNs + s.dsp.holdSecs * 1000000000)
    acquired := false, goodEdges := 0, lastEdge := none, missedRow := 0 } := by
  unfold State.loseLock State.raiseFreeRun
  extract_lets hold d u v
  have hv : v.dsp = u.dsp := State.raise_dsp ..
  split
  · exact (State.raise_dsp ..).trans
      (congrArg (fun d : DspState => { d with lockState := .free, holdUntil := none }) hv)
  · exact hv

theorem State.missEdge_loses {s : State} {tm : Timing} {g : Nat} (ht : s.dsp.timing = some tm)
    (hg : s.dsp.nextGrid = some g) (hf : s.fabricUp = true) (hn : s.dsp.timingNext = none) (hr : s.dsp.rate = 0)
    (h1 : s.dsp.lock.source = 1) (hl : s.dsp.lockState = .locked) (hm : g ≤ s.time.mt) (hrow : 2 ≤ s.dsp.missedRow) :
    ∃ t, exec .missedEdge s = .next t ∧ t.dsp.dfn = s.dsp.dfn + 1 ∧
      t.dsp.lockState = (if s.dsp.holdSecs = 0 then .free else .holdover) ∧
      t.dsp.holdPeriod = meanOr tm.period s.dsp.periods ∧
      t.dsp.holdUntil = (if s.dsp.holdSecs = 0 then none else some (s.mtNs + s.dsp.holdSecs * 1000000000)) ∧
      t.dsp.lock = s.dsp.lock := by
  refine ⟨s.missEdge, rfl, ?_⟩
  have hc : 3 ≤ s.countMiss.dsp.missedRow := by
    show 3 ≤ s.dsp.missedRow + 1
    omega
  rw [State.missEdge_due ht hg hf h1 (.inl hl) hm, if_pos hc]
  have hd := s.countMiss.loseLock_dsp
  generalize s.countMiss.loseLock = u at *
  dsimp only
  have h := State.gridInstant_begun { u with dsp := { u.dsp with nextGrid := some (g + u.gridPeriod) } } g none false
    (by rw [hd]; exact hn) (by rw [hd]; exact .inl hr)
  generalize State.gridInstant _ g none false = t at *
  obtain ⟨hls, hhu, -⟩ := h.unplaced (State.places_false _)
  have hhp : t.dsp.holdPeriod = u.dsp.holdPeriod := (congrArg DspState.holdPeriod h.dsp :)
  rw [hd] at hhp hls hhu
  refine ⟨?_, hls, ?_, hhu, ?_⟩
  · exact (congrArg DspState.dfn h.dsp).trans (by rw [hd]; rfl)
  · rw [hhp]
    show meanOr (s.dsp.timing.elim 0 Timing.period) s.dsp.periods = meanOr tm.period s.dsp.periods
    rw [ht]
    rfl
  · exact (congrArg DspState.lock h.dsp :).trans (by rw [hd]; rfl)

theorem State.missEdge_idle {s : State} {tm : Timing} {g : Nat} (ht : s.dsp.timing = some tm)
    (hg : s.dsp.nextGrid = some g) (h : s.fabricUp = false ∨ s.dsp.lock.source ≠ 1 ∨ s.time.mt < g ∨
      (s.dsp.lockState ≠ .locked ∧ s.dsp.acquired = false)) : s.missEdge = s := by
  unfold State.missEdge
  rw [ht, hg]
  dsimp only
  refine if_pos ?_
  rcases h with h | h | h | ⟨hl, ha⟩
  · simp [h]
  · simp [h]
  · simp [h]
  · simp [hl, ha]

/-! ## SYNC_IN_EDGE -/

theorem State.syncEdge_locked {s : State} {tm : Timing} {g : Nat} (ht : s.dsp.timing = some tm)
    (hg : s.dsp.nextGrid = some g) (hf : s.fabricUp = true) (h1 : s.dsp.lock.source = 1)
    (hl : s.dsp.lockState = .locked) (sub : Nat) :
    s.syncEdge sub =
      (let edge := s.time.mt + sub % s.time.mtInc
       if edge - g ≤ edgeWindow ∧ g - edge ≤ edgeWindow then s.acceptEdge tm edge g
       else { s with dsp.nSpurious := s.dsp.nSpurious + 1 }) := by
  simp [State.syncEdge, ht, hg, hf, h1, hl]

theorem State.syncEdge_unlocked {s : State} {tm : Timing} {g : Nat} (ht : s.dsp.timing = some tm)
    (hg : s.dsp.nextGrid = some g) (hf : s.fabricUp = true) (h1 : s.dsp.lock.source = 1)
    (hl : s.dsp.lockState ≠ .locked) (sub : Nat) :
    s.syncEdge sub = s.acquireEdge tm (s.time.mt + sub % s.time.mtInc) := by
  simp [State.syncEdge, ht, hg, hf, h1, hl]

theorem State.syncEdge_idle (s : State) (sub : Nat) (h : s.fabricUp = false ∨ s.dsp.lock.source ≠ 1) :
    s.syncEdge sub = s := by
  unfold State.syncEdge
  split
  · refine if_pos ?_
    rcases h with h | h <;> simp [h]
  · rfl

/-- An accepted edge measures the period, steers DT, and places the next instant before its own event (R305, R440). -/
theorem State.acceptEdge_eq (s : State) (tm : Timing) (edge g : Nat) : ∃ p l i x, s.acceptEdge tm edge g =
    ({ s with
        dsp := { s.dsp with phasePs := ((edge : Int) - g) * 1000 / 0x100000000, missedRow := 0, lastEdge := some edge
                            period := p, periods := l, nextGrid := x }
        time := { s.time with dtInc := i } } : State).gridInstant edge none false := by
  unfold State.acceptEdge
  extract_lets fresh d u v
  obtain ⟨i, hi⟩ : ∃ i, v = { u with time := { u.time with dtInc := i } } := u.steerDt_inv ..
  clear_value fresh v
  subst hi
  exact ⟨_, _, i, _, rfl⟩

theorem State.syncEdge_frame {s : State} {tm : Timing} {g : Nat} (ht : s.dsp.timing = some tm)
    (hg : s.dsp.nextGrid = some g) {sub : Nat} (hf : s.fabricUp = true) (hn : s.dsp.timingNext = none)
    (hr : s.dsp.rate = 0) (h1 : s.dsp.lock.source = 1) (hl : s.dsp.lockState = .locked)
    (hlate : s.time.mt + sub % s.time.mtInc ≤ g + 2000 * 0x100000000)
    (hearly : g ≤ s.time.mt + sub % s.time.mtInc + 2000 * 0x100000000) :
    ∃ t, exec (.syncInEdge sub) s = .next t ∧ t.dsp.dfn = s.dsp.dfn + 1 ∧
      t.dsp.frameMt = some (s.time.mt + sub % s.time.mtInc) ∧ t.dsp.lastEdge = some (s.time.mt + sub % s.time.mtInc) ∧
      t.dsp.missedRow = 0 ∧ t.dsp.lockState = .locked ∧
      t.dsp.phasePs = ((s.time.mt + sub % s.time.mtInc : Nat) - (g : Int)) * 1000 / 0x100000000 ∧
      t.dsp.nSpurious = s.dsp.nSpurious := by
  refine ⟨s.syncEdge sub, rfl, ?_⟩
  rw [State.syncEdge_locked ht hg hf h1 hl]
  generalize s.time.mt + sub % s.time.mtInc = edge at *
  dsimp only
  rw [if_pos (by unfold edgeWindow; omega)]
  obtain ⟨p, l, i, x, he⟩ := s.acceptEdge_eq tm edge g
  rw [he]
  have h := State.gridInstant_begun { s with
        dsp := { s.dsp with phasePs := ((edge : Int) - g) * 1000 / 0x100000000, missedRow := 0, lastEdge := some edge
                            period := p, periods := l, nextGrid := x }
        time := { s.time with dtInc := i } } edge none false hn (.inl hr)
  generalize State.gridInstant _ edge none false = t at h ⊢
  obtain ⟨hls, -, hmr⟩ := h.unplaced (State.places_false _)
  exact ⟨congrArg DspState.dfn h.dsp, congrArg DspState.frameMt h.dsp, congrArg DspState.lastEdge h.dsp, hmr,
    hls.trans hl, congrArg DspState.phasePs h.dsp, (congrArg DspState.nSpurious h.dsp :)⟩

theorem State.syncEdge_spurious {s : State} {tm : Timing} {g : Nat} (ht : s.dsp.timing = some tm)
    (hg : s.dsp.nextGrid = some g) {sub : Nat} (hf : s.fabricUp = true) (h1 : s.dsp.lock.source = 1)
    (hl : s.dsp.lockState = .locked) (hout : g + 2000 * 0x100000000 < s.time.mt + sub % s.time.mtInc ∨
      s.time.mt + sub % s.time.mtInc + 2000 * 0x100000000 < g) :
    s.syncEdge sub = { s with dsp.nSpurious := s.dsp.nSpurious + 1 } := by
  rw [State.syncEdge_locked ht hg hf h1 hl]
  exact if_neg (by unfold edgeWindow; omega)

/-! ### Acquisition -/

theorem State.countEdge_first {s : State} (tm : Timing) (edge : Nat) (hl : s.dsp.lastEdge = none) :
    s.countEdge tm edge =
      { s with dsp := { s.dsp with lastEdge := some edge, goodEdges := 1, periods := [], acquired := false } } := by
  simp [State.countEdge, hl]

theorem State.syncEdge_first {s : State} {tm : Timing} {g : Nat} (ht : s.dsp.timing = some tm)
    (hg : s.dsp.nextGrid = some g) (sub : Nat) (hf : s.fabricUp = true) (h1 : s.dsp.lock.source = 1)
    (hl : s.dsp.lockState ≠ .locked) (hnone : s.dsp.lastEdge = none) :
    s.syncEdge sub = { s with dsp := { s.dsp with
      lastEdge := some (s.time.mt + sub % s.time.mtInc), goodEdges := 1, periods := [], acquired := false } } := by
  rw [State.syncEdge_unlocked ht hg hf h1 hl]
  unfold State.acquireEdge
  rw [State.countEdge_first _ _ hnone]
  rfl

/-- The fourth edge in a row at the nominal period acquires the source (R306). -/
theorem State.countEdge_fourth {s : State} {tm : Timing} {l : Nat} (hl : s.dsp.lastEdge = some l)
    (h3 : s.dsp.goodEdges = 3) (ha : s.dsp.acquired = false) :
    s.countEdge tm (l + tm.period) = ({ s with dsp := { s.dsp with
      lastEdge := some (l + tm.period), goodEdges := 4, period := tm.period
      periods := (tm.period :: s.dsp.periods).take 16 } } : State).lockAcquired := by
  simp [State.countEdge, hl, h3, ha]

theorem State.lockAcquired_dsp (s : State) :
    s.lockAcquired.dsp = { s.dsp with acquired := true, lockWait := none } := by
  unfold State.lockAcquired
  extract_lets d u
  split
  · rw [State.outcome_dsp]
  · next h => exact congrArg (fun w => { s.dsp with acquired := true, lockWait := w }) h

theorem State.acquireEdge_acquired {s v : State} {tm : Timing} {edge : Nat} (hv : s.countEdge tm edge = v)
    (ha : v.dsp.acquired = true) (hf : ∀ f, v.dsp.frameMt = some f → f + tm.minSpan ≤ edge) :
    s.acquireEdge tm edge =
      ({ v with dsp := { v.dsp with nextGrid := some (edge + v.dsp.period) } } : State).gridInstant edge none true := by
  unfold State.acquireEdge
  rw [hv]
  dsimp only
  rw [if_neg (by simp [ha])]
  refine if_pos ?_
  split
  · rfl
  · next f h => exact decide_eq_true (hf f h)

theorem State.syncEdge_fourth {s : State} {tm : Timing} {g : Nat} (ht : s.dsp.timing = some tm)
    (hg : s.dsp.nextGrid = some g) {sub l : Nat} (hf : s.fabricUp = true) (hn : s.dsp.timingNext = none)
    (h1 : s.dsp.lock.source = 1) (hl : s.dsp.lockState ≠ .locked) (hlast : s.dsp.lastEdge = some l)
    (h3 : s.dsp.goodEdges = 3) (ha : s.dsp.acquired = false) (hedge : s.time.mt + sub % s.time.mtInc = l + tm.period)
    (hfar : ∀ f, s.dsp.frameMt = some f → f + tm.minSpan ≤ l + tm.period) :
    ∃ t, exec (.syncInEdge sub) s = .next t ∧ t.dsp.lockState = .locked ∧ t.dsp.dfn = s.dsp.dfn + 1 ∧
      t.dsp.period = tm.period ∧ t.dsp.frameMt = some (l + tm.period) ∧ t.dsp.nextGrid = some (l + 2 * tm.period) ∧
      t.dsp.lockWait = none := by
  refine ⟨s.syncEdge sub, rfl, ?_⟩
  have hc := State.countEdge_fourth (tm := tm) hlast h3 ha
  have hd := State.lockAcquired_dsp { s with dsp := { s.dsp with
      lastEdge := some (l + tm.period), goodEdges := 4, period := tm.period
      periods := (tm.period :: s.dsp.periods).take 16 } }
  generalize State.lockAcquired _ = v at hc hd
  rw [State.syncEdge_unlocked ht hg hf h1 hl, hedge,
    State.acquireEdge_acquired hc (by rw [hd]) (by rw [hd]; exact hfar)]
  have h := State.gridInstant_begun { v with dsp := { v.dsp with nextGrid := some (l + tm.period + v.dsp.period) } }
    (l + tm.period) none true (by rw [hd]; exact hn) (.inr rfl)
  generalize State.gridInstant _ (l + tm.period) none true = t at h ⊢
  obtain ⟨hls, -⟩ := h.placed (by simp [State.places, hd, ht])
  have hper : t.dsp.period = v.dsp.period := (congrArg DspState.period h.dsp :)
  have hgrid : t.dsp.nextGrid = some (l + tm.period + v.dsp.period) := congrArg DspState.nextGrid h.dsp
  have hdfn : t.dsp.dfn = v.dsp.dfn + 1 := congrArg DspState.dfn h.dsp
  rw [hd] at hls hper hgrid hdfn
  refine ⟨hls.trans (if_neg (by simp [h1])), hdfn, hper, congrArg DspState.frameMt h.dsp, hgrid.trans ?_,
    h.lockWait (by rw [hd])⟩
  show some (l + tm.period + tm.period) = some (l + 2 * tm.period)
  rw [Nat.two_mul, Nat.add_assoc]

/-- Settles O49: every command that makes a frame-start event comes to an instant of the base grid, and what the event
makes of the raster, the bases and the presented frame is said once, in `FrameBegun`. -/
theorem frameStarts : Obligations.FrameStarts := by
  unfold Obligations.FrameStarts
  intro s tm g ht hg
  refine ⟨fun hf h0 hn hm hr => State.freeRun_frame ht hg hf h0 hn hm hr,
    fun hf h0 ha hn hm hb hc => congrArg Host.Outcome.next (State.freeRun_still ht hg hf h0 ha hn hm hb hc),
    fun tn k hf h0 hn hm => State.freeRun_newTiming ht hg hf h0 hn hm,
    fun h => congrArg Host.Outcome.next (State.freeRun_idle ht hg h),
    fun hf h2 hl hn hr hm => State.scheduledInstant_frame ht hg hf h2 hl hn hr hm,
    fun h => congrArg Host.Outcome.next (State.scheduledInstant_idle ht h),
    fun hf hn hr h1 hl hm hrow => State.missEdge_frame ht hg hf hn hr h1 hl hm hrow,
    fun hf hn hr h1 hl hm hrow => State.missEdge_loses ht hg hf hn hr h1 hl hm hrow,
    fun h => congrArg Host.Outcome.next (State.missEdge_idle ht hg h),
    fun sub hf hn hr h1 hl hlate hearly => State.syncEdge_frame ht hg hf hn hr h1 hl hlate hearly,
    fun sub hf h1 hl hout => congrArg Host.Outcome.next (State.syncEdge_spurious ht hg hf h1 hl hout),
    fun sub hf h1 hl hnone => congrArg Host.Outcome.next (State.syncEdge_first ht hg sub hf h1 hl hnone),
    fun sub l hf hn h1 hl hlast h3 ha hedge hfar => State.syncEdge_fourth ht hg hf hn h1 hl hlast h3 ha hedge hfar,
    fun sub h => congrArg Host.Outcome.next (State.syncEdge_idle s sub h)⟩

end Sys2Proof.Machine
end

section
/-!
SUPPORT. A COMPLETE slot that nothing holds, with an access unit still in decode in it, and the refutation of O19.
-/

namespace Sys2Proof.Machine

/-- The decode, in slot 0 for context 0, of an access unit of which no slice segment arrived: core 0 works on the only part of
its only picture. -/
def lastPartJob : DecodeJob :=
  { ctx := 0, slot := 0
    au := { number := 5, truncated := true, clean := false, unbroken := false, ptsBase := 0, effPts := 0, rapMask := 0,
            params := { scene := [], layout := [] }, nals := [], space := 0 }
    comps := [{ view := 0, depth := false, mask := 1, mode := 1, parts := [{ load := 1, state := .running }], refs := [] }] }

/-- A device after reset with that decode, whose slot is COMPLETE and has no mark, no output pending and no other hold, so that
R162 returns it to FREE at the next sweep. -/
def looseSlotDecode : State :=
  { State.reset with
    dec.cores := State.reset.dec.cores.set 0 (some (.part 0 0 0))
    dec.slots := { ({} : Slot) with state := .complete, au := 5 } :: List.replicate 7 {}
    dec.jobs := [lastPartJob] }

theorem exec_partComplete_part {s : State} {core : Fin 12} {slot ci k : Nat}
    (hc : s.dec.cores[core.val]? = some (some (.part slot ci k))) (he : s.partCanEnd slot ci k = true) :
    exec (.partComplete core) s = .next (s.endPart core.val slot ci k) := by
  show execPartComplete core s = _
  simp [execPartComplete, List.getD_eq_getElem?_getD, hc, he]

/-- The sweep that ends the picture's storing frees the slot and drops its access unit, before the scene picture could become
COMPLETE. -/
theorem looseSlotDecode_endPart_state : ((looseSlotDecode.endPart 0 0 0 0).slot 0).state = .free := by decide +kernel

/-- Refutes O19: the clause of the last part of all makes the scene picture COMPLETE in every state, also where its slot stands
COMPLETE already and loose. There the sweep that follows the storing of the picture (R162) frees the slot, and its access unit
goes undone. The statement does not ask that the slot be DECODING, as it is for every access unit that takes a FREE slot. -/
theorem not_decoding : ¬ Obligations.Decoding := by
  intro h
  obtain ⟨partEnds, -, -⟩ := h.2 looseSlotDecode 0
  have hcore : looseSlotDecode.dec.cores[(0 : Fin 12).val]? = some (some (.part 0 0 0)) := by decide
  have hend : looseSlotDecode.partCanEnd 0 0 0 = true := by decide
  obtain ⟨-, -, sceneEnds⟩ := partEnds 0 0 0 hcore hend rfl _ _ rfl rfl
  obtain ⟨t, ht, -, hstate, -⟩ := sceneEnds (by decide) (by decide)
  rw [exec_partComplete_part hcore hend] at ht
  obtain rfl := Host.Outcome.next.inj ht
  exact absurd (looseSlotDecode_endPart_state.symm.trans hstate) (by decide)

end Sys2Proof.Machine
end

section
/-!
SUPPORT. The waits that end by time, the slots of the raster, and the proof that settles O50.
-/

namespace Sys2Proof.Machine

/-! ## The end of holdover, and the wait of Still mode (R308, R319) -/

theorem exec_holdoverExpiry_due {s : State} {n : Nat} (hn : s.dsp.holdUntil = some n) (hl : s.dsp.lockState = .holdover)
    (ht : n ≤ s.mtNs) :
    exec .holdoverExpiry s = .next (({ s with dsp.lockState := .free, dsp.holdUntil := none } : State).raiseFreeRun 0) := by
  show execHoldoverExpiry s = _
  simp [execHoldoverExpiry, hn, hl, Nat.not_lt.2 ht]

theorem exec_holdoverExpiry_idle {s : State}
    (h : s.dsp.holdUntil = none ∨ s.dsp.lockState ≠ .holdover ∨ ∃ n, s.dsp.holdUntil = some n ∧ s.mtNs < n) :
    exec .holdoverExpiry s = .next s := by
  show execHoldoverExpiry s = _
  unfold execHoldoverExpiry
  split
  · rfl
  · next n hn =>
    refine if_pos ?_
    rcases h with h | h | ⟨m, hm, hlt⟩
    · rw [hn] at h; cases h
    · simp [h]
    · obtain rfl : n = m := Option.some.inj (hn.symm.trans hm)
      simp [hlt]

/-- The time before a step down, read from the table of R319. -/
theorem stillWait_eq_getD (r : Nat) : stillWait r = [1000000000, 2000000000, 5000000000].getD r 5000000000 := by
  match r with
  | 0 | 1 | 2 | _ + 3 => rfl

theorem State.stillStepDown_due {s : State} {tm : Timing} (ht : s.dsp.timing = some tm) (hr : tm.refresh % 30000 = 0)
    (hs : s.dsp.still = true) (hn : s.dsp.rateNext = none) (hb : s.dsp.wantBase = false) (hl : s.dsp.rate ≤ s.dsp.lowest)
    (hw : s.dsp.stillSince + stillWait s.dsp.rate ≤ s.mtNs) :
    s.stillStepDown = { s with dsp.rateNext := some (s.dsp.rate + 1) } := by
  simp [State.stillStepDown, Timing.stillOk, ht, hr, hs, hn, hb, Nat.not_lt.2 hl, Nat.not_lt.2 hw]

theorem State.stillStepDown_idle {s : State}
    (h : s.dsp.still = false ∨ s.dsp.rateNext.isSome ∨ s.dsp.wantBase = true ∨ s.dsp.lowest < s.dsp.rate ∨
      s.mtNs < s.dsp.stillSince + stillWait s.dsp.rate) : s.stillStepDown = s := by
  unfold State.stillStepDown
  refine if_pos ?_
  rcases h with h | h | h | h | h <;> simp [h]

/-! ## The end of the wait for acquisition (R303) -/

theorem State.lockAcquired_unasked {s : State} (hw : s.dsp.lockWait = none) :
    s.lockAcquired = { s with dsp.acquired := true } := by
  unfold State.lockAcquired
  dsimp only
  split
  · next h => cases hw.symm.trans h
  · rfl

/-- Where no DSP_LOCK waits, acquisition reports nothing and changes the raster alone. -/
theorem State.acquireScheduled_unasked {s : State} (hw : s.dsp.lockWait = none) : ∃ i e a,
    s.acquireScheduled = { s with dsp := { s.dsp with instant := i, lastEdge := e, acquired := a } } := by
  unfold State.acquireScheduled
  split
  · exact ⟨_, _, _, rfl⟩
  · next t _ =>
    split
    · exact ⟨_, _, _, rfl⟩
    · exact ⟨(s.aimInstant t).dsp.instant, none, true, State.lockAcquired_unasked (s := s.aimInstant t) hw⟩

theorem State.restartLock_unasked {s : State} (hw : s.dsp.lockWait = none) : ∃ i e a, s.restartLock =
    { s with dsp := { s.dsp with
        goodEdges := 0, missedRow := 0, period := 0, periods := [], holdUntil := none, instant := i, lastEdge := e, acquired := a
        lockState := if s.dsp.timing.isNone then .noTiming else if s.dsp.lock.source = 0 then .free else .acquiring } } := by
  unfold State.restartLock
  extract_lets free d u
  obtain ⟨i, e, a, h⟩ := State.acquireScheduled_unasked (s := u) hw
  refine ⟨i, e, a, h.trans ?_⟩
  by_cases hf : s.dsp.lock.source = 0 <;> simp [u, d, free, hf]

/-- The parts that the end of a wait for acquisition may change. -/
abbrev lockParts : List Piece := [.dsp, .cmd, .fns, .hmem, .dmem, .smb, .sup]

theorem State.lockTimeout_due {s : State} {n d : Nat} {k : LockSet} (hw : s.dsp.lockWait = some (n, k, d))
    (hd : d ≤ s.mtNs) (hs : s.dsp.lock.source ≠ 0) :
    s.lockTimeout.dsp.lock = k ∧ s.lockTimeout.dsp.lockWait = none ∧ s.lockTimeout.dsp.timing = s.dsp.timing ∧
      s.lockTimeout.dsp.dfn = s.dsp.dfn ∧
      s.lockTimeout.dsp.lockState =
        (if s.dsp.timing.isNone then .noTiming else if k.source = 0 then .free else .acquiring) ∧
      (∀ f ∈ s.lockTimeout.cmd.outcomes, f.ticket ≠ n) ∧ AgreeBut lockParts s s.lockTimeout := by
  generalize hu : ({ s with dsp.lockWait := none } : State).outcome n .timeout 0 = u
  have hud : u.dsp = { s.dsp with lockWait := none } := by rw [← hu, State.outcome_dsp]
  have huc : u.cmd.outcomes = s.cmd.outcomes.filter fun f => f.ticket != n := by rw [← hu, State.outcome_outcomes]
  have hua : AgreeBut lockParts s u := by
    rw [← hu]
    exact ((State.withDsp_agree ..).mono (by decide)).trans ((State.outcome_agree ..).mono (by decide))
  have ht : s.lockTimeout = ({ u with dsp.lock := k } : State).restartLock.raiseFreeRun 2 := by
    rw [← hu]
    simp only [State.lockTimeout, hw, Nat.not_lt.2 hd, hs, decide_false, Bool.or_self, Bool.false_eq_true, if_false]
  obtain ⟨i, e, a, hr⟩ := State.restartLock_unasked (s := { u with dsp.lock := k }) (by simp [hud])
  rw [ht, hr]
  refine ⟨?_, ?_, ?_, ?_, ?_, ?_, hua.trans (.trans ((State.withDsp_agree u _).mono (by decide))
    ((State.raise_agree ..).mono (by decide)))⟩ <;> simp [State.raiseFreeRun, hud, huc]

theorem State.lockTimeout_idle {s : State} (h : s.dsp.lock.source = 0 ∨ ∀ x ∈ s.dsp.lockWait, s.mtNs < x.2.2) :
    s.lockTimeout = s := by
  unfold State.lockTimeout
  split
  · rfl
  · next n k d hw =>
    refine if_pos ?_
    rcases h with h | h
    · simp [h]
    · simp [h _ hw]

/-! ## A slot begins (R314, R341) -/

/-- `u` is `s` with other reserves, escalations and counts of them (R314). -/
def State.ReservesNoted (s u : State) : Prop := ∃ nu nc wb lb mw ml, u = { s with dsp := { s.dsp with
  nUrgent := nu, nCritical := nc, wovenBuf := wb, layerBufs := lb, minWoven := mw, minLayer := ml } }

theorem State.ReservesNoted.trans {s u v : State} (h : s.ReservesNoted u) (k : u.ReservesNoted v) : s.ReservesNoted v := by
  obtain ⟨_, _, _, _, _, _, rfl⟩ := h
  obtain ⟨_, _, _, _, _, _, rfl⟩ := k
  exact ⟨_, _, _, _, _, _, rfl⟩

theorem State.ReservesNoted.foldl {α : Type} {f : State → α → State} (h : ∀ (s : State) a, s.ReservesNoted (f s a)) :
    ∀ (l : List α) (s : State), s.ReservesNoted (l.foldl f s)
  | [], _ => ⟨_, _, _, _, _, _, rfl⟩
  | a :: l, s => (h s a).trans (State.ReservesNoted.foldl h l (f s a))

theorem State.noteWoven_noted (s : State) (ns : Nat) : s.ReservesNoted (s.noteWoven ns) := ⟨_, _, _, _, _, _, rfl⟩

theorem State.noteLayer_noted (s : State) (n ns : Nat) : s.ReservesNoted (s.noteLayer n ns) := ⟨_, _, _, _, _, _, rfl⟩

theorem State.noteReserves_noted (s : State) (w : Nat) (ls : List Nat) : s.ReservesNoted (s.noteReserves w ls) := by
  have hw : s.ReservesNoted (if s.ray.presented.isSome then s.noteWoven w else { s with dsp.wovenBuf := {} }) := by
    split
    · exact State.noteWoven_noted ..
    · exact ⟨_, _, _, _, _, _, rfl⟩
  unfold State.noteReserves
  refine hw.trans (State.ReservesNoted.foldl (fun v n => ?_) _ _)
  split
  · exact State.noteLayer_noted ..
  · exact ⟨_, _, _, _, _, _, rfl⟩

/-- The next slot begins, with the reserves of the buffers at it. -/
def State.beginSlot (s : State) (w : Nat) (ls : List Nat) : State :=
  ({ s with dsp.slot := s.dsp.slot + 1 } : State).noteReserves w ls

theorem State.beginSlot_noted (s : State) (w : Nat) (ls : List Nat) :
    ({ s with dsp.slot := s.dsp.slot + 1 } : State).ReservesNoted (s.beginSlot w ls) := State.noteReserves_noted ..

theorem State.beginSlot_pnl (s : State) (w : Nat) (ls : List Nat) : (s.beginSlot w ls).pnl = s.pnl := by
  obtain ⟨_, _, _, _, _, _, h⟩ := s.beginSlot_noted w ls
  rw [h]

theorem State.beginSlot_agree (s : State) (w : Nat) (ls : List Nat) : AgreeBut [.dsp] s (s.beginSlot w ls) := by
  obtain ⟨_, _, _, _, _, _, h⟩ := s.beginSlot_noted w ls
  rw [h]
  exact State.withDsp_agree ..

/-- What the lanes carry in slot `n` that has begun: the discharge's blocks, LATCH before active line 0, a line, or blanking
(R326, R341, R358). -/
def State.carrySlot (s : State) (t : Timing) (n : Int) (w : Nat) (ls : List Nat) : State :=
  match s.pnl.discharge with
  | some d => s.dischargeSlot d
  | none =>
    if n < 0 then { s with dsp.block := .latch }
    else if n < t.vactive then s.activeSlot t n.toNat w ls
    else s.blankingSlot t n.toNat

/-- The time of the next slot has come, of a raster that runs under a timing (R341). -/
structure State.SlotDue (s : State) (tm : Timing) : Prop where
  /-- The timing in force. -/
  timing : s.dsp.timing = some tm
  /-- The base grid runs. -/
  grid : s.dsp.nextGrid.isSome
  /-- Islands 1 to 127 run. -/
  fabric : s.fabricUp = true
  /-- A frame-start event has begun a refresh. -/
  frame : s.dsp.frameMt.isSome
  /-- MT has reached the slot. -/
  time : s.slotMt tm s.dsp.slot ≤ s.time.mt

theorem State.lineSlot_idle {s : State} {tm : Timing} (ht : s.dsp.timing = some tm) (w : Nat) (ls : List Nat)
    (h : s.rasterRuns = false ∨ s.fabricUp = false ∨ s.dsp.frameMt = none ∨ s.time.mt < s.slotMt tm s.dsp.slot) :
    s.lineSlot w ls = s := by
  simp only [State.lineSlot, ht]
  split
  · rfl
  · next hn =>
    refine if_pos ?_
    rcases h with h | h | h | h
    · simp [h] at hn
    · simp [h] at hn
    · simp [h] at hn
    · exact h

section
variable {s : State} {tm : Timing} (h : s.SlotDue tm) (w : Nat) (ls : List Nat)
include h

theorem State.SlotDue.lineSlot_eq : s.lineSlot w ls = (s.beginSlot w ls).carrySlot tm s.dsp.slot w ls := by
  obtain ⟨f, hf⟩ := Option.isSome_iff_exists.1 h.frame
  have hrun : ¬ (!s.rasterRuns || !s.fabricUp || s.dsp.frameMt.isNone) = true := by
    simp [State.rasterRuns, h.timing, h.grid, h.fabric, hf]
  unfold State.lineSlot State.carrySlot State.beginSlot
  rw [h.timing]
  dsimp only
  generalize State.noteReserves _ w ls = v
  exact (if_neg hrun).trans (if_neg (Nat.not_lt.2 h.time))

theorem State.SlotDue.discharging {d : Discharge} (hd : s.pnl.discharge = some d) :
    s.lineSlot w ls = (s.beginSlot w ls).dischargeSlot d := by
  simp only [h.lineSlot_eq, State.carrySlot, State.beginSlot_pnl, hd]

theorem State.SlotDue.before (hd : s.pnl.discharge = none) (hn : s.dsp.slot < 0) :
    s.lineSlot w ls = { s.beginSlot w ls with dsp.block := .latch } := by
  simp only [h.lineSlot_eq, State.carrySlot, State.beginSlot_pnl, hd, hn, if_true]

theorem State.SlotDue.active (hd : s.pnl.discharge = none) {y : Nat} (hn : s.dsp.slot = y) (hy : y < tm.vactive) :
    s.lineSlot w ls = (s.beginSlot w ls).activeSlot tm y w ls := by
  have h0 : ¬ (y : Int) < 0 := by omega
  have hv : (y : Int) < tm.vactive := by omega
  simp only [h.lineSlot_eq, State.carrySlot, State.beginSlot_pnl, hd, hn, h0, hv, if_false, if_true, Int.toNat_natCast]

theorem State.SlotDue.blanking (hd : s.pnl.discharge = none) (hn : (tm.vactive : Int) ≤ s.dsp.slot) :
    s.lineSlot w ls = (s.beginSlot w ls).blankingSlot tm s.dsp.slot.toNat := by
  have h0 : ¬ s.dsp.slot < 0 := by omega
  simp only [h.lineSlot_eq, State.carrySlot, State.beginSlot_pnl, hd, h0, Int.not_lt.2 hn, if_false]

end

/-! ## The composed line rests on device memory, the presented frame and the timing (R288, R295) -/

theorem State.elemAt_congr {s u : State} (h : u.dmem = s.dmem) : u.elemAt = s.elemAt := by
  funext p f i x y
  simp [State.elemAt, State.readAt, h]

theorem State.layerSample_congr {s u : State} (h : u.dmem = s.dmem) : u.layerSample = s.layerSample := by
  have hy : u.yuvAt = s.yuvAt := by
    funext p f c x y
    simp only [State.yuvAt, State.elemAt_congr h]
  funext v l dx dy c
  simp only [State.layerSample, State.videoSample, hy, State.elemAt_congr h]

theorem State.blendLayers_congr {s u : State} (h : u.dmem = s.dmem) (full : Bool) (px py p q : Int) (ch : Nat) :
    ∀ (ls : List (Option LayerView)) (n d : Nat),
      u.blendLayers full px py p q ch n d ls = s.blendLayers full px py p q ch n d ls
  | [], _, _ => rfl
  | none :: ls, n, d => State.blendLayers_congr h full px py p q ch ls (n + 1) d
  | some l :: ls, n, d => by
    have hl : u.blendLayer full px py p q ch d n l = s.blendLayer full px py p q ch d n l := by
      simp only [State.blendLayer, State.layerSample_congr h]
    unfold State.blendLayers
    rw [hl, State.blendLayers_congr h full px py p q ch ls]

theorem State.composeLine_congr {s u : State} (hm : u.dmem = s.dmem) (hr : u.ray = s.ray) (ht : u.dsp.timing = s.dsp.timing)
    (t : Timing) (ls : List (Option LayerView)) (y : Nat) : u.composeLine t ls y = s.composeLine t ls y := by
  have hw : u.wovenValue t = s.wovenValue t := by
    funext x c z
    simp only [State.wovenValue, State.wovenAddr, State.wovenBytes, hm, hr, ht]
  have ha : u.angleBlob = s.angleBlob := by simp only [State.angleBlob, hr]
  simp only [State.composeLine, State.sentValue, hw, ha, State.blendLayers_congr hm]

/-! ## The slot of an active line (R316, R347) -/

theorem AgreeBut.eq_withMemc {s t : State} (h : AgreeBut [.memc] s t) : t = { s with memc := t.memc } := by
  have e (x : Piece) (hx : x ∉ [Piece.memc]) : x.same s t := h.same x hx
  cases t
  simp only [State.mk.injEq, and_true]
  exact ⟨e .pending (by decide), e .free (by decide), e .hmem (by decide), e .dmem (by decide), e .pwr (by decide),
    e .regs (by decide), e .fns (by decide), e .cmd (by decide), e .smb (by decide), e .time (by decide),
    e .net (by decide), e .sup (by decide), e .strm (by decide), e .dec (by decide), e .ray (by decide), e .cmp (by decide),
    e .blt (by decide), e .wit (by decide), e .enc (by decide), e .chain (by decide), e .dsp (by decide),
    e .pnl (by decide), e .nvm (by decide), e .fw (by decide), e .thm (by decide)⟩

theorem State.fetchLine_agree (s : State) (t : Timing) (y : Nat) : AgreeBut [.memc] s (s.fetchLine t y) := by
  unfold State.fetchLine
  refine .trans ?_ (State.requestAll_agree ..)
  split
  · exact .refl _ _
  · exact State.request_agree ..

/-- A line is read from memory, and what lacks samples for it is counted (R316, R472). -/
def State.readLine (s : State) (t : Timing) (y w : Nat) (ls : List Nat) : State :=
  { s with memc := (s.fetchLine t y).memc
           dsp.nWoven := if s.ray.presented.isSome && w == 0 then s.dsp.nWoven + 1 else s.dsp.nWoven
           dsp.nLayer := s.dsp.nLayer + word (s.layersShort ls) }

theorem State.readLine_agree (s : State) (t : Timing) (y w : Nat) (ls : List Nat) :
    AgreeBut [.dsp, .memc] s (s.readLine t y w ls) := by
  constructor; intro x hx; cases x <;> first | rfl | exact absurd (by decide) hx

theorem State.activeSlot_dark {s : State} (hm : s.pnl.mode ≠ .driving) (t : Timing) (y w : Nat) (ls : List Nat) :
    s.activeSlot t y w ls = { s.readLine t y w ls with dsp.block := .latch } := by
  have hf := (s.fetchLine_agree t y).eq_withMemc
  unfold State.activeSlot
  rw [hf]
  exact if_pos (by simpa using hm)

theorem State.activeSlot_retrain {s : State} (hm : s.pnl.mode = .driving) {r : Retrain} (hr : s.pnl.retrain = some r)
    (t : Timing) (y w : Nat) (ls : List Nat) : s.activeSlot t y w ls = { s.readLine t y w ls with
      dsp.block := .lineRepeat, pnl.nRepeats := s.pnl.nRepeats + 1, pnl.retrain := some { r with slots := r.slots + 1 } } := by
  have hf := (s.fetchLine_agree t y).eq_withMemc
  unfold State.activeSlot
  rw [hf]
  dsimp only
  rw [if_neg (show ¬ (s.pnl.mode != .driving) = true by simp [hm])]
  split
  · next r' hr' =>
    obtain rfl : r = r' := Option.some.inj (hr.symm.trans hr')
    rfl
  · next hr' => cases hr.symm.trans hr'

theorem State.activeSlot_driving {s : State} (hm : s.pnl.mode = .driving) (hr : s.pnl.retrain = none) (t : Timing)
    (y w : Nat) (ls : List Nat) : s.activeSlot t y w ls =
      if s.ray.presented.isSome && w == 0 then { s.readLine t y w ls with dsp.block := .lineRepeat }
      else { s.readLine t y w ls with dsp.block := .lineStart, dsp.line := s.composeLine t (s.readyLayers ls) y } := by
  have hf := (s.fetchLine_agree t y).eq_withMemc
  have hc : (s.readLine t y w ls).composeLine t (s.readyLayers ls) y = s.composeLine t (s.readyLayers ls) y :=
    State.composeLine_congr (s := s) (u := s.readLine t y w ls) rfl rfl rfl t _ y
  rw [← hc]
  unfold State.activeSlot
  rw [hf]
  dsimp only
  rw [if_neg (show ¬ (s.pnl.mode != .driving) = true by simp [hm])]
  split
  · next r' hr' => cases hr.symm.trans hr'
  · rfl

/-! ## A blanking slot (R333, R341, R350) -/

theorem State.blankSettings_dsp (s : State) : s.blankSettings.dsp = s.dsp := by
  unfold State.blankSettings
  dsimp only
  split <;> split <;> rfl

theorem State.rateSettings_agree (s : State) : AgreeBut [.pnl] s s.rateSettings := by
  unfold State.rateSettings
  refine .ite (State.switchVcom_agree ..) ?_
  split
  · exact State.switchVcom_agree ..
  · exact .refl _ _

theorem State.switchVcom_pnl (s : State) (r : Nat) :
    ∃ c x, (s.switchVcom r).pnl = { s.pnl with vcomCode := c, vcomRate := x } := by
  unfold State.switchVcom
  split
  · exact ⟨_, _, rfl⟩
  · exact ⟨_, _, rfl⟩

theorem State.rateSettings_pnl (s : State) :
    ∃ c x, s.rateSettings.pnl = { s.pnl with vcomCode := c, vcomRate := x } := by
  unfold State.rateSettings
  split
  · exact State.switchVcom_pnl ..
  · split
    · exact State.switchVcom_pnl ..
    · exact ⟨_, _, rfl⟩

theorem State.rateSettings_steady {s : State} (h0 : s.dsp.rate = 0) (hn : s.dsp.rateNext = none) : s.rateSettings = s := by
  simp [State.rateSettings, h0, hn]

/-- The settings that take effect with slot `n` of a refresh: those of the first blanking slot, and the VCOM code of a new rate
behind the gate activity (R331 to R333). -/
def State.slotSettings (s : State) (t : Timing) (n : Nat) : State :=
  let u := if n = t.vactive then s.blankSettings else s
  if n = (u.pnl.gate.elim t.vactive fun g => gateEndSlot t g) then u.rateSettings else u

theorem State.blankingSlot_eq (s : State) (t : Timing) (n : Nat) :
    s.blankingSlot t n = if n < t.vactive + 16 then (s.slotSettings t n).configSlot
      else { s.slotSettings t n with dsp.block := .latch } := rfl

theorem State.slotSettings_dsp (s : State) (t : Timing) (n : Nat) : (s.slotSettings t n).dsp = s.dsp := by
  have hb : (if n = t.vactive then s.blankSettings else s).dsp = s.dsp := by
    split
    · exact s.blankSettings_dsp
    · rfl
  unfold State.slotSettings
  dsimp only
  generalize (if n = t.vactive then s.blankSettings else s) = u at *
  split
  · exact ((State.rateSettings_agree _).same .dsp (by decide)).trans hb
  · exact hb

/-- Behind the first blanking slot only the VCOM code may change, and it stands where no other rate is due (R333). -/
theorem State.slotSettings_behind (s : State) {t : Timing} {n : Nat} (hn : t.vactive < n) :
    AgreeBut [.pnl] s (s.slotSettings t n) ∧
      (∃ c x, (s.slotSettings t n).pnl = { s.pnl with vcomCode := c, vcomRate := x }) ∧
      (s.dsp.rate = 0 → s.dsp.rateNext = none → s.slotSettings t n = s) := by
  unfold State.slotSettings
  rw [if_neg (Nat.ne_of_gt hn)]
  dsimp only
  split
  · exact ⟨s.rateSettings_agree, s.rateSettings_pnl, State.rateSettings_steady⟩
  · exact ⟨.refl _ _, ⟨_, _, rfl⟩, fun _ _ => rfl⟩

theorem State.configTraining_dsp (s : State) (tr : Train) : ∃ b, (s.configTraining tr).dsp = { s.dsp with block := b } := by
  unfold State.configTraining
  split
  · exact ⟨_, rfl⟩
  · exact ⟨_, rfl⟩

theorem State.configGamma_dsp (s : State) (g : GammaLoad) : ∃ b, (s.configGamma g).dsp = { s.dsp with block := b } := by
  unfold State.configGamma
  split
  · exact ⟨_, rfl⟩
  · dsimp only
    split
    · exact ⟨_, State.finish_dsp ..⟩
    · split
      · exact ⟨_, rfl⟩
      · refine ⟨.config, ?_⟩
        split <;> rfl

/-- A slot of the configuration window chooses what it carries, and leaves the rest of the raster (R350). -/
theorem State.configSlot_dsp (s : State) : ∃ b, s.configSlot.dsp = { s.dsp with block := b } := by
  unfold State.configSlot
  dsimp only
  split
  · split
    · obtain ⟨b, hb⟩ := State.configTraining_dsp { s with dsp.block := .latch } _
      exact ⟨b, hb⟩
    · exact ⟨_, rfl⟩
  · split
    · exact ⟨_, rfl⟩
    · split
      · exact ⟨_, rfl⟩
      · split
        · obtain ⟨b, hb⟩ := State.configGamma_dsp { s with dsp.block := .latch } _
          exact ⟨b, hb⟩
        · exact ⟨_, rfl⟩

theorem State.blankingSlot_dsp (s : State) (t : Timing) (n : Nat) :
    ∃ b, (s.blankingSlot t n).dsp = { s.dsp with block := b } := by
  rw [State.blankingSlot_eq, ← State.slotSettings_dsp s t n]
  split
  · exact State.configSlot_dsp _
  · exact ⟨_, rfl⟩

/-! ## What each slot leaves behind -/

/-- The slot of an active line has begun and its line has been read: what the raster then holds. -/
theorem State.beginSlot_readLine (s : State) (t : Timing) (y w : Nat) (ls : List Nat) :
    ∃ v, (s.beginSlot w ls).readLine t y w ls = v ∧ AgreeBut [.dsp, .memc] s v ∧ v.dsp.slot = s.dsp.slot + 1 ∧
      v.dsp.line = s.dsp.line ∧ v.dsp.dfn = s.dsp.dfn ∧
      v.dsp.nWoven = (if s.ray.presented.isSome && w == 0 then s.dsp.nWoven + 1 else s.dsp.nWoven) ∧
      v.dsp.nLayer = s.dsp.nLayer + word (s.layersShort ls) := by
  refine ⟨_, rfl, .after (State.readLine_agree ..) (by decide) ((s.beginSlot_agree w ls).mono (by decide)), ?_⟩
  obtain ⟨_, _, _, _, _, _, hu⟩ := s.beginSlot_noted w ls
  rw [hu]
  exact ⟨rfl, rfl, rfl, rfl, rfl⟩

theorem State.beginSlot_composeLine (s : State) (t : Timing) (y w : Nat) (ls : List Nat) :
    (s.beginSlot w ls).composeLine t ((s.beginSlot w ls).readyLayers ls) y = s.composeLine t (s.readyLayers ls) y := by
  obtain ⟨_, _, _, _, _, _, hu⟩ := s.beginSlot_noted w ls
  rw [hu]
  exact State.composeLine_congr (by rfl) (by rfl) (by rfl) t _ y

theorem State.beginSlot_presented (s : State) (w : Nat) (ls : List Nat) :
    (s.beginSlot w ls).ray.presented = s.ray.presented :=
  congrArg RayState.presented ((s.beginSlot_agree w ls).same .ray (by decide))

section
variable {s : State} {tm : Timing} (h : s.SlotDue tm) (w : Nat) (ls : List Nat)
include h

theorem State.SlotDue.carries_before (hd : s.pnl.discharge = none) (hn : s.dsp.slot < 0) :
    ∃ t, exec (.scanoutLineSlot w ls) s = .next t ∧ AgreeBut [.dsp] s t ∧ t.dsp.block = .latch ∧
      t.dsp.slot = s.dsp.slot + 1 ∧ t.dsp.line = s.dsp.line ∧ t.dsp.dfn = s.dsp.dfn := by
  obtain ⟨_, _, _, _, _, _, hu⟩ := s.beginSlot_noted w ls
  refine ⟨_, congrArg Host.Outcome.next (h.before w ls hd hn), ?_⟩
  rw [hu]
  exact ⟨State.withDsp_agree .., rfl, rfl, rfl, rfl⟩

section
variable (hd : s.pnl.discharge = none) {y : Nat} (hn : s.dsp.slot = y) (hy : y < tm.vactive)
include hd hn hy

theorem State.SlotDue.carries_line (hm : s.pnl.mode = .driving) (hr : s.pnl.retrain = none)
    (he : s.ray.presented = none ∨ w ≠ 0) :
    ∃ t, exec (.scanoutLineSlot w ls) s = .next t ∧ AgreeBut [.dsp, .memc] s t ∧ t.dsp.block = .lineStart ∧
      t.dsp.slot = s.dsp.slot + 1 ∧ t.dsp.line = s.composeLine tm (s.readyLayers ls) y ∧ t.dsp.nWoven = s.dsp.nWoven ∧
      t.dsp.nLayer = s.dsp.nLayer + word (s.layersShort ls) ∧ t.dsp.dfn = s.dsp.dfn := by
  obtain ⟨v, hv, ha, hslot, -, hdfn, hwoven, hlayer⟩ := s.beginSlot_readLine tm y w ls
  have hw : ¬ (s.ray.presented.isSome && w == 0) = true := by rcases he with he | he <;> simp [he]
  have ht := h.active w ls hd hn hy
  rw [State.activeSlot_driving (by rwa [State.beginSlot_pnl]) (by rwa [State.beginSlot_pnl]), hv,
    State.beginSlot_composeLine, State.beginSlot_presented, if_neg hw] at ht
  exact ⟨_, congrArg Host.Outcome.next ht, .after (State.withDsp_agree v _) (by decide) ha, rfl, hslot, rfl,
    hwoven.trans (if_neg hw), hlayer, hdfn⟩

theorem State.SlotDue.carries_repeat (hm : s.pnl.mode = .driving) (hr : s.pnl.retrain = none)
    (hp : s.ray.presented.isSome) (h0 : w = 0) :
    ∃ t, exec (.scanoutLineSlot w ls) s = .next t ∧ AgreeBut [.dsp, .memc] s t ∧ t.dsp.block = .lineRepeat ∧
      t.dsp.slot = s.dsp.slot + 1 ∧ t.dsp.nWoven = s.dsp.nWoven + 1 ∧ t.dsp.line = s.dsp.line := by
  obtain ⟨v, hv, ha, hslot, hline, -, hwoven, -⟩ := s.beginSlot_readLine tm y w ls
  have hw : (s.ray.presented.isSome && w == 0) = true := by simp [hp, h0]
  have ht := h.active w ls hd hn hy
  rw [State.activeSlot_driving (by rwa [State.beginSlot_pnl]) (by rwa [State.beginSlot_pnl]), hv,
    State.beginSlot_presented, if_pos hw] at ht
  exact ⟨_, congrArg Host.Outcome.next ht, .after (State.withDsp_agree v _) (by decide) ha, rfl, hslot,
    hwoven.trans (if_pos hw), hline⟩

theorem State.SlotDue.carries_retrain (hm : s.pnl.mode = .driving) {r : Retrain} (hr : s.pnl.retrain = some r) :
    ∃ t, exec (.scanoutLineSlot w ls) s = .next t ∧ AgreeBut [.dsp, .pnl, .memc] s t ∧ t.dsp.block = .lineRepeat ∧
      t.dsp.slot = s.dsp.slot + 1 ∧ t.dsp.line = s.dsp.line ∧
      t.pnl = { s.pnl with nRepeats := s.pnl.nRepeats + 1, retrain := some { r with slots := r.slots + 1 } } := by
  obtain ⟨v, hv, ha, hslot, hline, -, -, -⟩ := s.beginSlot_readLine tm y w ls
  have hp : v.pnl = s.pnl := ha.same .pnl (by decide)
  have ht := h.active w ls hd hn hy
  rw [State.activeSlot_retrain (by rwa [State.beginSlot_pnl]) (by rwa [State.beginSlot_pnl]), hv] at ht
  have hu : AgreeBut [.dsp, .pnl, .memc] s { v with dsp.block := .lineRepeat } :=
    .after (State.withDsp_agree v _) (by decide) (ha.mono (by decide))
  refine ⟨_, congrArg Host.Outcome.next ht, .after (State.withPnl_agree _ _) (by decide) hu, rfl, hslot, hline, ?_⟩
  show { v.pnl with nRepeats := (s.beginSlot w ls).pnl.nRepeats + 1, retrain := some { r with slots := r.slots + 1 } } = _
  rw [hp, State.beginSlot_pnl]

theorem State.SlotDue.carries_dark (hm : s.pnl.mode ≠ .driving) :
    ∃ t, exec (.scanoutLineSlot w ls) s = .next t ∧ AgreeBut [.dsp, .memc] s t ∧ t.dsp.block = .latch ∧
      t.dsp.slot = s.dsp.slot + 1 ∧ t.dsp.line = s.dsp.line := by
  obtain ⟨v, hv, ha, hslot, hline, -, -, -⟩ := s.beginSlot_readLine tm y w ls
  have ht := h.active w ls hd hn hy
  rw [State.activeSlot_dark (by rwa [State.beginSlot_pnl]), hv] at ht
  exact ⟨_, congrArg Host.Outcome.next ht, .after (State.withDsp_agree v _) (by decide) ha, rfl, hslot, hline⟩

end

theorem State.SlotDue.carries_blanking (hd : s.pnl.discharge = none) (hn : (tm.vactive : Int) ≤ s.dsp.slot) :
    ∃ t, exec (.scanoutLineSlot w ls) s = .next t ∧ t.dsp.slot = s.dsp.slot + 1 ∧ t.dsp.line = s.dsp.line ∧
      t.dsp.dfn = s.dsp.dfn := by
  obtain ⟨_, _, _, _, _, _, hu⟩ := s.beginSlot_noted w ls
  obtain ⟨b, hb⟩ := (s.beginSlot w ls).blankingSlot_dsp tm s.dsp.slot.toNat
  refine ⟨_, congrArg Host.Outcome.next (h.blanking w ls hd hn), ?_⟩
  rw [hb, hu]
  exact ⟨rfl, rfl, rfl⟩

theorem State.SlotDue.carries_behind (hd : s.pnl.discharge = none) (hn : (tm.vactive : Int) + 16 ≤ s.dsp.slot) :
    ∃ t, exec (.scanoutLineSlot w ls) s = .next t ∧ AgreeBut [.dsp, .pnl] s t ∧ t.dsp.block = .latch ∧
      t.dsp.slot = s.dsp.slot + 1 ∧ t.pnl = { s.pnl with vcomCode := t.pnl.vcomCode, vcomRate := t.pnl.vcomRate } ∧
      (s.dsp.rate = 0 → s.dsp.rateNext = none → t.pnl = s.pnl) := by
  obtain ⟨_, _, _, _, _, _, hu⟩ := s.beginSlot_noted w ls
  have ht := h.blanking w ls hd (by omega)
  obtain ⟨ha, ⟨c, x, hp⟩, hs⟩ :=
    (s.beginSlot w ls).slotSettings_behind (t := tm) (n := s.dsp.slot.toNat) (by omega)
  rw [State.blankingSlot_eq, if_neg (by omega)] at ht
  have hslot : ((s.beginSlot w ls).slotSettings tm s.dsp.slot.toNat).dsp = (s.beginSlot w ls).dsp := State.slotSettings_dsp ..
  generalize (s.beginSlot w ls).slotSettings tm s.dsp.slot.toNat = v at *
  rw [hu] at ha hp hs hslot
  refine ⟨_, congrArg Host.Outcome.next ht, .trans ((State.withDsp_agree s _).mono (by decide))
    ((ha.mono (by decide)).trans ((State.withDsp_agree ..).mono (by decide))), rfl, ?_, ?_, fun h0 hn => ?_⟩
  · show v.dsp.slot = _
    rw [hslot]
  · show v.pnl = { s.pnl with vcomCode := v.pnl.vcomCode, vcomRate := v.pnl.vcomRate }
    rw [hp]
  · rw [hs h0 hn]

theorem State.SlotDue.carries_discharge {d : Discharge} (hd : s.pnl.discharge = some d) (hs : d.start = none) :
    ∃ t, exec (.scanoutLineSlot w ls) s = .next t ∧ AgreeBut [.dsp, .pnl] s t ∧ t.dsp.slot = s.dsp.slot + 1 ∧
      t.dsp.block = .discharge ∧ t.dsp.line = s.dsp.line ∧
      t.pnl = { s.pnl with discharge := some { d with start := some s.mtNs }, gallOn := true } := by
  obtain ⟨_, _, _, _, _, _, hu⟩ := s.beginSlot_noted w ls
  have ht := h.discharging w ls hd
  rw [hu, State.dischargeSlot, if_pos (by simp [hs])] at ht
  exact ⟨_, congrArg Host.Outcome.next ht, .trans ((State.withDsp_agree s _).mono (by decide))
    (.trans ((State.withPnl_agree ..).mono (by decide)) ((State.withDsp_agree ..).mono (by decide))), rfl, rfl, rfl, rfl⟩

theorem State.SlotDue.carries_discharging {d : Discharge} (hd : s.pnl.discharge = some d) (hs : d.start.isSome) :
    ∃ t, exec (.scanoutLineSlot w ls) s = .next t ∧ AgreeBut [.dsp] s t ∧ t.dsp.slot = s.dsp.slot + 1 ∧
      t.dsp.block = .latch ∧ t.dsp.line = s.dsp.line := by
  obtain ⟨_, _, _, _, _, _, hu⟩ := s.beginSlot_noted w ls
  have ht := h.discharging w ls hd
  rw [hu, State.dischargeSlot, if_neg (by simp [Option.isSome_iff_ne_none.1 hs])] at ht
  exact ⟨_, congrArg Host.Outcome.next ht, State.withDsp_agree .., rfl, rfl, rfl⟩

end

/-- Settles O50: each wait by the rule of its operation, due and not due; a slot of the raster that is due by the case of its
place in the refresh, and one that is not due by the rule that it changes nothing. -/
theorem scanOut : Obligations.ScanOut := by
  refine ⟨fun s => ⟨?_, ?_, ?_, ?_, ?_, ?_, ?_⟩, fun s tm w ls ht => ⟨?_, fun hg hf hm hslot => ?_⟩⟩
  · exact fun n hn hl hd => exec_holdoverExpiry_due hn hl hd
  · exact fun hi => exec_holdoverExpiry_idle hi
  · exact fun n k d hw hd hs => ⟨s.lockTimeout, rfl, State.lockTimeout_due hw hd hs⟩
  · exact fun hi => congrArg Host.Outcome.next (State.lockTimeout_idle hi)
  · intro tm ht hr hs hn hb hl hw
    exact congrArg Host.Outcome.next (State.stillStepDown_due ht hr hs hn hb hl (by rwa [stillWait_eq_getD]))
  · intro hi
    exact congrArg Host.Outcome.next (State.stillStepDown_idle (by rwa [stillWait_eq_getD]))
  · exact fun b => rfl
  · exact fun hi => congrArg Host.Outcome.next (State.lineSlot_idle ht w ls hi)
  · have h : s.SlotDue tm := ⟨ht, hg, hf, hm, hslot⟩
    exact ⟨h.carries_before w ls,
      fun y hd hn hy hm hr he => h.carries_line w ls hd hn hy hm hr he,
      fun y r hd hn hy hm hr => h.carries_retrain w ls hd hn hy hm hr,
      fun y hd hn hy hm hr hp hw => h.carries_repeat w ls hd hn hy hm hr hp hw,
      fun y hd hn hy hm => h.carries_dark w ls hd hn hy hm,
      h.carries_blanking w ls,
      h.carries_behind w ls,
      fun d hd hs => h.carries_discharge w ls hd hs,
      fun d hd hs => h.carries_discharging w ls hd hs⟩

end Sys2Proof.Machine
end

section
/-!
SUPPORT. A device memory out of its canonical form, a FILL in it, and the refutation of O55.
-/

namespace Sys2Proof.Machine

/-- A surface of bytes, 64 by 1, from address 64 of device memory. -/
def byteSurface : SurfaceDesc := { format := 0x05, width := 64, height := 1, planes := ⟨[64, 0, 0], [64, 0, 0]⟩ }

/-- A running FILL of its first element with 0, as its list's commit leaves it (R424, R425). -/
def clearFirstByte : BltEntry :=
  { op := 1, flags := 0, dst := 0, src := 0, fence := 0, dstX := 0, dstY := 0, w := 1, h := 1, srcX := 0, srcY := 0, alpha := 0,
    value0 := 0, value1 := 0, dstD := some byteSurface, state := 1 }

/-- A device whose memory lists the cell of address 64 before the cell of address 0: a read at 0 ends at the first cell. -/
def maskedCell : State := { State.reset with dmem := [(64, 1), (0, 1)] }

theorem maskedCell_not_memWf : ¬ maskedCell.MemWf := by decide +kernel

theorem maskedCell_entryElems : maskedCell.entryElems clearFirstByte byteSurface = [(0, 0, 0, 0)] := by decide

theorem maskedCell_byteAt_zero : maskedCell.byteAt true 0 = 0 := by decide

/-- Storing 0 at address 64 takes that cell away, and the cell behind it shows. -/
theorem maskedCell_applyEntry_byteAt_zero : (maskedCell.applyEntry .pf false clearFirstByte).byteAt true 0 = 1 := by
  decide +kernel

/-- Refutes O55: the clause of what an entry leaves alone is stated of every state, also of one whose device memory is not
in its canonical form (`maskedCell_not_memWf`). There a FILL of the byte at address 64 changes what address 0 reads. The
statement does not ask for `State.MemWf`, which `Mem.read_write`, the rule of a read after a write, rests on. -/
theorem not_blits : ¬ Obligations.Blits := by
  intro h
  obtain ⟨-, -, -, -, -, -, -, -, -, leavesAlone, -, -⟩ := h maskedCell
    { src := .smbus, length := 4, tag := 0, flags := 0, resv7 := 0, waitFence := 0, signalFence := 0, resv10 := 0,
      waitValue := 0, body := [] }
  have same := (leavesAlone .pf false clearFirstByte byteSurface (by decide) rfl).2 0 (by
    rw [maskedCell_entryElems]
    decide)
  rw [maskedCell_byteAt_zero, maskedCell_applyEntry_byteAt_zero] at same
  exact absurd same (by decide)

end Sys2Proof.Machine
end
